-- ==== Sys2Proof/Word.lean ====
section
/-! DEFINITION. The words the model is written in: bytes and machine words, the status codes (R19), the roles (R40), the
requesters (R10, R11) and the sparse maps that hold whatever the spec repeats many times. -/

namespace Sys2Proof

abbrev Byte := BitVec 8
abbrev Word := BitVec 32
abbrev DWord := BitVec 64

/-- The status codes of R19; `Status.code` gives the 8-bit code. Codes 0x10 to 0xFF are never returned (R20): there is no constructor
for them. -/
inductive Status where
  | ok | badHandle | noResource | fenced | timeout | musterAbort | mismatch | bounds
  | denied | busy | stale | check | degraded | unreachable | floor | poison
  deriving DecidableEq, Repr

/-- The 8-bit code of a status (R19). -/
def Status.code : Status → Nat
  | .ok => 0 | .badHandle => 1 | .noResource => 2 | .fenced => 3 | .timeout => 4 | .musterAbort => 5 | .mismatch => 6
  | .bounds => 7 | .denied => 8 | .busy => 9 | .stale => 10 | .check => 11 | .degraded => 12 | .unreachable => 13
  | .floor => 14 | .poison => 15

/-- The place of a status in the order of R21: of several that apply, the one with the least rank is returned. -/
def Status.rank : Status → Nat
  | .denied => 0 | .badHandle => 1 | .stale => 2 | .fenced => 3 | .bounds => 4 | .mismatch => 5 | .noResource => 6 | .busy => 7
  | .timeout => 8 | .musterAbort => 9 | .check => 10 | .degraded => 11 | .unreachable => 12 | .floor => 13 | .poison => 14
  | .ok => 15

/-- The roles that protect register fields and management messages (R40, R666). -/
inductive Role where
  | maker | installer | operator
  deriving DecidableEq, Repr

/-- Who reaches a register or memory (R10, R11, R35, R37): an application core, the steward acting for a session with a role or for
none, or a tile's own `sc.tr` and `sc.tw`. -/
inductive Requester where
  | core (c : Fin 32)
  | steward (role : Option Role)
  | tile (t : Fin 768)
  deriving DecidableEq, Repr

/-- A number for each requester, the same for the steward whatever session it acts for (R11: one hold for the steward). -/
def Requester.num : Requester → Nat
  | .core c => c.val
  | .steward _ => 32
  | .tile t => 64 + t.val

/-- The three variants (R32). -/
inductive Variant where
  | a | b | c
  deriving DecidableEq, Repr

/-- Something held for each of many keys: the keys that differ from the default, in rising order. -/
abbrev SMap (α : Type) := List (Nat × α)

end Sys2Proof
end

