-- ==== Sys2Proof/Syntax.lean ====
section
/-! DEFINITION. The commands that the block takes, one constructor for each row of spec/opcode_table.json, and the operand records
they carry. -/

namespace Sys2Proof

/-- The fields of a Viroth instruction below its class and operation (R158): the command names the operation. -/
structure VOp where
  a : BitVec 5 := 0
  b : BitVec 5 := 0
  c : BitVec 5 := 0
  d : BitVec 5 := 0
  pr : BitVec 3 := 0
  pm : BitVec 1 := 0
  fn : BitVec 32 := 0
  deriving DecidableEq, Repr

/-- A `cvn.` instruction as an application core issues it (R66, R117): the core and the register and funct3 fields. -/
structure CvnOp where
  core : Fin 32
  rd : BitVec 5
  rs1 : BitVec 5
  rs2 : BitVec 5
  funct3 : BitVec 3 := 0
  deriving DecidableEq, Repr

/-- What the core's translation gives for the page of a virtual address (R120): a physical page number, or a fault. -/
inductive Xlate where
  | page (ppn : Nat)
  | pageFault
  | accessFault
  deriving DecidableEq, Repr

/-- An error a 64-byte line has taken and no read has found yet (R284, R285). -/
inductive Ecc where
  | correctable | uncorrectable
  deriving DecidableEq, Repr

/-- What an application core does with memory (R287): it fetches an instruction, loads, or stores a value. -/
inductive MemAccess where
  | fetch | load
  | store (value : BitVec 64)
  deriving DecidableEq, Repr


/-- A muster control frame's source, multicast mask and payload (R466), without its KIND. -/
structure MusterMsg where
  src : Nat
  mask : Nat := 0
  group : Nat
  iseq : Nat
  status : Nat := 0
  fault : Nat := 0
  hash : Nat := 0
  deadline : Nat := 0
  fhash : Nat := 0
  deriving DecidableEq, Repr

/-- A router notice for a muster frame (R432): the failed frame's SEQ, MASK and DST, the notice's STATUS and the reporter. -/
structure MusterNotice where
  seq : Nat
  mask : Nat
  dst : Nat
  status : Nat
  reporter : Nat
  deriving DecidableEq, Repr

/-! ### Ethernet (R522 to R541): what the standards' formats carry, as operands (log 40) -/

/-- A RoCEv2 message: what a packet or the packets of one message say (R529). -/
inductive RdmaOp where
  | send (imm : Option (BitVec 32)) (data : List Byte)
  | write (raddr rkey : Nat) (imm : Option (BitVec 32)) (data : List Byte)
  | read (raddr rkey len : Nat)
  | readResp (data : List Byte)
  | ack
  | nak (status : Status)
  | seqNak
  | rnr
  | cnp
  deriving DecidableEq, Repr

/-- A RoCEv2 message with its destination QPN and its PSN: the first of a request, the last that an answer acknowledges. -/
structure RdmaPkt where
  qp : Nat
  psn : Nat
  op : RdmaOp
  deriving DecidableEq, Repr

/-- What a received frame is: a PFC or PAUSE frame with its quanta, an LACPDU, a question to an address of the package (R525), an
announcement (R540), a RoCEv2 message, or anything else. The byte lists are frames without tag and FCS, the announcement's its message. -/
inductive EthBody where
  | pfc (classes : BitVec 8) (quanta : Nat)
  | pause (quanta : Nat)
  | lacp
  | ask (v6 : Bool) (addr : List Byte) (frame : List Byte)
  | announce (msg frame : List Byte)
  | rdma (pkt : RdmaPkt)
  | other (frame : List Byte)
  deriving DecidableEq, Repr

/-- A received frame: its length with FCS, whether FCS and the IPv4 and UDP checksums hold, its tag's VID and priority, the bytes its
priority then holds in the receive buffer (R522 to R525). -/
structure EthRx where
  len : Nat
  fcsOk : Bool := true
  sumOk : Bool := true
  vid : Option Nat := none
  prio : Fin 8 := 0
  buffered : Nat := 0
  body : EthBody
  deriving DecidableEq, Repr

/-! ### Physical facts that commands carry -/

/-- A conversion of THM's sensors (R544), codes in 1/16 °C: both sensors of a pair, the dies of a stack with the base die last, the steward
die, or an optical engine. -/
inductive Conversion where
  | pair (p : Fin 36) (s0 s1 : Int)
  | stack (k : Fin 8) (dies : List Int)
  | steward (code : Int)
  | engine (k : Fin 4) (code : Int)
  deriving DecidableEq, Repr

/-- What the tests of the start sequence find (R557): the governors' self-tests in step 3, tiles at trail links that fail in step 5, channels
that fail after saved settings and after full training in step 6, tiles that fail once and twice in step 8, cores that fail twice and the
L3 in step 9. Each step reads its own. -/
structure StartTests where
  govA : Bool := true
  govB : Bool := true
  trail : List Nat := []
  savedFail : List Nat := []
  fullFail : List Nat := []
  tileOnce : List Nat := []
  tileTwice : List Nat := []
  cores : List Nat := []
  l3 : Bool := true
  deriving DecidableEq, Repr

/-- A request across a domain boundary that got no answer (R590): an access of an application core, a movement of a tile, the read of a
caravan slot's next payload, a steward access to FCL (R617), or any other, whose own chapter ends it. -/
inductive TimedOut where
  | core (c : Fin 32) (store : Bool)
  | move (tile : Fin 768) (tag : BitVec 4)
  | admission (slot : Fin 64)
  | stewardFcl
  | other
  deriving DecidableEq, Repr
/-- The commands the block takes: one constructor for each row of the opcode table, in the table's order. -/
inductive Instr where
  | registerWrite (rq : Requester) (addr size : Nat) (value : BitVec 32)
  | counterReadClear (rq : Requester) (addr size : Nat)
  | pairLowRead (rq : Requester) (addr size : Nat)
  | pairLowWrite (rq : Requester) (addr size : Nat) (value : BitVec 32)
  | pairHighWrite (rq : Requester) (addr size : Nat) (value : BitVec 32)
  | tmbTodArm (rq : Requester) (high : BitVec 32)
  | ppsEdge
  | ppsMiss
  | refclkLoss
  | refclkRestore
  | cvnOpen (op : CvnOp) (x : Xlate)
  | cvnStart (op : CvnOp)
  | cvnPush (op : CvnOp) (x : Xlate)
  | cvnPause (op : CvnOp)
  | cvnAbort (op : CvnOp)
  | cvnClose (op : CvnOp)
  | cvnStat (op : CvnOp)
  | cvnWait (op : CvnOp)
  | cvnWaitTimeout (core : Fin 32)
  | cvnToll (op : CvnOp)
  | cvnCad (op : CvnOp)
  | stationLoadDone (slot : Fin 64)
  | stationLoadFault (slot : Fin 64)
  | abortDone (slot : Fin 64)
  | seqAdmit (slot : Fin 64) (timeout : Bool)
  | cadenceRelease (slot : Fin 64)
  | latePeriod (slot : Fin 64)
  | baleArrive (tile : Fin 768)
  | completionResume (slot : Fin 64)
  | cvnSlotRingRdWrite (rq : Requester) (slot : Fin 64) (value : BitVec 32)
  | cvnSlotThreshWrite (rq : Requester) (slot : Fin 64) (value : BitVec 32)
  | foRegisterWrite (rq : Requester) (tile : Fin 768) (offset : Nat) (value : BitVec 32)
  | scAdd (tile : Fin 768) (op : VOp)
  | scSub (tile : Fin 768) (op : VOp)
  | scAnd (tile : Fin 768) (op : VOp)
  | scOr (tile : Fin 768) (op : VOp)
  | scXor (tile : Fin 768) (op : VOp)
  | scSll (tile : Fin 768) (op : VOp)
  | scSrl (tile : Fin 768) (op : VOp)
  | scSra (tile : Fin 768) (op : VOp)
  | scMul (tile : Fin 768) (op : VOp)
  | scMulh (tile : Fin 768) (op : VOp)
  | scDiv (tile : Fin 768) (op : VOp)
  | scRem (tile : Fin 768) (op : VOp)
  | scSlt (tile : Fin 768) (op : VOp)
  | scSltu (tile : Fin 768) (op : VOp)
  | scMin (tile : Fin 768) (op : VOp)
  | scMax (tile : Fin 768) (op : VOp)
  | scAddi (tile : Fin 768) (op : VOp)
  | scAndi (tile : Fin 768) (op : VOp)
  | scOri (tile : Fin 768) (op : VOp)
  | scXori (tile : Fin 768) (op : VOp)
  | scSlli (tile : Fin 768) (op : VOp)
  | scSrli (tile : Fin 768) (op : VOp)
  | scSrai (tile : Fin 768) (op : VOp)
  | scSlti (tile : Fin 768) (op : VOp)
  | scLi (tile : Fin 768) (op : VOp)
  | scLih (tile : Fin 768) (op : VOp)
  | scLd (tile : Fin 768) (op : VOp)
  | scSt (tile : Fin 768) (op : VOp)
  | scTr (tile : Fin 768) (op : VOp)
  | scTw (tile : Fin 768) (op : VOp)
  | ctBr (tile : Fin 768) (op : VOp)
  | ctJal (tile : Fin 768) (op : VOp)
  | ctJr (tile : Fin 768) (op : VOp)
  | ctFence (tile : Fin 768) (op : VOp)
  | ctNop (tile : Fin 768) (op : VOp)
  | vAdd (tile : Fin 768) (op : VOp)
  | vSub (tile : Fin 768) (op : VOp)
  | vMul (tile : Fin 768) (op : VOp)
  | vFma (tile : Fin 768) (op : VOp)
  | vMin (tile : Fin 768) (op : VOp)
  | vMax (tile : Fin 768) (op : VOp)
  | vAnd (tile : Fin 768) (op : VOp)
  | vOr (tile : Fin 768) (op : VOp)
  | vXor (tile : Fin 768) (op : VOp)
  | vShl (tile : Fin 768) (op : VOp)
  | vCmp (tile : Fin 768) (op : VOp)
  | vSel (tile : Fin 768) (op : VOp)
  | vCvt (tile : Fin 768) (op : VOp)
  | vRed (tile : Fin 768) (op : VOp)
  | vSpec (tile : Fin 768) (op : VOp)
  | vLd (tile : Fin 768) (op : VOp)
  | vSt (tile : Fin 768) (op : VOp)
  | vGath (tile : Fin 768) (op : VOp)
  | vScat (tile : Fin 768) (op : VOp)
  | vBcast (tile : Fin 768) (op : VOp)
  | vGet (tile : Fin 768) (op : VOp)
  | vPut (tile : Fin 768) (op : VOp)
  | vPerm (tile : Fin 768) (op : VOp)
  | pMov (tile : Fin 768) (op : VOp)
  | pGet (tile : Fin 768) (op : VOp)
  | pOp (tile : Fin 768) (op : VOp)
  | pCnt (tile : Fin 768) (op : VOp)
  | mxMac (tile : Fin 768) (op : VOp)
  | mxMacs (tile : Fin 768) (op : VOp)
  | mxDrain (tile : Fin 768) (op : VOp)
  | mxLoad (tile : Fin 768) (op : VOp)
  | mxZero (tile : Fin 768) (op : VOp)
  | mxWait (tile : Fin 768) (op : VOp)
  | mxOpComplete (tile : Fin 768) (drainPath : Bool)
  | mvGet (tile : Fin 768) (op : VOp)
  | mvPut (tile : Fin 768) (op : VOp)
  | mvWait (tile : Fin 768) (op : VOp)
  | mvPoll (tile : Fin 768) (op : VOp)
  | mvComplete (tile : Fin 768) (tag : BitVec 4) (timeout : Bool)
  | wbPost (tile : Fin 768) (op : VOp)
  | wbTake (tile : Fin 768) (op : VOp)
  | wbGet (tile : Fin 768) (op : VOp)
  | wbSet (tile : Fin 768) (op : VOp)
  | wbSend (tile : Fin 768) (op : VOp)
  | wbRetire (tile : Fin 768) (op : VOp)
  | wbCount (tile : Fin 768) (op : VOp)
  | evWait (tile : Fin 768) (op : VOp)
  | evClr (tile : Fin 768) (op : VOp)
  | evNote (tile : Fin 768) (op : VOp)
  | evTime (tile : Fin 768) (op : VOp)
  | evTimer (tile : Fin 768) (op : VOp)
  | mwBurn (tile : Fin 768) (op : VOp)
  | tileWaitRelease (tile : Fin 768)
  | tileTimerFire (tile : Fin 768)
  | tileNoteWrite (rq : Requester) (tile : Fin 768) (value : BitVec 32)
  | tileSeedHiWrite (rq : Requester) (tile : Fin 768) (value : BitVec 32)
  | coreWindowAccess (rq : Requester) (addr size : Nat) (write : Option (BitVec 64)) (flip : Option Ecc)
  | patrolScrubLine (line : Fin 8589934592) (flip : Option Ecc)
  | channelFail (channel : Fin 768)
  | stackBandUpdate (stack : Fin 8)
  | stackSelfrefWake (stack : Fin 8)
  | meterSample (mb : Bool) (icode vcode temp : BitVec 24)
  | meterReading (mb : Bool)
  | meterSelfcheck (mb : Bool) (refCode offsetNa : Nat)
  | meterWarmupEnd (mb : Bool)
  | meterSnapshot (mb : Bool)
  | mtrSnapSeqRead (rq : Requester) (ch : Option Bool)
  | mtrPRead (rq : Requester) (mb : Bool)
  | elifeSave
  | crossCheckWindow
  | accRunStart (rq : Requester) (value : BitVec 32)
  | accRunBegin
  | accRunEnd
  | controlPeriod (gb : Bool)
  | floorRecompute
  | partitionGateDone (p : Fin 4)
  | budgetMessage (peer : Nat) (msg : List Byte)
  | gridMessage (peer : Nat) (msg : List Byte)
  | coolantMessage (peer : Nat) (msg : List Byte)
  | holdExpiry (gb : Bool)
  | frStale (gb : Bool)
  | vcoreDroop (gb : Bool)
  | droopResume (gb : Bool)
  | supplyDip (gb : Bool)
  | dipRecover (gb : Bool)
  | supplyLowShutdown (gb : Bool)
  | supplyHighShutdown (gb : Bool)
  | heartbeatStop (gb : Bool)
  | claimLapse (gb : Bool)
  | claimWrite (gb : Bool)
  | ostCommand (gb : Bool) (out : BitVec 32)
  | switchOver
  | orphanEntry
  | orphanTimeout
  | mirrorFrame (gb : Bool) (frame : List Byte)
  | mirrorLost (gb : Bool)
  | trajectoryFrame (gb : Bool) (frame : List Byte)
  | ostSwap (rq : Requester)
  | ostResetA (rq : Requester)
  | ostResetB (rq : Requester)
  | govRestartDone (gb pass : Bool)
  | lapsedGovReset (gb : Bool)
  | govRevert
  | lightDetect (port : Fin 20) (lanes : BitVec 8)
  | trainDone (port : Fin 20)
  | linkCheckDone (port : Fin 20) (errors : List Nat) (peerPass : BitVec 8)
  | certRx (port : Fin 20) (msg : List Byte)
  | helloTx (port : Fin 20)
  | helloRx (port : Fin 20) (msg : List Byte)
  | helloTimeout (port : Fin 20)
  | rehelloStart (port : Fin 20)
  | rehelloTimeout (port : Fin 20)
  | lightLoss (port : Fin 20) (lanes : BitVec 8)
  | goodbyeRx (port : Fin 20)
  | uncorrectableCodeword (port : Fin 20)
  | resendRequest (port : Fin 20) (seq : BitVec 32)
  | linkAck (port : Fin 20) (seq : BitVec 32)
  | fptAdminDown (rq : Requester) (port : Fin 20)
  | adminDrainEnd (port : Fin 20)
  | fptAdminUp (rq : Requester) (port : Fin 20)
  | fptRetrain (rq : Requester) (port : Fin 20)
  | fptMapWrite (rq : Requester) (port : Fin 20) (value : BitVec 32)
  | fptCoordWrite (rq : Requester) (value : BitVec 32)
  | fptMachineWrite (rq : Requester) (value : BitVec 32)
  | fptTwistWrite (rq : Requester) (dim : Fin 18) (value : BitVec 32)
  | laneAudit (port : Fin 20) (errors : List Nat) (bits uncorr : Nat) (peerPass : BitVec 8)
  | widthRx (port : Fin 20) (mask : BitVec 8)
  | takeoverRx (port : Fin 20)
  | takeoverAckRx (port : Fin 20)
  | takeoverTimeout (port : Fin 20)
  | sqProducerWrite (q : Fin 64) (value : Option (BitVec 32))
  | sqDescriptor (q : Fin 64) (rnd : BitVec 18) (escape : Bool)
  | frameRx (port : Fin 20) (frame : List Byte) (escape : Bool)
  | cmapPeriod (levels : List (BitVec 8))
  | frtAvoidWrite (rq : Requester) (value : BitVec 32)
  | sqSliceWrite (rq : Requester) (q : Fin 64) (value : BitVec 32)
  | sqEnable (rq : Requester) (q : Fin 64)
  | rqEnable (rq : Requester) (q : Fin 64)
  | mgEnable (rq : Requester) (g : Fin 64)
  | mgDisable (rq : Requester) (g : Fin 64)
  | musterEnter (g : Fin 64) (line : Option (List Byte))
  | musterReadyWord (g : Fin 64) (word : Option (BitVec 32))
  | musterDoneWord (g : Fin 64) (word : Option (BitVec 32))
  | musterAbortWord (g : Fin 64) (word : Option (BitVec 32))
  | musterArrive (m : MusterMsg)
  | musterGo (m : MusterMsg)
  | musterReady (m : MusterMsg)
  | musterGo2 (m : MusterMsg)
  | musterDone (m : MusterMsg)
  | musterDecide (m : MusterMsg)
  | musterAbortReq (m : MusterMsg)
  | musterQuery (m : MusterMsg)
  | leaderDeadline (g : Fin 64)
  | musterQueryTimer (g : Fin 64)
  | musterGraceExpiry (g : Fin 64)
  | musterNotice (n : MusterNotice)
  | icSourceChange (cache : Option (Fin 32 × Ecc))
  | icClaimRead (rq : Requester) (bank : Fin 32)
  | icClaimWrite (rq : Requester) (bank : Fin 32) (value : BitVec 32)
  | icSvcWrite (rq : Requester) (bank : Fin 32) (value : BitVec 32)
  | machineExternalInterrupt (core : Fin 32)
  | moderationEnd (core : Fin 32)
  | coreIdle (core : Fin 32)
  | timerCompare (core : Fin 32)
  | ethLinkUp (port : Fin 8) (phy : Fin 5)
  | ethLinkDown (port : Fin 8) (rawLost : Nat)
  | ethLacpMember (port : Fin 8)
  | ethLacpTimeout (port : Fin 8)
  | ethFrameRx (port : Fin 8) (frame : EthRx)
  | ethHostExpire (net : Fin 2) (entry : Fin 256)
  | ethWorkProducer (q : Fin 4096) (recv : Bool) (value : Option (BitVec 32))
  | ethWorkEntry (q : Fin 4096)
  | ethAckTimeout (q : Fin 4096)
  | ethNetFailover (net : Fin 2)
  | ethQpEnable (rq : Requester) (q : Fin 4096)
  | ethQpDisable (rq : Requester) (q : Fin 4096)
  | ethQpMigrate (rq : Requester) (q : Fin 4096)
  | ethAnnounce (net : Fin 2)
  | ethRetrain (rq : Requester) (port : Fin 8)
  | thmConversion (c : Conversion)
  | thmCapUpdate
  | coolantStale
  | noflowTimeout
  | pwrGoodAssert
  | pwrGoodDeassert
  | pkgResetAssert
  | pkgResetRelease
  | inputPowerRise
  | inputPowerLoss
  | start (tests : StartTests)
  | inrushWave
  | startPause (heat : Bool)
  | startResume (heat : Bool)
  | startStepTimeout
  | rstReset (rq : Requester) (level : Fin 16) (index : Fin 1024)
  | rstHold (rq : Requester) (level : Fin 16) (index : Fin 1024)
  | rstRelease (rq : Requester) (level : Fin 16) (index : Fin 1024)
  | drainEnd (level : Fin 5) (index : Fin 768)
  | salvageDone (level : Fin 5) (index : Fin 768)
  | domainResetDone (level : Fin 5) (index : Fin 768)
  | domainTestDone (level : Fin 5) (index : Fin 768) (passed : Bool) (failed : List Nat)
  | tileStall (tile : Fin 768)
  | engineStall (tile : Fin 768)
  | caravanStall (slot : Fin 64)
  | coreStall (core : Fin 32)
  | reqTimeout (level : Fin 6) (index : Fin 768) (addr : Nat) (req : TimedOut)
  | stopFail (tile : Fin 768)
  | packageResetRampDone
  | fclErrorEvent
  | fclWindowEnd (line : Fin 31)
  | fclSelfCheck (upset : Option (Fin 31 × BitVec 32))
  | fclSafeExit (rq : Requester)
  | faultNPulseEnd
  | fclFaultnDriveWrite (rq : Requester) (value : BitVec 32)
  | cvuInit (rq : Requester) (unit : Fin 16)
  | cvuScan (rq : Requester) (unit : Fin 16) (init : Bool)
  | cvuScanEnd (unit : Fin 16) (noAnswer : Option Nat)
  | cvuFeed8 (rq : Requester) (unit : Fin 16) (value : BitVec 32)
  | cvuFeed16 (rq : Requester) (unit : Fin 16) (value : BitVec 32)
  | cvuFeed32 (rq : Requester) (unit : Fin 16) (value : BitVec 32)
  | cvuRunWrite (rq : Requester) (unit : Fin 16) (high : BitVec 32)
  | tallyPeriodic
  | tallyNow (rq : Requester) (value : BitVec 32)
  | bwWindowEnd
  | outriderComplete (tile : Fin 768) (fetch engine run : BitVec 32) (poison conflict : Bool)
  | prfOutEnable (rq : Requester) (value : BitVec 32)
  | sessionOpen (peer : Nat) (msg : List Byte)
  | sessionConfirm (peer : Nat) (msg : List Byte)
  | sessionClose (peer : Nat) (msg : List Byte)
  | sessionTimeout (peer : Nat)
  | attest (peer : Nat) (msg : List Byte)
  | setting (peer : Nat) (msg : List Byte)
  | fulltrain (peer : Nat) (msg : List Byte)
  | journalRead (peer : Nat) (msg : List Byte)
  | regwrite (peer : Nat) (msg : List Byte)
  | fieldclr (peer : Nat) (msg : List Byte)
  | imageBegin (peer : Nat) (msg : List Byte)
  | imageChunk (peer : Nat) (msg : List Byte)
  | imageEnd (peer : Nat) (msg : List Byte)
  | activate (peer : Nat) (msg : List Byte)
  | imageAbort (peer : Nat) (msg : List Byte)
  | govActivationStep
  | govActivationTimeout
  | stewardRestart
  | coreMemoryAccess (core : Fin 32) (k : MemAccess) (addr size : Nat) (hit : Bool) (flip : Option Ecc)
  | tmbStatusRead (rq : Requester)
  | pwwStateRead (rq : Requester)
  | sendPayloadLeft (tile : Fin 768)
  | fclOwnFault
  deriving DecidableEq, Repr

end Sys2Proof
end

