-- ==== Sys2Proof/Decode.lean ====
section
/-! DEFINITION. The decoder of the opcode table's words: no row of the table gives bits, so it decodes none; and the 64-bit words of the Viroth
instructions (R158, R159), which the spec does give. -/

namespace Sys2Proof

/-- The command that a word of the table's bits spells: the table gives no row any bits. -/
def decodeTableWord (_nbits _w : Nat) : Option Instr := none

/-! ### Viroth words -/

/-- The fields of a word below its class and operation (R158). -/
def virothFields (w : BitVec 64) : VOp :=
  { a := w.extractLsb' 51 5, b := w.extractLsb' 46 5, c := w.extractLsb' 41 5, d := w.extractLsb' 36 5, pr := w.extractLsb' 33 3
    pm := w.extractLsb' 32 1, fn := w.extractLsb' 0 32 }

/-- Class 0x0: the operation of a code, or none. -/
def scalarRegOp (t : Fin 768) (o : VOp) (opc : BitVec 4) : Option Instr :=
  match opc.toNat with
  | 0x0 => some (.scAdd t o)
  | 0x1 => some (.scSub t o)
  | 0x2 => some (.scAnd t o)
  | 0x3 => some (.scOr t o)
  | 0x4 => some (.scXor t o)
  | 0x5 => some (.scSll t o)
  | 0x6 => some (.scSrl t o)
  | 0x7 => some (.scSra t o)
  | 0x8 => some (.scMul t o)
  | 0x9 => some (.scMulh t o)
  | 0xA => some (.scDiv t o)
  | 0xB => some (.scRem t o)
  | 0xC => some (.scSlt t o)
  | 0xD => some (.scSltu t o)
  | 0xE => some (.scMin t o)
  | 0xF => some (.scMax t o)
  | _ => none

/-- Class 0x1: the operation of a code, or none. -/
def scalarImmOp (t : Fin 768) (o : VOp) (opc : BitVec 4) : Option Instr :=
  match opc.toNat with
  | 0x0 => some (.scAddi t o)
  | 0x1 => some (.scAndi t o)
  | 0x2 => some (.scOri t o)
  | 0x3 => some (.scXori t o)
  | 0x4 => some (.scSlli t o)
  | 0x5 => some (.scSrli t o)
  | 0x6 => some (.scSrai t o)
  | 0x7 => some (.scSlti t o)
  | 0x8 => some (.scLi t o)
  | 0x9 => some (.scLih t o)
  | 0xA => some (.scLd t o)
  | 0xB => some (.scSt t o)
  | 0xC => some (.scTr t o)
  | 0xD => some (.scTw t o)
  | _ => none

/-- Class 0x2: the operation of a code, or none. -/
def controlOp (t : Fin 768) (o : VOp) (opc : BitVec 4) : Option Instr :=
  match opc.toNat with
  | 0x0 => some (.ctBr t o)
  | 0x1 => some (.ctJal t o)
  | 0x2 => some (.ctJr t o)
  | 0x3 => some (.ctFence t o)
  | 0x4 => some (.ctNop t o)
  | _ => none

/-- Class 0x3: the operation of a code, or none. -/
def vectorArithOp (t : Fin 768) (o : VOp) (opc : BitVec 4) : Option Instr :=
  match opc.toNat with
  | 0x0 => some (.vAdd t o)
  | 0x1 => some (.vSub t o)
  | 0x2 => some (.vMul t o)
  | 0x3 => some (.vFma t o)
  | 0x4 => some (.vMin t o)
  | 0x5 => some (.vMax t o)
  | 0x6 => some (.vAnd t o)
  | 0x7 => some (.vOr t o)
  | 0x8 => some (.vXor t o)
  | 0x9 => some (.vShl t o)
  | 0xA => some (.vCmp t o)
  | 0xB => some (.vSel t o)
  | 0xC => some (.vCvt t o)
  | 0xD => some (.vRed t o)
  | 0xE => some (.vSpec t o)
  | _ => none

/-- Class 0x4: the operation of a code, or none. -/
def vectorMemOp (t : Fin 768) (o : VOp) (opc : BitVec 4) : Option Instr :=
  match opc.toNat with
  | 0x0 => some (.vLd t o)
  | 0x1 => some (.vSt t o)
  | 0x2 => some (.vGath t o)
  | 0x3 => some (.vScat t o)
  | 0x4 => some (.vBcast t o)
  | 0x5 => some (.vGet t o)
  | 0x6 => some (.vPut t o)
  | 0x7 => some (.vPerm t o)
  | 0x8 => some (.pMov t o)
  | 0x9 => some (.pGet t o)
  | 0xA => some (.pOp t o)
  | 0xB => some (.pCnt t o)
  | _ => none

/-- Class 0x5: the operation of a code, or none. -/
def matrixOp (t : Fin 768) (o : VOp) (opc : BitVec 4) : Option Instr :=
  match opc.toNat with
  | 0x0 => some (.mxMac t o)
  | 0x1 => some (.mxMacs t o)
  | 0x2 => some (.mxDrain t o)
  | 0x3 => some (.mxLoad t o)
  | 0x4 => some (.mxZero t o)
  | 0x5 => some (.mxWait t o)
  | _ => none

/-- Class 0x6: the operation of a code, or none. -/
def movementOp (t : Fin 768) (o : VOp) (opc : BitVec 4) : Option Instr :=
  match opc.toNat with
  | 0x0 => some (.mvGet t o)
  | 0x1 => some (.mvPut t o)
  | 0x2 => some (.mvWait t o)
  | 0x3 => some (.mvPoll t o)
  | _ => none

/-- Class 0x7: the operation of a code, or none. -/
def waybillOp (t : Fin 768) (o : VOp) (opc : BitVec 4) : Option Instr :=
  match opc.toNat with
  | 0x0 => some (.wbPost t o)
  | 0x1 => some (.wbTake t o)
  | 0x2 => some (.wbGet t o)
  | 0x3 => some (.wbSet t o)
  | 0x4 => some (.wbSend t o)
  | 0x5 => some (.wbRetire t o)
  | 0x6 => some (.wbCount t o)
  | _ => none

/-- Class 0x8: the operation of a code, or none. -/
def eventOp (t : Fin 768) (o : VOp) (opc : BitVec 4) : Option Instr :=
  match opc.toNat with
  | 0x0 => some (.evWait t o)
  | 0x1 => some (.evClr t o)
  | 0x2 => some (.evNote t o)
  | 0x3 => some (.evTime t o)
  | 0x4 => some (.evTimer t o)
  | _ => none

/-- Class 0x9: the operation of a code, or none. -/
def makeweightOp (t : Fin 768) (o : VOp) (opc : BitVec 4) : Option Instr :=
  match opc.toNat with
  | 0x0 => some (.mwBurn t o)
  | _ => none

/-- The instruction that a word of a tile's instruction memory spells (R158, R159); none is ILLEGAL by its class or operation. -/
def decodeViroth (t : Fin 768) (w : BitVec 64) : Option Instr :=
  let o := virothFields w
  let opc := w.extractLsb' 56 4
  match (w.extractLsb' 60 4).toNat with
  | 0x0 => scalarRegOp t o opc
  | 0x1 => scalarImmOp t o opc
  | 0x2 => controlOp t o opc
  | 0x3 => vectorArithOp t o opc
  | 0x4 => vectorMemOp t o opc
  | 0x5 => matrixOp t o opc
  | 0x6 => movementOp t o opc
  | 0x7 => waybillOp t o opc
  | 0x8 => eventOp t o opc
  | 0x9 => makeweightOp t o opc
  | _ => none

/-- A word of a class and operation with its fields. -/
def virothWord (cls opc : BitVec 4) (o : VOp) : BitVec 64 := cls ++ opc ++ o.a ++ o.b ++ o.c ++ o.d ++ o.pr ++ o.pm ++ o.fn

/-- The word of a Viroth instruction; none for a command that is no Viroth instruction. -/
def encodeViroth (i : Instr) : Option (BitVec 64) :=
  match i with
  | .registerWrite _ _ _ _ => none
  | .counterReadClear _ _ _ => none
  | .pairLowRead _ _ _ => none
  | .pairLowWrite _ _ _ _ => none
  | .pairHighWrite _ _ _ _ => none
  | .tmbTodArm _ _ => none
  | .ppsEdge => none
  | .ppsMiss => none
  | .refclkLoss => none
  | .refclkRestore => none
  | .cvnOpen _ _ => none
  | .cvnStart _ => none
  | .cvnPush _ _ => none
  | .cvnPause _ => none
  | .cvnAbort _ => none
  | .cvnClose _ => none
  | .cvnStat _ => none
  | .cvnWait _ => none
  | .cvnWaitTimeout _ => none
  | .cvnToll _ => none
  | .cvnCad _ => none
  | .stationLoadDone _ => none
  | .stationLoadFault _ => none
  | .abortDone _ => none
  | .seqAdmit _ _ => none
  | .cadenceRelease _ => none
  | .latePeriod _ => none
  | .baleArrive _ => none
  | .completionResume _ => none
  | .cvnSlotRingRdWrite _ _ _ => none
  | .cvnSlotThreshWrite _ _ _ => none
  | .foRegisterWrite _ _ _ _ => none
  | .scAdd _ o => some (virothWord 0x0 0x0 o)
  | .scSub _ o => some (virothWord 0x0 0x1 o)
  | .scAnd _ o => some (virothWord 0x0 0x2 o)
  | .scOr _ o => some (virothWord 0x0 0x3 o)
  | .scXor _ o => some (virothWord 0x0 0x4 o)
  | .scSll _ o => some (virothWord 0x0 0x5 o)
  | .scSrl _ o => some (virothWord 0x0 0x6 o)
  | .scSra _ o => some (virothWord 0x0 0x7 o)
  | .scMul _ o => some (virothWord 0x0 0x8 o)
  | .scMulh _ o => some (virothWord 0x0 0x9 o)
  | .scDiv _ o => some (virothWord 0x0 0xA o)
  | .scRem _ o => some (virothWord 0x0 0xB o)
  | .scSlt _ o => some (virothWord 0x0 0xC o)
  | .scSltu _ o => some (virothWord 0x0 0xD o)
  | .scMin _ o => some (virothWord 0x0 0xE o)
  | .scMax _ o => some (virothWord 0x0 0xF o)
  | .scAddi _ o => some (virothWord 0x1 0x0 o)
  | .scAndi _ o => some (virothWord 0x1 0x1 o)
  | .scOri _ o => some (virothWord 0x1 0x2 o)
  | .scXori _ o => some (virothWord 0x1 0x3 o)
  | .scSlli _ o => some (virothWord 0x1 0x4 o)
  | .scSrli _ o => some (virothWord 0x1 0x5 o)
  | .scSrai _ o => some (virothWord 0x1 0x6 o)
  | .scSlti _ o => some (virothWord 0x1 0x7 o)
  | .scLi _ o => some (virothWord 0x1 0x8 o)
  | .scLih _ o => some (virothWord 0x1 0x9 o)
  | .scLd _ o => some (virothWord 0x1 0xA o)
  | .scSt _ o => some (virothWord 0x1 0xB o)
  | .scTr _ o => some (virothWord 0x1 0xC o)
  | .scTw _ o => some (virothWord 0x1 0xD o)
  | .ctBr _ o => some (virothWord 0x2 0x0 o)
  | .ctJal _ o => some (virothWord 0x2 0x1 o)
  | .ctJr _ o => some (virothWord 0x2 0x2 o)
  | .ctFence _ o => some (virothWord 0x2 0x3 o)
  | .ctNop _ o => some (virothWord 0x2 0x4 o)
  | .vAdd _ o => some (virothWord 0x3 0x0 o)
  | .vSub _ o => some (virothWord 0x3 0x1 o)
  | .vMul _ o => some (virothWord 0x3 0x2 o)
  | .vFma _ o => some (virothWord 0x3 0x3 o)
  | .vMin _ o => some (virothWord 0x3 0x4 o)
  | .vMax _ o => some (virothWord 0x3 0x5 o)
  | .vAnd _ o => some (virothWord 0x3 0x6 o)
  | .vOr _ o => some (virothWord 0x3 0x7 o)
  | .vXor _ o => some (virothWord 0x3 0x8 o)
  | .vShl _ o => some (virothWord 0x3 0x9 o)
  | .vCmp _ o => some (virothWord 0x3 0xA o)
  | .vSel _ o => some (virothWord 0x3 0xB o)
  | .vCvt _ o => some (virothWord 0x3 0xC o)
  | .vRed _ o => some (virothWord 0x3 0xD o)
  | .vSpec _ o => some (virothWord 0x3 0xE o)
  | .vLd _ o => some (virothWord 0x4 0x0 o)
  | .vSt _ o => some (virothWord 0x4 0x1 o)
  | .vGath _ o => some (virothWord 0x4 0x2 o)
  | .vScat _ o => some (virothWord 0x4 0x3 o)
  | .vBcast _ o => some (virothWord 0x4 0x4 o)
  | .vGet _ o => some (virothWord 0x4 0x5 o)
  | .vPut _ o => some (virothWord 0x4 0x6 o)
  | .vPerm _ o => some (virothWord 0x4 0x7 o)
  | .pMov _ o => some (virothWord 0x4 0x8 o)
  | .pGet _ o => some (virothWord 0x4 0x9 o)
  | .pOp _ o => some (virothWord 0x4 0xA o)
  | .pCnt _ o => some (virothWord 0x4 0xB o)
  | .mxMac _ o => some (virothWord 0x5 0x0 o)
  | .mxMacs _ o => some (virothWord 0x5 0x1 o)
  | .mxDrain _ o => some (virothWord 0x5 0x2 o)
  | .mxLoad _ o => some (virothWord 0x5 0x3 o)
  | .mxZero _ o => some (virothWord 0x5 0x4 o)
  | .mxWait _ o => some (virothWord 0x5 0x5 o)
  | .mxOpComplete _ _ => none
  | .mvGet _ o => some (virothWord 0x6 0x0 o)
  | .mvPut _ o => some (virothWord 0x6 0x1 o)
  | .mvWait _ o => some (virothWord 0x6 0x2 o)
  | .mvPoll _ o => some (virothWord 0x6 0x3 o)
  | .mvComplete _ _ _ => none
  | .wbPost _ o => some (virothWord 0x7 0x0 o)
  | .wbTake _ o => some (virothWord 0x7 0x1 o)
  | .wbGet _ o => some (virothWord 0x7 0x2 o)
  | .wbSet _ o => some (virothWord 0x7 0x3 o)
  | .wbSend _ o => some (virothWord 0x7 0x4 o)
  | .wbRetire _ o => some (virothWord 0x7 0x5 o)
  | .wbCount _ o => some (virothWord 0x7 0x6 o)
  | .evWait _ o => some (virothWord 0x8 0x0 o)
  | .evClr _ o => some (virothWord 0x8 0x1 o)
  | .evNote _ o => some (virothWord 0x8 0x2 o)
  | .evTime _ o => some (virothWord 0x8 0x3 o)
  | .evTimer _ o => some (virothWord 0x8 0x4 o)
  | .mwBurn _ o => some (virothWord 0x9 0x0 o)
  | .tileWaitRelease _ => none
  | .tileTimerFire _ => none
  | .tileNoteWrite _ _ _ => none
  | .tileSeedHiWrite _ _ _ => none
  | .coreWindowAccess _ _ _ _ _ => none
  | .patrolScrubLine _ _ => none
  | .channelFail _ => none
  | .stackBandUpdate _ => none
  | .stackSelfrefWake _ => none
  | .meterSample _ _ _ _ => none
  | .meterReading _ => none
  | .meterSelfcheck _ _ _ => none
  | .meterWarmupEnd _ => none
  | .meterSnapshot _ => none
  | .mtrSnapSeqRead _ _ => none
  | .mtrPRead _ _ => none
  | .elifeSave => none
  | .crossCheckWindow => none
  | .accRunStart _ _ => none
  | .accRunBegin => none
  | .accRunEnd => none
  | .controlPeriod _ => none
  | .floorRecompute => none
  | .partitionGateDone _ => none
  | .budgetMessage _ _ => none
  | .gridMessage _ _ => none
  | .coolantMessage _ _ => none
  | .holdExpiry _ => none
  | .frStale _ => none
  | .vcoreDroop _ => none
  | .droopResume _ => none
  | .supplyDip _ => none
  | .dipRecover _ => none
  | .supplyLowShutdown _ => none
  | .supplyHighShutdown _ => none
  | .heartbeatStop _ => none
  | .claimLapse _ => none
  | .claimWrite _ => none
  | .ostCommand _ _ => none
  | .switchOver => none
  | .orphanEntry => none
  | .orphanTimeout => none
  | .mirrorFrame _ _ => none
  | .mirrorLost _ => none
  | .trajectoryFrame _ _ => none
  | .ostSwap _ => none
  | .ostResetA _ => none
  | .ostResetB _ => none
  | .govRestartDone _ _ => none
  | .lapsedGovReset _ => none
  | .govRevert => none
  | .lightDetect _ _ => none
  | .trainDone _ => none
  | .linkCheckDone _ _ _ => none
  | .certRx _ _ => none
  | .helloTx _ => none
  | .helloRx _ _ => none
  | .helloTimeout _ => none
  | .rehelloStart _ => none
  | .rehelloTimeout _ => none
  | .lightLoss _ _ => none
  | .goodbyeRx _ => none
  | .uncorrectableCodeword _ => none
  | .resendRequest _ _ => none
  | .linkAck _ _ => none
  | .fptAdminDown _ _ => none
  | .adminDrainEnd _ => none
  | .fptAdminUp _ _ => none
  | .fptRetrain _ _ => none
  | .fptMapWrite _ _ _ => none
  | .fptCoordWrite _ _ => none
  | .fptMachineWrite _ _ => none
  | .fptTwistWrite _ _ _ => none
  | .laneAudit _ _ _ _ _ => none
  | .widthRx _ _ => none
  | .takeoverRx _ => none
  | .takeoverAckRx _ => none
  | .takeoverTimeout _ => none
  | .sqProducerWrite _ _ => none
  | .sqDescriptor _ _ _ => none
  | .frameRx _ _ _ => none
  | .cmapPeriod _ => none
  | .frtAvoidWrite _ _ => none
  | .sqSliceWrite _ _ _ => none
  | .sqEnable _ _ => none
  | .rqEnable _ _ => none
  | .mgEnable _ _ => none
  | .mgDisable _ _ => none
  | .musterEnter _ _ => none
  | .musterReadyWord _ _ => none
  | .musterDoneWord _ _ => none
  | .musterAbortWord _ _ => none
  | .musterArrive _ => none
  | .musterGo _ => none
  | .musterReady _ => none
  | .musterGo2 _ => none
  | .musterDone _ => none
  | .musterDecide _ => none
  | .musterAbortReq _ => none
  | .musterQuery _ => none
  | .leaderDeadline _ => none
  | .musterQueryTimer _ => none
  | .musterGraceExpiry _ => none
  | .musterNotice _ => none
  | .icSourceChange _ => none
  | .icClaimRead _ _ => none
  | .icClaimWrite _ _ _ => none
  | .icSvcWrite _ _ _ => none
  | .machineExternalInterrupt _ => none
  | .moderationEnd _ => none
  | .coreIdle _ => none
  | .timerCompare _ => none
  | .ethLinkUp _ _ => none
  | .ethLinkDown _ _ => none
  | .ethLacpMember _ => none
  | .ethLacpTimeout _ => none
  | .ethFrameRx _ _ => none
  | .ethHostExpire _ _ => none
  | .ethWorkProducer _ _ _ => none
  | .ethWorkEntry _ => none
  | .ethAckTimeout _ => none
  | .ethNetFailover _ => none
  | .ethQpEnable _ _ => none
  | .ethQpDisable _ _ => none
  | .ethQpMigrate _ _ => none
  | .ethAnnounce _ => none
  | .ethRetrain _ _ => none
  | .thmConversion _ => none
  | .thmCapUpdate => none
  | .coolantStale => none
  | .noflowTimeout => none
  | .pwrGoodAssert => none
  | .pwrGoodDeassert => none
  | .pkgResetAssert => none
  | .pkgResetRelease => none
  | .inputPowerRise => none
  | .inputPowerLoss => none
  | .start _ => none
  | .inrushWave => none
  | .startPause _ => none
  | .startResume _ => none
  | .startStepTimeout => none
  | .rstReset _ _ _ => none
  | .rstHold _ _ _ => none
  | .rstRelease _ _ _ => none
  | .drainEnd _ _ => none
  | .salvageDone _ _ => none
  | .domainResetDone _ _ => none
  | .domainTestDone _ _ _ _ => none
  | .tileStall _ => none
  | .engineStall _ => none
  | .caravanStall _ => none
  | .coreStall _ => none
  | .reqTimeout _ _ _ _ => none
  | .stopFail _ => none
  | .packageResetRampDone => none
  | .fclErrorEvent => none
  | .fclWindowEnd _ => none
  | .fclSelfCheck _ => none
  | .fclSafeExit _ => none
  | .faultNPulseEnd => none
  | .fclFaultnDriveWrite _ _ => none
  | .cvuInit _ _ => none
  | .cvuScan _ _ _ => none
  | .cvuScanEnd _ _ => none
  | .cvuFeed8 _ _ _ => none
  | .cvuFeed16 _ _ _ => none
  | .cvuFeed32 _ _ _ => none
  | .cvuRunWrite _ _ _ => none
  | .tallyPeriodic => none
  | .tallyNow _ _ => none
  | .bwWindowEnd => none
  | .outriderComplete _ _ _ _ _ _ => none
  | .prfOutEnable _ _ => none
  | .sessionOpen _ _ => none
  | .sessionConfirm _ _ => none
  | .sessionClose _ _ => none
  | .sessionTimeout _ => none
  | .attest _ _ => none
  | .setting _ _ => none
  | .fulltrain _ _ => none
  | .journalRead _ _ => none
  | .regwrite _ _ => none
  | .fieldclr _ _ => none
  | .imageBegin _ _ => none
  | .imageChunk _ _ => none
  | .imageEnd _ _ => none
  | .activate _ _ => none
  | .imageAbort _ _ => none
  | .govActivationStep => none
  | .govActivationTimeout => none
  | .stewardRestart => none
  | .coreMemoryAccess _ _ _ _ _ _ => none
  | .tmbStatusRead _ => none
  | .pwwStateRead _ => none
  | .sendPayloadLeft _ => none
  | .fclOwnFault => none

/-- The tile of a Viroth instruction. -/
def virothTile (i : Instr) : Option (Fin 768) :=
  match i with
  | .registerWrite _ _ _ _ => none
  | .counterReadClear _ _ _ => none
  | .pairLowRead _ _ _ => none
  | .pairLowWrite _ _ _ _ => none
  | .pairHighWrite _ _ _ _ => none
  | .tmbTodArm _ _ => none
  | .ppsEdge => none
  | .ppsMiss => none
  | .refclkLoss => none
  | .refclkRestore => none
  | .cvnOpen _ _ => none
  | .cvnStart _ => none
  | .cvnPush _ _ => none
  | .cvnPause _ => none
  | .cvnAbort _ => none
  | .cvnClose _ => none
  | .cvnStat _ => none
  | .cvnWait _ => none
  | .cvnWaitTimeout _ => none
  | .cvnToll _ => none
  | .cvnCad _ => none
  | .stationLoadDone _ => none
  | .stationLoadFault _ => none
  | .abortDone _ => none
  | .seqAdmit _ _ => none
  | .cadenceRelease _ => none
  | .latePeriod _ => none
  | .baleArrive _ => none
  | .completionResume _ => none
  | .cvnSlotRingRdWrite _ _ _ => none
  | .cvnSlotThreshWrite _ _ _ => none
  | .foRegisterWrite _ _ _ _ => none
  | .scAdd t _ => some t
  | .scSub t _ => some t
  | .scAnd t _ => some t
  | .scOr t _ => some t
  | .scXor t _ => some t
  | .scSll t _ => some t
  | .scSrl t _ => some t
  | .scSra t _ => some t
  | .scMul t _ => some t
  | .scMulh t _ => some t
  | .scDiv t _ => some t
  | .scRem t _ => some t
  | .scSlt t _ => some t
  | .scSltu t _ => some t
  | .scMin t _ => some t
  | .scMax t _ => some t
  | .scAddi t _ => some t
  | .scAndi t _ => some t
  | .scOri t _ => some t
  | .scXori t _ => some t
  | .scSlli t _ => some t
  | .scSrli t _ => some t
  | .scSrai t _ => some t
  | .scSlti t _ => some t
  | .scLi t _ => some t
  | .scLih t _ => some t
  | .scLd t _ => some t
  | .scSt t _ => some t
  | .scTr t _ => some t
  | .scTw t _ => some t
  | .ctBr t _ => some t
  | .ctJal t _ => some t
  | .ctJr t _ => some t
  | .ctFence t _ => some t
  | .ctNop t _ => some t
  | .vAdd t _ => some t
  | .vSub t _ => some t
  | .vMul t _ => some t
  | .vFma t _ => some t
  | .vMin t _ => some t
  | .vMax t _ => some t
  | .vAnd t _ => some t
  | .vOr t _ => some t
  | .vXor t _ => some t
  | .vShl t _ => some t
  | .vCmp t _ => some t
  | .vSel t _ => some t
  | .vCvt t _ => some t
  | .vRed t _ => some t
  | .vSpec t _ => some t
  | .vLd t _ => some t
  | .vSt t _ => some t
  | .vGath t _ => some t
  | .vScat t _ => some t
  | .vBcast t _ => some t
  | .vGet t _ => some t
  | .vPut t _ => some t
  | .vPerm t _ => some t
  | .pMov t _ => some t
  | .pGet t _ => some t
  | .pOp t _ => some t
  | .pCnt t _ => some t
  | .mxMac t _ => some t
  | .mxMacs t _ => some t
  | .mxDrain t _ => some t
  | .mxLoad t _ => some t
  | .mxZero t _ => some t
  | .mxWait t _ => some t
  | .mxOpComplete _ _ => none
  | .mvGet t _ => some t
  | .mvPut t _ => some t
  | .mvWait t _ => some t
  | .mvPoll t _ => some t
  | .mvComplete _ _ _ => none
  | .wbPost t _ => some t
  | .wbTake t _ => some t
  | .wbGet t _ => some t
  | .wbSet t _ => some t
  | .wbSend t _ => some t
  | .wbRetire t _ => some t
  | .wbCount t _ => some t
  | .evWait t _ => some t
  | .evClr t _ => some t
  | .evNote t _ => some t
  | .evTime t _ => some t
  | .evTimer t _ => some t
  | .mwBurn t _ => some t
  | .tileWaitRelease _ => none
  | .tileTimerFire _ => none
  | .tileNoteWrite _ _ _ => none
  | .tileSeedHiWrite _ _ _ => none
  | .coreWindowAccess _ _ _ _ _ => none
  | .patrolScrubLine _ _ => none
  | .channelFail _ => none
  | .stackBandUpdate _ => none
  | .stackSelfrefWake _ => none
  | .meterSample _ _ _ _ => none
  | .meterReading _ => none
  | .meterSelfcheck _ _ _ => none
  | .meterWarmupEnd _ => none
  | .meterSnapshot _ => none
  | .mtrSnapSeqRead _ _ => none
  | .mtrPRead _ _ => none
  | .elifeSave => none
  | .crossCheckWindow => none
  | .accRunStart _ _ => none
  | .accRunBegin => none
  | .accRunEnd => none
  | .controlPeriod _ => none
  | .floorRecompute => none
  | .partitionGateDone _ => none
  | .budgetMessage _ _ => none
  | .gridMessage _ _ => none
  | .coolantMessage _ _ => none
  | .holdExpiry _ => none
  | .frStale _ => none
  | .vcoreDroop _ => none
  | .droopResume _ => none
  | .supplyDip _ => none
  | .dipRecover _ => none
  | .supplyLowShutdown _ => none
  | .supplyHighShutdown _ => none
  | .heartbeatStop _ => none
  | .claimLapse _ => none
  | .claimWrite _ => none
  | .ostCommand _ _ => none
  | .switchOver => none
  | .orphanEntry => none
  | .orphanTimeout => none
  | .mirrorFrame _ _ => none
  | .mirrorLost _ => none
  | .trajectoryFrame _ _ => none
  | .ostSwap _ => none
  | .ostResetA _ => none
  | .ostResetB _ => none
  | .govRestartDone _ _ => none
  | .lapsedGovReset _ => none
  | .govRevert => none
  | .lightDetect _ _ => none
  | .trainDone _ => none
  | .linkCheckDone _ _ _ => none
  | .certRx _ _ => none
  | .helloTx _ => none
  | .helloRx _ _ => none
  | .helloTimeout _ => none
  | .rehelloStart _ => none
  | .rehelloTimeout _ => none
  | .lightLoss _ _ => none
  | .goodbyeRx _ => none
  | .uncorrectableCodeword _ => none
  | .resendRequest _ _ => none
  | .linkAck _ _ => none
  | .fptAdminDown _ _ => none
  | .adminDrainEnd _ => none
  | .fptAdminUp _ _ => none
  | .fptRetrain _ _ => none
  | .fptMapWrite _ _ _ => none
  | .fptCoordWrite _ _ => none
  | .fptMachineWrite _ _ => none
  | .fptTwistWrite _ _ _ => none
  | .laneAudit _ _ _ _ _ => none
  | .widthRx _ _ => none
  | .takeoverRx _ => none
  | .takeoverAckRx _ => none
  | .takeoverTimeout _ => none
  | .sqProducerWrite _ _ => none
  | .sqDescriptor _ _ _ => none
  | .frameRx _ _ _ => none
  | .cmapPeriod _ => none
  | .frtAvoidWrite _ _ => none
  | .sqSliceWrite _ _ _ => none
  | .sqEnable _ _ => none
  | .rqEnable _ _ => none
  | .mgEnable _ _ => none
  | .mgDisable _ _ => none
  | .musterEnter _ _ => none
  | .musterReadyWord _ _ => none
  | .musterDoneWord _ _ => none
  | .musterAbortWord _ _ => none
  | .musterArrive _ => none
  | .musterGo _ => none
  | .musterReady _ => none
  | .musterGo2 _ => none
  | .musterDone _ => none
  | .musterDecide _ => none
  | .musterAbortReq _ => none
  | .musterQuery _ => none
  | .leaderDeadline _ => none
  | .musterQueryTimer _ => none
  | .musterGraceExpiry _ => none
  | .musterNotice _ => none
  | .icSourceChange _ => none
  | .icClaimRead _ _ => none
  | .icClaimWrite _ _ _ => none
  | .icSvcWrite _ _ _ => none
  | .machineExternalInterrupt _ => none
  | .moderationEnd _ => none
  | .coreIdle _ => none
  | .timerCompare _ => none
  | .ethLinkUp _ _ => none
  | .ethLinkDown _ _ => none
  | .ethLacpMember _ => none
  | .ethLacpTimeout _ => none
  | .ethFrameRx _ _ => none
  | .ethHostExpire _ _ => none
  | .ethWorkProducer _ _ _ => none
  | .ethWorkEntry _ => none
  | .ethAckTimeout _ => none
  | .ethNetFailover _ => none
  | .ethQpEnable _ _ => none
  | .ethQpDisable _ _ => none
  | .ethQpMigrate _ _ => none
  | .ethAnnounce _ => none
  | .ethRetrain _ _ => none
  | .thmConversion _ => none
  | .thmCapUpdate => none
  | .coolantStale => none
  | .noflowTimeout => none
  | .pwrGoodAssert => none
  | .pwrGoodDeassert => none
  | .pkgResetAssert => none
  | .pkgResetRelease => none
  | .inputPowerRise => none
  | .inputPowerLoss => none
  | .start _ => none
  | .inrushWave => none
  | .startPause _ => none
  | .startResume _ => none
  | .startStepTimeout => none
  | .rstReset _ _ _ => none
  | .rstHold _ _ _ => none
  | .rstRelease _ _ _ => none
  | .drainEnd _ _ => none
  | .salvageDone _ _ => none
  | .domainResetDone _ _ => none
  | .domainTestDone _ _ _ _ => none
  | .tileStall _ => none
  | .engineStall _ => none
  | .caravanStall _ => none
  | .coreStall _ => none
  | .reqTimeout _ _ _ _ => none
  | .stopFail _ => none
  | .packageResetRampDone => none
  | .fclErrorEvent => none
  | .fclWindowEnd _ => none
  | .fclSelfCheck _ => none
  | .fclSafeExit _ => none
  | .faultNPulseEnd => none
  | .fclFaultnDriveWrite _ _ => none
  | .cvuInit _ _ => none
  | .cvuScan _ _ _ => none
  | .cvuScanEnd _ _ => none
  | .cvuFeed8 _ _ _ => none
  | .cvuFeed16 _ _ _ => none
  | .cvuFeed32 _ _ _ => none
  | .cvuRunWrite _ _ _ => none
  | .tallyPeriodic => none
  | .tallyNow _ _ => none
  | .bwWindowEnd => none
  | .outriderComplete _ _ _ _ _ _ => none
  | .prfOutEnable _ _ => none
  | .sessionOpen _ _ => none
  | .sessionConfirm _ _ => none
  | .sessionClose _ _ => none
  | .sessionTimeout _ => none
  | .attest _ _ => none
  | .setting _ _ => none
  | .fulltrain _ _ => none
  | .journalRead _ _ => none
  | .regwrite _ _ => none
  | .fieldclr _ _ => none
  | .imageBegin _ _ => none
  | .imageChunk _ _ => none
  | .imageEnd _ _ => none
  | .activate _ _ => none
  | .imageAbort _ _ => none
  | .govActivationStep => none
  | .govActivationTimeout => none
  | .stewardRestart => none
  | .coreMemoryAccess _ _ _ _ _ _ => none
  | .tmbStatusRead _ => none
  | .pwwStateRead _ => none
  | .sendPayloadLeft _ => none
  | .fclOwnFault => none

end Sys2Proof
end

