-- ==== Sys2Proof/Machine/Numbers.lean ====
section
/-! DEFINITION. The number formats of R213 to R218, exact values, the one rounding of R219 to R222 and the conversions of R229 to R231.
Every number is held exactly, as an integer times a power of two, until it is rounded. -/

namespace Sys2Proof.Machine

/-- The sticky flags of TILE_FLAGS, by their bits (R226). -/
def flagNX : Nat := 1
def flagUF : Nat := 2
def flagOF : Nat := 4
def flagNV : Nat := 8
def flagXR : Nat := 16
def flagPOIS : Nat := 32

/-- A value as the formats have them: NaN, a signed infinity, or a sign and a magnitude `m * 2^e`. -/
inductive Val where
  | nan
  | inf (neg : Bool)
  | fin (neg : Bool) (m : Nat) (e : Int)
  deriving DecidableEq, Repr

/-- A floating-point format (R214): widths of the exponent and mantissa fields, bias, the codes without sign of the largest finite value, of
infinity where the format has one, and of the canonical NaN (R215). `sat` says that overflow gives the largest finite value (R229). -/
structure FloatFmt where
  eb : Nat
  mb : Nat
  bias : Nat
  maxc : Nat
  infc : Option Nat
  nanc : Nat
  sat : Bool
  deriving DecidableEq, Repr

def fp32 : FloatFmt := ⟨8, 23, 127, 0x7F7FFFFF, some 0x7F800000, 0x7FC00000, false⟩
def bf16 : FloatFmt := ⟨8, 7, 127, 0x7F7F, some 0x7F80, 0x7FC0, false⟩
def fp16 : FloatFmt := ⟨5, 10, 15, 0x7BFF, some 0x7C00, 0x7E00, false⟩
def fp8b : FloatFmt := ⟨5, 2, 15, 0x7B, some 0x7C, 0x7E, true⟩
def fp8a : FloatFmt := ⟨4, 3, 7, 0x7E, none, 0x7F, true⟩
def e3m2 : FloatFmt := ⟨3, 2, 3, 0x1F, none, 0x1F, true⟩
def e2m1 : FloatFmt := ⟨2, 1, 1, 7, none, 7, true⟩

/-- The sign bit's weight. -/
def FloatFmt.signBit (f : FloatFmt) : Nat := 2 ^ (f.eb + f.mb)

/-- The exponent of the format's least significant bit, that of its subnormals. -/
def FloatFmt.qmin (f : FloatFmt) : Int := 1 - (f.bias : Int) - (f.mb : Int)

/-- The value of a code (R214, R216). -/
def FloatFmt.decode (f : FloatFmt) (code : Nat) : Val :=
  let neg := code / f.signBit % 2 == 1
  let body := code % f.signBit
  if f.maxc < body then
    if f.infc = some body then .inf neg else .nan
  else
    let e := body / 2 ^ f.mb
    let m := body % 2 ^ f.mb
    if e = 0 then .fin neg m f.qmin else .fin neg (m + 2 ^ f.mb) (f.qmin + e - 1)

/-- A code with a sign. -/
def FloatFmt.signed (f : FloatFmt) (neg : Bool) (body : Nat) : Nat := if neg then f.signBit + body else body

/-- The way of rounding (R219): to nearest even, or stochastic with a drawn 16-bit number (R222). -/
inductive Rm where
  | rne
  | sr (r : Nat)
  deriving DecidableEq, Repr

/-- The integer that `n + rem / den` in magnitude, with sign `neg`, rounds to in magnitude (R221, R222). -/
def roundMag (rm : Rm) (neg : Bool) (n rem den : Nat) : Nat :=
  if rem = 0 then n
  else
    match rm with
    | .rne => if den < 2 * rem || (2 * rem == den && n % 2 == 1) then n + 1 else n
    | .sr r =>
      if neg then (if 2 ^ 16 ≤ 2 ^ 16 * (den - rem) / den + r then n else n + 1)
      else (if 2 ^ 16 ≤ 2 ^ 16 * rem / den + r then n + 1 else n)

/-- A rounded result: its code and the flags it sets. -/
structure Rounded where
  code : Nat
  flags : Nat
  deriving DecidableEq, Repr

/-- The magnitude `m * 2^e` in units of `2^q`: whole part, remainder and what the remainder counts in. -/
def unitsOf (m : Nat) (e q : Int) : Nat × Nat × Nat :=
  if q ≤ e then (m * 2 ^ (e - q).toNat, 0, 1)
  else
    let den := 2 ^ (q - e).toNat
    (m / den, m % den, den)

/-- A finite non-zero magnitude rounded into a format (R220 to R222, R226, R227, R229). -/
def FloatFmt.round (f : FloatFmt) (rm : Rm) (neg : Bool) (m : Nat) (e : Int) : Rounded :=
  if m = 0 then ⟨f.signed neg 0, 0⟩
  else
    let q := max ((Nat.log2 m : Int) + e - f.mb) f.qmin
    let u := unitsOf m e q
    let n := roundMag rm neg u.1 u.2.1 u.2.2
    let body := (q - f.qmin).toNat * 2 ^ f.mb + n
    let tiny := (Nat.log2 m : Int) + e < f.qmin + f.mb
    let nx := u.2.1 != 0
    if f.maxc < body then
      ⟨f.signed neg (if f.sat then f.maxc else f.infc.getD f.maxc), flagNX + flagOF⟩
    else ⟨f.signed neg body, (if nx then flagNX else 0) + (if tiny && nx then flagUF else 0)⟩

/-- A value converted into a floating-point format (R229). -/
def FloatFmt.ofVal (f : FloatFmt) (rm : Rm) : Val → Rounded
  | .nan => ⟨f.nanc, 0⟩
  | .inf neg => match f.infc with
    | some c => ⟨f.signed neg c, 0⟩
    | none => ⟨f.signed neg f.maxc, flagOF⟩
  | .fin neg m e => f.round rm neg m e

/-- A value rounded to an integer (R230), with whether it lost anything. -/
def roundInt (rm : Rm) (neg : Bool) (m : Nat) (e : Int) : Int × Bool :=
  let u := unitsOf m e 0
  let n := roundMag rm neg u.1 u.2.1 u.2.2
  (if neg then -(n : Int) else n, u.2.1 != 0)

/-- A value converted to a `w`-bit two's-complement integer (R229, R230). -/
def intOfVal (w : Nat) (rm : Rm) : Val → Rounded
  | .nan => ⟨0, flagNV⟩
  | .inf neg => ⟨if neg then 2 ^ (w - 1) else 2 ^ (w - 1) - 1, flagOF⟩
  | .fin neg m e =>
    let r := roundInt rm neg m e
    let lo : Int := -(2 ^ (w - 1) : Nat)
    let hi : Int := (2 ^ (w - 1) : Nat) - 1
    ⟨ofSigned w (clampInt r.1 lo hi), (if r.2 then flagNX else 0) + (if r.1 < lo || hi < r.1 then flagOF else 0)⟩

/-- An integer as a value. -/
def Val.ofInt (z : Int) : Val := .fin (decide (z < 0)) z.natAbs 0

/-- The floating-point format of a code of R179, for the elements of panels, drains and conversions. -/
def floatOf : Nat → Option FloatFmt
  | 0x1 => some fp8a | 0x2 => some fp8b | 0x3 => some fp8a | 0x5 => some e2m1 | 0x6 => some e3m2
  | 0x8 => some bf16 | 0x9 => some fp16 | 0xC => some fp32 | _ => none

/-- The width in bits of a format's element (R213). -/
def elemBits : Nat → Nat
  | 0x4 | 0x5 => 4
  | 0x6 => 6
  | 0x8 | 0x9 => 16
  | 0xC | 0xD => 32
  | _ => 8

/-- The value of an element of a format (R213, R218): the bits above its width are ignored. -/
def elemVal (fmt code : Nat) : Val :=
  let c := code % 2 ^ elemBits fmt
  match floatOf fmt with
  | some f => f.decode c
  | none => .ofInt (toSigned (elemBits fmt) c)

/-- A value converted into a format of R179 that is not a block format. -/
def convert (fmt : Nat) (rm : Rm) (v : Val) : Rounded :=
  match floatOf fmt with
  | some f => f.ofVal rm v
  | none => intOfVal (elemBits fmt) rm v

/-- The formats that `v.cvt` takes, panel operands, and drain results (R179). -/
def cvtFormat (f : Nat) : Bool := [0x0, 0x1, 0x2, 0x4, 0x8, 0x9, 0xC, 0xD].contains f
def panelFormat (f : Nat) : Bool := [0x0, 0x1, 0x2, 0x3, 0x4, 0x5, 0x6, 0x8, 0x9].contains f
def drainFormat (f : Nat) : Bool := [0x0, 0x1, 0x2, 0x3, 0x5, 0x6, 0x8, 0x9, 0xC, 0xD, 0xF].contains f
def blockFormat (f : Nat) : Bool := [0x3, 0x5, 0x6].contains f
def fpFormat (f : Nat) : Bool := f == 0x8 || f == 0x9

/-- One lane of `v.cvt` (R231): equal formats keep the value, but for NaN. -/
def cvtLane (src dst : Nat) (rm : Rm) (x : Nat) : Rounded :=
  let v := elemVal src x
  if src = dst && v ≠ .nan then ⟨x % 2 ^ elemBits src, 0⟩ else convert dst rm v

/-! ### Exact sums and products -/

/-- A product (R239, R244): 0 times an infinity is invalid. -/
def mulVal : Val → Val → Val × Nat
  | .nan, _ => (.nan, 0)
  | _, .nan => (.nan, 0)
  | .inf a, .inf b => (.inf (a != b), 0)
  | .inf a, .fin b m _ => if m = 0 then (.nan, flagNV) else (.inf (a != b), 0)
  | .fin a m _, .inf b => if m = 0 then (.nan, flagNV) else (.inf (a != b), 0)
  | .fin a m e, .fin b n g => (.fin (a != b) (m * n) (e + g), 0)

/-- The least exponent among finite values, from a start. -/
def leastExp (start : Int) (vs : List Val) : Int :=
  vs.foldl (fun a v => match v with | .fin _ _ e => min a e | _ => a) start

/-- A finite value in units of `2^q`, `q` at or below its exponent. -/
def inUnits (q : Int) : Val → Int
  | .fin neg m e => let n : Int := (m * 2 ^ (e - q).toNat : Nat); if neg then -n else n
  | _ => 0

/-- The exact sum of values (R239, R240, R244): NaN of a NaN, invalid of unlike infinities, and of an exact zero +0 unless every term is −0. -/
def sumVals (vs : List Val) : Val × Nat :=
  if vs.contains .nan then (.nan, 0)
  else if vs.contains (.inf false) && vs.contains (.inf true) then (.nan, flagNV)
  else if vs.contains (.inf false) then (.inf false, 0)
  else if vs.contains (.inf true) then (.inf true, 0)
  else
    let q := leastExp 0 vs
    let n := vs.foldl (fun a v => a + inUnits q v) (0 : Int)
    if n = 0 then (.fin (vs.all (fun v => match v with | .fin neg _ _ => neg | _ => false)) 0 0, 0)
    else (.fin (decide (n < 0)) n.natAbs q, 0)

/-- Minus a value. -/
def negVal : Val → Val
  | .nan => .nan
  | .inf a => .inf (!a)
  | .fin a m e => .fin (!a) m e

/-- A value rounded to FP32, with the flags of its computation. -/
def toFp32 (rm : Rm) (p : Val × Nat) : Rounded :=
  let r := fp32.ofVal rm p.1
  ⟨r.code, Nat.lor r.flags p.2⟩

/-- Whether a value is a zero. -/
def Val.isZero : Val → Bool
  | .fin _ m _ => m == 0
  | _ => false

/-- `x < y` of values that are no NaN; `strictZero` orders −0 below +0 (R245). -/
def ltVal (strictZero : Bool) : Val → Val → Bool
  | .nan, _ => false
  | _, .nan => false
  | .inf a, .inf b => a && !b
  | .inf a, .fin _ _ _ => a
  | .fin _ _ _, .inf b => !b
  | .fin a m e, .fin b n g =>
    let q := min e g
    let x := inUnits q (.fin a m e)
    let y := inUnits q (.fin b n g)
    decide (x < y) || (strictZero && m == 0 && n == 0 && a && !b)

/-! ### The functions of `v.spec` (R249) -/

/-- Natural logarithms and powers are computed in units of 2^-192. -/
def oneFix : Nat := 2 ^ 192

/-- ln 2 in units of 2^-192: the sum of 1 / (k 2^k). -/
def ln2From : Nat → Nat → Nat
  | 0, _ => 0
  | n + 1, k => oneFix / (k * 2 ^ k) + ln2From n (k + 1)
def ln2Fix : Nat := ln2From 200 1

/-- e^y - 1 for `y` in units of 2^-192, by its series. -/
def expTerms (y : Nat) : Nat → Nat → Nat → Nat
  | 0, _, _ => 0
  | n + 1, k, t => let t' := t * y / oneFix / k; t' + expTerms y n (k + 1) t'
def expFix (y : Nat) : Nat := oneFix + expTerms y 60 1 oneFix

/-- The series of atanh, from term `z^k / k`. -/
def atanhTerms (z2 : Nat) : Nat → Nat → Nat → Nat
  | 0, _, _ => 0
  | n + 1, k, t => t / k + atanhTerms z2 n (k + 2) (t * z2 / oneFix)

/-- ln of `1 + a / b` for `a < b`, in units of 2^-192. -/
def lnFix (a b : Nat) : Nat :=
  let z := a * oneFix / (a + 2 * b)
  2 * atanhTerms (z * z / oneFix) 70 1 z

/-- Newton's steps to the whole square root of `n` from a start at or above it. -/
def isqrtFrom (n : Nat) : Nat → Nat → Nat
  | 0, x => x
  | k + 1, x => let y := (x + n / x) / 2; if y < x then isqrtFrom n k y else x

/-- The whole square root of a number. -/
def isqrt (n : Nat) : Nat := isqrtFrom n 300 (2 ^ (Nat.log2 n / 2 + 1))

/-- The square root of `m * 2^e`: whole units of `2^g`, and whether something is left. -/
def sqrtParts (m : Nat) (e : Int) : Nat × Int × Bool :=
  let k : Nat := if e % 2 = 0 then 128 else 129
  let n := m * 2 ^ k
  let r := isqrt n
  (r, (e - k) / 2, r * r != n)

/-- A magnitude with a part left over, rounded to nearest even. -/
def fp32Sticky (neg : Bool) (n : Nat) (e : Int) (left : Bool) : Rounded := fp32.round .rne neg (2 * n + b2n left) (e - 1)

/-- One lane of `v.spec` (R249). -/
def specLane (sub x : Nat) : Rounded :=
  let inf (neg : Bool) (fl : Nat) : Rounded := ⟨fp32.signed neg 0x7F800000, fl⟩
  let nan (fl : Nat) : Rounded := ⟨fp32.nanc, fl⟩
  match fp32.decode x, sub with
  | .nan, _ => nan 0
  | .inf neg, 0 => ⟨fp32.signed neg 0, 0⟩
  | .inf false, 1 => ⟨0, 0⟩
  | .inf true, 1 => nan flagNV
  | .inf false, 2 => inf false 0
  | .inf true, 2 => nan flagNV
  | .inf false, 3 => inf false 0
  | .inf true, 3 => ⟨0, 0⟩
  | .inf false, _ => inf false 0
  | .inf true, _ => nan flagNV
  | .fin neg m e, 0 =>
    if m = 0 then inf neg flagOF
    else
      let n := 2 ^ 96 / m
      fp32Sticky neg n (-96 - e) (n * m != 2 ^ 96)
  | .fin neg m e, 1 =>
    if m = 0 then inf neg flagOF
    else if neg then nan flagNV
    else
      -- 1/√(m 2^e) = √(2^(2k) / m') 2^-(k + g) with m' 2^(2g) = m 2^e
      let odd := e % 2 != 0
      let m' := if odd then 2 * m else m
      let g := if odd then (e - 1) / 2 else e / 2
      let n := isqrt (2 ^ 192 / m')
      fp32Sticky false n (-96 - g) (n * n * m' != 2 ^ 192)
  | .fin neg m e, 2 =>
    if m = 0 then ⟨fp32.signed neg 0, 0⟩
    else if neg then nan flagNV
    else
      let p := sqrtParts m e
      fp32Sticky false p.1 p.2.1 p.2.2
  | .fin neg m e, 3 =>
    if m = 0 then ⟨0x3F800000, 0⟩
    else if !neg && !ltVal false (.fin neg m e) (.fin false 1 7) then inf false (flagOF + flagNX)
    else if neg && !ltVal false (.fin true 150 0) (.fin neg m e) then ⟨0, flagUF + flagNX⟩
    else
      -- x in units of 2^-192, rounded down, and whether that lost anything
      let u := unitsOf m e (-192)
      let xi : Int := if neg then -((u.1 : Int) + b2n (u.2.1 != 0)) else u.1
      let whole := xi / oneFix
      let frac := (xi % oneFix).toNat
      if frac = 0 && u.2.1 == 0 then fp32.round .rne false 1 whole
      else fp32Sticky false (expFix (frac * ln2Fix / oneFix)) (whole - 192) true
  | .fin neg m e, _ =>
    if m = 0 then inf true flagOF
    else if neg then nan flagNV
    else
      let l := Nat.log2 m
      let E : Int := e + l
      let rest := m - 2 ^ l
      if rest = 0 then toFp32 .rne (.ofInt E, 0)
      else
        let v : Int := E * oneFix + (lnFix rest (2 ^ l) * oneFix / ln2Fix : Nat)
        fp32Sticky (decide (v < 0)) v.natAbs (-192) true

end Sys2Proof.Machine
end

