-- ==== Sys2Proof/Machine/Flags.lean ====
section
/-! DEFINITION. Conditions and the vector unit's lanes: the comparisons of `ct.br` and `v.cmp` (R172, R246), each lane operation of class
0x3 with the flags it sets (R174, R226, R244 to R248, R260), the reduction of R175 and the stochastic generator (R223 to R225). -/

namespace Sys2Proof.Machine

/-- The condition codes of `ct.br` (R172). -/
def brCond (d x y : Nat) : Bool :=
  match d with
  | 0 => x == y
  | 1 => x != y
  | 2 => decide (toSigned 64 x < toSigned 64 y)
  | 3 => decide (toSigned 64 y ≤ toSigned 64 x)
  | 4 => decide (x < y)
  | _ => decide (y ≤ x)

/-- The condition codes of `v.cmp` (R174, R246, R247): `ty` is TYPE. -/
def cmpLane (ty sub x y : Nat) : Bool :=
  if ty = 0 then
    let a := fp32.decode x
    let b := fp32.decode y
    let un := a == .nan || b == .nan
    match sub with
    | 0 => !un && !ltVal false a b && !ltVal false b a
    | 1 => un || ltVal false a b || ltVal false b a
    | 2 => ltVal false a b
    | 3 => !un && !ltVal false b a
    | _ => un
  else
    let a := if ty = 1 then toSigned 32 x else (x : Int)
    let b := if ty = 1 then toSigned 32 y else (y : Int)
    match sub with
    | 0 => a == b
    | 1 => a != b
    | 2 => decide (a < b)
    | _ => decide (a ≤ b)

/-- An exact integer result kept or clamped (R247). -/
def intResult (ty : Nat) (sat : Bool) (z : Int) : Rounded :=
  if sat then
    let lo : Int := if ty = 1 then -(2 ^ 31 : Nat) else 0
    let hi : Int := if ty = 1 then (2 ^ 31 : Nat) - 1 else (2 ^ 32 : Nat) - 1
    ⟨ofSigned 32 (clampInt z lo hi), if z < lo || hi < z then flagOF else 0⟩
  else ⟨ofSigned 32 z, 0⟩

/-- A lane as the integer of its TYPE. -/
def laneInt (ty x : Nat) : Int := if ty = 1 then toSigned 32 x else (x : Int)

/-- `v.min` and `v.max` (R245, R247). -/
def minmaxLane (ty : Nat) (mx : Bool) (x y : Nat) : Nat :=
  if ty = 0 then
    let a := fp32.decode x
    let b := fp32.decode y
    if a = .nan then (if b = .nan then fp32.nanc else y)
    else if b = .nan then x
    else if ltVal true a b then (if mx then y else x) else (if mx then x else y)
  else if laneInt ty x < laneInt ty y then (if mx then y else x) else (if mx then x else y)

/-- The lane operations of class 0x3 that compute one lane from three (R174), by OPC; `zs` is ZS (R260), `fmt` SRC and `sub` SUB. -/
def lane3 (opc ty : Nat) (rm : Rm) (sat zs : Bool) (sub fmt x y z : Nat) : Rounded :=
  let a := fp32.decode x
  let b := fp32.decode y
  let d := fp32.decode z
  let ia := laneInt ty x
  let ib := laneInt ty y
  let id := laneInt ty z
  let skip := zs && (if ty = 0 then a.isZero || b.isZero else ia == 0 || ib == 0)
  match opc with
  | 0 => if ty = 0 then toFp32 rm (sumVals [a, b]) else intResult ty sat (ia + ib)
  | 1 => if ty = 0 then toFp32 rm (sumVals [a, negVal b]) else intResult ty sat (ia - ib)
  | 2 =>
    if skip then ⟨0, 0⟩
    else if ty = 0 then toFp32 rm (mulVal a b) else intResult ty sat (ia * ib)
  | 3 =>
    if skip then
      (if ty = 0 then toFp32 rm (sumVals [.fin false 0 0, d]) else ⟨z, 0⟩)
    else if ty = 0 then
      let p := mulVal a b
      let r := sumVals [p.1, d]
      toFp32 rm (r.1, Nat.lor p.2 r.2)
    else intResult ty sat (ia * ib + id)
  | 4 => ⟨minmaxLane ty false x y, 0⟩
  | 5 => ⟨minmaxLane ty true x y, 0⟩
  | 6 => ⟨Nat.land x y, 0⟩
  | 7 => ⟨Nat.lor x y, 0⟩
  | 8 => ⟨Nat.xor x y, 0⟩
  | 9 =>
    if sub = 0 then ⟨x * 2 ^ (y % 32) % 2 ^ 32, 0⟩
    else if ty = 1 then ⟨ofSigned 32 (ia / (2 ^ (y % 32) : Nat)), 0⟩
    else ⟨x / 2 ^ (y % 32), 0⟩
  | 0xC => cvtLane fmt sub rm x
  | _ => specLane sub x

/-- The identity of a reduction (R175). -/
def redIdentity (ty sub : Nat) : Nat :=
  match sub with
  | 0 => 0
  | 1 => if ty = 0 then 0xFF800000 else if ty = 1 then 0x80000000 else 0
  | _ => if ty = 0 then 0x7F800000 else if ty = 1 then 0x7FFFFFFF else 0xFFFFFFFF

/-- One combination of a reduction (R175, R248). -/
def redOp (ty sub x y : Nat) : Rounded :=
  match sub with
  | 0 => lane3 0 ty .rne false false 0 0 x y 0
  | 1 => ⟨minmaxLane ty true x y, 0⟩
  | _ => ⟨minmaxLane ty false x y, 0⟩

/-- One pass of R175 over neighbouring pairs: 64 lanes become 32, and so on. -/
def redPass (ty sub : Nat) : List Nat → List Nat × Nat
  | x :: y :: rest =>
    let r := redOp ty sub x y
    let q := redPass ty sub rest
    (r.code :: q.1, Nat.lor r.flags q.2)
  | l => (l, 0)

/-- `n` passes. -/
def redPasses (ty sub : Nat) : Nat → List Nat → Nat → List Nat × Nat
  | 0, l, fl => (l, fl)
  | n + 1, l, fl => let q := redPass ty sub l; redPasses ty sub n q.1 (Nat.lor fl q.2)

/-- The whole reduction: lane 0 and the flags. -/
def reduce (ty sub : Nat) (lanes : List Nat) : Nat × Nat :=
  let q := redPasses ty sub 6 lanes 0
  (q.1.headD 0, q.2)

/-! ### The stochastic generator -/

/-- The state after one word (R223). -/
def genNext (s : Nat) : Nat := (s + 0x9E3779B97F4A7C15) % 2 ^ 64

/-- The word that a state just reached gives (R223). -/
def genWord (s : Nat) : Nat :=
  let z := Nat.xor s (s / 2 ^ 30) * 0xBF58476D1CE4E5B9 % 2 ^ 64
  let z := Nat.xor z (z / 2 ^ 27) * 0x94D049BB133111EB % 2 ^ 64
  Nat.xor z (z / 2 ^ 31)

/-- The state after `n` words. -/
def genSkip (s n : Nat) : Nat := (s + n * 0x9E3779B97F4A7C15) % 2 ^ 64

/-- Value `j` of an instruction that issues with generator state `s` (R224). -/
def genValue (s j : Nat) : Nat := bits (genWord (genSkip s (j / 4 + 1))) (16 * (j % 4) + 15) (16 * (j % 4))

end Sys2Proof.Machine
end

