-- ==== Sys2Proof/Config.lean ====
section
/-! DEFINITION. What the spec leaves open: constants with no body, so that nothing can be proved of their values. A function of a
plain number is applied to `State.free`, the model's counter, for a fresh value each time (log 1). -/

namespace Sys2Proof

/-- The corrected current sample, µA, of a converter code under IGAIN, IOFF, TC and the shunt temperature code (R299, R322): the
manual names the constants and not the formula. -/
opaque Config.sampleCurrent (code gain off tc temp : Nat) : Int

/-- The corrected voltage sample, µV, of a converter code under VGAIN and VOFF (R299, R322). -/
opaque Config.sampleVoltage (code gain off : Nat) : Nat

/-- P_est of a control period in mW (R326): the activity weights and the static model are sealed and cannot be read. -/
opaque Config.pEst (k : Nat) : Nat

/-- p_high of a control period in mW (R327): the most that work, soak and makeweight can draw. -/
opaque Config.pHigh (k : Nat) : Nat

/-- The floor in mW that a recomputation finds (R362). -/
opaque Config.floor (k : Nat) : Nat

/-- The draw in mW of normal caravans at the fixed point, with no soak and no makeweight (R356). -/
opaque Config.fixedDraw (k : Nat) : Nat

/-- What `allocate` makes of an actuator (R346): the setting of the actuator named by the second number, between its present setting
and its limit; the plant's response to a setting is not stated. -/
opaque Config.actuator (k which : Nat) : Nat

/-- The real array activity of a tile over a control period, in sixteenths (R351). -/
opaque Config.activity (k tile : Nat) : Nat

/-- The estimated power of a slot's caravan in W over a control period (R326). -/
opaque Config.caravanPower (k slot : Nat) : Nat

/-- The rail readings of R318 and the conversion efficiency. -/
opaque Config.rail (k which : Nat) : BitVec 32

/-- A fresh random nonce (R403, R666). -/
opaque Config.nonce (k : Nat) : BitVec 64

/-- Whether an SM2 signature over a message verifies with the key of a certificate chain that reaches the maker root (R406, R664). -/
opaque Config.sm2Verifies (cert msg sig : List Byte) : Bool

/-- The SM2 signature of the package's identity key over a message (R403), 64 bytes cut or filled by its user. -/
opaque Config.sm2Sign (msg : List Byte) : List Byte

/-- The package's own device certificate chain (R404). -/
opaque Config.deviceCert : List Byte

/-- The interval to the next outrider, from a generator word and N: the manual says it is uniform and not how the word gives it (R656). -/
opaque Config.outriderInterval (word n : Nat) : Nat

/-- MEM_ERRLOG_INFO.SRC for a requester that the four codes do not name (R285). -/
opaque Config.otherSource : BitVec 2

/-- The pass or fail of a self-test run (R564, R572, R586), by free value and unit. -/
opaque Config.testPasses (k unit : Nat) : Bool

/-- The heat index of a cluster (THM_HEAT): the manual says over how long it averages and not how it weighs the readings. -/
opaque Config.heat (k cluster : Nat) : BitVec 16

/-- The role that a certificate chain, leaf first, gives its party for a package serial, with PTIME when validity periods are checked (R666). -/
opaque Config.chainRole (chain : List Byte) (serial : Nat) (ptime : Option Nat) : Option Role

/-- The leaf certificate of a chain, and the owner key material that a signature of the party is checked with (R669). -/
opaque Config.leafCert (chain : List Byte) : List Byte

/-- The coordinates of the ephemeral SM2 shared point of a session, 64 bytes (R669), and the package's own ephemeral key. -/
opaque Config.sharedPoint (eph : List Byte) (k : Nat) : List Byte
opaque Config.ephemeral (k : Nat) : List Byte

/-- Whether a manifest's signature verifies with a maker-role certificate whose hash is its SIGNER (R680). -/
opaque Config.manifestVerifies (manifest : List Byte) : Bool

/-- The fabric protocol version that the package speaks (R402): the manual names MAJOR and MINOR and gives no value. -/
opaque Config.protoMajor : BitVec 8
opaque Config.protoMinor : BitVec 8

/-- The hash of R528 over addresses and ports of a frame to transmit, and of a queue pair's flow: the manual names no function. -/
opaque Config.flowHash (frame : List Byte) : Nat
opaque Config.flowHashQp (q : Nat) : Nat

/-- DETAIL of a journal entry about a shutdown, a trip or a failed start, and of the safe state (R676): the manual names the content and not
its coding. -/
opaque Config.journalCause (event cause : Nat) : List Byte

/-- A value that no rule states, for the occasions that have no constant of their own. -/
opaque Config.openValue (k : Nat) : Nat

/-- The fuse map of the maker (R569): whether a tile was found bad at manufacture. -/
opaque Config.fusedBad (tile : Nat) : Bool

/-- A calibration constant that MAKERDATA gives a channel (R322), by its payload and number: the manual gives the payload no layout. -/
opaque Config.calibration (payload : List Byte) (k : Nat) : Nat

/-- Where the steward loads the boot image in memory, which is where the boot core starts (R572): the manual gives no address. -/
opaque Config.bootAddress : Nat

/-- The bytes of the sealed settings that MEAS7 covers (R674): the manual gives the record no layout. -/
opaque Config.settingsBytes (settings : List (Nat × BitVec 32)) : List Byte

/-- Where the steward copies an image that it scans before its activation (R641, R685): the manual gives no address. -/
opaque Config.stagingAddress : Nat

end Sys2Proof
end

