-- ==== Sys2Proof/Machine/CheckValues.lean ====
section
/-! DEFINITION. The check values that messages, frames, records and images carry: the CRCs of R623 and the SM3 hash and HMAC-SM3 that
R330 and R665 name (log 5: the manual names SM3 and HMAC; their definitions are the standard's, GB/T 32905 and RFC 2104). -/

namespace Sys2Proof.Machine

/-- One byte into a reflected CRC register: `poly` is the reversed polynomial (R623, R624). -/
def crcReflStep (poly : Nat) : Nat → Nat → Nat
  | 0, r => r
  | k + 1, r => crcReflStep poly k (if r % 2 = 1 then Nat.xor (r / 2) poly else r / 2)

/-- One bit at a time into a CRC register of width `w`, most significant bit first (R623). -/
def crcStep (w poly : Nat) : Nat → Nat → Nat
  | 0, r => r
  | k + 1, r =>
    crcStep w poly k (if r / 2 ^ (w - 1) % 2 = 1 then Nat.xor (r * 2 % 2 ^ w) poly else r * 2 % 2 ^ w)

/-- One byte fed to the register of algorithm `alg` (R623, R628). -/
def crcFeed (alg : Nat) (r : Nat) (b : Byte) : Nat :=
  match alg with
  | 0 => crcReflStep 0x82F63B78 8 (Nat.xor r b.toNat)
  | 1 => crcReflStep 0xEDB88320 8 (Nat.xor r b.toNat)
  | 2 => crcReflStep 0xC96C5795D7870F42 8 (Nat.xor r b.toNat)
  | 3 => crcStep 16 0x1021 8 (Nat.xor r (b.toNat * 2 ^ 8))
  | _ => crcStep 8 0x2F 8 (Nat.xor r b.toNat)

/-- The initial value and the final XOR of an algorithm (R623). -/
def crcInit (alg : Nat) : Nat :=
  match alg with
  | 2 => 0xFFFFFFFFFFFFFFFF | 3 => 0xFFFF | 4 => 0xFF | _ => 0xFFFFFFFF
def crcXor (alg : Nat) : Nat :=
  match alg with
  | 2 => 0xFFFFFFFFFFFFFFFF | 3 => 0 | 4 => 0xFF | _ => 0xFFFFFFFF

/-- The check value of a byte list (R624). -/
def crc (alg : Nat) (bs : List Byte) : Nat := Nat.xor (bs.foldl (crcFeed alg) (crcInit alg)) (crcXor alg)

/-- CRC-32C, the check of every management message and on-die frame (R330, R378). -/
def crc32c (bs : List Byte) : Nat := crc 0 bs

/-! ### SM3 -/

def rotl32 (x k : Nat) : Nat := (x * 2 ^ (k % 32) + x / 2 ^ (32 - k % 32)) % 2 ^ 32

def sm3P0 (x : Nat) : Nat := Nat.xor (Nat.xor x (rotl32 x 9)) (rotl32 x 17)
def sm3P1 (x : Nat) : Nat := Nat.xor (Nat.xor x (rotl32 x 15)) (rotl32 x 23)

/-- The eight chaining words. -/
structure Sm3State where
  a : Nat
  b : Nat
  c : Nat
  d : Nat
  e : Nat
  f : Nat
  g : Nat
  h : Nat
  deriving DecidableEq, Repr

def sm3Init : Sm3State :=
  ⟨0x7380166f, 0x4914b2b9, 0x172442d7, 0xda8a0600, 0xa96f30bc, 0x163138aa, 0xe38dee4d, 0xb0fb0e4e⟩

/-- Message expansion: the words so far, newest first, get `k` more. -/
def sm3Expand : Nat → List Nat → List Nat
  | 0, ws => ws
  | k + 1, ws =>
    let w (i : Nat) := ws.getD (i - 1) 0
    sm3Expand k (Nat.xor (Nat.xor (sm3P1 (Nat.xor (Nat.xor (w 16) (w 9)) (rotl32 (w 3) 15))) (rotl32 (w 13) 7)) (w 6) :: ws)

/-- One round with index `j`, message word `w` and the word four on `w4`. -/
def sm3Round (s : Sm3State) (j w w4 : Nat) : Sm3State :=
  let t := if j < 16 then 0x79cc4519 else 0x7a879d8a
  let ss1 := rotl32 ((rotl32 s.a 12 + s.e + rotl32 t j) % 2 ^ 32) 7
  let ss2 := Nat.xor ss1 (rotl32 s.a 12)
  let ff := if j < 16 then Nat.xor (Nat.xor s.a s.b) s.c
    else Nat.lor (Nat.lor (Nat.land s.a s.b) (Nat.land s.a s.c)) (Nat.land s.b s.c)
  let gg := if j < 16 then Nat.xor (Nat.xor s.e s.f) s.g
    else Nat.lor (Nat.land s.e s.f) (Nat.land (2 ^ 32 - 1 - s.e) s.g)
  let tt1 := (ff + s.d + ss2 + Nat.xor w w4) % 2 ^ 32
  let tt2 := (gg + s.h + ss1 + w) % 2 ^ 32
  ⟨tt1, s.a, rotl32 s.b 9, s.c, sm3P0 tt2, s.e, rotl32 s.f 19, s.g⟩

/-- The 64 rounds over the expanded words, oldest first. -/
def sm3Rounds : Nat → Nat → List Nat → Sm3State → Sm3State
  | 0, _, _, s => s
  | k + 1, j, ws, s => sm3Rounds k (j + 1) (ws.drop 1) (sm3Round s j (ws.getD 0 0) (ws.getD 4 0))

/-- One 64-byte block. -/
def sm3Block (s : Sm3State) (blk : List Byte) : Sm3State :=
  let w := (List.range 16).map (fun i => beAt blk (4 * i) 4)
  let ws := (sm3Expand 52 w.reverse).reverse
  let t := sm3Rounds 64 0 ws s
  ⟨Nat.xor s.a t.a, Nat.xor s.b t.b, Nat.xor s.c t.c, Nat.xor s.d t.d, Nat.xor s.e t.e, Nat.xor s.f t.f, Nat.xor s.g t.g,
    Nat.xor s.h t.h⟩

def sm3Blocks : Nat → List Byte → Sm3State → Sm3State
  | 0, _, s => s
  | k + 1, bs, s => sm3Blocks k (bs.drop 64) (sm3Block s (bs.take 64))

/-- The message with the standard's padding. -/
def sm3Pad (bs : List Byte) : List Byte :=
  let z := (119 - bs.length % 64) % 64
  bs ++ [0x80#8] ++ List.replicate z 0#8 ++ beBytes 8 (8 * bs.length)

/-- The SM3 hash, 32 bytes. -/
def sm3 (bs : List Byte) : List Byte :=
  let p := sm3Pad bs
  let s := sm3Blocks (p.length / 64) p sm3Init
  beBytes 4 s.a ++ beBytes 4 s.b ++ beBytes 4 s.c ++ beBytes 4 s.d ++ beBytes 4 s.e ++ beBytes 4 s.f ++ beBytes 4 s.g ++
    beBytes 4 s.h

/-- HMAC-SM3 with a 64-byte block. -/
def hmacSm3 (key bs : List Byte) : List Byte :=
  let k := if key.length ≤ 64 then key else sm3 key
  let k := k ++ List.replicate (64 - k.length) 0#8
  sm3 (k.map (fun b => b ^^^ 0x5c#8) ++ sm3 (k.map (fun b => b ^^^ 0x36#8) ++ bs))

end Sys2Proof.Machine
end

