-- ==== Sys2Proof/Registers.lean ====
section
/-! DEFINITION. The names of every register the spec gives the package, and of every named field of a register that is not one
whole word. The names, bit ranges and places are those of the register tables of spec/01 to spec/21 (R5, R9). -/

namespace Sys2Proof.Machine

/-- Every register of the package, by the manual's name. A register the manual repeats (per slot, per tile, per channel) is one name
with an index; `Reg.desc` gives its place. -/
inductive Reg where
  | TMB_PTIME_LO | TMB_PTIME_HI | TMB_STATUS | TMB_OFFSET | TMB_TOD_LO | TMB_TOD_HI | TMB_STEPS
  | TMB_PPS_MISS | TMB_ERR | CVN_CAPS | CVN_LIVE | CVN_STALE_BALES | CVN_ERR | CVN_SLOT
  | CVN_SLOT_FLIGHT | CVN_SLOT_DONE | CVN_SLOT_THRESH | CVN_SLOT_ABORTED | CVN_SLOT_ERR
  | CVN_SLOT_HOPDROP | CVN_SLOT_TOLL | CVN_SLOT_DEBT | CVN_SLOT_LATE | CVN_SLOT_SHORT
  | CVN_SLOT_RING_WR | CVN_SLOT_RING_RD | CVN_SLOT_EVENT | CVN_SLOT_EVENT_EN | TILE_ID | TILE_STATE
  | TILE_PC | TILE_EXC | TILE_EXC_ADDR_LO | TILE_EXC_ADDR_HI | TILE_FLAGS | TILE_SEED_LO
  | TILE_SEED_HI | TILE_EVENT | TILE_NOTE | TILE_TIMER_LO | TILE_TIMER_HI | TILE_MXSB | TILE_MVSTAT
  | TILE_INBOX | TILE_NEXT | TILE_ERR | TILE_ECC | TILE_NOTEDROP | TILE_MW | FO_CTL | FO_CAP
  | FO_EXITS | FO_STALEWIN | FO_SENT | FO_DROP | MEM_CAPS | MEM_STATUS | MEM_ERR
  | MEM_SEAL_VIOLATION | MEM_SCRUB | MEM_SCRUB_PASS | MEM_ERRLOG_LO | MEM_ERRLOG_HI
  | MEM_ERRLOG_INFO | MEM_STK | MEM_RGN_BASE | MEM_RGN_SIZE | MEM_RGN_CTL | MEM_DEP_ERR | MEM_CH_CE
  | MEM_CH_UE | MEM_CH_POISRD | MEM_CH_STAT | MTR_STAT | MTR_P | MTR_V | MTR_I | MTR_TS_LO
  | MTR_TS_HI | MTR_NSAMP | MTR_RSTAT | MTR_E_LO | MTR_E_HI | MTR_ELIFE_LO | MTR_ELIFE_HI
  | MTR_SNAP_E_LO | MTR_SNAP_E_HI | MTR_SNAP_T_LO | MTR_SNAP_T_HI | MTR_SNAP_SEQ | MTR_SNAP_STAT
  | MTR_GAP_T_LO | MTR_GAP_T_HI | MTR_ESTK | MTR_NEG | MTR_XDIFF | MTR_ESTJUMP | MTR_EFF | MTR_RAIL
  | MTR_CAL | MTR_SETTLE | MTR_ACC_CTL | MTR_ACC_EA_LO | MTR_ACC_EA_HI | MTR_ACC_EB_LO
  | MTR_ACC_EB_HI | MTR_ERR | MTR_SEAL_VIOLATION | GOV_STATE | GOV_TARGET | GOV_DEMAND | GOV_EST
  | GOV_MET | GOV_ACT | GOV_MWSTAT | GOV_SEQ | GOV_ALIVE | GOV_SHORT_OVER_LO | GOV_SHORT_OVER_HI
  | GOV_SHORT_UNDER_LO | GOV_SHORT_UNDER_HI | GOV_STALE | GOV_CRC | GOV_REFUSED | GOV_HOLDEXP
  | GOV_DIPS | GOV_DROOP | GOV_FRSTALE | GOV_SAFE | GOV_SLEW | GOV_BUDLIM | GOV_DIP | GOV_MW
  | GOV_FR_CTL | GOV_FR_PT | GOV_LAW | GOV_ERR | GOV_SEAL_VIOLATION | PWW_STATE | PWW_TARGET
  | PWW_MET | PWW_FLOOR | PWW_RATED | PWW_E_LO | PWW_E_HI | PWW_SNAP_E_LO | PWW_SNAP_E_HI
  | PWW_SNAP_T_LO | PWW_SNAP_T_HI | PWW_SHORT_OVER_LO | PWW_SHORT_OVER_HI | PWW_SHORT_UNDER_LO
  | PWW_SHORT_UNDER_HI | PWW_SNAP_SEQ | PWW_SNAP_STAT | PWW_SURE | PWW_CVN_P | OST_STAT
  | OST_CLAIM_A | OST_CLAIM_B | OST_OUT | OST_CFG | OST_CMD | OST_SWITCHES | OST_LASTSW_LO
  | OST_LASTSW_HI | OST_LASTSW_INFO | OST_DISAGREE | OST_MCRC | OST_MGAP | OST_ORPHAN | OST_IGNORED
  | OST_ERR | OST_SEAL_VIOLATION | FPT_CTL | FPT_MAP | FPT_STAT | FPT_PEER_SERIAL_LO
  | FPT_PEER_SERIAL_HI | FPT_PEER_COORD | FPT_PEER_FW | FPT_PEER_PROTO | FPT_HELLO_T_LO
  | FPT_HELLO_T_HI | FPT_EVENT | FPT_EVENT_EN | FPT_REPLAY | FPT_UNCORR | FPT_HELLOFAIL
  | FPT_STALEHELLO | FPT_TRAINS | FPT_DEPARTS | FPT_LERR | FPT_LWIN_LO | FPT_LWIN_HI | FPT_LANE_ST
  | FPT_ERR | FPT_GERR | FPT_COORD | FPT_MACHINE | FPT_THRESH | FPT_AUDIT | FPT_TWIST | FPT_DIM
  | FRT_CFG | FRT_STAT | FRT_WEIGHT | FRT_AVOID | FRT_DRAIN | FRT_CMAP_CTL | FRT_CMAP_DST
  | FRT_CMAP | FRT_NOTICE | FRT_C0DEMOTE | FRT_C0OVERSIZE | FRT_HOPDROP | FRT_HCRC | FRT_PCRC
  | FRT_UNREACH | FRT_MCLOST | FRT_HANDBACK | FRT_DETOUR | FRT_NOTICES | FRT_SLICEVIOL | FRT_ERR
  | SQ_RING_LO | SQ_RING_HI | SQ_PRODA_LO | SQ_PRODA_HI | SQ_DONEA_LO | SQ_DONEA_HI | SQ_CTL
  | SQ_SLICE | SQ_CONS | SQ_DONE | SQ_REFUSED | RQ_RING_LO | RQ_RING_HI | RQ_COUNTA_LO
  | RQ_COUNTA_HI | RQ_CONSA_LO | RQ_CONSA_HI | RQ_CTL | RQ_NOTE | RQ_COUNT | RQ_DROP | MST_CAPS
  | MST_NOGROUP | MST_STRAY | MST_ERR | MG_CTL | MG_GROUP | MG_LEADER | MG_MASK | MG_LINE_LO
  | MG_LINE_HI | MG_NOTE | MG_SEQ | MG_STAT | MG_FAULT | MG_TREE | MG_HASH_LO | MG_HASH_HI
  | MG_COMMITS | MG_ABORTS | MG_BADWORD | IC_CAPS | IC_ERR | IC_PEND | IC_SRC | IC_CLAIM | IC_SVC
  | IC_MOD | IC_STAT | IC_SWI_SET | IC_SWI_CLR | IC_VBASE_LO | IC_VBASE_HI | IC_MTIMECMP_LO
  | IC_MTIMECMP_HI | IC_MODDLY | IC_PSRC | ETH_PCTL | ETH_PSTAT | ETH_EVENT | ETH_EVENT_EN
  | ETH_RXFRM | ETH_TXFRM | ETH_RXDROP | ETH_FCS | ETH_PFCRX | ETH_PFCTX | ETH_NCTL | ETH_MAC_LO
  | ETH_MAC_HI | ETH_IP4 | ETH_IP6 | ETH_HTAB_LO | ETH_HTAB_HI | ETH_HOSTS | ETH_HOSTFULL
  | ETH_MIGR | ETH_RAWLOST | ETH_QPT_LO | ETH_QPT_HI | ETH_QPCMD | ETH_ANN | ETH_ERR
  | ETH_SEAL_VIOLATION | THM_STAT | THM_CAP | THM_INLET | THM_FLOW | THM_DP | THM_LIM | THM_TRIP
  | THM_CFG | THM_SENSFAIL | THM_DISAGREE | THM_CSTALE | THM_EVENT | THM_EVENT_EN | THM_SFAIL
  | THM_PAIR | THM_STK | THM_STEW | THM_OE | THM_HEAT | THM_HINT | THM_ERR | THM_SEAL_VIOLATION
  | IDT_PART | IDT_SERIAL_LO | IDT_SERIAL_HI | IDT_FW | IDT_MAC_A_LO | IDT_MAC_A_HI | IDT_MAC_B_LO
  | IDT_MAC_B_HI | IDT_BOOT | IDT_READY_T_LO | IDT_READY_T_HI | IDT_TILES | IDT_CORES | IDT_FP_GEN
  | IDT_WAVE | IDT_MEMCH | IDT_STEPT | IDT_GOOD | IDT_FP | RST_CMD | RST_PC_LO | RST_PC_HI
  | RST_CFG | RST_HANG | RST_SALV_CFG | RST_SALV_LO | RST_SALV_HI | RST_LOG_LO | RST_LOG_HI
  | RST_SALV_CTL | RST_LOG_CTL | RST_SALV_WR | RST_SALV_RD | RST_LOG_WR | RST_LOG_RD | RST_EVENT
  | RST_EVENT_EN | RST_HANGS | RST_RESETS | RST_ESCAL | RST_ABSORBED | RST_SALVLOST | RST_LOGLOST
  | RST_ERR | RST_SEAL_VIOLATION | RST_HREC | RST_DOM_TILE | RST_DOM_CLUSTER | RST_DOM_PART
  | RST_DOM_CORE | FCL_STAT | FCL_SAFE | FCL_FAULTN | FCL_EVENT | FCL_EVENT_EN | FCL_SAFE_T_LO
  | FCL_SAFE_T_HI | FCL_SAFEREP | FCL_PULSES | FCL_ERR | FCL_SEAL_VIOLATION | FCL_CLS | FCL_LST
  | FCL_CNT | FCL_WIN | CVU_CTL | CVU_CMD | CVU_CAPS | CVU_RUN_LO | CVU_RUN_HI | CVU_RESULT_LO
  | CVU_RESULT_HI | CVU_FEED8 | CVU_FEED16 | CVU_FEED32 | CVU_ALIVE | CVU_FOLD_LO | CVU_FOLD_HI
  | CVU_SCAN_ADDR_LO | CVU_SCAN_ADDR_HI | CVU_SCAN_LEN | CVU_SCAN_DONE | CVU_EXPECT_LO
  | CVU_EXPECT_HI | CVU_EVENT | CVU_EVENT_EN | CVU_ERR | CVU_OWN | PRF_CTL | PRF_TSEL | PRF_TTHR
  | PRF_TCHAIN | PRF_OVF | PRF_TOVF | PRF_EVENT | PRF_EVENT_EN | PRF_TALLY_BASE_LO
  | PRF_TALLY_BASE_HI | PRF_OUT_BASE_LO | PRF_OUT_BASE_HI | PRF_TALLY_CTL | PRF_TALLY_PER
  | PRF_TALLY_WR | PRF_TALLY_RD | PRF_OUT_WR | PRF_OUT_RD | PRF_TALLY_LOST | PRF_OUT_LOST
  | PRF_BWCTL | PRF_BW_SEQ | PRF_OUT_CTL | PRF_OUT_SEED | PRF_ERR | PRF_CNT_SEL | PRF_CNT | PRF_BW
  | PRF_TCNT | PRF_UV_CNT_LO | PRF_UV_CNT_HI | PRF_UV_HANDLE | SEC_STAT | SEC_STAGE | SEC_SVN
  | SEC_BADTAG | SEC_ROOT | SEC_MEAS | JNL_HEAD_LO | JNL_HEAD_HI | JNL_TAIL_LO | JNL_TAIL_HI
  | JNL_LOST | JNL_HASH | JNL_TAILHASH
  deriving DecidableEq, Repr

/-- A named field of a register: bits `hi` down to `lo` (R5). -/
structure Fld where
  reg : Reg
  hi : Nat
  lo : Nat
  deriving DecidableEq, Repr

abbrev F.TMB_STATUS_PPS_AGE : Fld := ⟨.TMB_STATUS, 15, 8⟩
abbrev F.TMB_STATUS_TOD_LOW : Fld := ⟨.TMB_STATUS, 4, 4⟩
abbrev F.TMB_STATUS_TOD_SET : Fld := ⟨.TMB_STATUS, 3, 3⟩
abbrev F.TMB_STATUS_TOD_ARMED : Fld := ⟨.TMB_STATUS, 2, 2⟩
abbrev F.TMB_STATUS_SYNC : Fld := ⟨.TMB_STATUS, 1, 0⟩
abbrev F.TMB_ERR_LAST : Fld := ⟨.TMB_ERR, 7, 0⟩
abbrev F.CVN_CAPS_MAX_INFLIGHT : Fld := ⟨.CVN_CAPS, 26, 16⟩
abbrev F.CVN_CAPS_MAX_LIVE : Fld := ⟨.CVN_CAPS, 6, 0⟩
abbrev F.CVN_LIVE_INFLIGHT : Fld := ⟨.CVN_LIVE, 23, 7⟩
abbrev F.CVN_LIVE_LIVE : Fld := ⟨.CVN_LIVE, 6, 0⟩
abbrev F.CVN_ERR_LAST : Fld := ⟨.CVN_ERR, 7, 0⟩
abbrev F.CVN_SLOT_GEN : Fld := ⟨.CVN_SLOT, 25, 16⟩
abbrev F.CVN_SLOT_STATE : Fld := ⟨.CVN_SLOT, 11, 8⟩
abbrev F.CVN_SLOT_SLOT : Fld := ⟨.CVN_SLOT, 5, 0⟩
abbrev F.CVN_SLOT_FLIGHT_INFLIGHT : Fld := ⟨.CVN_SLOT_FLIGHT, 26, 16⟩
abbrev F.CVN_SLOT_FLIGHT_QUEUED : Fld := ⟨.CVN_SLOT_FLIGHT, 4, 0⟩
abbrev F.CVN_SLOT_ERR_STATION : Fld := ⟨.CVN_SLOT_ERR, 25, 16⟩
abbrev F.CVN_SLOT_ERR_STATUS : Fld := ⟨.CVN_SLOT_ERR, 7, 0⟩
abbrev F.CVN_SLOT_TOLL_CLASS : Fld := ⟨.CVN_SLOT_TOLL, 16, 16⟩
abbrev F.CVN_SLOT_TOLL_TOLL : Fld := ⟨.CVN_SLOT_TOLL, 15, 0⟩
abbrev F.CVN_SLOT_EVENT_LATE : Fld := ⟨.CVN_SLOT_EVENT, 5, 5⟩
abbrev F.CVN_SLOT_EVENT_FAULT : Fld := ⟨.CVN_SLOT_EVENT, 4, 4⟩
abbrev F.CVN_SLOT_EVENT_ABORTED : Fld := ⟨.CVN_SLOT_EVENT, 3, 3⟩
abbrev F.CVN_SLOT_EVENT_LOADED : Fld := ⟨.CVN_SLOT_EVENT, 2, 2⟩
abbrev F.CVN_SLOT_EVENT_IDLE : Fld := ⟨.CVN_SLOT_EVENT, 1, 1⟩
abbrev F.CVN_SLOT_EVENT_DONE : Fld := ⟨.CVN_SLOT_EVENT, 0, 0⟩
abbrev F.CVN_SLOT_EVENT_EN_EN : Fld := ⟨.CVN_SLOT_EVENT_EN, 5, 0⟩
abbrev F.TILE_ID_X : Fld := ⟨.TILE_ID, 29, 25⟩
abbrev F.TILE_ID_Y : Fld := ⟨.TILE_ID, 24, 20⟩
abbrev F.TILE_ID_CLUSTER : Fld := ⟨.TILE_ID, 19, 15⟩
abbrev F.TILE_ID_TILE : Fld := ⟨.TILE_ID, 9, 0⟩
abbrev F.TILE_STATE_HANDLE : Fld := ⟨.TILE_STATE, 31, 16⟩
abbrev F.TILE_STATE_STATION : Fld := ⟨.TILE_STATE, 13, 4⟩
abbrev F.TILE_STATE_STATE : Fld := ⟨.TILE_STATE, 3, 0⟩
abbrev F.TILE_PC_PC : Fld := ⟨.TILE_PC, 15, 0⟩
abbrev F.TILE_EXC_PC : Fld := ⟨.TILE_EXC, 31, 16⟩
abbrev F.TILE_EXC_STATUS : Fld := ⟨.TILE_EXC, 15, 8⟩
abbrev F.TILE_EXC_CAUSE : Fld := ⟨.TILE_EXC, 7, 0⟩
abbrev F.TILE_FLAGS_POIS : Fld := ⟨.TILE_FLAGS, 5, 5⟩
abbrev F.TILE_FLAGS_XR : Fld := ⟨.TILE_FLAGS, 4, 4⟩
abbrev F.TILE_FLAGS_NV : Fld := ⟨.TILE_FLAGS, 3, 3⟩
abbrev F.TILE_FLAGS_OF : Fld := ⟨.TILE_FLAGS, 2, 2⟩
abbrev F.TILE_FLAGS_UF : Fld := ⟨.TILE_FLAGS, 1, 1⟩
abbrev F.TILE_FLAGS_NX : Fld := ⟨.TILE_FLAGS, 0, 0⟩
abbrev F.TILE_EVENT_EVENT : Fld := ⟨.TILE_EVENT, 5, 0⟩
abbrev F.TILE_MXSB_MODE1 : Fld := ⟨.TILE_MXSB, 11, 10⟩
abbrev F.TILE_MXSB_MODE0 : Fld := ⟨.TILE_MXSB, 9, 8⟩
abbrev F.TILE_MXSB_POIS1 : Fld := ⟨.TILE_MXSB, 7, 7⟩
abbrev F.TILE_MXSB_POIS0 : Fld := ⟨.TILE_MXSB, 6, 6⟩
abbrev F.TILE_MXSB_QUEUED : Fld := ⟨.TILE_MXSB, 5, 3⟩
abbrev F.TILE_MXSB_DRAIN_BUSY : Fld := ⟨.TILE_MXSB, 2, 2⟩
abbrev F.TILE_MXSB_ARRAY_BUSY : Fld := ⟨.TILE_MXSB, 1, 1⟩
abbrev F.TILE_MVSTAT_DONE : Fld := ⟨.TILE_MVSTAT, 31, 16⟩
abbrev F.TILE_MVSTAT_BUSY : Fld := ⟨.TILE_MVSTAT, 15, 0⟩
abbrev F.TILE_INBOX_VALID : Fld := ⟨.TILE_INBOX, 12, 12⟩
abbrev F.TILE_INBOX_OVERSIZE : Fld := ⟨.TILE_INBOX, 11, 11⟩
abbrev F.TILE_INBOX_FILLED : Fld := ⟨.TILE_INBOX, 7, 4⟩
abbrev F.TILE_INBOX_POSTED : Fld := ⟨.TILE_INBOX, 3, 0⟩
abbrev F.TILE_NEXT_NEXT_ODD : Fld := ⟨.TILE_NEXT, 31, 16⟩
abbrev F.TILE_NEXT_NEXT_EVEN : Fld := ⟨.TILE_NEXT, 15, 0⟩
abbrev F.TILE_ERR_LAST : Fld := ⟨.TILE_ERR, 7, 0⟩
abbrev F.TILE_MW_FILL : Fld := ⟨.TILE_MW, 4, 4⟩
abbrev F.TILE_MW_LEVEL : Fld := ⟨.TILE_MW, 3, 0⟩
abbrev F.FO_CTL_PSHIFT : Fld := ⟨.FO_CTL, 27, 24⟩
abbrev F.FO_CTL_TRUNC : Fld := ⟨.FO_CTL, 20, 20⟩
abbrev F.FO_CTL_EXIT : Fld := ⟨.FO_CTL, 19, 16⟩
abbrev F.FO_CTL_BYP : Fld := ⟨.FO_CTL, 15, 12⟩
abbrev F.FO_CTL_CAP_EN : Fld := ⟨.FO_CTL, 7, 0⟩
abbrev F.FO_CAP_CAP_ODD : Fld := ⟨.FO_CAP, 31, 16⟩
abbrev F.FO_CAP_CAP_EVEN : Fld := ⟨.FO_CAP, 15, 0⟩
abbrev F.MEM_CAPS_STACKS : Fld := ⟨.MEM_CAPS, 31, 24⟩
abbrev F.MEM_CAPS_REGIONS : Fld := ⟨.MEM_CAPS, 23, 16⟩
abbrev F.MEM_CAPS_CHANNELS : Fld := ⟨.MEM_CAPS, 9, 0⟩
abbrev F.MEM_STATUS_SEALED : Fld := ⟨.MEM_STATUS, 8, 8⟩
abbrev F.MEM_STATUS_RGN_STAT : Fld := ⟨.MEM_STATUS, 7, 0⟩
abbrev F.MEM_ERR_LAST : Fld := ⟨.MEM_ERR, 7, 0⟩
abbrev F.MEM_SCRUB_EN : Fld := ⟨.MEM_SCRUB, 8, 8⟩
abbrev F.MEM_SCRUB_PERIOD : Fld := ⟨.MEM_SCRUB, 7, 0⟩
abbrev F.MEM_ERRLOG_INFO_VALID : Fld := ⟨.MEM_ERRLOG_INFO, 31, 31⟩
abbrev F.MEM_ERRLOG_INFO_OVER : Fld := ⟨.MEM_ERRLOG_INFO, 30, 30⟩
abbrev F.MEM_ERRLOG_INFO_SRC : Fld := ⟨.MEM_ERRLOG_INFO, 25, 24⟩
abbrev F.MEM_ERRLOG_INFO_CHANNEL : Fld := ⟨.MEM_ERRLOG_INFO, 9, 0⟩
abbrev F.MEM_STK_SELFREF : Fld := ⟨.MEM_STK, 8, 8⟩
abbrev F.MEM_STK_BAND : Fld := ⟨.MEM_STK, 1, 0⟩
abbrev F.MEM_RGN_BASE_BASE : Fld := ⟨.MEM_RGN_BASE, 8, 0⟩
abbrev F.MEM_RGN_SIZE_SIZE : Fld := ⟨.MEM_RGN_SIZE, 15, 0⟩
abbrev F.MEM_RGN_CTL_GRAN : Fld := ⟨.MEM_RGN_CTL, 8, 8⟩
abbrev F.MEM_RGN_CTL_STACKS : Fld := ⟨.MEM_RGN_CTL, 7, 0⟩
abbrev F.MEM_DEP_ERR_UE : Fld := ⟨.MEM_DEP_ERR, 31, 16⟩
abbrev F.MEM_DEP_ERR_CE : Fld := ⟨.MEM_DEP_ERR, 15, 0⟩
abbrev F.MEM_CH_STAT_STATE : Fld := ⟨.MEM_CH_STAT, 1, 0⟩
abbrev F.MTR_STAT_CALDEF : Fld := ⟨.MTR_STAT, 7, 7⟩
abbrev F.MTR_STAT_KLIM : Fld := ⟨.MTR_STAT, 6, 6⟩
abbrev F.MTR_STAT_XDIFF : Fld := ⟨.MTR_STAT, 5, 5⟩
abbrev F.MTR_STAT_VRANGE : Fld := ⟨.MTR_STAT, 4, 4⟩
abbrev F.MTR_STAT_GAP : Fld := ⟨.MTR_STAT, 3, 3⟩
abbrev F.MTR_STAT_STATE : Fld := ⟨.MTR_STAT, 1, 0⟩
abbrev F.MTR_NSAMP_NSAMP : Fld := ⟨.MTR_NSAMP, 7, 4⟩
abbrev F.MTR_RSTAT_STATUS : Fld := ⟨.MTR_RSTAT, 7, 0⟩
abbrev F.MTR_SNAP_STAT_STATUS : Fld := ⟨.MTR_SNAP_STAT, 7, 0⟩
abbrev F.MTR_ESTK_K : Fld := ⟨.MTR_ESTK, 15, 0⟩
abbrev F.MTR_EFF_EFF : Fld := ⟨.MTR_EFF, 15, 0⟩
abbrev F.MTR_RAIL_CURRENT : Fld := ⟨.MTR_RAIL, 31, 16⟩
abbrev F.MTR_RAIL_VOLTAGE : Fld := ⟨.MTR_RAIL, 15, 0⟩
abbrev F.MTR_SETTLE_ACTIVE : Fld := ⟨.MTR_SETTLE, 8, 8⟩
abbrev F.MTR_SETTLE_CH : Fld := ⟨.MTR_SETTLE, 0, 0⟩
abbrev F.MTR_ACC_CTL_START : Fld := ⟨.MTR_ACC_CTL, 31, 31⟩
abbrev F.MTR_ACC_CTL_LEVEL : Fld := ⟨.MTR_ACC_CTL, 30, 24⟩
abbrev F.MTR_ACC_CTL_DURATION : Fld := ⟨.MTR_ACC_CTL, 23, 8⟩
abbrev F.MTR_ACC_CTL_STATUS : Fld := ⟨.MTR_ACC_CTL, 7, 0⟩
abbrev F.MTR_ERR_LAST : Fld := ⟨.MTR_ERR, 7, 0⟩
abbrev F.GOV_STATE_LAST : Fld := ⟨.GOV_STATE, 15, 8⟩
abbrev F.GOV_STATE_PARKED : Fld := ⟨.GOV_STATE, 7, 7⟩
abbrev F.GOV_STATE_FR : Fld := ⟨.GOV_STATE, 6, 6⟩
abbrev F.GOV_STATE_FIXED : Fld := ⟨.GOV_STATE, 5, 5⟩
abbrev F.GOV_STATE_FIXLOST : Fld := ⟨.GOV_STATE, 4, 4⟩
abbrev F.GOV_STATE_MODE : Fld := ⟨.GOV_STATE, 3, 0⟩
abbrev F.GOV_ACT_SOAK : Fld := ⟨.GOV_ACT, 31, 24⟩
abbrev F.GOV_ACT_VCORE : Fld := ⟨.GOV_ACT, 23, 16⟩
abbrev F.GOV_ACT_PACE : Fld := ⟨.GOV_ACT, 15, 8⟩
abbrev F.GOV_ACT_GATED : Fld := ⟨.GOV_ACT, 3, 0⟩
abbrev F.GOV_MWSTAT_BURN : Fld := ⟨.GOV_MWSTAT, 25, 16⟩
abbrev F.GOV_MWSTAT_FILL : Fld := ⟨.GOV_MWSTAT, 9, 0⟩
abbrev F.GOV_ALIVE_HOLD : Fld := ⟨.GOV_ALIVE, 31, 16⟩
abbrev F.GOV_ALIVE_ALIVE : Fld := ⟨.GOV_ALIVE, 15, 0⟩
abbrev F.GOV_SAFE_SAFE : Fld := ⟨.GOV_SAFE, 15, 0⟩
abbrev F.GOV_SLEW_UP : Fld := ⟨.GOV_SLEW, 31, 16⟩
abbrev F.GOV_SLEW_DN : Fld := ⟨.GOV_SLEW, 15, 0⟩
abbrev F.GOV_BUDLIM_MAX : Fld := ⟨.GOV_BUDLIM, 31, 16⟩
abbrev F.GOV_BUDLIM_MIN : Fld := ⟨.GOV_BUDLIM, 15, 0⟩
abbrev F.GOV_DIP_LEVEL : Fld := ⟨.GOV_DIP, 22, 16⟩
abbrev F.GOV_DIP_DSLEW : Fld := ⟨.GOV_DIP, 15, 0⟩
abbrev F.GOV_MW_HOLDUP : Fld := ⟨.GOV_MW, 31, 31⟩
abbrev F.GOV_MW_BALLAST : Fld := ⟨.GOV_MW, 15, 0⟩
abbrev F.GOV_FR_CTL_EN : Fld := ⟨.GOV_FR_CTL, 31, 31⟩
abbrev F.GOV_FR_CTL_AGE : Fld := ⟨.GOV_FR_CTL, 23, 16⟩
abbrev F.GOV_FR_CTL_NPTS : Fld := ⟨.GOV_FR_CTL, 11, 8⟩
abbrev F.GOV_FR_CTL_NOM : Fld := ⟨.GOV_FR_CTL, 0, 0⟩
abbrev F.GOV_FR_PT_DF : Fld := ⟨.GOV_FR_PT, 31, 16⟩
abbrev F.GOV_FR_PT_DP : Fld := ⟨.GOV_FR_PT, 15, 0⟩
abbrev F.GOV_LAW_KP : Fld := ⟨.GOV_LAW, 31, 24⟩
abbrev F.GOV_LAW_KI : Fld := ⟨.GOV_LAW, 23, 16⟩
abbrev F.GOV_LAW_IMAX : Fld := ⟨.GOV_LAW, 15, 0⟩
abbrev F.GOV_ERR_LAST : Fld := ⟨.GOV_ERR, 7, 0⟩
abbrev F.PWW_STATE_GOVB : Fld := ⟨.PWW_STATE, 31, 31⟩
abbrev F.PWW_STATE_STATE : Fld := ⟨.PWW_STATE, 30, 0⟩
abbrev F.PWW_RATED_CEILING : Fld := ⟨.PWW_RATED, 31, 16⟩
abbrev F.PWW_RATED_RATED : Fld := ⟨.PWW_RATED, 15, 0⟩
abbrev F.PWW_SNAP_STAT_STATUS : Fld := ⟨.PWW_SNAP_STAT, 7, 0⟩
abbrev F.PWW_SURE_CODE3 : Fld := ⟨.PWW_SURE, 31, 24⟩
abbrev F.PWW_SURE_CODE2 : Fld := ⟨.PWW_SURE, 23, 16⟩
abbrev F.PWW_SURE_CODE1 : Fld := ⟨.PWW_SURE, 15, 8⟩
abbrev F.PWW_SURE_CODE0 : Fld := ⟨.PWW_SURE, 7, 0⟩
abbrev F.PWW_CVN_P_POWER : Fld := ⟨.PWW_CVN_P, 15, 0⟩
abbrev F.OST_STAT_SHUTDOWN : Fld := ⟨.OST_STAT, 11, 11⟩
abbrev F.OST_STAT_ORPHAN : Fld := ⟨.OST_STAT, 10, 10⟩
abbrev F.OST_STAT_DISAGREE : Fld := ⟨.OST_STAT, 9, 9⟩
abbrev F.OST_STAT_ACTIVE : Fld := ⟨.OST_STAT, 8, 8⟩
abbrev F.OST_STAT_B_STATE : Fld := ⟨.OST_STAT, 6, 4⟩
abbrev F.OST_STAT_A_STATE : Fld := ⟨.OST_STAT, 2, 0⟩
abbrev F.OST_OUT_SOAK : Fld := ⟨.OST_OUT, 31, 24⟩
abbrev F.OST_OUT_VCORE : Fld := ⟨.OST_OUT, 23, 16⟩
abbrev F.OST_OUT_PACE : Fld := ⟨.OST_OUT, 15, 8⟩
abbrev F.OST_OUT_HOLD : Fld := ⟨.OST_OUT, 4, 4⟩
abbrev F.OST_OUT_GATED : Fld := ⟨.OST_OUT, 3, 0⟩
abbrev F.OST_CFG_REVERT : Fld := ⟨.OST_CFG, 15, 8⟩
abbrev F.OST_CFG_QUALT : Fld := ⟨.OST_CFG, 7, 0⟩
abbrev F.OST_CMD_RESET_B : Fld := ⟨.OST_CMD, 10, 10⟩
abbrev F.OST_CMD_RESET_A : Fld := ⟨.OST_CMD, 9, 9⟩
abbrev F.OST_CMD_SWAP : Fld := ⟨.OST_CMD, 8, 8⟩
abbrev F.OST_CMD_STATUS : Fld := ⟨.OST_CMD, 7, 0⟩
abbrev F.OST_LASTSW_INFO_TO_B : Fld := ⟨.OST_LASTSW_INFO, 16, 16⟩
abbrev F.OST_LASTSW_INFO_HOLD : Fld := ⟨.OST_LASTSW_INFO, 15, 8⟩
abbrev F.OST_LASTSW_INFO_CAUSE : Fld := ⟨.OST_LASTSW_INFO, 2, 0⟩
abbrev F.OST_ERR_LAST : Fld := ⟨.OST_ERR, 7, 0⟩
abbrev F.FPT_CTL_RETRAIN : Fld := ⟨.FPT_CTL, 8, 8⟩
abbrev F.FPT_CTL_ADMIN : Fld := ⟨.FPT_CTL, 0, 0⟩
abbrev F.FPT_MAP_ROLE : Fld := ⟨.FPT_MAP, 9, 8⟩
abbrev F.FPT_MAP_DIM : Fld := ⟨.FPT_MAP, 4, 0⟩
abbrev F.FPT_STAT_REASON : Fld := ⟨.FPT_STAT, 31, 28⟩
abbrev F.FPT_STAT_STATE : Fld := ⟨.FPT_STAT, 27, 24⟩
abbrev F.FPT_STAT_RXMASK : Fld := ⟨.FPT_STAT, 23, 16⟩
abbrev F.FPT_STAT_TXMASK : Fld := ⟨.FPT_STAT, 15, 8⟩
abbrev F.FPT_STAT_STATUS : Fld := ⟨.FPT_STAT, 7, 0⟩
abbrev F.FPT_PEER_COORD_PORT : Fld := ⟨.FPT_PEER_COORD, 27, 23⟩
abbrev F.FPT_PEER_COORD_DIM : Fld := ⟨.FPT_PEER_COORD, 22, 18⟩
abbrev F.FPT_PEER_COORD_COORD : Fld := ⟨.FPT_PEER_COORD, 17, 0⟩
abbrev F.FPT_PEER_PROTO_PEER_MAJOR : Fld := ⟨.FPT_PEER_PROTO, 15, 8⟩
abbrev F.FPT_PEER_PROTO_MINOR_USED : Fld := ⟨.FPT_PEER_PROTO, 7, 0⟩
abbrev F.FPT_EVENT_FAIL : Fld := ⟨.FPT_EVENT, 5, 5⟩
abbrev F.FPT_EVENT_AUDIT : Fld := ⟨.FPT_EVENT, 4, 4⟩
abbrev F.FPT_EVENT_TAKEOVER : Fld := ⟨.FPT_EVENT, 3, 3⟩
abbrev F.FPT_EVENT_QUAR : Fld := ⟨.FPT_EVENT, 2, 2⟩
abbrev F.FPT_EVENT_DEPART : Fld := ⟨.FPT_EVENT, 1, 1⟩
abbrev F.FPT_EVENT_ARRIVE : Fld := ⟨.FPT_EVENT, 0, 0⟩
abbrev F.FPT_EVENT_EN_EN : Fld := ⟨.FPT_EVENT_EN, 5, 0⟩
abbrev F.FPT_LANE_ST_FAILMASK : Fld := ⟨.FPT_LANE_ST, 15, 8⟩
abbrev F.FPT_LANE_ST_SIGNAL : Fld := ⟨.FPT_LANE_ST, 7, 0⟩
abbrev F.FPT_ERR_LAST : Fld := ⟨.FPT_ERR, 7, 0⟩
abbrev F.FPT_GERR_LAST : Fld := ⟨.FPT_GERR, 7, 0⟩
abbrev F.FPT_COORD_SET : Fld := ⟨.FPT_COORD, 31, 31⟩
abbrev F.FPT_COORD_COORD : Fld := ⟨.FPT_COORD, 17, 0⟩
abbrev F.FPT_THRESH_AUDIT_EXP : Fld := ⟨.FPT_THRESH, 15, 8⟩
abbrev F.FPT_THRESH_CHECK_EXP : Fld := ⟨.FPT_THRESH, 7, 0⟩
abbrev F.FPT_AUDIT_UNCORR_MAX : Fld := ⟨.FPT_AUDIT, 23, 16⟩
abbrev F.FPT_AUDIT_PERIOD : Fld := ⟨.FPT_AUDIT, 15, 0⟩
abbrev F.FPT_TWIST_E : Fld := ⟨.FPT_TWIST, 17, 0⟩
abbrev F.FPT_DIM_GUARD : Fld := ⟨.FPT_DIM, 12, 8⟩
abbrev F.FPT_DIM_CARRY : Fld := ⟨.FPT_DIM, 4, 0⟩
abbrev F.FRT_CFG_MAXDET : Fld := ⟨.FRT_CFG, 3, 0⟩
abbrev F.FRT_STAT_TOPO : Fld := ⟨.FRT_STAT, 1, 0⟩
abbrev F.FRT_WEIGHT_C1 : Fld := ⟨.FRT_WEIGHT, 23, 16⟩
abbrev F.FRT_WEIGHT_C2 : Fld := ⟨.FRT_WEIGHT, 15, 8⟩
abbrev F.FRT_WEIGHT_C3 : Fld := ⟨.FRT_WEIGHT, 7, 0⟩
abbrev F.FRT_AVOID_PORTS : Fld := ⟨.FRT_AVOID, 19, 0⟩
abbrev F.FRT_DRAIN_PORTS : Fld := ⟨.FRT_DRAIN, 19, 0⟩
abbrev F.FRT_CMAP_CTL_EN : Fld := ⟨.FRT_CMAP_CTL, 31, 31⟩
abbrev F.FRT_CMAP_CTL_RQ : Fld := ⟨.FRT_CMAP_CTL, 21, 16⟩
abbrev F.FRT_CMAP_CTL_PERIOD : Fld := ⟨.FRT_CMAP_CTL, 7, 0⟩
abbrev F.FRT_CMAP_DST_COORD : Fld := ⟨.FRT_CMAP_DST, 17, 0⟩
abbrev F.FRT_NOTICE_RQ : Fld := ⟨.FRT_NOTICE, 5, 0⟩
abbrev F.FRT_ERR_LAST : Fld := ⟨.FRT_ERR, 7, 0⟩
abbrev F.SQ_CTL_EN : Fld := ⟨.SQ_CTL, 31, 31⟩
abbrev F.SQ_CTL_ORDER : Fld := ⟨.SQ_CTL, 11, 8⟩
abbrev F.SQ_CTL_CLASSMAX : Fld := ⟨.SQ_CTL, 1, 0⟩
abbrev F.SQ_SLICE_MASK : Fld := ⟨.SQ_SLICE, 17, 0⟩
abbrev F.RQ_CTL_EN : Fld := ⟨.RQ_CTL, 31, 31⟩
abbrev F.RQ_CTL_PEND : Fld := ⟨.RQ_CTL, 30, 30⟩
abbrev F.RQ_CTL_IRQ_CORE : Fld := ⟨.RQ_CTL, 23, 16⟩
abbrev F.RQ_CTL_ORDER : Fld := ⟨.RQ_CTL, 11, 8⟩
abbrev F.RQ_CTL_SLOT : Fld := ⟨.RQ_CTL, 1, 0⟩
abbrev F.RQ_NOTE_TILE : Fld := ⟨.RQ_NOTE, 15, 0⟩
abbrev F.MST_CAPS_SLOTS : Fld := ⟨.MST_CAPS, 6, 0⟩
abbrev F.MST_ERR_LAST : Fld := ⟨.MST_ERR, 7, 0⟩
abbrev F.MG_CTL_EN : Fld := ⟨.MG_CTL, 31, 31⟩
abbrev F.MG_CTL_PEND : Fld := ⟨.MG_CTL, 30, 30⟩
abbrev F.MG_CTL_IRQ_CORE : Fld := ⟨.MG_CTL, 23, 16⟩
abbrev F.MG_CTL_GRACE : Fld := ⟨.MG_CTL, 15, 8⟩
abbrev F.MG_LEADER_VALUE : Fld := ⟨.MG_LEADER, 17, 0⟩
abbrev F.MG_MASK_VALUE : Fld := ⟨.MG_MASK, 17, 0⟩
abbrev F.MG_NOTE_TILE : Fld := ⟨.MG_NOTE, 15, 0⟩
abbrev F.MG_STAT_OUTCOME : Fld := ⟨.MG_STAT, 23, 16⟩
abbrev F.MG_STAT_LAST : Fld := ⟨.MG_STAT, 15, 8⟩
abbrev F.MG_STAT_BROKEN : Fld := ⟨.MG_STAT, 7, 7⟩
abbrev F.MG_STAT_PHASE : Fld := ⟨.MG_STAT, 3, 0⟩
abbrev F.MG_FAULT_STATUS : Fld := ⟨.MG_FAULT, 31, 24⟩
abbrev F.MG_FAULT_COORD : Fld := ⟨.MG_FAULT, 17, 0⟩
abbrev F.MG_TREE_UPDIM : Fld := ⟨.MG_TREE, 28, 24⟩
abbrev F.MG_TREE_CHILDREN : Fld := ⟨.MG_TREE, 17, 0⟩
abbrev F.IC_CAPS_SOURCES : Fld := ⟨.IC_CAPS, 25, 16⟩
abbrev F.IC_CAPS_CORES : Fld := ⟨.IC_CAPS, 5, 0⟩
abbrev F.IC_ERR_LAST : Fld := ⟨.IC_ERR, 7, 0⟩
abbrev F.IC_SRC_EN : Fld := ⟨.IC_SRC, 31, 31⟩
abbrev F.IC_SRC_PEND : Fld := ⟨.IC_SRC, 30, 30⟩
abbrev F.IC_SRC_INSVC : Fld := ⟨.IC_SRC, 29, 29⟩
abbrev F.IC_SRC_CLASS : Fld := ⟨.IC_SRC, 28, 28⟩
abbrev F.IC_SRC_TARGET : Fld := ⟨.IC_SRC, 7, 0⟩
abbrev F.IC_CLAIM_SOURCE : Fld := ⟨.IC_CLAIM, 9, 0⟩
abbrev F.IC_SVC_SOURCE : Fld := ⟨.IC_SVC, 9, 0⟩
abbrev F.IC_MOD_GAP : Fld := ⟨.IC_MOD, 15, 0⟩
abbrev F.IC_STAT_UE : Fld := ⟨.IC_STAT, 5, 5⟩
abbrev F.IC_STAT_CE : Fld := ⟨.IC_STAT, 4, 4⟩
abbrev F.IC_STAT_VFAIL : Fld := ⟨.IC_STAT, 3, 3⟩
abbrev F.IC_STAT_IDLE : Fld := ⟨.IC_STAT, 2, 2⟩
abbrev F.IC_STAT_MEIP : Fld := ⟨.IC_STAT, 1, 1⟩
abbrev F.IC_STAT_SEIP : Fld := ⟨.IC_STAT, 0, 0⟩
abbrev F.IC_SWI_SET_PEND : Fld := ⟨.IC_SWI_SET, 0, 0⟩
abbrev F.IC_SWI_CLR_PEND : Fld := ⟨.IC_SWI_CLR, 0, 0⟩
abbrev F.IC_PSRC_EN : Fld := ⟨.IC_PSRC, 31, 31⟩
abbrev F.IC_PSRC_PEND : Fld := ⟨.IC_PSRC, 30, 30⟩
abbrev F.IC_PSRC_INSVC : Fld := ⟨.IC_PSRC, 29, 29⟩
abbrev F.IC_PSRC_CLASS : Fld := ⟨.IC_PSRC, 28, 28⟩
abbrev F.ETH_PCTL_RETRAIN : Fld := ⟨.ETH_PCTL, 8, 8⟩
abbrev F.ETH_PCTL_ADMIN : Fld := ⟨.ETH_PCTL, 0, 0⟩
abbrev F.ETH_PSTAT_STATE : Fld := ⟨.ETH_PSTAT, 27, 24⟩
abbrev F.ETH_PSTAT_PHY : Fld := ⟨.ETH_PSTAT, 23, 20⟩
abbrev F.ETH_PSTAT_LACP : Fld := ⟨.ETH_PSTAT, 19, 16⟩
abbrev F.ETH_PSTAT_STATUS : Fld := ⟨.ETH_PSTAT, 7, 0⟩
abbrev F.ETH_EVENT_EVENTS : Fld := ⟨.ETH_EVENT, 7, 0⟩
abbrev F.ETH_EVENT_EN_EVENTS : Fld := ⟨.ETH_EVENT_EN, 7, 0⟩
abbrev F.ETH_NCTL_EN : Fld := ⟨.ETH_NCTL, 31, 31⟩
abbrev F.ETH_NCTL_PCP : Fld := ⟨.ETH_NCTL, 30, 28⟩
abbrev F.ETH_NCTL_PFCMASK : Fld := ⟨.ETH_NCTL, 23, 16⟩
abbrev F.ETH_NCTL_VID : Fld := ⟨.ETH_NCTL, 11, 0⟩
abbrev F.ETH_QPCMD_OP : Fld := ⟨.ETH_QPCMD, 31, 28⟩
abbrev F.ETH_QPCMD_STATUS : Fld := ⟨.ETH_QPCMD, 27, 20⟩
abbrev F.ETH_QPCMD_QUEUE : Fld := ⟨.ETH_QPCMD, 11, 0⟩
abbrev F.ETH_ANN_EN : Fld := ⟨.ETH_ANN, 31, 31⟩
abbrev F.ETH_ANN_INTERVAL : Fld := ⟨.ETH_ANN, 15, 0⟩
abbrev F.ETH_ERR_LAST : Fld := ⟨.ETH_ERR, 7, 0⟩
abbrev F.THM_STAT_TRIPSRC : Fld := ⟨.THM_STAT, 31, 24⟩
abbrev F.THM_STAT_STATUS : Fld := ⟨.THM_STAT, 23, 16⟩
abbrev F.THM_STAT_TH : Fld := ⟨.THM_STAT, 15, 0⟩
abbrev F.THM_CAP_CAP_COOL : Fld := ⟨.THM_CAP, 31, 16⟩
abbrev F.THM_CAP_CAP_DIE : Fld := ⟨.THM_CAP, 15, 0⟩
abbrev F.THM_LIM_MAX : Fld := ⟨.THM_LIM, 15, 8⟩
abbrev F.THM_LIM_THROT : Fld := ⟨.THM_LIM, 7, 0⟩
abbrev F.THM_TRIP_OE : Fld := ⟨.THM_TRIP, 31, 24⟩
abbrev F.THM_TRIP_STEWARD : Fld := ⟨.THM_TRIP, 23, 16⟩
abbrev F.THM_TRIP_STACK : Fld := ⟨.THM_TRIP, 15, 8⟩
abbrev F.THM_TRIP_DIE : Fld := ⟨.THM_TRIP, 7, 0⟩
abbrev F.THM_CFG_NOMFLOW : Fld := ⟨.THM_CFG, 31, 24⟩
abbrev F.THM_CFG_NOFLOW : Fld := ⟨.THM_CFG, 23, 16⟩
abbrev F.THM_CFG_PAIRD : Fld := ⟨.THM_CFG, 15, 12⟩
abbrev F.THM_CFG_TAU : Fld := ⟨.THM_CFG, 11, 8⟩
abbrev F.THM_CFG_CAGE : Fld := ⟨.THM_CFG, 7, 0⟩
abbrev F.THM_EVENT_EVENTS : Fld := ⟨.THM_EVENT, 3, 0⟩
abbrev F.THM_EVENT_EN_EVENTS : Fld := ⟨.THM_EVENT_EN, 3, 0⟩
abbrev F.THM_PAIR_S1 : Fld := ⟨.THM_PAIR, 31, 16⟩
abbrev F.THM_PAIR_S0 : Fld := ⟨.THM_PAIR, 15, 0⟩
abbrev F.THM_STK_TEMP : Fld := ⟨.THM_STK, 31, 16⟩
abbrev F.THM_STK_FAILS : Fld := ⟨.THM_STK, 12, 8⟩
abbrev F.THM_STK_DIE : Fld := ⟨.THM_STK, 4, 0⟩
abbrev F.THM_STEW_TEMP : Fld := ⟨.THM_STEW, 15, 0⟩
abbrev F.THM_OE_TEMP : Fld := ⟨.THM_OE, 15, 0⟩
abbrev F.THM_HEAT_HEAT : Fld := ⟨.THM_HEAT, 15, 0⟩
abbrev F.THM_ERR_LAST : Fld := ⟨.THM_ERR, 7, 0⟩
abbrev F.IDT_PART_PART : Fld := ⟨.IDT_PART, 31, 16⟩
abbrev F.IDT_PART_STEPPING : Fld := ⟨.IDT_PART, 15, 8⟩
abbrev F.IDT_PART_VARIANT : Fld := ⟨.IDT_PART, 1, 0⟩
abbrev F.IDT_BOOT_READY : Fld := ⟨.IDT_BOOT, 31, 31⟩
abbrev F.IDT_BOOT_FULLTRAIN : Fld := ⟨.IDT_BOOT, 30, 30⟩
abbrev F.IDT_BOOT_FAILED : Fld := ⟨.IDT_BOOT, 29, 29⟩
abbrev F.IDT_BOOT_STATUS : Fld := ⟨.IDT_BOOT, 23, 16⟩
abbrev F.IDT_BOOT_STEP : Fld := ⟨.IDT_BOOT, 3, 0⟩
abbrev F.IDT_TILES_GOOD : Fld := ⟨.IDT_TILES, 25, 16⟩
abbrev F.IDT_TILES_MARGINAL : Fld := ⟨.IDT_TILES, 9, 0⟩
abbrev F.IDT_WAVE_DPC : Fld := ⟨.IDT_WAVE, 31, 24⟩
abbrev F.IDT_WAVE_PER : Fld := ⟨.IDT_WAVE, 23, 16⟩
abbrev F.IDT_WAVE_WAVES : Fld := ⟨.IDT_WAVE, 7, 0⟩
abbrev F.IDT_MEMCH_FAILED : Fld := ⟨.IDT_MEMCH, 25, 16⟩
abbrev F.IDT_MEMCH_FULL : Fld := ⟨.IDT_MEMCH, 9, 0⟩
abbrev F.RST_CMD_LEVEL : Fld := ⟨.RST_CMD, 31, 28⟩
abbrev F.RST_CMD_ACTION : Fld := ⟨.RST_CMD, 27, 26⟩
abbrev F.RST_CMD_STATUS : Fld := ⟨.RST_CMD, 23, 16⟩
abbrev F.RST_CMD_INDEX : Fld := ⟨.RST_CMD, 9, 0⟩
abbrev F.RST_CFG_DRAIN : Fld := ⟨.RST_CFG, 31, 24⟩
abbrev F.RST_CFG_REPEAT : Fld := ⟨.RST_CFG, 23, 20⟩
abbrev F.RST_CFG_WINDOW : Fld := ⟨.RST_CFG, 15, 0⟩
abbrev F.RST_HANG_AUTO : Fld := ⟨.RST_HANG, 31, 26⟩
abbrev F.RST_HANG_REQ : Fld := ⟨.RST_HANG, 23, 18⟩
abbrev F.RST_HANG_CVN : Fld := ⟨.RST_HANG, 17, 12⟩
abbrev F.RST_HANG_CORE : Fld := ⟨.RST_HANG, 11, 6⟩
abbrev F.RST_HANG_TILE : Fld := ⟨.RST_HANG, 5, 0⟩
abbrev F.RST_SALV_CFG_OFFSET : Fld := ⟨.RST_SALV_CFG, 28, 16⟩
abbrev F.RST_SALV_CFG_LEN : Fld := ⟨.RST_SALV_CFG, 6, 0⟩
abbrev F.RST_SALV_CTL_ORDER : Fld := ⟨.RST_SALV_CTL, 3, 0⟩
abbrev F.RST_LOG_CTL_ORDER : Fld := ⟨.RST_LOG_CTL, 3, 0⟩
abbrev F.RST_EVENT_EVENTS : Fld := ⟨.RST_EVENT, 3, 0⟩
abbrev F.RST_EVENT_EN_EVENTS : Fld := ⟨.RST_EVENT_EN, 3, 0⟩
abbrev F.RST_ERR_LAST : Fld := ⟨.RST_ERR, 7, 0⟩
abbrev F.RST_DOM_TILE_CAUSE : Fld := ⟨.RST_DOM_TILE, 31, 24⟩
abbrev F.RST_DOM_TILE_COUNT : Fld := ⟨.RST_DOM_TILE, 23, 16⟩
abbrev F.RST_DOM_TILE_STATUS : Fld := ⟨.RST_DOM_TILE, 15, 8⟩
abbrev F.RST_DOM_TILE_STATE : Fld := ⟨.RST_DOM_TILE, 3, 0⟩
abbrev F.RST_DOM_CLUSTER_CAUSE : Fld := ⟨.RST_DOM_CLUSTER, 31, 24⟩
abbrev F.RST_DOM_CLUSTER_COUNT : Fld := ⟨.RST_DOM_CLUSTER, 23, 16⟩
abbrev F.RST_DOM_CLUSTER_STATUS : Fld := ⟨.RST_DOM_CLUSTER, 15, 8⟩
abbrev F.RST_DOM_CLUSTER_STATE : Fld := ⟨.RST_DOM_CLUSTER, 3, 0⟩
abbrev F.RST_DOM_PART_CAUSE : Fld := ⟨.RST_DOM_PART, 31, 24⟩
abbrev F.RST_DOM_PART_COUNT : Fld := ⟨.RST_DOM_PART, 23, 16⟩
abbrev F.RST_DOM_PART_STATUS : Fld := ⟨.RST_DOM_PART, 15, 8⟩
abbrev F.RST_DOM_PART_STATE : Fld := ⟨.RST_DOM_PART, 3, 0⟩
abbrev F.RST_DOM_CORE_CAUSE : Fld := ⟨.RST_DOM_CORE, 31, 24⟩
abbrev F.RST_DOM_CORE_COUNT : Fld := ⟨.RST_DOM_CORE, 23, 16⟩
abbrev F.RST_DOM_CORE_STATUS : Fld := ⟨.RST_DOM_CORE, 15, 8⟩
abbrev F.RST_DOM_CORE_STATE : Fld := ⟨.RST_DOM_CORE, 3, 0⟩
abbrev F.FCL_STAT_SAFE : Fld := ⟨.FCL_STAT, 31, 31⟩
abbrev F.FCL_STAT_SELF : Fld := ⟨.FCL_STAT, 30, 30⟩
abbrev F.FCL_STAT_CAUSE : Fld := ⟨.FCL_STAT, 23, 16⟩
abbrev F.FCL_STAT_CLASS : Fld := ⟨.FCL_STAT, 15, 14⟩
abbrev F.FCL_STAT_STATUS : Fld := ⟨.FCL_STAT, 7, 0⟩
abbrev F.FCL_SAFE_EXIT : Fld := ⟨.FCL_SAFE, 31, 31⟩
abbrev F.FCL_SAFE_STATUS : Fld := ⟨.FCL_SAFE, 7, 0⟩
abbrev F.FCL_FAULTN_PIN : Fld := ⟨.FCL_FAULTN, 31, 31⟩
abbrev F.FCL_FAULTN_PULSE : Fld := ⟨.FCL_FAULTN, 30, 30⟩
abbrev F.FCL_FAULTN_DRIVE : Fld := ⟨.FCL_FAULTN, 16, 16⟩
abbrev F.FCL_FAULTN_WIDTH : Fld := ⟨.FCL_FAULTN, 7, 0⟩
abbrev F.FCL_ERR_LAST : Fld := ⟨.FCL_ERR, 7, 0⟩
abbrev F.FCL_CLS_R_ISO : Fld := ⟨.FCL_CLS, 31, 30⟩
abbrev F.FCL_CLS_R_REC : Fld := ⟨.FCL_CLS, 29, 28⟩
abbrev F.FCL_CLS_R_PER : Fld := ⟨.FCL_CLS, 27, 26⟩
abbrev F.FCL_CLS_WIN : Fld := ⟨.FCL_CLS, 23, 16⟩
abbrev F.FCL_CLS_THR : Fld := ⟨.FCL_CLS, 15, 8⟩
abbrev F.FCL_CLS_PERS : Fld := ⟨.FCL_CLS, 3, 0⟩
abbrev F.FCL_LST_LATCH : Fld := ⟨.FCL_LST, 31, 31⟩
abbrev F.FCL_LST_OVER : Fld := ⟨.FCL_LST, 30, 30⟩
abbrev F.FCL_LST_CLASS : Fld := ⟨.FCL_LST, 29, 28⟩
abbrev F.FCL_LST_STATUS : Fld := ⟨.FCL_LST, 23, 16⟩
abbrev F.FCL_LST_INDEX : Fld := ⟨.FCL_LST, 8, 0⟩
abbrev F.FCL_WIN_RUN : Fld := ⟨.FCL_WIN, 15, 8⟩
abbrev F.FCL_WIN_COUNT : Fld := ⟨.FCL_WIN, 7, 0⟩
abbrev F.CVU_CTL_BE : Fld := ⟨.CVU_CTL, 9, 9⟩
abbrev F.CVU_CTL_EXP_EN : Fld := ⟨.CVU_CTL, 8, 8⟩
abbrev F.CVU_CTL_MODE : Fld := ⟨.CVU_CTL, 1, 0⟩
abbrev F.CVU_CMD_INIT : Fld := ⟨.CVU_CMD, 31, 31⟩
abbrev F.CVU_CMD_SCAN : Fld := ⟨.CVU_CMD, 30, 30⟩
abbrev F.CVU_CMD_STATUS : Fld := ⟨.CVU_CMD, 15, 8⟩
abbrev F.CVU_CMD_BUSY : Fld := ⟨.CVU_CMD, 0, 0⟩
abbrev F.CVU_CAPS_WIDTH : Fld := ⟨.CVU_CAPS, 15, 8⟩
abbrev F.CVU_CAPS_ALG : Fld := ⟨.CVU_CAPS, 3, 0⟩
abbrev F.CVU_ALIVE_VALUE : Fld := ⟨.CVU_ALIVE, 15, 0⟩
abbrev F.CVU_EVENT_EVENTS : Fld := ⟨.CVU_EVENT, 1, 0⟩
abbrev F.CVU_EVENT_EN_EVENTS : Fld := ⟨.CVU_EVENT_EN, 1, 0⟩
abbrev F.CVU_ERR_LAST : Fld := ⟨.CVU_ERR, 7, 0⟩
abbrev F.CVU_OWN_STEWARD : Fld := ⟨.CVU_OWN, 15, 0⟩
abbrev F.PRF_CTL_FREEZE : Fld := ⟨.PRF_CTL, 31, 31⟩
abbrev F.PRF_CTL_ALLTILES : Fld := ⟨.PRF_CTL, 1, 1⟩
abbrev F.PRF_TSEL_SEL3 : Fld := ⟨.PRF_TSEL, 31, 24⟩
abbrev F.PRF_TSEL_SEL2 : Fld := ⟨.PRF_TSEL, 23, 16⟩
abbrev F.PRF_TSEL_SEL1 : Fld := ⟨.PRF_TSEL, 15, 8⟩
abbrev F.PRF_TSEL_SEL0 : Fld := ⟨.PRF_TSEL, 7, 0⟩
abbrev F.PRF_TTHR_THR3 : Fld := ⟨.PRF_TTHR, 31, 24⟩
abbrev F.PRF_TTHR_THR2 : Fld := ⟨.PRF_TTHR, 23, 16⟩
abbrev F.PRF_TTHR_THR1 : Fld := ⟨.PRF_TTHR, 15, 8⟩
abbrev F.PRF_TTHR_THR0 : Fld := ⟨.PRF_TTHR, 7, 0⟩
abbrev F.PRF_TCHAIN_C23 : Fld := ⟨.PRF_TCHAIN, 1, 1⟩
abbrev F.PRF_TCHAIN_C01 : Fld := ⟨.PRF_TCHAIN, 0, 0⟩
abbrev F.PRF_EVENT_EVENTS : Fld := ⟨.PRF_EVENT, 3, 0⟩
abbrev F.PRF_EVENT_EN_EVENTS : Fld := ⟨.PRF_EVENT_EN, 3, 0⟩
abbrev F.PRF_TALLY_CTL_EN : Fld := ⟨.PRF_TALLY_CTL, 31, 31⟩
abbrev F.PRF_TALLY_CTL_NOW : Fld := ⟨.PRF_TALLY_CTL, 30, 30⟩
abbrev F.PRF_TALLY_CTL_GROUPS : Fld := ⟨.PRF_TALLY_CTL, 29, 27⟩
abbrev F.PRF_TALLY_CTL_ORDER : Fld := ⟨.PRF_TALLY_CTL, 3, 0⟩
abbrev F.PRF_BWCTL_EN : Fld := ⟨.PRF_BWCTL, 31, 31⟩
abbrev F.PRF_BWCTL_WINDOW : Fld := ⟨.PRF_BWCTL, 13, 0⟩
abbrev F.PRF_OUT_CTL_EN : Fld := ⟨.PRF_OUT_CTL, 31, 31⟩
abbrev F.PRF_OUT_CTL_ORDER : Fld := ⟨.PRF_OUT_CTL, 11, 8⟩
abbrev F.PRF_OUT_CTL_N : Fld := ⟨.PRF_OUT_CTL, 4, 0⟩
abbrev F.PRF_ERR_LAST : Fld := ⟨.PRF_ERR, 7, 0⟩
abbrev F.PRF_CNT_SEL_EN : Fld := ⟨.PRF_CNT_SEL, 31, 31⟩
abbrev F.PRF_CNT_SEL_CHAIN : Fld := ⟨.PRF_CNT_SEL, 30, 30⟩
abbrev F.PRF_CNT_SEL_EVENT : Fld := ⟨.PRF_CNT_SEL, 27, 20⟩
abbrev F.PRF_CNT_SEL_INDEX : Fld := ⟨.PRF_CNT_SEL, 19, 10⟩
abbrev F.PRF_CNT_SEL_THR : Fld := ⟨.PRF_CNT_SEL, 7, 0⟩
abbrev F.SEC_STAT_SESSIONS : Fld := ⟨.SEC_STAT, 27, 24⟩
abbrev F.SEC_STAT_LOCK : Fld := ⟨.SEC_STAT, 23, 16⟩
abbrev F.SEC_STAT_SETRESET : Fld := ⟨.SEC_STAT, 8, 8⟩
abbrev F.SEC_STAT_ACT : Fld := ⟨.SEC_STAT, 7, 0⟩
abbrev F.SEC_STAGE_KINDS : Fld := ⟨.SEC_STAGE, 6, 0⟩

end Sys2Proof.Machine
end

