-- ==== Sys2Proof/Machine/RegMap.lean ====
section
/-! DEFINITION. The register map: where each register lies, what it reads after reset, and which of its fields can be written,
how, by whom and under which role (R9, R13, R36, R37, R40 and the register tables of spec/01 to spec/21). Written from the tables. -/

namespace Sys2Proof.Machine

/-- The access codes of R13. -/
inductive Acc where
  | ro | rw | w1c | w1s | rc | rws
  deriving DecidableEq, Repr

/-- The blocks that registers belong to (R36, R37); `tile` stands for the tile registers of all windows. -/
inductive Block where
  | tmb | cvn | tile | mem | mtr | gov | pww | ost | fpt | frt | mst | ic | eth | thm | idt | rst | fcl | cvu | prf | sec | jnl
  deriving DecidableEq, Repr

/-- One writable or read-clearing field. Bits under no such field are RO or Reserved: a write leaves them (R13, R17). `app` says
whether an application core has the access the code names, or reads only. -/
structure FieldD where
  hi : Nat
  lo : Nat
  acc : Acc
  role : Option Role
  app : Bool
  deriving DecidableEq, Repr

/-- A register's block, its place (`base`, and `s1`, `s2` apart for `c1` by `c2` copies), its reset value, its fields. -/
structure RegDesc where
  blk : Block
  base : Nat
  s1 : Nat
  c1 : Nat
  s2 : Nat
  c2 : Nat
  reset : Nat
  fields : List FieldD
  deriving DecidableEq, Repr

/-- The register tables. Places are offsets from 0x1F0_0000_0000 for the blocks of R36, steward addresses for the blocks of R37 and
application addresses for the tile registers of R35; the three ranges do not meet. -/
def Reg.desc : Reg → RegDesc
  | .TMB_PTIME_LO => ⟨.tmb, 0xE00000, 0x0, 1, 0, 1, 0x0, []⟩
  | .TMB_PTIME_HI => ⟨.tmb, 0xE00004, 0x0, 1, 0, 1, 0x0, []⟩
  | .TMB_STATUS => ⟨.tmb, 0xE00008, 0x0, 1, 0, 1, 0xFF00, []⟩
  | .TMB_OFFSET => ⟨.tmb, 0xE0000C, 0x0, 1, 0, 1, 0x0, []⟩
  | .TMB_TOD_LO => ⟨.tmb, 0xE00010, 0x0, 1, 0, 1, 0x0, [⟨31,0,.rw,none,false⟩]⟩
  | .TMB_TOD_HI => ⟨.tmb, 0xE00014, 0x0, 1, 0, 1, 0x0, [⟨31,0,.rw,none,false⟩]⟩
  | .TMB_STEPS => ⟨.tmb, 0xE00018, 0x0, 1, 0, 1, 0x0, [⟨31,0,.rc,none,false⟩]⟩
  | .TMB_PPS_MISS => ⟨.tmb, 0xE0001C, 0x0, 1, 0, 1, 0x0, [⟨31,0,.rc,none,false⟩]⟩
  | .TMB_ERR => ⟨.tmb, 0xE00020, 0x0, 1, 0, 1, 0x0, [⟨7,0,.w1c,none,false⟩]⟩
  | .CVN_CAPS => ⟨.cvn, 0x0, 0x0, 1, 0, 1, 0x4000040, []⟩
  | .CVN_LIVE => ⟨.cvn, 0x4, 0x0, 1, 0, 1, 0x0, []⟩
  | .CVN_STALE_BALES => ⟨.cvn, 0x8, 0x0, 1, 0, 1, 0x0, [⟨31,0,.rc,none,true⟩]⟩
  | .CVN_ERR => ⟨.cvn, 0xC, 0x0, 1, 0, 1, 0x0, [⟨7,0,.w1c,none,true⟩]⟩
  | .CVN_SLOT => ⟨.cvn, 0x1000, 0x40, 64, 0, 1, 0x0, []⟩
  | .CVN_SLOT_FLIGHT => ⟨.cvn, 0x1004, 0x40, 64, 0, 1, 0x0, []⟩
  | .CVN_SLOT_DONE => ⟨.cvn, 0x1008, 0x40, 64, 0, 1, 0x0, []⟩
  | .CVN_SLOT_THRESH => ⟨.cvn, 0x100C, 0x40, 64, 0, 1, 0x0, [⟨31,0,.rw,none,true⟩]⟩
  | .CVN_SLOT_ABORTED => ⟨.cvn, 0x1010, 0x40, 64, 0, 1, 0x0, []⟩
  | .CVN_SLOT_ERR => ⟨.cvn, 0x1014, 0x40, 64, 0, 1, 0x0, []⟩
  | .CVN_SLOT_HOPDROP => ⟨.cvn, 0x1018, 0x40, 64, 0, 1, 0x0, [⟨31,0,.rc,none,true⟩]⟩
  | .CVN_SLOT_TOLL => ⟨.cvn, 0x101C, 0x40, 64, 0, 1, 0x0, []⟩
  | .CVN_SLOT_DEBT => ⟨.cvn, 0x1020, 0x40, 64, 0, 1, 0x0, []⟩
  | .CVN_SLOT_LATE => ⟨.cvn, 0x1024, 0x40, 64, 0, 1, 0x0, [⟨31,0,.rc,none,true⟩]⟩
  | .CVN_SLOT_SHORT => ⟨.cvn, 0x1028, 0x40, 64, 0, 1, 0x0, [⟨31,0,.rc,none,true⟩]⟩
  | .CVN_SLOT_RING_WR => ⟨.cvn, 0x102C, 0x40, 64, 0, 1, 0x0, []⟩
  | .CVN_SLOT_RING_RD => ⟨.cvn, 0x1030, 0x40, 64, 0, 1, 0x0, [⟨31,0,.rw,none,true⟩]⟩
  | .CVN_SLOT_EVENT => ⟨.cvn, 0x1034, 0x40, 64, 0, 1, 0x0, [⟨5,5,.w1c,none,true⟩, ⟨4,4,.w1c,none,true⟩, ⟨3,3,.w1c,none,true⟩, ⟨2,2,.w1c,none,true⟩, ⟨1,1,.w1c,none,true⟩, ⟨0,0,.w1c,none,true⟩]⟩
  | .CVN_SLOT_EVENT_EN => ⟨.cvn, 0x1038, 0x40, 64, 0, 1, 0x0, [⟨5,0,.rw,none,true⟩]⟩
  | .TILE_ID => ⟨.tile, 0x100000C0000, 0x100000, 768, 0, 1, 0x0, []⟩
  | .TILE_STATE => ⟨.tile, 0x100000C0004, 0x100000, 768, 0, 1, 0x0, []⟩
  | .TILE_PC => ⟨.tile, 0x100000C0008, 0x100000, 768, 0, 1, 0x0, []⟩
  | .TILE_EXC => ⟨.tile, 0x100000C000C, 0x100000, 768, 0, 1, 0x0, []⟩
  | .TILE_EXC_ADDR_LO => ⟨.tile, 0x100000C0010, 0x100000, 768, 0, 1, 0x0, []⟩
  | .TILE_EXC_ADDR_HI => ⟨.tile, 0x100000C0014, 0x100000, 768, 0, 1, 0x0, []⟩
  | .TILE_FLAGS => ⟨.tile, 0x100000C0018, 0x100000, 768, 0, 1, 0x0, [⟨5,5,.w1c,none,true⟩, ⟨4,4,.w1c,none,true⟩, ⟨3,3,.w1c,none,true⟩, ⟨2,2,.w1c,none,true⟩, ⟨1,1,.w1c,none,true⟩, ⟨0,0,.w1c,none,true⟩]⟩
  | .TILE_SEED_LO => ⟨.tile, 0x100000C001C, 0x100000, 768, 0, 1, 0x0, [⟨31,0,.rw,none,true⟩]⟩
  | .TILE_SEED_HI => ⟨.tile, 0x100000C0020, 0x100000, 768, 0, 1, 0x0, [⟨31,0,.rw,none,true⟩]⟩
  | .TILE_EVENT => ⟨.tile, 0x100000C0024, 0x100000, 768, 0, 1, 0x6, []⟩
  | .TILE_NOTE => ⟨.tile, 0x100000C0028, 0x100000, 768, 0, 1, 0x0, [⟨31,0,.rw,none,true⟩]⟩
  | .TILE_TIMER_LO => ⟨.tile, 0x100000C002C, 0x100000, 768, 0, 1, 0x0, [⟨31,0,.rw,none,true⟩]⟩
  | .TILE_TIMER_HI => ⟨.tile, 0x100000C0030, 0x100000, 768, 0, 1, 0x0, [⟨31,0,.rw,none,true⟩]⟩
  | .TILE_MXSB => ⟨.tile, 0x100000C0034, 0x100000, 768, 0, 1, 0x0, []⟩
  | .TILE_MVSTAT => ⟨.tile, 0x100000C0038, 0x100000, 768, 0, 1, 0x0, []⟩
  | .TILE_INBOX => ⟨.tile, 0x100000C003C, 0x100000, 768, 0, 1, 0x0, []⟩
  | .TILE_NEXT => ⟨.tile, 0x100000C0040, 0x100000, 768, 4, 4, 0xFFFFFFFF, []⟩
  | .TILE_ERR => ⟨.tile, 0x100000C0050, 0x100000, 768, 0, 1, 0x0, [⟨7,0,.w1c,none,true⟩]⟩
  | .TILE_ECC => ⟨.tile, 0x100000C0054, 0x100000, 768, 0, 1, 0x0, [⟨31,0,.rc,none,true⟩]⟩
  | .TILE_NOTEDROP => ⟨.tile, 0x100000C0058, 0x100000, 768, 0, 1, 0x0, [⟨31,0,.rc,none,true⟩]⟩
  | .TILE_MW => ⟨.tile, 0x100000C005C, 0x100000, 768, 0, 1, 0x0, [⟨4,4,.rw,none,false⟩, ⟨3,0,.rw,none,false⟩]⟩
  | .FO_CTL => ⟨.cvn, 0x80000, 0x80, 768, 0, 1, 0xFF000, [⟨27,24,.rw,none,true⟩, ⟨20,20,.rw,none,true⟩, ⟨19,16,.rw,none,true⟩, ⟨15,12,.rw,none,true⟩, ⟨7,0,.rw,none,true⟩]⟩
  | .FO_CAP => ⟨.cvn, 0x80004, 0x80, 768, 4, 4, 0x0, [⟨31,16,.rw,none,true⟩, ⟨15,0,.rw,none,true⟩]⟩
  | .FO_EXITS => ⟨.cvn, 0x80014, 0x80, 768, 0, 1, 0x0, [⟨31,0,.rc,none,true⟩]⟩
  | .FO_STALEWIN => ⟨.cvn, 0x80018, 0x80, 768, 0, 1, 0x0, [⟨31,0,.rc,none,true⟩]⟩
  | .FO_SENT => ⟨.cvn, 0x80020, 0x80, 768, 4, 8, 0x0, [⟨31,0,.rc,none,true⟩]⟩
  | .FO_DROP => ⟨.cvn, 0x80040, 0x80, 768, 4, 8, 0x0, [⟨31,0,.rc,none,true⟩]⟩
  | .MEM_CAPS => ⟨.mem, 0x800000, 0x0, 1, 0, 1, 0x8080300, []⟩
  | .MEM_STATUS => ⟨.mem, 0x800004, 0x0, 1, 0, 1, 0x0, []⟩
  | .MEM_ERR => ⟨.mem, 0x800008, 0x0, 1, 0, 1, 0x0, [⟨7,0,.w1c,none,false⟩]⟩
  | .MEM_SEAL_VIOLATION => ⟨.mem, 0x80000C, 0x0, 1, 0, 1, 0x0, [⟨31,0,.rc,none,true⟩]⟩
  | .MEM_SCRUB => ⟨.mem, 0x800010, 0x0, 1, 0, 1, 0x118, [⟨8,8,.rw,none,false⟩, ⟨7,0,.rw,none,false⟩]⟩
  | .MEM_SCRUB_PASS => ⟨.mem, 0x800014, 0x0, 1, 0, 1, 0x0, []⟩
  | .MEM_ERRLOG_LO => ⟨.mem, 0x800018, 0x0, 1, 0, 1, 0x0, []⟩
  | .MEM_ERRLOG_HI => ⟨.mem, 0x80001C, 0x0, 1, 0, 1, 0x0, []⟩
  | .MEM_ERRLOG_INFO => ⟨.mem, 0x800020, 0x0, 1, 0, 1, 0x0, [⟨31,31,.w1c,none,false⟩, ⟨30,30,.w1c,none,false⟩]⟩
  | .MEM_STK => ⟨.mem, 0x800040, 0x4, 8, 0, 1, 0x0, []⟩
  | .MEM_RGN_BASE => ⟨.mem, 0x800100, 0x10, 8, 0, 1, 0x0, [⟨8,0,.rws,some .installer,false⟩]⟩
  | .MEM_RGN_SIZE => ⟨.mem, 0x800104, 0x10, 8, 0, 1, 0x0, [⟨15,0,.rws,some .installer,false⟩]⟩
  | .MEM_RGN_CTL => ⟨.mem, 0x800108, 0x10, 8, 0, 1, 0xFF, [⟨8,8,.rws,some .installer,false⟩, ⟨7,0,.rws,some .installer,false⟩]⟩
  | .MEM_DEP_ERR => ⟨.mem, 0x800200, 0x4, 32, 0, 1, 0x0, [⟨31,16,.rc,none,true⟩, ⟨15,0,.rc,none,true⟩]⟩
  | .MEM_CH_CE => ⟨.mem, 0x810000, 0x10, 768, 0, 1, 0x0, [⟨31,0,.rc,none,true⟩]⟩
  | .MEM_CH_UE => ⟨.mem, 0x810004, 0x10, 768, 0, 1, 0x0, [⟨31,0,.rc,none,true⟩]⟩
  | .MEM_CH_POISRD => ⟨.mem, 0x810008, 0x10, 768, 0, 1, 0x0, [⟨31,0,.rc,none,true⟩]⟩
  | .MEM_CH_STAT => ⟨.mem, 0x81000C, 0x10, 768, 0, 1, 0x0, []⟩
  | .MTR_STAT => ⟨.mtr, 0x43000000, 0x1000, 2, 0, 1, 0x0, [⟨6,6,.w1c,none,false⟩, ⟨3,3,.w1c,some .installer,false⟩]⟩
  | .MTR_P => ⟨.mtr, 0x43000004, 0x1000, 2, 0, 1, 0x0, []⟩
  | .MTR_V => ⟨.mtr, 0x43000008, 0x1000, 2, 0, 1, 0x0, []⟩
  | .MTR_I => ⟨.mtr, 0x4300000C, 0x1000, 2, 0, 1, 0x0, []⟩
  | .MTR_TS_LO => ⟨.mtr, 0x43000010, 0x1000, 2, 0, 1, 0x0, []⟩
  | .MTR_TS_HI => ⟨.mtr, 0x43000014, 0x1000, 2, 0, 1, 0x0, []⟩
  | .MTR_NSAMP => ⟨.mtr, 0x43000018, 0x1000, 2, 0, 1, 0x0, []⟩
  | .MTR_RSTAT => ⟨.mtr, 0x4300001C, 0x1000, 2, 0, 1, 0xC, []⟩
  | .MTR_E_LO => ⟨.mtr, 0x43000020, 0x1000, 2, 0, 1, 0x0, []⟩
  | .MTR_E_HI => ⟨.mtr, 0x43000024, 0x1000, 2, 0, 1, 0x0, []⟩
  | .MTR_ELIFE_LO => ⟨.mtr, 0x43000028, 0x1000, 2, 0, 1, 0x0, []⟩
  | .MTR_ELIFE_HI => ⟨.mtr, 0x4300002C, 0x1000, 2, 0, 1, 0x0, []⟩
  | .MTR_SNAP_E_LO => ⟨.mtr, 0x43000030, 0x1000, 2, 0, 1, 0x0, []⟩
  | .MTR_SNAP_E_HI => ⟨.mtr, 0x43000034, 0x1000, 2, 0, 1, 0x0, []⟩
  | .MTR_SNAP_T_LO => ⟨.mtr, 0x43000038, 0x1000, 2, 0, 1, 0x0, []⟩
  | .MTR_SNAP_T_HI => ⟨.mtr, 0x4300003C, 0x1000, 2, 0, 1, 0x0, []⟩
  | .MTR_SNAP_SEQ => ⟨.mtr, 0x43000040, 0x1000, 2, 0, 1, 0x0, []⟩
  | .MTR_SNAP_STAT => ⟨.mtr, 0x43000044, 0x1000, 2, 0, 1, 0xC, []⟩
  | .MTR_GAP_T_LO => ⟨.mtr, 0x43000048, 0x1000, 2, 0, 1, 0x0, []⟩
  | .MTR_GAP_T_HI => ⟨.mtr, 0x4300004C, 0x1000, 2, 0, 1, 0x0, []⟩
  | .MTR_ESTK => ⟨.mtr, 0x43000050, 0x1000, 2, 0, 1, 0x4000, []⟩
  | .MTR_NEG => ⟨.mtr, 0x43000054, 0x1000, 2, 0, 1, 0x0, [⟨31,0,.rc,none,false⟩]⟩
  | .MTR_XDIFF => ⟨.mtr, 0x43000058, 0x1000, 2, 0, 1, 0x0, [⟨31,0,.rc,none,false⟩]⟩
  | .MTR_ESTJUMP => ⟨.mtr, 0x4300005C, 0x1000, 2, 0, 1, 0x0, [⟨31,0,.rc,none,false⟩]⟩
  | .MTR_EFF => ⟨.mtr, 0x43000060, 0x1000, 2, 0, 1, 0x0, []⟩
  | .MTR_RAIL => ⟨.mtr, 0x43000080, 0x1000, 2, 4, 6, 0x0, []⟩
  | .MTR_CAL => ⟨.mtr, 0x43000100, 0x1000, 2, 4, 6, 0x0, [⟨31,0,.rws,some .maker,false⟩]⟩
  | .MTR_SETTLE => ⟨.mtr, 0x43002000, 0x0, 1, 0, 1, 0x0, [⟨0,0,.rws,some .installer,false⟩]⟩
  | .MTR_ACC_CTL => ⟨.mtr, 0x43002004, 0x0, 1, 0, 1, 0x0, [⟨31,31,.w1s,none,false⟩, ⟨30,24,.rw,none,false⟩, ⟨23,8,.rw,none,false⟩]⟩
  | .MTR_ACC_EA_LO => ⟨.mtr, 0x43002008, 0x0, 1, 0, 1, 0x0, []⟩
  | .MTR_ACC_EA_HI => ⟨.mtr, 0x4300200C, 0x0, 1, 0, 1, 0x0, []⟩
  | .MTR_ACC_EB_LO => ⟨.mtr, 0x43002010, 0x0, 1, 0, 1, 0x0, []⟩
  | .MTR_ACC_EB_HI => ⟨.mtr, 0x43002014, 0x0, 1, 0, 1, 0x0, []⟩
  | .MTR_ERR => ⟨.mtr, 0x43002018, 0x0, 1, 0, 1, 0x0, [⟨7,0,.w1c,none,false⟩]⟩
  | .MTR_SEAL_VIOLATION => ⟨.mtr, 0x4300201C, 0x0, 1, 0, 1, 0x0, [⟨31,0,.rc,none,false⟩]⟩
  | .GOV_STATE => ⟨.gov, 0x40000000, 0x1000000, 2, 0, 1, 0x0, [⟨4,4,.w1c,none,false⟩]⟩
  | .GOV_TARGET => ⟨.gov, 0x40000004, 0x1000000, 2, 0, 1, 0x0, []⟩
  | .GOV_DEMAND => ⟨.gov, 0x40000008, 0x1000000, 2, 0, 1, 0x0, []⟩
  | .GOV_EST => ⟨.gov, 0x4000000C, 0x1000000, 2, 0, 1, 0x0, []⟩
  | .GOV_MET => ⟨.gov, 0x40000010, 0x1000000, 2, 0, 1, 0x0, []⟩
  | .GOV_ACT => ⟨.gov, 0x40000014, 0x1000000, 2, 0, 1, 0x640000, []⟩
  | .GOV_MWSTAT => ⟨.gov, 0x40000018, 0x1000000, 2, 0, 1, 0x0, []⟩
  | .GOV_SEQ => ⟨.gov, 0x4000001C, 0x1000000, 2, 0, 1, 0x0, []⟩
  | .GOV_ALIVE => ⟨.gov, 0x40000020, 0x1000000, 2, 0, 1, 0x0, []⟩
  | .GOV_SHORT_OVER_LO => ⟨.gov, 0x40000028, 0x1000000, 2, 0, 1, 0x0, []⟩
  | .GOV_SHORT_OVER_HI => ⟨.gov, 0x4000002C, 0x1000000, 2, 0, 1, 0x0, []⟩
  | .GOV_SHORT_UNDER_LO => ⟨.gov, 0x40000030, 0x1000000, 2, 0, 1, 0x0, []⟩
  | .GOV_SHORT_UNDER_HI => ⟨.gov, 0x40000034, 0x1000000, 2, 0, 1, 0x0, []⟩
  | .GOV_STALE => ⟨.gov, 0x40000040, 0x1000000, 2, 0, 1, 0x0, [⟨31,0,.rc,none,false⟩]⟩
  | .GOV_CRC => ⟨.gov, 0x40000044, 0x1000000, 2, 0, 1, 0x0, [⟨31,0,.rc,none,false⟩]⟩
  | .GOV_REFUSED => ⟨.gov, 0x40000048, 0x1000000, 2, 0, 1, 0x0, [⟨31,0,.rc,none,false⟩]⟩
  | .GOV_HOLDEXP => ⟨.gov, 0x4000004C, 0x1000000, 2, 0, 1, 0x0, [⟨31,0,.rc,none,false⟩]⟩
  | .GOV_DIPS => ⟨.gov, 0x40000050, 0x1000000, 2, 0, 1, 0x0, [⟨31,0,.rc,none,false⟩]⟩
  | .GOV_DROOP => ⟨.gov, 0x40000054, 0x1000000, 2, 0, 1, 0x0, [⟨31,0,.rc,none,false⟩]⟩
  | .GOV_FRSTALE => ⟨.gov, 0x40000058, 0x1000000, 2, 0, 1, 0x0, [⟨31,0,.rc,none,false⟩]⟩
  | .GOV_SAFE => ⟨.gov, 0x40000100, 0x1000000, 2, 0, 1, 0x0, [⟨15,0,.rws,some .installer,false⟩]⟩
  | .GOV_SLEW => ⟨.gov, 0x40000104, 0x1000000, 2, 0, 1, 0x2EE02EE, [⟨31,16,.rws,some .installer,false⟩, ⟨15,0,.rws,some .installer,false⟩]⟩
  | .GOV_BUDLIM => ⟨.gov, 0x40000108, 0x1000000, 2, 0, 1, 0xBB80000, [⟨31,16,.rws,some .installer,false⟩, ⟨15,0,.rws,some .installer,false⟩]⟩
  | .GOV_DIP => ⟨.gov, 0x4000010C, 0x1000000, 2, 0, 1, 0x327530, [⟨22,16,.rws,some .installer,false⟩, ⟨15,0,.rws,some .installer,false⟩]⟩
  | .GOV_MW => ⟨.gov, 0x40000110, 0x1000000, 2, 0, 1, 0x80000000, [⟨31,31,.rws,some .installer,false⟩, ⟨15,0,.rws,some .installer,false⟩]⟩
  | .GOV_FR_CTL => ⟨.gov, 0x40000114, 0x1000000, 2, 0, 1, 0xA0000, [⟨31,31,.rws,some .installer,false⟩, ⟨23,16,.rws,some .installer,false⟩, ⟨11,8,.rws,some .installer,false⟩, ⟨0,0,.rws,some .installer,false⟩]⟩
  | .GOV_FR_PT => ⟨.gov, 0x40000120, 0x1000000, 2, 4, 8, 0x0, [⟨31,16,.rws,some .installer,false⟩, ⟨15,0,.rws,some .installer,false⟩]⟩
  | .GOV_LAW => ⟨.gov, 0x40000180, 0x1000000, 2, 0, 1, 0x800D0064, [⟨31,24,.rws,some .maker,false⟩, ⟨23,16,.rws,some .maker,false⟩, ⟨15,0,.rws,some .maker,false⟩]⟩
  | .GOV_ERR => ⟨.gov, 0x400001F0, 0x1000000, 2, 0, 1, 0x0, [⟨7,0,.w1c,none,false⟩]⟩
  | .GOV_SEAL_VIOLATION => ⟨.gov, 0x400001F4, 0x1000000, 2, 0, 1, 0x0, [⟨31,0,.rc,none,false⟩]⟩
  | .PWW_STATE => ⟨.pww, 0xB00000, 0x0, 1, 0, 1, 0x0, []⟩
  | .PWW_TARGET => ⟨.pww, 0xB00004, 0x0, 1, 0, 1, 0x0, []⟩
  | .PWW_MET => ⟨.pww, 0xB00008, 0x0, 1, 0, 1, 0x0, []⟩
  | .PWW_FLOOR => ⟨.pww, 0xB0000C, 0x0, 1, 0, 1, 0x0, []⟩
  | .PWW_RATED => ⟨.pww, 0xB00010, 0x0, 1, 0, 1, 0x7080BB8, []⟩
  | .PWW_E_LO => ⟨.pww, 0xB00018, 0x0, 1, 0, 1, 0x0, []⟩
  | .PWW_E_HI => ⟨.pww, 0xB0001C, 0x0, 1, 0, 1, 0x0, []⟩
  | .PWW_SNAP_E_LO => ⟨.pww, 0xB00028, 0x0, 1, 0, 1, 0x0, []⟩
  | .PWW_SNAP_E_HI => ⟨.pww, 0xB0002C, 0x0, 1, 0, 1, 0x0, []⟩
  | .PWW_SNAP_T_LO => ⟨.pww, 0xB00030, 0x0, 1, 0, 1, 0x0, []⟩
  | .PWW_SNAP_T_HI => ⟨.pww, 0xB00034, 0x0, 1, 0, 1, 0x0, []⟩
  | .PWW_SHORT_OVER_LO => ⟨.pww, 0xB00040, 0x0, 1, 0, 1, 0x0, []⟩
  | .PWW_SHORT_OVER_HI => ⟨.pww, 0xB00044, 0x0, 1, 0, 1, 0x0, []⟩
  | .PWW_SHORT_UNDER_LO => ⟨.pww, 0xB00048, 0x0, 1, 0, 1, 0x0, []⟩
  | .PWW_SHORT_UNDER_HI => ⟨.pww, 0xB0004C, 0x0, 1, 0, 1, 0x0, []⟩
  | .PWW_SNAP_SEQ => ⟨.pww, 0xB00020, 0x0, 1, 0, 1, 0x0, []⟩
  | .PWW_SNAP_STAT => ⟨.pww, 0xB00038, 0x0, 1, 0, 1, 0xC, []⟩
  | .PWW_SURE => ⟨.pww, 0xB00100, 0x4, 36, 0, 1, 0x0, []⟩
  | .PWW_CVN_P => ⟨.pww, 0xB00200, 0x4, 64, 0, 1, 0x0, []⟩
  | .OST_STAT => ⟨.ost, 0x42000000, 0x0, 1, 0, 1, 0x11, []⟩
  | .OST_CLAIM_A => ⟨.ost, 0x42000004, 0x0, 1, 0, 1, 0x0, []⟩
  | .OST_CLAIM_B => ⟨.ost, 0x42000008, 0x0, 1, 0, 1, 0x0, []⟩
  | .OST_OUT => ⟨.ost, 0x4200000C, 0x0, 1, 0, 1, 0x640000, []⟩
  | .OST_CFG => ⟨.ost, 0x42000010, 0x0, 1, 0, 1, 0xA0A, [⟨15,8,.rws,some .installer,false⟩, ⟨7,0,.rws,some .installer,false⟩]⟩
  | .OST_CMD => ⟨.ost, 0x42000014, 0x0, 1, 0, 1, 0x0, [⟨10,10,.w1s,none,false⟩, ⟨9,9,.w1s,none,false⟩, ⟨8,8,.w1s,none,false⟩]⟩
  | .OST_SWITCHES => ⟨.ost, 0x42000018, 0x0, 1, 0, 1, 0x0, [⟨31,0,.rc,none,false⟩]⟩
  | .OST_LASTSW_LO => ⟨.ost, 0x42000020, 0x0, 1, 0, 1, 0x0, []⟩
  | .OST_LASTSW_HI => ⟨.ost, 0x42000024, 0x0, 1, 0, 1, 0x0, []⟩
  | .OST_LASTSW_INFO => ⟨.ost, 0x42000028, 0x0, 1, 0, 1, 0x0, []⟩
  | .OST_DISAGREE => ⟨.ost, 0x4200002C, 0x0, 1, 0, 1, 0x0, [⟨31,0,.rc,none,false⟩]⟩
  | .OST_MCRC => ⟨.ost, 0x42000030, 0x0, 1, 0, 1, 0x0, [⟨31,0,.rc,none,false⟩]⟩
  | .OST_MGAP => ⟨.ost, 0x42000034, 0x0, 1, 0, 1, 0x0, [⟨31,0,.rc,none,false⟩]⟩
  | .OST_ORPHAN => ⟨.ost, 0x42000038, 0x0, 1, 0, 1, 0x0, [⟨31,0,.rc,none,false⟩]⟩
  | .OST_IGNORED => ⟨.ost, 0x4200003C, 0x0, 1, 0, 1, 0x0, [⟨31,0,.rc,none,false⟩]⟩
  | .OST_ERR => ⟨.ost, 0x42000040, 0x0, 1, 0, 1, 0x0, [⟨7,0,.w1c,none,false⟩]⟩
  | .OST_SEAL_VIOLATION => ⟨.ost, 0x42000044, 0x0, 1, 0, 1, 0x0, [⟨31,0,.rc,none,false⟩]⟩
  | .FPT_CTL => ⟨.fpt, 0x400000, 0x4000, 20, 0, 1, 0x1, [⟨8,8,.w1s,none,false⟩, ⟨0,0,.rw,some .installer,false⟩]⟩
  | .FPT_MAP => ⟨.fpt, 0x400004, 0x4000, 20, 0, 1, 0x0, [⟨9,8,.rw,some .installer,false⟩, ⟨4,0,.rw,some .installer,false⟩]⟩
  | .FPT_STAT => ⟨.fpt, 0x400008, 0x4000, 20, 0, 1, 0xD, []⟩
  | .FPT_PEER_SERIAL_LO => ⟨.fpt, 0x400010, 0x4000, 20, 0, 1, 0x0, []⟩
  | .FPT_PEER_SERIAL_HI => ⟨.fpt, 0x400014, 0x4000, 20, 0, 1, 0x0, []⟩
  | .FPT_PEER_COORD => ⟨.fpt, 0x400018, 0x4000, 20, 0, 1, 0xFFC0000, []⟩
  | .FPT_PEER_FW => ⟨.fpt, 0x40001C, 0x4000, 20, 0, 1, 0x0, []⟩
  | .FPT_PEER_PROTO => ⟨.fpt, 0x400020, 0x4000, 20, 0, 1, 0x0, []⟩
  | .FPT_HELLO_T_LO => ⟨.fpt, 0x400024, 0x4000, 20, 0, 1, 0x0, []⟩
  | .FPT_HELLO_T_HI => ⟨.fpt, 0x400028, 0x4000, 20, 0, 1, 0x0, []⟩
  | .FPT_EVENT => ⟨.fpt, 0x40002C, 0x4000, 20, 0, 1, 0x0, [⟨5,5,.w1c,none,false⟩, ⟨4,4,.w1c,none,false⟩, ⟨3,3,.w1c,none,false⟩, ⟨2,2,.w1c,none,false⟩, ⟨1,1,.w1c,none,false⟩, ⟨0,0,.w1c,none,false⟩]⟩
  | .FPT_EVENT_EN => ⟨.fpt, 0x400030, 0x4000, 20, 0, 1, 0x3F, [⟨5,0,.rw,some .installer,false⟩]⟩
  | .FPT_REPLAY => ⟨.fpt, 0x400040, 0x4000, 20, 0, 1, 0x0, [⟨31,0,.rc,none,true⟩]⟩
  | .FPT_UNCORR => ⟨.fpt, 0x400044, 0x4000, 20, 0, 1, 0x0, [⟨31,0,.rc,none,true⟩]⟩
  | .FPT_HELLOFAIL => ⟨.fpt, 0x400048, 0x4000, 20, 0, 1, 0x0, [⟨31,0,.rc,none,true⟩]⟩
  | .FPT_STALEHELLO => ⟨.fpt, 0x40004C, 0x4000, 20, 0, 1, 0x0, [⟨31,0,.rc,none,true⟩]⟩
  | .FPT_TRAINS => ⟨.fpt, 0x400050, 0x4000, 20, 0, 1, 0x0, [⟨31,0,.rc,none,true⟩]⟩
  | .FPT_DEPARTS => ⟨.fpt, 0x400054, 0x4000, 20, 0, 1, 0x0, [⟨31,0,.rc,none,true⟩]⟩
  | .FPT_LERR => ⟨.fpt, 0x400080, 0x4000, 20, 4, 8, 0x0, []⟩
  | .FPT_LWIN_LO => ⟨.fpt, 0x4000A0, 0x4000, 20, 0, 1, 0x0, []⟩
  | .FPT_LWIN_HI => ⟨.fpt, 0x4000A4, 0x4000, 20, 0, 1, 0x0, []⟩
  | .FPT_LANE_ST => ⟨.fpt, 0x4000A8, 0x4000, 20, 0, 1, 0x0, []⟩
  | .FPT_ERR => ⟨.fpt, 0x4000F0, 0x4000, 20, 0, 1, 0x0, [⟨7,0,.w1c,none,false⟩]⟩
  | .FPT_GERR => ⟨.fpt, 0x480010, 0x0, 1, 0, 1, 0x0, [⟨7,0,.w1c,none,false⟩]⟩
  | .FPT_COORD => ⟨.fpt, 0x480000, 0x0, 1, 0, 1, 0x0, [⟨17,0,.rw,some .installer,false⟩]⟩
  | .FPT_MACHINE => ⟨.fpt, 0x480004, 0x0, 1, 0, 1, 0x0, [⟨31,0,.rw,some .installer,false⟩]⟩
  | .FPT_THRESH => ⟨.fpt, 0x480008, 0x0, 1, 0, 1, 0x506, [⟨15,8,.rw,some .installer,false⟩, ⟨7,0,.rw,some .installer,false⟩]⟩
  | .FPT_AUDIT => ⟨.fpt, 0x48000C, 0x0, 1, 0, 1, 0x10003C, [⟨23,16,.rw,some .installer,false⟩, ⟨15,0,.rw,some .installer,false⟩]⟩
  | .FPT_TWIST => ⟨.fpt, 0x480040, 0x4, 18, 0, 1, 0x0, [⟨17,0,.rw,some .installer,false⟩]⟩
  | .FPT_DIM => ⟨.fpt, 0x480100, 0x4, 18, 0, 1, 0x1F1F, []⟩
  | .FRT_CFG => ⟨.frt, 0x500000, 0x0, 1, 0, 1, 0x1, [⟨3,0,.rw,some .installer,false⟩]⟩
  | .FRT_STAT => ⟨.frt, 0x500004, 0x0, 1, 0, 1, 0x0, []⟩
  | .FRT_WEIGHT => ⟨.frt, 0x500008, 0x0, 1, 0, 1, 0x80401, [⟨23,16,.rw,none,true⟩, ⟨15,8,.rw,none,true⟩, ⟨7,0,.rw,none,true⟩]⟩
  | .FRT_AVOID => ⟨.frt, 0x500010, 0x0, 1, 0, 1, 0x0, [⟨19,0,.rw,some .installer,false⟩]⟩
  | .FRT_DRAIN => ⟨.frt, 0x500014, 0x0, 1, 0, 1, 0x0, []⟩
  | .FRT_CMAP_CTL => ⟨.frt, 0x500018, 0x0, 1, 0, 1, 0xA, [⟨31,31,.rw,some .installer,false⟩, ⟨21,16,.rw,some .installer,false⟩, ⟨7,0,.rw,some .installer,false⟩]⟩
  | .FRT_CMAP_DST => ⟨.frt, 0x50001C, 0x0, 1, 0, 1, 0x0, [⟨17,0,.rw,some .installer,false⟩]⟩
  | .FRT_CMAP => ⟨.frt, 0x500020, 0x4, 5, 0, 1, 0xFFFFFFFF, []⟩
  | .FRT_NOTICE => ⟨.frt, 0x500040, 0x0, 1, 0, 1, 0x3F, [⟨5,0,.rw,none,true⟩]⟩
  | .FRT_C0DEMOTE => ⟨.frt, 0x500080, 0x0, 1, 0, 1, 0x0, [⟨31,0,.rc,none,true⟩]⟩
  | .FRT_C0OVERSIZE => ⟨.frt, 0x500084, 0x0, 1, 0, 1, 0x0, [⟨31,0,.rc,none,true⟩]⟩
  | .FRT_HOPDROP => ⟨.frt, 0x500088, 0x0, 1, 0, 1, 0x0, [⟨31,0,.rc,none,true⟩]⟩
  | .FRT_HCRC => ⟨.frt, 0x50008C, 0x0, 1, 0, 1, 0x0, [⟨31,0,.rc,none,true⟩]⟩
  | .FRT_PCRC => ⟨.frt, 0x500090, 0x0, 1, 0, 1, 0x0, [⟨31,0,.rc,none,true⟩]⟩
  | .FRT_UNREACH => ⟨.frt, 0x500094, 0x0, 1, 0, 1, 0x0, [⟨31,0,.rc,none,true⟩]⟩
  | .FRT_MCLOST => ⟨.frt, 0x500098, 0x0, 1, 0, 1, 0x0, [⟨31,0,.rc,none,true⟩]⟩
  | .FRT_HANDBACK => ⟨.frt, 0x50009C, 0x0, 1, 0, 1, 0x0, [⟨31,0,.rc,none,true⟩]⟩
  | .FRT_DETOUR => ⟨.frt, 0x5000A0, 0x0, 1, 0, 1, 0x0, [⟨31,0,.rc,none,true⟩]⟩
  | .FRT_NOTICES => ⟨.frt, 0x5000A4, 0x0, 1, 0, 1, 0x0, [⟨31,0,.rc,none,true⟩]⟩
  | .FRT_SLICEVIOL => ⟨.frt, 0x5000A8, 0x0, 1, 0, 1, 0x0, [⟨31,0,.rc,none,true⟩]⟩
  | .FRT_ERR => ⟨.frt, 0x5000F0, 0x0, 1, 0, 1, 0x0, [⟨7,0,.w1c,none,true⟩]⟩
  | .SQ_RING_LO => ⟨.frt, 0x501000, 0x40, 64, 0, 1, 0x0, [⟨31,0,.rw,none,true⟩]⟩
  | .SQ_RING_HI => ⟨.frt, 0x501004, 0x40, 64, 0, 1, 0x0, [⟨31,0,.rw,none,true⟩]⟩
  | .SQ_PRODA_LO => ⟨.frt, 0x501010, 0x40, 64, 0, 1, 0x0, [⟨31,0,.rw,none,true⟩]⟩
  | .SQ_PRODA_HI => ⟨.frt, 0x501014, 0x40, 64, 0, 1, 0x0, [⟨31,0,.rw,none,true⟩]⟩
  | .SQ_DONEA_LO => ⟨.frt, 0x501018, 0x40, 64, 0, 1, 0x0, [⟨31,0,.rw,none,true⟩]⟩
  | .SQ_DONEA_HI => ⟨.frt, 0x50101C, 0x40, 64, 0, 1, 0x0, [⟨31,0,.rw,none,true⟩]⟩
  | .SQ_CTL => ⟨.frt, 0x501008, 0x40, 64, 0, 1, 0x401, [⟨31,31,.rw,none,true⟩, ⟨11,8,.rw,none,true⟩, ⟨1,0,.rw,some .operator,false⟩]⟩
  | .SQ_SLICE => ⟨.frt, 0x50100C, 0x40, 64, 0, 1, 0x0, [⟨17,0,.rw,some .operator,false⟩]⟩
  | .SQ_CONS => ⟨.frt, 0x501020, 0x40, 64, 0, 1, 0x0, []⟩
  | .SQ_DONE => ⟨.frt, 0x501024, 0x40, 64, 0, 1, 0x0, []⟩
  | .SQ_REFUSED => ⟨.frt, 0x501028, 0x40, 64, 0, 1, 0x0, [⟨31,0,.rc,none,true⟩]⟩
  | .RQ_RING_LO => ⟨.frt, 0x502000, 0x40, 64, 0, 1, 0x0, [⟨31,0,.rw,none,true⟩]⟩
  | .RQ_RING_HI => ⟨.frt, 0x502004, 0x40, 64, 0, 1, 0x0, [⟨31,0,.rw,none,true⟩]⟩
  | .RQ_COUNTA_LO => ⟨.frt, 0x502010, 0x40, 64, 0, 1, 0x0, [⟨31,0,.rw,none,true⟩]⟩
  | .RQ_COUNTA_HI => ⟨.frt, 0x502014, 0x40, 64, 0, 1, 0x0, [⟨31,0,.rw,none,true⟩]⟩
  | .RQ_CONSA_LO => ⟨.frt, 0x502018, 0x40, 64, 0, 1, 0x0, [⟨31,0,.rw,none,true⟩]⟩
  | .RQ_CONSA_HI => ⟨.frt, 0x50201C, 0x40, 64, 0, 1, 0x0, [⟨31,0,.rw,none,true⟩]⟩
  | .RQ_CTL => ⟨.frt, 0x502008, 0x40, 64, 0, 1, 0xFF0400, [⟨31,31,.rw,none,true⟩, ⟨30,30,.w1c,none,true⟩, ⟨23,16,.rw,none,true⟩, ⟨11,8,.rw,none,true⟩, ⟨1,0,.rw,none,true⟩]⟩
  | .RQ_NOTE => ⟨.frt, 0x50200C, 0x40, 64, 0, 1, 0xFFFF, [⟨15,0,.rw,none,true⟩]⟩
  | .RQ_COUNT => ⟨.frt, 0x502020, 0x40, 64, 0, 1, 0x0, []⟩
  | .RQ_DROP => ⟨.frt, 0x502024, 0x40, 64, 0, 1, 0x0, [⟨31,0,.rc,none,true⟩]⟩
  | .MST_CAPS => ⟨.mst, 0x600000, 0x0, 1, 0, 1, 0x40, []⟩
  | .MST_NOGROUP => ⟨.mst, 0x600004, 0x0, 1, 0, 1, 0x0, [⟨31,0,.rc,none,true⟩]⟩
  | .MST_STRAY => ⟨.mst, 0x600008, 0x0, 1, 0, 1, 0x0, [⟨31,0,.rc,none,true⟩]⟩
  | .MST_ERR => ⟨.mst, 0x60000C, 0x0, 1, 0, 1, 0x0, [⟨7,0,.w1c,none,true⟩]⟩
  | .MG_CTL => ⟨.mst, 0x601000, 0x40, 64, 0, 1, 0xFF0A00, [⟨31,31,.rw,some .operator,false⟩, ⟨30,30,.w1c,none,true⟩, ⟨23,16,.rw,none,true⟩, ⟨15,8,.rw,none,true⟩]⟩
  | .MG_GROUP => ⟨.mst, 0x601004, 0x40, 64, 0, 1, 0x0, [⟨31,0,.rw,some .operator,false⟩]⟩
  | .MG_LEADER => ⟨.mst, 0x601008, 0x40, 64, 0, 1, 0x0, [⟨17,0,.rw,some .operator,false⟩]⟩
  | .MG_MASK => ⟨.mst, 0x60100C, 0x40, 64, 0, 1, 0x0, [⟨17,0,.rw,some .operator,false⟩]⟩
  | .MG_LINE_LO => ⟨.mst, 0x601010, 0x40, 64, 0, 1, 0x0, [⟨31,0,.rw,none,true⟩]⟩
  | .MG_LINE_HI => ⟨.mst, 0x601014, 0x40, 64, 0, 1, 0x0, [⟨31,0,.rw,none,true⟩]⟩
  | .MG_NOTE => ⟨.mst, 0x601018, 0x40, 64, 0, 1, 0xFFFF, [⟨15,0,.rw,none,true⟩]⟩
  | .MG_SEQ => ⟨.mst, 0x60101C, 0x40, 64, 0, 1, 0x0, []⟩
  | .MG_STAT => ⟨.mst, 0x601020, 0x40, 64, 0, 1, 0x0, [⟨15,8,.w1c,none,true⟩]⟩
  | .MG_FAULT => ⟨.mst, 0x601024, 0x40, 64, 0, 1, 0x0, []⟩
  | .MG_TREE => ⟨.mst, 0x601028, 0x40, 64, 0, 1, 0x1F000000, []⟩
  | .MG_HASH_LO => ⟨.mst, 0x60102C, 0x40, 64, 0, 1, 0x0, []⟩
  | .MG_HASH_HI => ⟨.mst, 0x601030, 0x40, 64, 0, 1, 0x0, []⟩
  | .MG_COMMITS => ⟨.mst, 0x601034, 0x40, 64, 0, 1, 0x0, [⟨31,0,.rc,none,true⟩]⟩
  | .MG_ABORTS => ⟨.mst, 0x601038, 0x40, 64, 0, 1, 0x0, [⟨31,0,.rc,none,true⟩]⟩
  | .MG_BADWORD => ⟨.mst, 0x60103C, 0x40, 64, 0, 1, 0x0, [⟨31,0,.rc,none,true⟩]⟩
  | .IC_CAPS => ⟨.ic, 0x100000, 0x0, 1, 0, 1, 0x1200020, []⟩
  | .IC_ERR => ⟨.ic, 0x100004, 0x0, 1, 0, 1, 0x0, [⟨7,0,.w1c,none,true⟩]⟩
  | .IC_PEND => ⟨.ic, 0x100100, 0x4, 32, 0, 1, 0x0, []⟩
  | .IC_SRC => ⟨.ic, 0x101000, 0x4, 1024, 0, 1, 0x800000FF, [⟨31,31,.rw,none,true⟩, ⟨28,28,.rw,none,true⟩, ⟨7,0,.rw,none,true⟩]⟩
  | .IC_CLAIM => ⟨.ic, 0x110000, 0x100, 32, 0, 1, 0x0, [⟨9,0,.rw,none,true⟩]⟩
  | .IC_SVC => ⟨.ic, 0x110004, 0x100, 32, 0, 1, 0x0, [⟨9,0,.rw,none,true⟩]⟩
  | .IC_MOD => ⟨.ic, 0x110008, 0x100, 32, 0, 1, 0x0, [⟨15,0,.rw,none,true⟩]⟩
  | .IC_STAT => ⟨.ic, 0x11000C, 0x100, 32, 0, 1, 0x0, [⟨5,5,.w1c,none,true⟩, ⟨4,4,.w1c,none,true⟩, ⟨3,3,.w1c,none,true⟩]⟩
  | .IC_SWI_SET => ⟨.ic, 0x110010, 0x100, 32, 0, 1, 0x0, [⟨0,0,.w1s,none,true⟩]⟩
  | .IC_SWI_CLR => ⟨.ic, 0x110014, 0x100, 32, 0, 1, 0x0, [⟨0,0,.w1c,none,true⟩]⟩
  | .IC_VBASE_LO => ⟨.ic, 0x110018, 0x100, 32, 0, 1, 0x0, [⟨31,0,.rw,none,true⟩]⟩
  | .IC_VBASE_HI => ⟨.ic, 0x11001C, 0x100, 32, 0, 1, 0x0, [⟨31,0,.rw,none,true⟩]⟩
  | .IC_MTIMECMP_LO => ⟨.ic, 0x110020, 0x100, 32, 0, 1, 0xFFFFFFFF, [⟨31,0,.rw,none,true⟩]⟩
  | .IC_MTIMECMP_HI => ⟨.ic, 0x110024, 0x100, 32, 0, 1, 0xFFFFFFFF, [⟨31,0,.rw,none,true⟩]⟩
  | .IC_MODDLY => ⟨.ic, 0x110028, 0x100, 32, 0, 1, 0x0, [⟨31,0,.rc,none,true⟩]⟩
  | .IC_PSRC => ⟨.ic, 0x110040, 0x100, 32, 4, 32, 0x80000000, [⟨31,31,.rw,none,true⟩, ⟨28,28,.rw,none,true⟩]⟩
  | .ETH_PCTL => ⟨.eth, 0x700000, 0x100, 8, 0, 1, 0x1, [⟨8,8,.w1s,none,false⟩, ⟨0,0,.rw,some .installer,false⟩]⟩
  | .ETH_PSTAT => ⟨.eth, 0x700004, 0x100, 8, 0, 1, 0xD, []⟩
  | .ETH_EVENT => ⟨.eth, 0x700008, 0x100, 8, 0, 1, 0x0, [⟨7,0,.w1c,none,true⟩]⟩
  | .ETH_EVENT_EN => ⟨.eth, 0x70000C, 0x100, 8, 0, 1, 0xFF, [⟨7,0,.rw,none,false⟩]⟩
  | .ETH_RXFRM => ⟨.eth, 0x700010, 0x100, 8, 0, 1, 0x0, [⟨31,0,.rc,none,false⟩]⟩
  | .ETH_TXFRM => ⟨.eth, 0x700014, 0x100, 8, 0, 1, 0x0, [⟨31,0,.rc,none,false⟩]⟩
  | .ETH_RXDROP => ⟨.eth, 0x700018, 0x100, 8, 0, 1, 0x0, [⟨31,0,.rc,none,false⟩]⟩
  | .ETH_FCS => ⟨.eth, 0x70001C, 0x100, 8, 0, 1, 0x0, [⟨31,0,.rc,none,false⟩]⟩
  | .ETH_PFCRX => ⟨.eth, 0x700020, 0x100, 8, 0, 1, 0x0, [⟨31,0,.rc,none,false⟩]⟩
  | .ETH_PFCTX => ⟨.eth, 0x700024, 0x100, 8, 0, 1, 0x0, [⟨31,0,.rc,none,false⟩]⟩
  | .ETH_NCTL => ⟨.eth, 0x701000, 0x100, 2, 0, 1, 0xB0080000, [⟨31,31,.rws,some .installer,false⟩, ⟨30,28,.rws,some .installer,false⟩, ⟨23,16,.rws,some .installer,false⟩, ⟨11,0,.rws,some .installer,false⟩]⟩
  | .ETH_MAC_LO => ⟨.eth, 0x701004, 0x100, 2, 0, 1, 0x0, []⟩
  | .ETH_MAC_HI => ⟨.eth, 0x701008, 0x100, 2, 0, 1, 0x0, []⟩
  | .ETH_IP4 => ⟨.eth, 0x70100C, 0x100, 2, 0, 1, 0x0, [⟨31,0,.rws,some .installer,false⟩]⟩
  | .ETH_IP6 => ⟨.eth, 0x701010, 0x100, 2, 4, 4, 0x0, [⟨31,0,.rws,some .installer,false⟩]⟩
  | .ETH_HTAB_LO => ⟨.eth, 0x701020, 0x100, 2, 0, 1, 0x0, [⟨31,0,.rw,none,true⟩]⟩
  | .ETH_HTAB_HI => ⟨.eth, 0x701024, 0x100, 2, 0, 1, 0x0, [⟨31,0,.rw,none,true⟩]⟩
  | .ETH_HOSTS => ⟨.eth, 0x701028, 0x100, 2, 0, 1, 0x0, []⟩
  | .ETH_HOSTFULL => ⟨.eth, 0x70102C, 0x100, 2, 0, 1, 0x0, [⟨31,0,.rc,none,false⟩]⟩
  | .ETH_MIGR => ⟨.eth, 0x701030, 0x100, 2, 0, 1, 0x0, [⟨31,0,.rc,none,false⟩]⟩
  | .ETH_RAWLOST => ⟨.eth, 0x701034, 0x100, 2, 0, 1, 0x0, [⟨31,0,.rc,none,false⟩]⟩
  | .ETH_QPT_LO => ⟨.eth, 0x702000, 0x0, 1, 0, 1, 0x0, [⟨31,0,.rw,none,true⟩]⟩
  | .ETH_QPT_HI => ⟨.eth, 0x702004, 0x0, 1, 0, 1, 0x0, [⟨31,0,.rw,none,true⟩]⟩
  | .ETH_QPCMD => ⟨.eth, 0x702008, 0x0, 1, 0, 1, 0x0, [⟨31,28,.rw,none,true⟩, ⟨11,0,.rw,none,true⟩]⟩
  | .ETH_ANN => ⟨.eth, 0x70200C, 0x0, 1, 0, 1, 0x800003E8, [⟨31,31,.rws,some .installer,false⟩, ⟨15,0,.rws,some .installer,false⟩]⟩
  | .ETH_ERR => ⟨.eth, 0x702010, 0x0, 1, 0, 1, 0x0, [⟨7,0,.w1c,none,true⟩]⟩
  | .ETH_SEAL_VIOLATION => ⟨.eth, 0x702014, 0x0, 1, 0, 1, 0x0, [⟨31,0,.rc,none,false⟩]⟩
  | .THM_STAT => ⟨.thm, 0xC00000, 0x0, 1, 0, 1, 0xFF000000, []⟩
  | .THM_CAP => ⟨.thm, 0xC00004, 0x0, 1, 0, 1, 0xBB80BB8, []⟩
  | .THM_INLET => ⟨.thm, 0xC00008, 0x0, 1, 0, 1, 0x0, []⟩
  | .THM_FLOW => ⟨.thm, 0xC0000C, 0x0, 1, 0, 1, 0x0, []⟩
  | .THM_DP => ⟨.thm, 0xC00010, 0x0, 1, 0, 1, 0x0, []⟩
  | .THM_LIM => ⟨.thm, 0xC00020, 0x0, 1, 0, 1, 0x695F, [⟨15,8,.rws,some .installer,false⟩, ⟨7,0,.rws,some .installer,false⟩]⟩
  | .THM_TRIP => ⟨.thm, 0xC00024, 0x0, 1, 0, 1, 0x647D7073, []⟩
  | .THM_CFG => ⟨.thm, 0xC00028, 0x0, 1, 0, 1, 0x2D0A460A, [⟨31,24,.rws,some .installer,false⟩, ⟨23,16,.rws,some .installer,false⟩, ⟨15,12,.rws,some .installer,false⟩, ⟨11,8,.rws,some .installer,false⟩, ⟨7,0,.rws,some .installer,false⟩]⟩
  | .THM_SENSFAIL => ⟨.thm, 0xC00030, 0x0, 1, 0, 1, 0x0, [⟨31,0,.rc,none,true⟩]⟩
  | .THM_DISAGREE => ⟨.thm, 0xC00034, 0x0, 1, 0, 1, 0x0, [⟨31,0,.rc,none,true⟩]⟩
  | .THM_CSTALE => ⟨.thm, 0xC00038, 0x0, 1, 0, 1, 0x0, [⟨31,0,.rc,none,true⟩]⟩
  | .THM_EVENT => ⟨.thm, 0xC00040, 0x0, 1, 0, 1, 0x0, [⟨3,0,.w1c,none,false⟩]⟩
  | .THM_EVENT_EN => ⟨.thm, 0xC00044, 0x0, 1, 0, 1, 0xF, [⟨3,0,.rw,none,false⟩]⟩
  | .THM_SFAIL => ⟨.thm, 0xC00050, 0x4, 7, 0, 1, 0x0, []⟩
  | .THM_PAIR => ⟨.thm, 0xC00100, 0x4, 36, 0, 1, 0x0, []⟩
  | .THM_STK => ⟨.thm, 0xC00200, 0x4, 8, 0, 1, 0x0, []⟩
  | .THM_STEW => ⟨.thm, 0xC00220, 0x0, 1, 0, 1, 0x0, []⟩
  | .THM_OE => ⟨.thm, 0xC00230, 0x4, 4, 0, 1, 0x0, []⟩
  | .THM_HEAT => ⟨.thm, 0xC00300, 0x4, 32, 0, 1, 0x0, []⟩
  | .THM_HINT => ⟨.thm, 0xC00380, 0x0, 1, 0, 1, 0xFFFFFFFF, []⟩
  | .THM_ERR => ⟨.thm, 0xC000F0, 0x0, 1, 0, 1, 0x0, [⟨7,0,.w1c,none,false⟩]⟩
  | .THM_SEAL_VIOLATION => ⟨.thm, 0xC000F4, 0x0, 1, 0, 1, 0x0, [⟨31,0,.rc,none,true⟩]⟩
  | .IDT_PART => ⟨.idt, 0xD00000, 0x0, 1, 0, 1, 0x51800000, []⟩
  | .IDT_SERIAL_LO => ⟨.idt, 0xD00004, 0x0, 1, 0, 1, 0x0, []⟩
  | .IDT_SERIAL_HI => ⟨.idt, 0xD00008, 0x0, 1, 0, 1, 0x0, []⟩
  | .IDT_FW => ⟨.idt, 0xD0000C, 0x0, 1, 0, 1, 0x0, []⟩
  | .IDT_MAC_A_LO => ⟨.idt, 0xD00010, 0x0, 1, 0, 1, 0x0, []⟩
  | .IDT_MAC_A_HI => ⟨.idt, 0xD00014, 0x0, 1, 0, 1, 0x0, []⟩
  | .IDT_MAC_B_LO => ⟨.idt, 0xD00018, 0x0, 1, 0, 1, 0x0, []⟩
  | .IDT_MAC_B_HI => ⟨.idt, 0xD0001C, 0x0, 1, 0, 1, 0x0, []⟩
  | .IDT_BOOT => ⟨.idt, 0xD00020, 0x0, 1, 0, 1, 0x0, []⟩
  | .IDT_READY_T_LO => ⟨.idt, 0xD00024, 0x0, 1, 0, 1, 0x0, []⟩
  | .IDT_READY_T_HI => ⟨.idt, 0xD00028, 0x0, 1, 0, 1, 0x0, []⟩
  | .IDT_TILES => ⟨.idt, 0xD0002C, 0x0, 1, 0, 1, 0x0, []⟩
  | .IDT_CORES => ⟨.idt, 0xD00030, 0x0, 1, 0, 1, 0x0, []⟩
  | .IDT_FP_GEN => ⟨.idt, 0xD00034, 0x0, 1, 0, 1, 0x0, []⟩
  | .IDT_WAVE => ⟨.idt, 0xD00038, 0x0, 1, 0, 1, 0x0, []⟩
  | .IDT_MEMCH => ⟨.idt, 0xD0003C, 0x0, 1, 0, 1, 0x0, []⟩
  | .IDT_STEPT => ⟨.idt, 0xD00040, 0x4, 10, 0, 1, 0x0, []⟩
  | .IDT_GOOD => ⟨.idt, 0xD00100, 0x4, 24, 0, 1, 0x0, []⟩
  | .IDT_FP => ⟨.idt, 0xD00200, 0x4, 96, 0, 1, 0x11111111, []⟩
  | .RST_CMD => ⟨.rst, 0xA00000, 0x0, 1, 0, 1, 0x0, [⟨31,28,.rw,none,true⟩, ⟨27,26,.rw,none,true⟩, ⟨9,0,.rw,none,true⟩]⟩
  | .RST_PC_LO => ⟨.rst, 0xA00004, 0x0, 1, 0, 1, 0x0, [⟨31,0,.rw,none,true⟩]⟩
  | .RST_PC_HI => ⟨.rst, 0xA00008, 0x0, 1, 0, 1, 0x0, [⟨31,0,.rw,none,true⟩]⟩
  | .RST_CFG => ⟨.rst, 0xA0000C, 0x0, 1, 0, 1, 0xA30003C, [⟨31,24,.rws,some .installer,true⟩, ⟨23,20,.rws,some .installer,true⟩, ⟨15,0,.rws,some .installer,true⟩]⟩
  | .RST_HANG => ⟨.rst, 0xA00010, 0x0, 1, 0, 1, 0x8C28A28A, [⟨31,26,.rws,some .installer,true⟩, ⟨23,18,.rws,some .installer,true⟩, ⟨17,12,.rws,some .installer,true⟩, ⟨11,6,.rws,some .installer,true⟩, ⟨5,0,.rws,some .installer,true⟩]⟩
  | .RST_SALV_CFG => ⟨.rst, 0xA00014, 0x0, 1, 0, 1, 0x1FC00040, [⟨28,16,.rws,some .installer,true⟩, ⟨6,0,.rws,some .installer,true⟩]⟩
  | .RST_SALV_LO => ⟨.rst, 0xA00020, 0x0, 1, 0, 1, 0x0, [⟨31,0,.rw,none,true⟩]⟩
  | .RST_SALV_HI => ⟨.rst, 0xA00024, 0x0, 1, 0, 1, 0x0, [⟨31,0,.rw,none,true⟩]⟩
  | .RST_LOG_LO => ⟨.rst, 0xA00040, 0x0, 1, 0, 1, 0x0, [⟨31,0,.rw,none,true⟩]⟩
  | .RST_LOG_HI => ⟨.rst, 0xA00044, 0x0, 1, 0, 1, 0x0, [⟨31,0,.rw,none,true⟩]⟩
  | .RST_SALV_CTL => ⟨.rst, 0xA00028, 0x0, 1, 0, 1, 0x5, [⟨3,0,.rw,none,true⟩]⟩
  | .RST_LOG_CTL => ⟨.rst, 0xA00048, 0x0, 1, 0, 1, 0x5, [⟨3,0,.rw,none,true⟩]⟩
  | .RST_SALV_WR => ⟨.rst, 0xA0002C, 0x0, 1, 0, 1, 0x0, []⟩
  | .RST_SALV_RD => ⟨.rst, 0xA00030, 0x0, 1, 0, 1, 0x0, [⟨31,0,.rw,none,true⟩]⟩
  | .RST_LOG_WR => ⟨.rst, 0xA0004C, 0x0, 1, 0, 1, 0x0, []⟩
  | .RST_LOG_RD => ⟨.rst, 0xA00050, 0x0, 1, 0, 1, 0x0, [⟨31,0,.rw,none,true⟩]⟩
  | .RST_EVENT => ⟨.rst, 0xA00060, 0x0, 1, 0, 1, 0x0, [⟨3,0,.w1c,none,true⟩]⟩
  | .RST_EVENT_EN => ⟨.rst, 0xA00064, 0x0, 1, 0, 1, 0xF, [⟨3,0,.rw,none,true⟩]⟩
  | .RST_HANGS => ⟨.rst, 0xA00070, 0x0, 1, 0, 1, 0x0, [⟨31,0,.rc,none,true⟩]⟩
  | .RST_RESETS => ⟨.rst, 0xA00074, 0x0, 1, 0, 1, 0x0, [⟨31,0,.rc,none,true⟩]⟩
  | .RST_ESCAL => ⟨.rst, 0xA00078, 0x0, 1, 0, 1, 0x0, [⟨31,0,.rc,none,true⟩]⟩
  | .RST_ABSORBED => ⟨.rst, 0xA0007C, 0x0, 1, 0, 1, 0x0, [⟨31,0,.rc,none,true⟩]⟩
  | .RST_SALVLOST => ⟨.rst, 0xA00080, 0x0, 1, 0, 1, 0x0, [⟨31,0,.rc,none,true⟩]⟩
  | .RST_LOGLOST => ⟨.rst, 0xA00084, 0x0, 1, 0, 1, 0x0, [⟨31,0,.rc,none,true⟩]⟩
  | .RST_ERR => ⟨.rst, 0xA000F0, 0x0, 1, 0, 1, 0x0, [⟨7,0,.w1c,none,true⟩]⟩
  | .RST_SEAL_VIOLATION => ⟨.rst, 0xA000F4, 0x0, 1, 0, 1, 0x0, [⟨31,0,.rc,none,true⟩]⟩
  | .RST_HREC => ⟨.rst, 0xA00100, 0x4, 8, 0, 1, 0x0, []⟩
  | .RST_DOM_TILE => ⟨.rst, 0xA01000, 0x4, 768, 0, 1, 0x0, []⟩
  | .RST_DOM_CLUSTER => ⟨.rst, 0xA00200, 0x4, 32, 0, 1, 0x0, []⟩
  | .RST_DOM_PART => ⟨.rst, 0xA00280, 0x4, 4, 0, 1, 0x0, []⟩
  | .RST_DOM_CORE => ⟨.rst, 0xA00300, 0x4, 32, 0, 1, 0x0, []⟩
  | .FCL_STAT => ⟨.fcl, 0x900000, 0x0, 1, 0, 1, 0xFF0000, []⟩
  | .FCL_SAFE => ⟨.fcl, 0x900004, 0x0, 1, 0, 1, 0x0, [⟨31,31,.w1s,none,false⟩]⟩
  | .FCL_FAULTN => ⟨.fcl, 0x900008, 0x0, 1, 0, 1, 0x2, [⟨16,16,.rw,none,true⟩, ⟨7,0,.rws,some .installer,false⟩]⟩
  | .FCL_EVENT => ⟨.fcl, 0x90000C, 0x0, 1, 0, 1, 0x0, [⟨31,0,.w1c,none,true⟩]⟩
  | .FCL_EVENT_EN => ⟨.fcl, 0x900010, 0x0, 1, 0, 1, 0x8007FFFF, [⟨31,0,.rw,none,false⟩]⟩
  | .FCL_SAFE_T_LO => ⟨.fcl, 0x900014, 0x0, 1, 0, 1, 0x0, []⟩
  | .FCL_SAFE_T_HI => ⟨.fcl, 0x900018, 0x0, 1, 0, 1, 0x0, []⟩
  | .FCL_SAFEREP => ⟨.fcl, 0x90001C, 0x0, 1, 0, 1, 0x0, [⟨31,0,.rc,none,true⟩]⟩
  | .FCL_PULSES => ⟨.fcl, 0x900020, 0x0, 1, 0, 1, 0x0, [⟨31,0,.rc,none,true⟩]⟩
  | .FCL_ERR => ⟨.fcl, 0x9000F0, 0x0, 1, 0, 1, 0x0, [⟨7,0,.w1c,none,true⟩]⟩
  | .FCL_SEAL_VIOLATION => ⟨.fcl, 0x9000F4, 0x0, 1, 0, 1, 0x0, [⟨31,0,.rc,none,true⟩]⟩
  | .FCL_CLS => ⟨.fcl, 0x900100, 0x10, 32, 0, 1, 0x0, [⟨31,30,.rws,some .installer,false⟩, ⟨29,28,.rws,some .installer,false⟩, ⟨27,26,.rws,some .installer,false⟩, ⟨23,16,.rws,some .installer,false⟩, ⟨15,8,.rws,some .installer,false⟩, ⟨3,0,.rws,some .installer,false⟩]⟩
  | .FCL_LST => ⟨.fcl, 0x900104, 0x10, 32, 0, 1, 0x0, [⟨31,31,.w1c,none,true⟩, ⟨30,30,.w1c,none,true⟩]⟩
  | .FCL_CNT => ⟨.fcl, 0x900108, 0x10, 32, 0, 1, 0x0, [⟨31,0,.rc,none,true⟩]⟩
  | .FCL_WIN => ⟨.fcl, 0x90010C, 0x10, 32, 0, 1, 0x0, []⟩
  | .CVU_CTL => ⟨.cvu, 0x200000, 0x100, 16, 0, 1, 0x0, [⟨9,9,.rw,none,true⟩, ⟨8,8,.rw,none,true⟩, ⟨1,0,.rw,none,true⟩]⟩
  | .CVU_CMD => ⟨.cvu, 0x200004, 0x100, 16, 0, 1, 0x0, [⟨31,31,.w1s,none,true⟩, ⟨30,30,.w1s,none,true⟩]⟩
  | .CVU_CAPS => ⟨.cvu, 0x200008, 0x100, 16, 0, 1, 0x0, []⟩
  | .CVU_RUN_LO => ⟨.cvu, 0x200010, 0x100, 16, 0, 1, 0x0, [⟨31,0,.rw,none,true⟩]⟩
  | .CVU_RUN_HI => ⟨.cvu, 0x200014, 0x100, 16, 0, 1, 0x0, [⟨31,0,.rw,none,true⟩]⟩
  | .CVU_RESULT_LO => ⟨.cvu, 0x200018, 0x100, 16, 0, 1, 0x0, []⟩
  | .CVU_RESULT_HI => ⟨.cvu, 0x20001C, 0x100, 16, 0, 1, 0x0, []⟩
  | .CVU_FEED8 => ⟨.cvu, 0x200020, 0x100, 16, 0, 1, 0x0, [⟨31,0,.rw,none,true⟩]⟩
  | .CVU_FEED16 => ⟨.cvu, 0x200024, 0x100, 16, 0, 1, 0x0, [⟨31,0,.rw,none,true⟩]⟩
  | .CVU_FEED32 => ⟨.cvu, 0x200028, 0x100, 16, 0, 1, 0x0, [⟨31,0,.rw,none,true⟩]⟩
  | .CVU_ALIVE => ⟨.cvu, 0x200030, 0x100, 16, 0, 1, 0x0, [⟨15,0,.rw,none,true⟩]⟩
  | .CVU_FOLD_LO => ⟨.cvu, 0x200038, 0x100, 16, 0, 1, 0x0, [⟨31,0,.rw,none,true⟩]⟩
  | .CVU_FOLD_HI => ⟨.cvu, 0x20003C, 0x100, 16, 0, 1, 0x0, [⟨31,0,.rw,none,true⟩]⟩
  | .CVU_SCAN_ADDR_LO => ⟨.cvu, 0x200040, 0x100, 16, 0, 1, 0x0, [⟨31,0,.rw,none,true⟩]⟩
  | .CVU_SCAN_ADDR_HI => ⟨.cvu, 0x200044, 0x100, 16, 0, 1, 0x0, [⟨31,0,.rw,none,true⟩]⟩
  | .CVU_SCAN_LEN => ⟨.cvu, 0x200048, 0x100, 16, 0, 1, 0x0, [⟨31,0,.rw,none,true⟩]⟩
  | .CVU_SCAN_DONE => ⟨.cvu, 0x20004C, 0x100, 16, 0, 1, 0x0, []⟩
  | .CVU_EXPECT_LO => ⟨.cvu, 0x200050, 0x100, 16, 0, 1, 0x0, [⟨31,0,.rw,none,true⟩]⟩
  | .CVU_EXPECT_HI => ⟨.cvu, 0x200054, 0x100, 16, 0, 1, 0x0, [⟨31,0,.rw,none,true⟩]⟩
  | .CVU_EVENT => ⟨.cvu, 0x200058, 0x100, 16, 0, 1, 0x0, [⟨1,0,.w1c,none,true⟩]⟩
  | .CVU_EVENT_EN => ⟨.cvu, 0x20005C, 0x100, 16, 0, 1, 0x3, [⟨1,0,.rw,none,true⟩]⟩
  | .CVU_ERR => ⟨.cvu, 0x201000, 0x0, 1, 0, 1, 0x0, [⟨7,0,.w1c,none,true⟩]⟩
  | .CVU_OWN => ⟨.cvu, 0x201004, 0x0, 1, 0, 1, 0x8000, []⟩
  | .PRF_CTL => ⟨.prf, 0x300000, 0x0, 1, 0, 1, 0x0, [⟨31,31,.rw,none,true⟩, ⟨1,1,.rw,none,true⟩]⟩
  | .PRF_TSEL => ⟨.prf, 0x300004, 0x0, 1, 0, 1, 0x0, [⟨31,24,.rw,none,true⟩, ⟨23,16,.rw,none,true⟩, ⟨15,8,.rw,none,true⟩, ⟨7,0,.rw,none,true⟩]⟩
  | .PRF_TTHR => ⟨.prf, 0x300008, 0x0, 1, 0, 1, 0x0, [⟨31,24,.rw,none,true⟩, ⟨23,16,.rw,none,true⟩, ⟨15,8,.rw,none,true⟩, ⟨7,0,.rw,none,true⟩]⟩
  | .PRF_TCHAIN => ⟨.prf, 0x30000C, 0x0, 1, 0, 1, 0x0, [⟨1,1,.rw,none,true⟩, ⟨0,0,.rw,none,true⟩]⟩
  | .PRF_OVF => ⟨.prf, 0x300010, 0x0, 1, 0, 1, 0x0, [⟨31,0,.w1c,none,true⟩]⟩
  | .PRF_TOVF => ⟨.prf, 0x300014, 0x0, 1, 0, 1, 0x0, [⟨31,0,.w1c,none,true⟩]⟩
  | .PRF_EVENT => ⟨.prf, 0x300018, 0x0, 1, 0, 1, 0x0, [⟨3,0,.w1c,none,true⟩]⟩
  | .PRF_EVENT_EN => ⟨.prf, 0x30001C, 0x0, 1, 0, 1, 0x0, [⟨3,0,.rw,none,true⟩]⟩
  | .PRF_TALLY_BASE_LO => ⟨.prf, 0x300020, 0x0, 1, 0, 1, 0x0, [⟨31,0,.rw,none,true⟩]⟩
  | .PRF_TALLY_BASE_HI => ⟨.prf, 0x300024, 0x0, 1, 0, 1, 0x0, [⟨31,0,.rw,none,true⟩]⟩
  | .PRF_OUT_BASE_LO => ⟨.prf, 0x300050, 0x0, 1, 0, 1, 0x0, [⟨31,0,.rw,none,true⟩]⟩
  | .PRF_OUT_BASE_HI => ⟨.prf, 0x300054, 0x0, 1, 0, 1, 0x0, [⟨31,0,.rw,none,true⟩]⟩
  | .PRF_TALLY_CTL => ⟨.prf, 0x300028, 0x0, 1, 0, 1, 0x8000004, [⟨31,31,.rw,none,true⟩, ⟨30,30,.w1s,none,true⟩, ⟨29,27,.rw,none,true⟩, ⟨3,0,.rw,none,true⟩]⟩
  | .PRF_TALLY_PER => ⟨.prf, 0x30002C, 0x0, 1, 0, 1, 0x0, [⟨31,0,.rw,none,true⟩]⟩
  | .PRF_TALLY_WR => ⟨.prf, 0x300030, 0x0, 1, 0, 1, 0x0, []⟩
  | .PRF_TALLY_RD => ⟨.prf, 0x300034, 0x0, 1, 0, 1, 0x0, [⟨31,0,.rw,none,true⟩]⟩
  | .PRF_OUT_WR => ⟨.prf, 0x300060, 0x0, 1, 0, 1, 0x0, []⟩
  | .PRF_OUT_RD => ⟨.prf, 0x300064, 0x0, 1, 0, 1, 0x0, [⟨31,0,.rw,none,true⟩]⟩
  | .PRF_TALLY_LOST => ⟨.prf, 0x300038, 0x0, 1, 0, 1, 0x0, [⟨31,0,.rc,none,true⟩]⟩
  | .PRF_OUT_LOST => ⟨.prf, 0x300068, 0x0, 1, 0, 1, 0x0, [⟨31,0,.rc,none,true⟩]⟩
  | .PRF_BWCTL => ⟨.prf, 0x300040, 0x0, 1, 0, 1, 0x3E8, [⟨31,31,.rw,none,true⟩, ⟨13,0,.rw,none,true⟩]⟩
  | .PRF_BW_SEQ => ⟨.prf, 0x300044, 0x0, 1, 0, 1, 0x0, []⟩
  | .PRF_OUT_CTL => ⟨.prf, 0x300058, 0x0, 1, 0, 1, 0x40A, [⟨31,31,.rw,none,true⟩, ⟨11,8,.rw,none,true⟩, ⟨4,0,.rw,none,true⟩]⟩
  | .PRF_OUT_SEED => ⟨.prf, 0x30005C, 0x0, 1, 0, 1, 0x0, [⟨31,0,.rw,none,true⟩]⟩
  | .PRF_ERR => ⟨.prf, 0x3000F0, 0x0, 1, 0, 1, 0x0, [⟨7,0,.w1c,none,true⟩]⟩
  | .PRF_CNT_SEL => ⟨.prf, 0x300100, 0x4, 32, 0, 1, 0x0, [⟨31,31,.rw,none,true⟩, ⟨30,30,.rw,none,true⟩, ⟨27,20,.rw,none,true⟩, ⟨19,10,.rw,none,true⟩, ⟨7,0,.rw,none,true⟩]⟩
  | .PRF_CNT => ⟨.prf, 0x300200, 0x4, 32, 0, 1, 0x0, [⟨31,0,.rw,none,true⟩]⟩
  | .PRF_BW => ⟨.prf, 0x300300, 0x4, 56, 0, 1, 0x0, []⟩
  | .PRF_TCNT => ⟨.prf, 0x310000, 0x10, 768, 4, 4, 0x0, [⟨31,0,.rw,none,true⟩]⟩
  | .PRF_UV_CNT_LO => ⟨.prf, 0x340000, 0x1000, 64, 8, 4, 0x0, []⟩
  | .PRF_UV_CNT_HI => ⟨.prf, 0x340004, 0x1000, 64, 8, 4, 0x0, []⟩
  | .PRF_UV_HANDLE => ⟨.prf, 0x340020, 0x1000, 64, 0, 1, 0x0, []⟩
  | .SEC_STAT => ⟨.sec, 0x45000000, 0x0, 1, 0, 1, 0xFF0000, [⟨8,8,.w1c,none,false⟩]⟩
  | .SEC_STAGE => ⟨.sec, 0x45000004, 0x0, 1, 0, 1, 0x0, []⟩
  | .SEC_SVN => ⟨.sec, 0x45000008, 0x4, 2, 0, 1, 0x0, []⟩
  | .SEC_BADTAG => ⟨.sec, 0x45000010, 0x0, 1, 0, 1, 0x0, [⟨31,0,.rc,none,false⟩]⟩
  | .SEC_ROOT => ⟨.sec, 0x45000040, 0x4, 8, 0, 1, 0x0, []⟩
  | .SEC_MEAS => ⟨.sec, 0x45000100, 0x20, 8, 4, 8, 0x0, []⟩
  | .JNL_HEAD_LO => ⟨.jnl, 0x46000000, 0x0, 1, 0, 1, 0x0, []⟩
  | .JNL_HEAD_HI => ⟨.jnl, 0x46000004, 0x0, 1, 0, 1, 0x0, []⟩
  | .JNL_TAIL_LO => ⟨.jnl, 0x46000008, 0x0, 1, 0, 1, 0x0, []⟩
  | .JNL_TAIL_HI => ⟨.jnl, 0x4600000C, 0x0, 1, 0, 1, 0x0, []⟩
  | .JNL_LOST => ⟨.jnl, 0x46000010, 0x0, 1, 0, 1, 0x0, []⟩
  | .JNL_HASH => ⟨.jnl, 0x46000020, 0x4, 8, 0, 1, 0x0, []⟩
  | .JNL_TAILHASH => ⟨.jnl, 0x46000040, 0x4, 8, 0, 1, 0x0, []⟩

/-- The registers of each block. -/
def Block.regs : Block → List Reg
  | .tmb => [
      .TMB_PTIME_LO, .TMB_PTIME_HI, .TMB_STATUS, .TMB_OFFSET, .TMB_TOD_LO, .TMB_TOD_HI, .TMB_STEPS,
      .TMB_PPS_MISS, .TMB_ERR]
  | .cvn => [
      .CVN_CAPS, .CVN_LIVE, .CVN_STALE_BALES, .CVN_ERR, .CVN_SLOT, .CVN_SLOT_FLIGHT,
      .CVN_SLOT_DONE, .CVN_SLOT_THRESH, .CVN_SLOT_ABORTED, .CVN_SLOT_ERR, .CVN_SLOT_HOPDROP,
      .CVN_SLOT_TOLL, .CVN_SLOT_DEBT, .CVN_SLOT_LATE, .CVN_SLOT_SHORT, .CVN_SLOT_RING_WR,
      .CVN_SLOT_RING_RD, .CVN_SLOT_EVENT, .CVN_SLOT_EVENT_EN, .FO_CTL, .FO_CAP, .FO_EXITS,
      .FO_STALEWIN, .FO_SENT, .FO_DROP]
  | .tile => [
      .TILE_ID, .TILE_STATE, .TILE_PC, .TILE_EXC, .TILE_EXC_ADDR_LO, .TILE_EXC_ADDR_HI,
      .TILE_FLAGS, .TILE_SEED_LO, .TILE_SEED_HI, .TILE_EVENT, .TILE_NOTE, .TILE_TIMER_LO,
      .TILE_TIMER_HI, .TILE_MXSB, .TILE_MVSTAT, .TILE_INBOX, .TILE_NEXT, .TILE_ERR, .TILE_ECC,
      .TILE_NOTEDROP, .TILE_MW]
  | .mem => [
      .MEM_CAPS, .MEM_STATUS, .MEM_ERR, .MEM_SEAL_VIOLATION, .MEM_SCRUB, .MEM_SCRUB_PASS,
      .MEM_ERRLOG_LO, .MEM_ERRLOG_HI, .MEM_ERRLOG_INFO, .MEM_STK, .MEM_RGN_BASE, .MEM_RGN_SIZE,
      .MEM_RGN_CTL, .MEM_DEP_ERR, .MEM_CH_CE, .MEM_CH_UE, .MEM_CH_POISRD, .MEM_CH_STAT]
  | .mtr => [
      .MTR_STAT, .MTR_P, .MTR_V, .MTR_I, .MTR_TS_LO, .MTR_TS_HI, .MTR_NSAMP, .MTR_RSTAT, .MTR_E_LO,
      .MTR_E_HI, .MTR_ELIFE_LO, .MTR_ELIFE_HI, .MTR_SNAP_E_LO, .MTR_SNAP_E_HI, .MTR_SNAP_T_LO,
      .MTR_SNAP_T_HI, .MTR_SNAP_SEQ, .MTR_SNAP_STAT, .MTR_GAP_T_LO, .MTR_GAP_T_HI, .MTR_ESTK,
      .MTR_NEG, .MTR_XDIFF, .MTR_ESTJUMP, .MTR_EFF, .MTR_RAIL, .MTR_CAL, .MTR_SETTLE, .MTR_ACC_CTL,
      .MTR_ACC_EA_LO, .MTR_ACC_EA_HI, .MTR_ACC_EB_LO, .MTR_ACC_EB_HI, .MTR_ERR,
      .MTR_SEAL_VIOLATION]
  | .gov => [
      .GOV_STATE, .GOV_TARGET, .GOV_DEMAND, .GOV_EST, .GOV_MET, .GOV_ACT, .GOV_MWSTAT, .GOV_SEQ,
      .GOV_ALIVE, .GOV_SHORT_OVER_LO, .GOV_SHORT_OVER_HI, .GOV_SHORT_UNDER_LO, .GOV_SHORT_UNDER_HI,
      .GOV_STALE, .GOV_CRC, .GOV_REFUSED, .GOV_HOLDEXP, .GOV_DIPS, .GOV_DROOP, .GOV_FRSTALE,
      .GOV_SAFE, .GOV_SLEW, .GOV_BUDLIM, .GOV_DIP, .GOV_MW, .GOV_FR_CTL, .GOV_FR_PT, .GOV_LAW,
      .GOV_ERR, .GOV_SEAL_VIOLATION]
  | .pww => [
      .PWW_STATE, .PWW_TARGET, .PWW_MET, .PWW_FLOOR, .PWW_RATED, .PWW_E_LO, .PWW_E_HI,
      .PWW_SNAP_E_LO, .PWW_SNAP_E_HI, .PWW_SNAP_T_LO, .PWW_SNAP_T_HI, .PWW_SHORT_OVER_LO,
      .PWW_SHORT_OVER_HI, .PWW_SHORT_UNDER_LO, .PWW_SHORT_UNDER_HI, .PWW_SNAP_SEQ, .PWW_SNAP_STAT,
      .PWW_SURE, .PWW_CVN_P]
  | .ost => [
      .OST_STAT, .OST_CLAIM_A, .OST_CLAIM_B, .OST_OUT, .OST_CFG, .OST_CMD, .OST_SWITCHES,
      .OST_LASTSW_LO, .OST_LASTSW_HI, .OST_LASTSW_INFO, .OST_DISAGREE, .OST_MCRC, .OST_MGAP,
      .OST_ORPHAN, .OST_IGNORED, .OST_ERR, .OST_SEAL_VIOLATION]
  | .fpt => [
      .FPT_CTL, .FPT_MAP, .FPT_STAT, .FPT_PEER_SERIAL_LO, .FPT_PEER_SERIAL_HI, .FPT_PEER_COORD,
      .FPT_PEER_FW, .FPT_PEER_PROTO, .FPT_HELLO_T_LO, .FPT_HELLO_T_HI, .FPT_EVENT, .FPT_EVENT_EN,
      .FPT_REPLAY, .FPT_UNCORR, .FPT_HELLOFAIL, .FPT_STALEHELLO, .FPT_TRAINS, .FPT_DEPARTS,
      .FPT_LERR, .FPT_LWIN_LO, .FPT_LWIN_HI, .FPT_LANE_ST, .FPT_ERR, .FPT_GERR, .FPT_COORD,
      .FPT_MACHINE, .FPT_THRESH, .FPT_AUDIT, .FPT_TWIST, .FPT_DIM]
  | .frt => [
      .FRT_CFG, .FRT_STAT, .FRT_WEIGHT, .FRT_AVOID, .FRT_DRAIN, .FRT_CMAP_CTL, .FRT_CMAP_DST,
      .FRT_CMAP, .FRT_NOTICE, .FRT_C0DEMOTE, .FRT_C0OVERSIZE, .FRT_HOPDROP, .FRT_HCRC, .FRT_PCRC,
      .FRT_UNREACH, .FRT_MCLOST, .FRT_HANDBACK, .FRT_DETOUR, .FRT_NOTICES, .FRT_SLICEVIOL,
      .FRT_ERR, .SQ_RING_LO, .SQ_RING_HI, .SQ_PRODA_LO, .SQ_PRODA_HI, .SQ_DONEA_LO, .SQ_DONEA_HI,
      .SQ_CTL, .SQ_SLICE, .SQ_CONS, .SQ_DONE, .SQ_REFUSED, .RQ_RING_LO, .RQ_RING_HI, .RQ_COUNTA_LO,
      .RQ_COUNTA_HI, .RQ_CONSA_LO, .RQ_CONSA_HI, .RQ_CTL, .RQ_NOTE, .RQ_COUNT, .RQ_DROP]
  | .mst => [
      .MST_CAPS, .MST_NOGROUP, .MST_STRAY, .MST_ERR, .MG_CTL, .MG_GROUP, .MG_LEADER, .MG_MASK,
      .MG_LINE_LO, .MG_LINE_HI, .MG_NOTE, .MG_SEQ, .MG_STAT, .MG_FAULT, .MG_TREE, .MG_HASH_LO,
      .MG_HASH_HI, .MG_COMMITS, .MG_ABORTS, .MG_BADWORD]
  | .ic => [
      .IC_CAPS, .IC_ERR, .IC_PEND, .IC_SRC, .IC_CLAIM, .IC_SVC, .IC_MOD, .IC_STAT, .IC_SWI_SET,
      .IC_SWI_CLR, .IC_VBASE_LO, .IC_VBASE_HI, .IC_MTIMECMP_LO, .IC_MTIMECMP_HI, .IC_MODDLY,
      .IC_PSRC]
  | .eth => [
      .ETH_PCTL, .ETH_PSTAT, .ETH_EVENT, .ETH_EVENT_EN, .ETH_RXFRM, .ETH_TXFRM, .ETH_RXDROP,
      .ETH_FCS, .ETH_PFCRX, .ETH_PFCTX, .ETH_NCTL, .ETH_MAC_LO, .ETH_MAC_HI, .ETH_IP4, .ETH_IP6,
      .ETH_HTAB_LO, .ETH_HTAB_HI, .ETH_HOSTS, .ETH_HOSTFULL, .ETH_MIGR, .ETH_RAWLOST, .ETH_QPT_LO,
      .ETH_QPT_HI, .ETH_QPCMD, .ETH_ANN, .ETH_ERR, .ETH_SEAL_VIOLATION]
  | .thm => [
      .THM_STAT, .THM_CAP, .THM_INLET, .THM_FLOW, .THM_DP, .THM_LIM, .THM_TRIP, .THM_CFG,
      .THM_SENSFAIL, .THM_DISAGREE, .THM_CSTALE, .THM_EVENT, .THM_EVENT_EN, .THM_SFAIL, .THM_PAIR,
      .THM_STK, .THM_STEW, .THM_OE, .THM_HEAT, .THM_HINT, .THM_ERR, .THM_SEAL_VIOLATION]
  | .idt => [
      .IDT_PART, .IDT_SERIAL_LO, .IDT_SERIAL_HI, .IDT_FW, .IDT_MAC_A_LO, .IDT_MAC_A_HI,
      .IDT_MAC_B_LO, .IDT_MAC_B_HI, .IDT_BOOT, .IDT_READY_T_LO, .IDT_READY_T_HI, .IDT_TILES,
      .IDT_CORES, .IDT_FP_GEN, .IDT_WAVE, .IDT_MEMCH, .IDT_STEPT, .IDT_GOOD, .IDT_FP]
  | .rst => [
      .RST_CMD, .RST_PC_LO, .RST_PC_HI, .RST_CFG, .RST_HANG, .RST_SALV_CFG, .RST_SALV_LO,
      .RST_SALV_HI, .RST_LOG_LO, .RST_LOG_HI, .RST_SALV_CTL, .RST_LOG_CTL, .RST_SALV_WR,
      .RST_SALV_RD, .RST_LOG_WR, .RST_LOG_RD, .RST_EVENT, .RST_EVENT_EN, .RST_HANGS, .RST_RESETS,
      .RST_ESCAL, .RST_ABSORBED, .RST_SALVLOST, .RST_LOGLOST, .RST_ERR, .RST_SEAL_VIOLATION,
      .RST_HREC, .RST_DOM_TILE, .RST_DOM_CLUSTER, .RST_DOM_PART, .RST_DOM_CORE]
  | .fcl => [
      .FCL_STAT, .FCL_SAFE, .FCL_FAULTN, .FCL_EVENT, .FCL_EVENT_EN, .FCL_SAFE_T_LO, .FCL_SAFE_T_HI,
      .FCL_SAFEREP, .FCL_PULSES, .FCL_ERR, .FCL_SEAL_VIOLATION, .FCL_CLS, .FCL_LST, .FCL_CNT,
      .FCL_WIN]
  | .cvu => [
      .CVU_CTL, .CVU_CMD, .CVU_CAPS, .CVU_RUN_LO, .CVU_RUN_HI, .CVU_RESULT_LO, .CVU_RESULT_HI,
      .CVU_FEED8, .CVU_FEED16, .CVU_FEED32, .CVU_ALIVE, .CVU_FOLD_LO, .CVU_FOLD_HI,
      .CVU_SCAN_ADDR_LO, .CVU_SCAN_ADDR_HI, .CVU_SCAN_LEN, .CVU_SCAN_DONE, .CVU_EXPECT_LO,
      .CVU_EXPECT_HI, .CVU_EVENT, .CVU_EVENT_EN, .CVU_ERR, .CVU_OWN]
  | .prf => [
      .PRF_CTL, .PRF_TSEL, .PRF_TTHR, .PRF_TCHAIN, .PRF_OVF, .PRF_TOVF, .PRF_EVENT, .PRF_EVENT_EN,
      .PRF_TALLY_BASE_LO, .PRF_TALLY_BASE_HI, .PRF_OUT_BASE_LO, .PRF_OUT_BASE_HI, .PRF_TALLY_CTL,
      .PRF_TALLY_PER, .PRF_TALLY_WR, .PRF_TALLY_RD, .PRF_OUT_WR, .PRF_OUT_RD, .PRF_TALLY_LOST,
      .PRF_OUT_LOST, .PRF_BWCTL, .PRF_BW_SEQ, .PRF_OUT_CTL, .PRF_OUT_SEED, .PRF_ERR, .PRF_CNT_SEL,
      .PRF_CNT, .PRF_BW, .PRF_TCNT, .PRF_UV_CNT_LO, .PRF_UV_CNT_HI, .PRF_UV_HANDLE]
  | .sec => [
      .SEC_STAT, .SEC_STAGE, .SEC_SVN, .SEC_BADTAG, .SEC_ROOT, .SEC_MEAS]
  | .jnl => [
      .JNL_HEAD_LO, .JNL_HEAD_HI, .JNL_TAIL_LO, .JNL_TAIL_HI, .JNL_LOST, .JNL_HASH, .JNL_TAILHASH]

/-- The lines of FCL_CLS after reset (R606): WIN in units of 100 ms, THR, PERS and the reaction codes of R610 (0 LOG, 1 NOTIFY,
2 RECOVER, 3 SAFE) to ISOLATED, RECURRENT and PERSISTENT. Reserved lines and line 31 have none. -/
def fclLine : Nat → Option (Nat × Nat × Nat × Nat × Nat × Nat)
  | 0 => some (600, 16, 3, 0, 1, 2)
  | 1 => some (10, 1, 3, 1, 2, 2)
  | 2 => some (600, 64, 3, 0, 1, 1)
  | 3 => some (10, 1, 3, 1, 1, 1)
  | 4 => some (600, 255, 3, 0, 0, 1)
  | 5 => some (10, 1, 3, 1, 1, 1)
  | 6 => some (10, 1, 1, 1, 1, 1)
  | 7 => some (10, 1, 1, 1, 1, 1)
  | 8 => some (600, 16, 3, 0, 1, 2)
  | 9 => some (10, 1, 3, 1, 2, 2)
  | 10 => some (600, 4, 3, 0, 1, 1)
  | 11 => some (600, 1, 3, 1, 1, 1)
  | 12 => some (10, 1, 3, 1, 1, 1)
  | 13 => some (10, 1, 3, 1, 2, 3)
  | 14 => some (600, 8, 3, 0, 1, 1)
  | 15 => some (10, 1, 3, 1, 1, 3)
  | 16 => some (600, 10, 3, 0, 1, 1)
  | 17 => some (600, 1, 3, 1, 1, 1)
  | 18 => some (600, 64, 3, 0, 0, 1)
  | _ => none

/-- The FCL_CLS word of a line after reset. WIN has 8 bits and the table gives 600 for some lines: the word shows its low 8 bits, and
the line runs on the whole 600 (log 12, DESIGN CHOICE). -/
def fclClsReset (n : Nat) : Nat :=
  match fclLine n with
  | some (w, t, p, i, r, q) => i * 2 ^ 30 + r * 2 ^ 28 + q * 2 ^ 26 + (w % 256) * 2 ^ 16 + t * 2 ^ 8 + p
  | none => 0

/-- The mesh place of tile `n` (R31). -/
def tileX (n : Nat) : Nat := (n / 192 % 2) * 16 + (n % 192 / 24 % 4) * 4 + n % 24 % 4
def tileY (n : Nat) : Nat := (n / 192 / 2) * 12 + (n % 192 / 24 / 4) * 6 + n % 24 / 4

/-- The global cluster number of tile `n` (R31). -/
def tileCluster (n : Nat) : Nat := n / 192 * 8 + n % 192 / 24

/-- The tile at a mesh place (R31). -/
def tileAt (x y : Nat) : Nat :=
  (y / 12 * 2 + x / 16) * 192 + (y % 12 / 6 * 4 + x % 16 / 4) * 24 + (y % 6 * 4 + x % 4)

/-- The algorithm number and width of check-value unit `u` (R623). -/
def cvuAlg (u : Nat) : Nat :=
  if u < 10 then 0 else if u < 12 then 1 else if u = 12 then 2 else if u = 13 then 3 else if u = 14 then 4 else 0
def cvuWidth (u : Nat) : Nat :=
  match cvuAlg u with
  | 2 => 64 | 3 => 16 | 4 => 8 | _ => 32

/-- Shared interrupt sources that the table of R519 names. -/
def icSourceUsed (n : Nat) : Bool :=
  (32 ≤ n && n ≤ 38) || (48 ≤ n && n ≤ 91) || (96 ≤ n && n ≤ 287)

/-- What register `r`, copy `i`, reads after reset. Where the table says "per tile" or names a rule, the value is computed here;
values that differ by variant or package are those of an XJ-5180-A (log 2). -/
def Reg.rst (r : Reg) (i : Nat) : Nat :=
  match r with
  | .TILE_ID => tileX i * 2 ^ 25 + tileY i * 2 ^ 20 + tileCluster i * 2 ^ 15 + i
  | .CVN_SLOT => i
  | .IC_SRC => if icSourceUsed i then 2 ^ 31 + (if i ≤ 34 then 2 ^ 28 else 0) + 0xFF else 0
  | .IC_PSRC =>
    let k := i % 32
    if 1 ≤ k && k ≤ 4 then 2 ^ 31 + (if k = 3 then 2 ^ 28 else 0) else 0
  | .MTR_CAL => if i % 6 = 0 || i % 6 = 2 then 0x40000000 else 0
  | .FCL_CLS => fclClsReset i
  | .CVU_CAPS => cvuWidth i * 256 + cvuAlg i
  | .CVU_RUN_LO => if cvuWidth i = 16 then 0xFFFF else if cvuWidth i = 8 then 0xFF else 0xFFFFFFFF
  | .CVU_RUN_HI => if cvuWidth i = 64 then 0xFFFFFFFF else 0
  | .MTR_SETTLE => 0
  | .IDT_SERIAL_LO => 1
  | _ => r.desc.reset

/-- The key of register `r`, copy `i`: copies are numbered row by row where the table gives two dimensions. -/
def Reg.key (r : Reg) (i : Nat) : Nat :=
  let d := r.desc
  d.base + i / d.c2 * d.s1 + i % d.c2 * d.s2

/-- The number of copies of a register. -/
def Reg.copies (r : Reg) : Nat := r.desc.c1 * r.desc.c2

/-- Whether key `k` is a copy of `r`, and which. IC_SRC has no copies below 32 and IC_PSRC no copy 0 in a bank. -/
def Reg.index? (r : Reg) (k : Nat) : Option Nat :=
  let d := r.desc
  if k < d.base then none
  else
    let o := k - d.base
    let a := if d.s1 = 0 then 0 else min (o / d.s1) (d.c1 - 1)
    let o' := o - a * d.s1
    let b := if d.s2 = 0 then 0 else o' / d.s2
    if b < d.c2 && o' = b * d.s2 && !(r = .IC_SRC && a < 32) && !(r = .IC_PSRC && b = 0) then some (a * d.c2 + b) else none

/-- The block that a key lies in (R36, R37). -/
def Block.ofKey (k : Nat) : Option Block :=
  if k < 0xF00000 then
    match k / 0x100000 with
    | 0 => some .cvn | 1 => some .ic | 2 => some .cvu | 3 => some .prf | 4 => some .fpt | 5 => some .frt | 6 => some .mst
    | 7 => some .eth | 8 => some .mem | 9 => some .fcl | 10 => some .rst | 11 => some .pww | 12 => some .thm | 13 => some .idt
    | _ => some .tmb
  else if k < 0x40000000 then none
  else if k < 0x42000000 then some .gov
  else if k < 0x43000000 then some .ost
  else if k < 0x44000000 then some .mtr
  else if k < 0x45000000 then none
  else if k < 0x46000000 then some .sec
  else if k < 0x47000000 then some .jnl
  else if 0x10000000000 ≤ k && k < 0x10030000000 then some .tile
  else none

/-- The register at a key, and which copy. -/
def Reg.at (k : Nat) : Option (Reg × Nat) :=
  match Block.ofKey k with
  | none => none
  | some b => b.regs.findSome? (fun r => (r.index? k).map (fun i => (r, i)))

/-- The low and high words of register pairs (R9, R10): each pair's low register with its high register. -/
def Reg.highOf : Reg → Option Reg
  | .TMB_PTIME_LO => some .TMB_PTIME_HI
  | .TMB_TOD_LO => some .TMB_TOD_HI
  | .TILE_EXC_ADDR_LO => some .TILE_EXC_ADDR_HI
  | .TILE_SEED_LO => some .TILE_SEED_HI
  | .TILE_TIMER_LO => some .TILE_TIMER_HI
  | .MEM_ERRLOG_LO => some .MEM_ERRLOG_HI
  | .MTR_TS_LO => some .MTR_TS_HI
  | .MTR_E_LO => some .MTR_E_HI
  | .MTR_ELIFE_LO => some .MTR_ELIFE_HI
  | .MTR_SNAP_E_LO => some .MTR_SNAP_E_HI
  | .MTR_SNAP_T_LO => some .MTR_SNAP_T_HI
  | .MTR_GAP_T_LO => some .MTR_GAP_T_HI
  | .MTR_ACC_EA_LO => some .MTR_ACC_EA_HI
  | .MTR_ACC_EB_LO => some .MTR_ACC_EB_HI
  | .GOV_SHORT_OVER_LO => some .GOV_SHORT_OVER_HI
  | .GOV_SHORT_UNDER_LO => some .GOV_SHORT_UNDER_HI
  | .PWW_E_LO => some .PWW_E_HI
  | .PWW_SNAP_E_LO => some .PWW_SNAP_E_HI
  | .PWW_SNAP_T_LO => some .PWW_SNAP_T_HI
  | .PWW_SHORT_OVER_LO => some .PWW_SHORT_OVER_HI
  | .PWW_SHORT_UNDER_LO => some .PWW_SHORT_UNDER_HI
  | .OST_LASTSW_LO => some .OST_LASTSW_HI
  | .FPT_PEER_SERIAL_LO => some .FPT_PEER_SERIAL_HI
  | .FPT_HELLO_T_LO => some .FPT_HELLO_T_HI
  | .FPT_LWIN_LO => some .FPT_LWIN_HI
  | .SQ_RING_LO => some .SQ_RING_HI
  | .SQ_PRODA_LO => some .SQ_PRODA_HI
  | .SQ_DONEA_LO => some .SQ_DONEA_HI
  | .RQ_RING_LO => some .RQ_RING_HI
  | .RQ_COUNTA_LO => some .RQ_COUNTA_HI
  | .RQ_CONSA_LO => some .RQ_CONSA_HI
  | .MG_LINE_LO => some .MG_LINE_HI
  | .MG_HASH_LO => some .MG_HASH_HI
  | .IC_VBASE_LO => some .IC_VBASE_HI
  | .IC_MTIMECMP_LO => some .IC_MTIMECMP_HI
  | .ETH_MAC_LO => some .ETH_MAC_HI
  | .ETH_HTAB_LO => some .ETH_HTAB_HI
  | .ETH_QPT_LO => some .ETH_QPT_HI
  | .IDT_SERIAL_LO => some .IDT_SERIAL_HI
  | .IDT_MAC_A_LO => some .IDT_MAC_A_HI
  | .IDT_MAC_B_LO => some .IDT_MAC_B_HI
  | .IDT_READY_T_LO => some .IDT_READY_T_HI
  | .RST_PC_LO => some .RST_PC_HI
  | .RST_SALV_LO => some .RST_SALV_HI
  | .RST_LOG_LO => some .RST_LOG_HI
  | .FCL_SAFE_T_LO => some .FCL_SAFE_T_HI
  | .CVU_RUN_LO => some .CVU_RUN_HI
  | .CVU_RESULT_LO => some .CVU_RESULT_HI
  | .CVU_FOLD_LO => some .CVU_FOLD_HI
  | .CVU_SCAN_ADDR_LO => some .CVU_SCAN_ADDR_HI
  | .CVU_EXPECT_LO => some .CVU_EXPECT_HI
  | .PRF_TALLY_BASE_LO => some .PRF_TALLY_BASE_HI
  | .PRF_OUT_BASE_LO => some .PRF_OUT_BASE_HI
  | .PRF_UV_CNT_LO => some .PRF_UV_CNT_HI
  | .JNL_HEAD_LO => some .JNL_HEAD_HI
  | .JNL_TAIL_LO => some .JNL_TAIL_HI
  | _ => none

/-- The low register of a high one. -/
def Reg.lowOf : Reg → Option Reg
  | .TMB_PTIME_HI => some .TMB_PTIME_LO
  | .TMB_TOD_HI => some .TMB_TOD_LO
  | .TILE_EXC_ADDR_HI => some .TILE_EXC_ADDR_LO
  | .TILE_SEED_HI => some .TILE_SEED_LO
  | .TILE_TIMER_HI => some .TILE_TIMER_LO
  | .MEM_ERRLOG_HI => some .MEM_ERRLOG_LO
  | .MTR_TS_HI => some .MTR_TS_LO
  | .MTR_E_HI => some .MTR_E_LO
  | .MTR_ELIFE_HI => some .MTR_ELIFE_LO
  | .MTR_SNAP_E_HI => some .MTR_SNAP_E_LO
  | .MTR_SNAP_T_HI => some .MTR_SNAP_T_LO
  | .MTR_GAP_T_HI => some .MTR_GAP_T_LO
  | .MTR_ACC_EA_HI => some .MTR_ACC_EA_LO
  | .MTR_ACC_EB_HI => some .MTR_ACC_EB_LO
  | .GOV_SHORT_OVER_HI => some .GOV_SHORT_OVER_LO
  | .GOV_SHORT_UNDER_HI => some .GOV_SHORT_UNDER_LO
  | .PWW_E_HI => some .PWW_E_LO
  | .PWW_SNAP_E_HI => some .PWW_SNAP_E_LO
  | .PWW_SNAP_T_HI => some .PWW_SNAP_T_LO
  | .PWW_SHORT_OVER_HI => some .PWW_SHORT_OVER_LO
  | .PWW_SHORT_UNDER_HI => some .PWW_SHORT_UNDER_LO
  | .OST_LASTSW_HI => some .OST_LASTSW_LO
  | .FPT_PEER_SERIAL_HI => some .FPT_PEER_SERIAL_LO
  | .FPT_HELLO_T_HI => some .FPT_HELLO_T_LO
  | .FPT_LWIN_HI => some .FPT_LWIN_LO
  | .SQ_RING_HI => some .SQ_RING_LO
  | .SQ_PRODA_HI => some .SQ_PRODA_LO
  | .SQ_DONEA_HI => some .SQ_DONEA_LO
  | .RQ_RING_HI => some .RQ_RING_LO
  | .RQ_COUNTA_HI => some .RQ_COUNTA_LO
  | .RQ_CONSA_HI => some .RQ_CONSA_LO
  | .MG_LINE_HI => some .MG_LINE_LO
  | .MG_HASH_HI => some .MG_HASH_LO
  | .IC_VBASE_HI => some .IC_VBASE_LO
  | .IC_MTIMECMP_HI => some .IC_MTIMECMP_LO
  | .ETH_MAC_HI => some .ETH_MAC_LO
  | .ETH_HTAB_HI => some .ETH_HTAB_LO
  | .ETH_QPT_HI => some .ETH_QPT_LO
  | .IDT_SERIAL_HI => some .IDT_SERIAL_LO
  | .IDT_MAC_A_HI => some .IDT_MAC_A_LO
  | .IDT_MAC_B_HI => some .IDT_MAC_B_LO
  | .IDT_READY_T_HI => some .IDT_READY_T_LO
  | .RST_PC_HI => some .RST_PC_LO
  | .RST_SALV_HI => some .RST_SALV_LO
  | .RST_LOG_HI => some .RST_LOG_LO
  | .FCL_SAFE_T_HI => some .FCL_SAFE_T_LO
  | .CVU_RUN_HI => some .CVU_RUN_LO
  | .CVU_RESULT_HI => some .CVU_RESULT_LO
  | .CVU_FOLD_HI => some .CVU_FOLD_LO
  | .CVU_SCAN_ADDR_HI => some .CVU_SCAN_ADDR_LO
  | .CVU_EXPECT_HI => some .CVU_EXPECT_LO
  | .PRF_TALLY_BASE_HI => some .PRF_TALLY_BASE_LO
  | .PRF_OUT_BASE_HI => some .PRF_OUT_BASE_LO
  | .PRF_UV_CNT_HI => some .PRF_UV_CNT_LO
  | .JNL_HEAD_HI => some .JNL_HEAD_LO
  | .JNL_TAIL_HI => some .JNL_TAIL_LO
  | _ => none

/-- The register that records refused writes of a block (R18, R40), where the block has one. -/
def Block.err : Block → Option Reg
  | .tmb => some .TMB_ERR | .cvn => some .CVN_ERR | .tile => some .TILE_ERR | .mem => some .MEM_ERR | .mtr => some .MTR_ERR
  | .gov => some .GOV_ERR | .ost => some .OST_ERR | .fpt => some .FPT_ERR | .frt => some .FRT_ERR | .mst => some .MST_ERR
  | .ic => some .IC_ERR | .eth => some .ETH_ERR | .thm => some .THM_ERR | .rst => some .RST_ERR | .fcl => some .FCL_ERR
  | .cvu => some .CVU_ERR | .prf => some .PRF_ERR | .pww => none | .idt => none | .sec => none | .jnl => none

/-- The register that counts writes to sealed fields of a block (R16), where the block has one. -/
def Block.sealViolation : Block → Option Reg
  | .mem => some .MEM_SEAL_VIOLATION | .mtr => some .MTR_SEAL_VIOLATION | .gov => some .GOV_SEAL_VIOLATION
  | .ost => some .OST_SEAL_VIOLATION | .eth => some .ETH_SEAL_VIOLATION | .thm => some .THM_SEAL_VIOLATION
  | .rst => some .RST_SEAL_VIOLATION | .fcl => some .FCL_SEAL_VIOLATION
  | _ => none

end Sys2Proof.Machine
end

