-- ==== Sys2Proof/Machine/State.lean ====
section
/-! DEFINITION. The state of the block: every piece of state the spec gives the package, as plain data. Register contents lie in one
register file; what a register table does not show lies in the records below, one for each block. -/

namespace Sys2Proof.Machine

/-- Why the machine stops with a fault. No meaning of this model raises one: every command has an effect (safe: nothing stops). -/
inductive Fault where
  /-- Kept so that the type is not empty; raised by nothing (safe). -/
  | unused
  deriving DecidableEq, Repr

/-- Why a command has no meaning. -/
inductive Refusal where
  /-- The command has no meaning yet; raised by the dispatch alone (safe: nothing follows from a stop). -/
  | notModelled (mnemonic : String)
  deriving DecidableEq, Repr

/-! ### Time base (spec/01) -/

/-- What the time base holds beyond its registers. -/
structure Tmb where
  /-- PTIME (R42): ns of TAI time, or ns since reset until a time of day is applied. -/
  ptime : BitVec 64 := 0
  /-- PTIME when TMB_TOD_HI was written: the edge that applies it comes at least 1 ms later (R43). -/
  armedAt : BitVec 64 := 0
  /-- REFCLK is present (R45, R715). -/
  refclk : Bool := true
  /-- Elapsed ns since the last accepted PPS edge; none before the first (R716). -/
  sinceEdge : Option Nat := none
  /-- Missed edges counted since the last accepted edge (R716). -/
  missed : Nat := 0
  /-- Correction still to slew in, ns; positive makes PTIME run faster (R44). -/
  slew : Int := 0
  /-- Ticks since the last slewed nanosecond: 100 ns per ms is 1 ns each 10,000 ticks (R44). -/
  slewTick : Nat := 0
  /-- TMB_STATUS.SYNC changed since the last read of TMB_STATUS (source 36, R519). -/
  syncChanged : Bool := false
  deriving DecidableEq, Repr

/-- The access a requester has under way on register pairs (R10, R11): per requester and pair, the captured high word and the held
low word. The key is the requester's number times 2^45 plus the low register's key. -/
structure Pairs where
  captured : SMap (BitVec 32) := []
  held : SMap (BitVec 32) := []
  deriving DecidableEq, Repr

/-- The answer of the last access: its status and value. -/
structure Resp where
  status : Status := .ok
  value : BitVec 64 := 0
  deriving DecidableEq, Repr

/-! ### Caravans (spec/02, spec/05) -/

/-- A waybill (R105). The reserved bytes are zero (R107). -/
structure Waybill where
  handle : BitVec 16 := 0
  seq : BitVec 16 := 0
  route : BitVec 16 := 0
  hops : BitVec 8 := 0
  flags : BitVec 8 := 0
  length : BitVec 32 := 0
  data0 : BitVec 64 := 0
  data1 : BitVec 64 := 0
  origin : BitVec 16 := 0
  deriving DecidableEq, Repr

/-- A bale on the trail (R105): its waybill, its payload and the tile it goes to. -/
structure Bale where
  dest : Nat
  wb : Waybill
  payload : List Byte
  deriving DecidableEq, Repr

/-- The slot states of R113. -/
inductive SlotState where
  | free | loading | ready | running | paused | aborting | faulted
  deriving DecidableEq, Repr

/-- A station table entry (R110). `next` holds the eight NEXT indices. -/
structure Station where
  tile : Nat
  sink : Bool
  codeLen : Nat
  codeAddr : Nat
  next : List Nat
  deriving DecidableEq, Repr

/-- A queued push record (R124): what is left of it. `admitted` sequences of `count` are already admitted. -/
structure PushRec where
  src : Nat
  length : Nat
  stride : Nat
  count : Nat
  route : BitVec 16
  data0 : BitVec 64
  data1 : BitVec 64
  firstSeq : Nat
  admitted : Nat
  deriving DecidableEq, Repr

/-- A completion that waits for ring space (R134), with the tile whose sink stalls on it, if a sink retired it. -/
structure Completion where
  seq : Nat
  status : Status
  flags : BitVec 8
  length : BitVec 32
  sink : Option Nat
  deriving DecidableEq, Repr

/-- A cadence (R143). -/
structure Cadence where
  period : Nat
  batch : Nat
  catchup : Nat
  deriving DecidableEq, Repr

/-- What the controller holds for one slot beyond its registers. -/
structure Slot where
  state : SlotState := .free
  stations : List Station := []
  hopMax : Nat := 0
  irqCore : Nat := 0xFF
  ringBase : Nat := 0
  ringOrder : Nat := 0
  perm : BitVec 8 := 0
  /-- A toll set by `cvn.toll` that takes effect at the next control period (R139). -/
  tollNext : Option Nat := none
  queue : List PushRec := []
  nextSeq : Nat := 0
  /-- Sequences of the queue that an abort dropped, counted when it ends (R115). -/
  dropped : Nat := 0
  inflight : List Nat := []
  waiting : List Completion := []
  /-- Completions counted towards the next DONE event (R136). -/
  sinceDone : Nat := 0
  /-- Station programs loaded so far while LOADING. -/
  loaded : Nat := 0
  cadence : Option Cadence := none
  /-- A cadence change waiting for its instant (R144): `some none` is a removal. -/
  cadenceNext : Option (Option Cadence) := none
  /-- Time origin, number of the next release and its scheduled time (R145, R146). -/
  t0 : Nat := 0
  release : Nat := 0
  sched : Nat := 0
  /-- Sequences of the last release still in flight (R145). -/
  relOpen : List Nat := []
  /-- The last release was already counted late (R147). -/
  relLate : Bool := false
  /-- The pace code that a toll holds the caravan's stations to in the next control period (R140). -/
  tollPace : Option Nat := none
  /-- Sum, W, and number of the estimates of the 100 ms in progress (PWW_CVN_P). -/
  sumP : Nat := 0
  nP : Nat := 0
  deriving DecidableEq, Repr

/-- The caravan controller. -/
structure Cvn where
  slots : SMap Slot := []
  /-- Bales in the trail, oldest first (R211). -/
  trail : List Bale := []
  deriving DecidableEq, Repr

/-! ### Tiles (spec/03, spec/04, spec/05) -/

/-- The tile states of R152. -/
inductive TileState where
  | idle | loading | run | wait | stopped | fault | makeweight | fenced
  deriving DecidableEq, Repr

/-- The mode of an accumulator (R150). -/
inductive AccMode where
  | none | xa | fp
  deriving DecidableEq, Repr

/-- A queued or running matrix operation with the operand values it issued with (R182 to R184). `gen` is the state of the stochastic
generator from which a drain takes its words (R225). -/
inductive MxOp where
  | mac (acc : Bool) (a b k : Nat) (fmt : BitVec 4) (clr : Bool)
  | macs (acc : Bool) (a b k : Nat) (fmt : BitVec 4) (clr : Bool) (kind : BitVec 2) (metaAddr : Nat)
  | drain (acc : Bool) (dst : Nat) (fmt : BitVec 4) (stoch clr : Bool) (gen : BitVec 64)
  | load (acc : Bool) (src : Nat) (fp : Bool)
  | zero (acc : Bool)
  deriving DecidableEq, Repr

/-- A movement under way (R191). `put` copies from scratchpad to remote. -/
structure Movement where
  put : Bool
  spad : Nat
  remote : Nat
  len : Nat
  deriving DecidableEq, Repr

/-- A movement tag (R191, R192): free, busy, or done with a status. -/
inductive MvTag where
  | free
  | busy (m : Movement)
  | done (st : Status)
  deriving DecidableEq, Repr

/-- A posted buffer (R195, R197), with the waybill of the bale written into it, if any. -/
structure Posted where
  addr : Nat
  cap : Nat
  bale : Option Waybill
  deriving DecidableEq, Repr

/-- An entry of the fan-out window table (R267). The table lists the newest entry first. -/
structure Window where
  number : Nat
  used : List Nat
  caps : List Nat
  deriving DecidableEq, Repr

/-- What a tile in WAIT waits for (R152), and the register that takes the result. -/
inductive TileWait where
  | event (a : BitVec 5) (mask : BitVec 6)
  | take (a : BitVec 5)
  | matrix (acc : Bool)
  | move (a : BitVec 5) (tag : BitVec 4)
  | fence
  deriving DecidableEq, Repr

/-- The state of one tile beyond its registers, scratchpad and instruction memory (R150, R152). -/
structure Tile where
  st : TileState := .idle
  handle : BitVec 16 := 0
  station : Nat := 0
  sink : Bool := false
  waiting : Option TileWait := none
  /-- A retire that waits for earlier movements (R199) or for ring space (R134). -/
  retiring : Bool := false
  g : SMap (BitVec 64) := []
  v : SMap (BitVec 32) := []
  vpois : BitVec 32 := 0
  p : SMap (BitVec 64) := []
  acc : SMap (BitVec 96) := []
  mode0 : AccMode := .none
  mode1 : AccMode := .none
  pois0 : Bool := false
  pois1 : Bool := false
  pc : BitVec 16 := 0
  wb : Waybill := {}
  valid : Bool := false
  posted : List Posted := []
  /-- Bales that have arrived and found no buffer, or do not fit, oldest first (R197). -/
  inbox : List Bale := []
  /-- The bale of a `wb.send` whose payload has not all left the scratchpad (R198). -/
  sending : Option Bale := none
  tags : SMap MvTag := []
  gen : BitVec 64 := 0
  mxq : List MxOp := []
  /-- The latched events MV, TIMER and NOTE of R200, at bits 3, 4 and 5. -/
  latched : BitVec 6 := 0
  windows : List Window := []
  /-- The instruction at PC has met a stall of the scoreboard (R188), already counted. -/
  stalled : Bool := false
  deriving DecidableEq, Repr

/-! ### Memory (spec/06) -/

/-- Every byte of the application address space that holds data: memory, scratchpads, instruction memories and depots (R35). -/
structure Memory where
  cells : List Host.Cell := []
  /-- The poisoned 64-byte lines, by line number (R286, R154, R298). -/
  poison : SMap Bool := []
  /-- Errors that lines hold and no read has found. -/
  latent : SMap Ecc := []
  /-- The lines that the patrol scrubber has read in its pass (R288). -/
  scrubbed : SMap Bool := []
  deriving DecidableEq, Repr

/-! ### Metering (spec/07) -/

/-- What a metering channel holds beyond its registers. Energies are whole attojoules: one microwatt-volt-ampere product of a
sample, µV times µA over 1 µs (R299, R301); 1 mJ is 10^15 of them. -/
structure Meter where
  /-- The fraction below 1 mJ (R301). -/
  frac : Nat := 0
  /-- Sums over the samples of the interval in progress: power (pW), voltage (µV), current (µA), and their number (R300). -/
  sumP : Int := 0
  sumV : Int := 0
  sumI : Int := 0
  n : Nat := 0
  /-- Energy added and samples taken in the 100 ms window in progress (R315, R320). -/
  winE : Nat := 0
  winN : Nat := 0
  /-- Estimated energy of the window, units of 10 nJ (R319). -/
  winEst : Nat := 0
  /-- Sum and number of the readings of the window, mW (R334). -/
  winP : Int := 0
  winR : Nat := 0
  /-- Rail power of the window in units of 10 µW, summed over its readings (R318). -/
  winRail : Nat := 0
  /-- Worst status among the readings of the second in progress (R309). -/
  worst : Status := .ok
  /-- The MTR_ELIFE value in flash and the PTIME of its save (R312). -/
  savedElife : BitVec 64 := 0
  savedAt : BitVec 64 := 0
  deriving DecidableEq, Repr

/-- An acceptance run (R323): its level and duration, and once begun the whole second it began at and both energies then. -/
structure AccRun where
  level : Nat
  duration : Nat
  begun : Option (Nat × BitVec 64 × BitVec 64)
  deriving DecidableEq, Repr

/-- Both channels, and what they share. -/
structure Metering where
  ma : Meter := {}
  mb : Meter := {}
  /-- Disagreeing 100 ms windows in a row (R316). -/
  disagree : Nat := 0
  acc : Option AccRun := none
  deriving DecidableEq, Repr

/-! ### Governors (spec/08, spec/09) -/

/-- What a governor holds beyond its registers. Powers are mW; shortfalls are counted in units of 10 nJ, one mW over one control
period, so that no fraction is lost. -/
structure Gov where
  /-- The trajectory points (PTIME, mW) of the last accepted BUDGET, and the PTIME and target of its EFFECT_T (R344). -/
  points : List (Nat × Nat) := []
  effT : Nat := 0
  effP : Int := 0
  bflags : BitVec 8 := 0
  fixv : Nat := 0
  /-- Requested slews in W/ms; 0 is the installer's limit (R331). -/
  slewUp : Nat := 0
  slewDn : Nat := 0
  /-- A message has been accepted in the present budget session (R340). -/
  accepted : Bool := false
  /-- A hold has been renewed; its age in ns of steward clock; the hold expired (R341). -/
  holdOn : Bool := false
  holdAge : Nat := 0
  /-- The last accepted GRID message: frequency in µHz and PTIME of its measurement (R332, R357). -/
  grid : Option (Nat × Nat) := none
  frStaleCounted : Bool := false
  frOffset : Int := 0
  tPrev : Int := 0
  /-- The integral term in units of 1/256 mW (R327). -/
  integ : Int := 0
  shortOver : Nat := 0
  shortUnder : Nat := 0
  /-- Sum and number of the targets of the 100 ms window in progress (R334). -/
  winT : Int := 0
  winJ : Nat := 0
  /-- GOV_SHORT_UNDER at the end of the last window (R363). -/
  repShort : Nat := 0
  /-- Fixed-pace mode is asked for and VCORE moves to FIXV (R355). -/
  fixSeek : Bool := false
  /-- A droop holds the VCORE step in progress (R348). -/
  droop : Bool := false
  /-- Under FLOOR, DIP and the safe state: the mode to return to is FOLLOW, not SAFE (R341, R362, R364). -/
  follow : Bool := false
  /-- The curve failed its check at sealing: EN counts as 0 (R366). -/
  frBad : Bool := false
  /-- The partition whose gating or ungating is under way, and whether it is gated (R345, R349). -/
  gating : Option (Nat × Bool) := none
  deriving DecidableEq, Repr

/-- What OST holds for one governor beyond its registers (R367 to R386). -/
structure GovLink where
  /-- The accepted claim is valid (R369). -/
  valid : Bool := false
  /-- Self-test passed at its start; heartbeat running (R372). -/
  selfTest : Bool := false
  heartbeat : Bool := false
  /-- The frame number it sends next, the last good frame number it received, good frames in a row, periods without one (R379). -/
  fseq : BitVec 32 := 0
  lastSeq : Option (BitVec 32) := none
  goodRun : Nat := 0
  missing : Nat := 0
  /-- The mirror is current (R379); the stored trajectory matches (R372); a resend was asked for (R380). -/
  mirror : Bool := false
  trajOk : Bool := false
  trajAsked : Bool := false
  /-- Periods without disagreement, in a row (R372), and periods qualified without a break (R386). -/
  agreeRun : Nat := 0
  qualRun : Nat := 0
  /-- Periods in a row in which MODE differed (R381). -/
  modeRun : Nat := 0
  /-- Steward-clock times, ns, of the resets after a lapse in the last 60 s (R384); three used up. -/
  restarts : List Nat := []
  /-- The governor has been left DOWN after three resets (R384). -/
  leftDown : Bool := false
  /-- Its own frame of the last period (R378, R381). -/
  frame : List Byte := []
  deriving DecidableEq, Repr

/-- The output stage. -/
structure Ost where
  a : GovLink := {}
  b : GovLink := {}
  /-- A commanded swap waits for the next control-period boundary (R385). -/
  swapDue : Bool := false
  /-- Disagreeing periods in a row (R382). -/
  disagreeRun : Nat := 0
  /-- SEQ and ALIVE of the next REPORT; the peer of the last accepted BUDGET and the key of its session (R334). -/
  repSeq : BitVec 32 := 0
  repAlive : BitVec 16 := 0
  rep : Option (Nat × List Byte) := none
  deriving DecidableEq, Repr

/-! ### Fabric (spec/10, spec/11) -/

/-- The port states of R395. -/
inductive PortState where
  | off | seek | train | check | hello | up | standby | quarantine | failed
  deriving DecidableEq, Repr

/-- A neighbour as the last valid HELLO showed it (R403, R408). -/
structure Peer where
  serial : BitVec 64
  coord : Nat
  dim : Nat
  role : Nat
  deriving DecidableEq, Repr

/-- What one fabric port holds beyond its registers. -/
structure Port where
  /-- Frames sent and not yet acknowledged, oldest first: link sequence number and bytes (R389). -/
  replay : List (BitVec 32 × List Byte) := []
  /-- Frames the router holds back behind a full replay buffer (R392). -/
  heldBack : List (List Byte) := []
  /-- The link sequence number of the next frame sent, and of the next frame expected. -/
  txSeq : BitVec 32 := 0
  rxSeq : BitVec 32 := 0
  /-- Resends in a row without progress (R391). -/
  resends : Nat := 0
  /-- A resend has been asked of the neighbour and its first frame has not come (R389). -/
  asking : Bool := false
  /-- The settings kept in flash: the neighbour's serial they were learned with (R399). -/
  saved : Option (BitVec 64) := none
  /-- The training under way or done is a full one (R396, R399). -/
  fullTrain : Bool := true
  /-- Checks failed after full training in a row (R396). -/
  fails : Nat := 0
  /-- The exchange: own NONCE, the neighbour's last NONCE, whether a HELLO echoing it was sent, a valid HELLO echoing ours came. -/
  nonce : BitVec 64 := 0
  peerNonce : BitVec 64 := 0
  sentEcho : Bool := false
  gotEcho : Bool := false
  passing : Bool := false
  /-- The neighbour's certificate, as CERT carried it (R404). -/
  cert : List Byte := []
  peer : Option Peer := none
  /-- A re-hello is under way; misses in a row (R408). -/
  rehello : Bool := false
  misses : Nat := 0
  /-- ADMIN was written 0 on an UP port and its frames drain (R416); the state it then enters is SEEK under a new map entry. -/
  draining : Bool := false
  toSeek : Bool := false
  /-- TAKEOVER sent and not answered (R414). -/
  takeover : Bool := false
  /-- The WIDTH change asked for by the neighbour that waits for a resend to end (R412). -/
  widthPend : Option (BitVec 8) := none
  deriving DecidableEq, Repr

/-- A fabric frame (R419), as the router handles it. HCRC is computed from the rest. -/
structure Frame where
  cls : Nat := 0
  flags : BitVec 8 := 0
  hops : Nat := 0
  detours : Nat := 0
  status : Nat := 0
  src : Nat := 0
  dst : Nat := 0
  mid : Nat := 0
  mask : Nat := 0
  slice : Nat := 0
  sq : Nat := 0xFF
  rq : Nat := 0
  len : Nat := 0
  seq : Nat := 0
  tag : Nat := 0
  sent : Nat := 0
  pcrc : Nat := 0
  payload : List Byte := []
  deriving DecidableEq, Repr

/-- What the router holds beyond its registers: the policer's bytes (R436), below zero when muster frames have taken bytes in advance, and
the producer index last accepted for each send queue (R427). -/
structure Frt where
  tokens : Int := 4096
  prods : SMap Nat := []
  deriving DecidableEq, Repr

/-! ### Musters (spec/12) -/

/-- A muster control frame that MST holds (R470). -/
structure HeldFrame where
  kind : Nat
  msg : MusterMsg
  deriving DecidableEq, Repr

/-- What MST holds for one group slot beyond its registers. -/
structure MgSlot where
  /-- ENTER, READY, DONE and ABORT as line 0 last showed them (R460). -/
  enter : Nat := 0
  ready : Nat := 0
  done : Nat := 0
  abort : Nat := 0
  /-- STYLE and DEADLINE of the open instance's own entry (R459). -/
  counted : Bool := false
  deadline : Nat := 0
  /-- The DEADLINE of the first ARRIVE the leader accepted for the instance (R474). -/
  arrDeadline : Option Nat := none
  /-- Control frames that do not apply yet, oldest first. -/
  held : List HeldFrame := []
  /-- What this member has sent for the open instance: ARRIVE, READY, DONE, QUERY, the request of its ABORT word, the request that a notice
  led to. -/
  arriveSent : Bool := false
  readySent : Bool := false
  doneSent : Bool := false
  queried : Bool := false
  aborted : Bool := false
  noticed : Bool := false
  /-- The ENTER that the last read found was refused (R464). -/
  refused : Bool := false
  /-- At the leader: ISEQ, STATUS and FAULT of the last decision (R475). -/
  decision : Option (Nat × Nat × Nat) := none
  deriving DecidableEq, Repr

/-- MST: its slots, and the frames the router has delivered to it in the step under way. -/
structure Mst where
  slots : SMap MgSlot := []
  inbox : List Frame := []
  deriving DecidableEq, Repr

/-! ### Application cores (spec/13) -/

/-- The privilege modes of an application core (R493, R494). -/
inductive Mode where
  | m | s | u | vs | vu
  deriving DecidableEq, Repr

/-- A `cvn.wait` that stalls its core (R130): result register, slot, generation, target count and the PTIME it began at. -/
structure CvnWait where
  rd : BitVec 5
  slot : Nat
  target : BitVec 32
  since : Nat
  deriving DecidableEq, Repr

/-- One application core: the registers its instructions of this specification and its traps read and write. -/
structure Core where
  /-- Running, or held in reset or behind its fence (spec/17). -/
  on : Bool := false
  x : SMap (BitVec 64) := []
  pc : BitVec 64 := 0
  mode : Mode := .m
  ucvn : Bool := false
  msrc : Nat := 0
  mtvec : BitVec 64 := 0
  mepc : BitVec 64 := 0
  mcause : BitVec 64 := 0
  mtval : BitVec 64 := 0
  medeleg : BitVec 64 := 0
  stvec : BitVec 64 := 0
  sepc : BitVec 64 := 0
  scause : BitVec 64 := 0
  stval : BitVec 64 := 0
  /-- mstatus.MIE, MPIE, MPP, MPV and SIE, SPIE, SPP. -/
  mie : Bool := false
  mpie : Bool := false
  mpp : BitVec 2 := 0
  mpv : Bool := false
  sie : Bool := false
  spie : Bool := false
  spp : Bool := false
  /-- hstatus.SPV, set when a trap into HS-mode comes from a virtual mode. -/
  spv : Bool := false
  /-- mie.MEIE, mie.MTIE, mie.SEIE, mie.STIE and mideleg.SEI, mideleg.STI; mideleg.MEI is read-only zero (R512). -/
  meie : Bool := false
  mtie : Bool := false
  seie : Bool := false
  stie : Bool := false
  delegSei : Bool := false
  delegSti : Bool := false
  stimecmp : BitVec 64 := 0xFFFFFFFFFFFFFFFF#64
  vstimecmp : BitVec 64 := 0xFFFFFFFFFFFFFFFF#64
  /-- mip.MTIP, mip.STIP, and the guest's timer. -/
  mtip : Bool := false
  stip : Bool := false
  vstip : Bool := false
  seip : Bool := false
  meip : Bool := false
  /-- mcycle, minstret (R502), mhpmcounter3 to mhpmcounter10 and their mhpmevent registers, OF at bit 63 (R652, R653). -/
  mcycle : BitVec 64 := 0
  minstret : BitVec 64 := 0
  hpm : SMap (BitVec 64) := []
  hpmEvent : SMap (BitVec 64) := []
  /-- Executing `wfi` (R501). -/
  wfi : Bool := false
  wait : Option CvnWait := none
  /-- The application-class and service-class sources in service (R506). -/
  appSvc : Nat := 0
  svcSvc : Nat := 0
  /-- A moderation window is open; it has held a delivery (R513). -/
  window : Bool := false
  held : Bool := false
  deriving DecidableEq, Repr

/-- What IC keeps of PWW_STATE for source 37 (R519): the value its last read found, and that it has been seen to differ since. -/
structure Ic where
  pwwSeen : BitVec 32 := 0
  pwwChanged : Bool := false
  deriving DecidableEq, Repr

/-! ### Host networks (spec/14) -/

/-- What an Ethernet port holds beyond its registers: until what PTIME each priority is paused, and the priorities it has sent XOFF for. -/
structure EthPort where
  paused : SMap Nat := []
  xoff : BitVec 8 := 0
  deriving DecidableEq, Repr

/-- A queue context as ENABLE read it (R530). -/
structure QpCtx where
  net : Bool := false
  alt : Bool := false
  mtu : Nat := 1024
  rwrite : Bool := false
  rread : Bool := false
  retry : Nat := 0
  order : Nat := 4
  dqpn : Nat := 0
  dip : List Byte := []
  adip : List Byte := []
  ring : Nat := 0
  proda : Nat := 0
  donea : Nat := 0
  rring : Nat := 0
  rproda : Nat := 0
  rdonea : Nat := 0
  rorder : Nat := 4
  rkey : Nat := 0
  wbase : Nat := 0
  wlen : Nat := 0
  deriving DecidableEq, Repr

/-- A work entry taken and not yet complete: its count, its PSNs, the message to resend, where a READ's data goes, and its status once it
has one; completions are written in ring order (R533). -/
structure WorkOut where
  idx : Nat
  psn : Nat
  n : Nat
  op : Option RdmaOp
  laddr : Nat
  len : Nat
  fin : Option Status
  deriving DecidableEq, Repr

/-- A queue of the Ethernet block: 0 and 1 raw, the rest RDMA queue pairs (R529). -/
structure Qp where
  enabled : Bool := false
  ctx : QpCtx := {}
  err : Bool := false
  /-- On the alternate path (R538). -/
  onAlt : Bool := false
  prod : Nat := 0
  taken : Nat := 0
  done : Nat := 0
  rprod : Nat := 0
  rdone : Nat := 0
  spsn : Nat := 0
  epsn : Nat := 0
  retries : Nat := 0
  rnr : Nat := 0
  outst : List WorkOut := []
  deriving DecidableEq, Repr

/-- The Ethernet block: ports, queues, and the SEQ of the next announcement of each network. -/
structure Eth where
  ports : SMap EthPort := []
  qps : SMap Qp := []
  annSeq : SMap (BitVec 32) := []
  deriving DecidableEq, Repr

/-! ### Cooling and temperature (spec/15) -/

/-- The COOLANT values in force, beyond THM_INLET, THM_FLOW and THM_DP (R550, R551). -/
structure Coolant where
  cflags : BitVec 8
  measT : Nat
  deriving DecidableEq, Repr

/-- What THM keeps of one sensor (R545, R553): its last code and when that last changed, the range over which its companion has moved
since then, and the conversions in a row at or above its trip limit. -/
structure Sensor where
  code : Int := 0
  since : Nat := 0
  lo : Int := 0
  hi : Int := 0
  trips : Nat := 0
  deriving DecidableEq, Repr

/-- What THM holds beyond its registers. -/
structure Thm where
  coolant : Option Coolant := none
  /-- The no-flow timer runs (R552). -/
  noflow : Bool := false
  /-- The sensors, numbered as THM_STAT.TRIPSRC numbers them (R544). -/
  sensors : SMap Sensor := []
  /-- Conversions in a row in which the sensors of a pair differ too much (R547). -/
  differ : SMap Nat := []
  /-- THERM_TRIP_N is asserted (R553, R555). -/
  tripped : Bool := false
  deriving DecidableEq, Repr

/-! ### Start-up and the discrete pins (spec/16, spec/22) -/

/-- Why the start sequence pauses (R568). -/
inductive PauseCause where
  | supply | heat
  deriving DecidableEq, Repr

/-- The start sequence (R557 to R576) and the pins and rails it depends on (R696 to R702). -/
structure Boot where
  /-- A start runs; the last step completed is IDT_BOOT.STEP. -/
  running : Bool := false
  /-- Ns of steward clock since the reference event of the start (R557, R561). -/
  elapsed : Nat := 0
  /-- The start has been retried once (R576). -/
  retried : Bool := false
  paused : List PauseCause := []
  /-- The next global cluster to come up in step 8 (R567). -/
  cluster : Nat := 0
  /-- Tiles at the ends of trail links that failed their check in this start (R564). -/
  trailFailed : List Nat := []
  /-- Tiles that were TESTFAIL in the last start that completed step 10 (R570). -/
  failedBefore : SMap Bool := []
  /-- Memory channels that trained fully and passed in this start (R563); channels that hold valid saved settings (R562). -/
  trainedFull : SMap Bool := []
  savedChannels : SMap Bool := []
  /-- Steward writes to compute-die blocks that wait for step 4: address and value, oldest first (R560). -/
  heldWrites : List (Nat × BitVec 32 × Option Role) := []
  /-- The boot core, from READY on (R572). -/
  bootCore : Option Nat := none
  /-- PWR_GOOD asserted; PKG_RESET_N released (R700, R701). -/
  pwrGood : Bool := false
  resetReleased : Bool := false
  /-- The inrush limit acts (R696); the input is present. -/
  inrush : Bool := false
  powered : Bool := false
  /-- VAUX on; the other rails on (R365, R554, R557). -/
  vaux : Bool := false
  rails : Bool := false
  deriving DecidableEq, Repr

/-! ### Reset domains and recovery (spec/17) -/

/-- A recovery under way in one domain (R585, R591 to R596): its KIND, its record with the record's place in the log ring, and the state
codes that its working tiles had at the fence. -/
structure Recov where
  kind : Nat
  record : List Byte
  place : Option Nat
  states : SMap Nat
  deriving DecidableEq, Repr

/-- A reset that waits for its turn (R597): level, index, KIND, and its record. -/
structure RstReq where
  level : Nat
  index : Nat
  kind : Nat
  record : List Byte
  place : Option Nat
  deriving DecidableEq, Repr

/-- What RST holds beyond its registers. Domains have the key 1024 × level + index. -/
structure Rst where
  recov : SMap Recov := []
  /-- PTIME of the resets of each domain, newest first (R601). -/
  times : SMap (List Nat) := []
  queue : List RstReq := []
  /-- Domains that stay HELD until the next start (R587, R597, R599), and cores that failed their test (R572). -/
  stuck : SMap Bool := []
  /-- A package reset waits for the ramp (R602), with its KIND. -/
  pkgReset : Option Nat := none
  deriving DecidableEq, Repr

/-! ### Fault collection (spec/18) -/

/-- An event on an error line that FCL has not yet taken (R606, R607): its PTIME, line, INDEX and status. -/
structure LineEvent where
  time : Nat
  line : Nat
  index : Nat
  status : Status
  deriving DecidableEq, Repr

/-- What FCL holds beyond its registers: the steward die's shadow copy of the FCL_CLS values that differ from reset, by line (R616). -/
structure Fcl where
  shadow : SMap (BitVec 32) := []
  /-- Classification has begun: READY has been declared (R608, R611). -/
  windows : Bool := false
  deriving DecidableEq, Repr

/-! ### Performance counters (spec/20) -/

/-- A tagged instruction on its way (R656, R657): what its record will hold. -/
structure Outrider where
  issued : BitVec 64
  handle : BitVec 16
  pc : BitVec 16
  clsOpc : BitVec 8
  flags : BitVec 8
  station : Nat
  deriving DecidableEq, Repr

/-- A tile's outrider generator, the instructions left until the next tag, and the outrider in flight. -/
structure OutGen where
  gen : BitVec 64 := 0
  left : Nat := 0
  tagged : Option Outrider := none
  deriving DecidableEq, Repr

/-- What PRF holds beyond its registers: the outriders of the tiles, the number of the next tally and when the last was taken, the bytes of the bandwidth window in
progress by word of PRF_BW. -/
structure Prf where
  outs : SMap OutGen := []
  tallyNo : BitVec 32 := 0
  /-- PTIME of the last tally, and whether it was a periodic one (R659). -/
  lastTally : Option (Nat × Bool) := none
  bw : SMap Nat := []
  deriving DecidableEq, Repr

/-! ### Identity, sessions, images and the journal (spec/21) -/

/-- The audit journal in flash (R676, R677): the entries it retains, newest first, and the CHAIN of the newest entry. -/
structure Journal where
  entries : List (List Byte) := []
  chain : List Byte := List.replicate 32 0#8
  deriving DecidableEq, Repr

/-- An open session (R669 to R672); the list of them has the one that spoke last first. `ix` is its index for SEC_STAT.LOCK; `actor` the first 16 bytes of its leaf certificate's hash. -/
structure Session where
  ix : Nat
  budget : Bool
  role : Role
  peer : Nat
  key : List Byte
  actor : List Byte
  lastSeq : Option (BitVec 32)
  deriving DecidableEq, Repr

/-- A session that has been sent its REPLY and not confirmed (R669). -/
structure Handshake where
  budget : Bool
  role : Role
  peer : Nat
  leaf : List Byte
  tHash : List Byte
  sig : List Byte
  key : List Byte
  since : Nat
  deriving DecidableEq, Repr

/-- An image in flash: its manifest and its payload (R678, R679). -/
structure Image where
  manifest : List Byte
  payload : List Byte
  deriving DecidableEq, Repr

/-- Where an activation stands (R685 to R688): the kinds left, whether a package reset follows, the session that holds the lock, and the
step of R687 reached while GOV activates. `hadA` and `hadB` say which governors run the new image. -/
structure Activation where
  kinds : List Nat
  all : Nat
  restart : Bool
  session : Nat
  role : Role
  actor : List Byte
  govStep : Nat
  hadA : Bool
  hadB : Bool
  deriving DecidableEq, Repr

/-- What SEC and the flash hold beyond registers. -/
structure Sec where
  sessions : List Session := []
  shakes : List Handshake := []
  /-- Running and staging slots, by image kind; a staging slot being filled is not staged in SEC_STAGE. -/
  running : SMap Image := []
  staging : SMap Image := []
  /-- The kind whose payload is being received (R681). -/
  receiving : Option Nat := none
  activation : Option Activation := none
  /-- Kinds activated since the last READY, whose counters READY raises (R689). -/
  raise : List Nat := []
  /-- The sealed settings, by register key, and the format of the steward that wrote them (R673, R690). -/
  settings : SMap (BitVec 32) := []
  setFmt : Nat := 0
  /-- The field map: tiles mapped out in the field (R570). Full training asked for at the next start (R562). -/
  fieldMap : SMap Bool := []
  fullTrain : Bool := false
  /-- A STEWARD activation that waits for the steward to restart (R688). -/
  restartDue : Bool := false
  /-- Attestation answers given outside a session in the second in progress (R673), and that second. -/
  attests : Nat := 0
  attestSec : Nat := 0
  /-- The manifests of the images that the processors run, by kind (R675). -/
  loaded : SMap (List Byte) := []
  /-- The steward's SRAM, by offset (R37). -/
  sram : SMap Byte := []
  deriving DecidableEq, Repr

/-! ### What the block sends out -/

/-- What the block sends to its surroundings: a datagram over the management link from a UDP port to a peer (an address and port), a
link control message, a request to resend from a link sequence number or a frame on a fabric port, a frame on an Ethernet port, an
announcement on a network, the answer that ARP, ICMP or IPv6 defines to a request, a PFC or PAUSE frame, a RoCEv2 message to a remote
queue pair and address, a notice to the tray controller. The kinds of notice are the model's own numbers: 1 READY, 2 and 3 a fabric port's arrival and departure, 4 a
request for a power cycle, 5 an event that FCL or RST reports. -/
inductive Out where
  | mgmt (port peer : Nat) (bytes : List Byte)
  | link (port : Nat) (bytes : List Byte)
  | resend (port : Nat) (seq : BitVec 32)
  | fabric (port : Nat) (bytes : List Byte)
  | eth (port : Nat) (bytes : List Byte)
  | udp (net : Nat) (bytes : List Byte)
  | ethAnswer (port : Nat) (request : List Byte)
  | pfc (port : Nat) (classes : BitVec 8) (xoff : Bool)
  | rdma (port dqpn : Nat) (addr : List Byte) (pkt : RdmaPkt)
  | notice (kind index : Nat)
  deriving DecidableEq, Repr

/-- The state of the package and the queue of the commands that wait. -/
structure State where
  /-- The commands that wait, first in, first out. -/
  pending : List Instr := []
  /-- The answer of the last access or instruction that gives one. -/
  resp : Resp := {}
  /-- Everything sent so far, newest first. -/
  out : List Out := []
  /-- The model's own counter of free values taken so far (log 1). -/
  free : Nat := 0
  /-- The register file: by key, the registers that do not read their reset value. -/
  regs : SMap (BitVec 32) := []
  pairs : Pairs := {}
  mem : Memory := {}
  tmb : Tmb := {}
  cvn : Cvn := {}
  tiles : SMap Tile := []
  metering : Metering := {}
  gova : Gov := {}
  govb : Gov := {}
  ost : Ost := {}
  ports : SMap Port := []
  frt : Frt := {}
  mst : Mst := {}
  cores : SMap Core := []
  ic : Ic := {}
  eth : Eth := {}
  /-- Events on error lines that FCL has not yet taken, oldest first (R606, R607). -/
  events : List LineEvent := []
  prf : Prf := {}
  thm : Thm := {}
  boot : Boot := {}
  rst : Rst := {}
  fcl : Fcl := {}
  sec : Sec := {}
  journal : Journal := {}
  deriving DecidableEq, Repr

/-- The package right after reset (R42 and the reset columns of the register tables): nothing listed, so that every register reads its
reset value, every byte reads as unwritten memory does, and no command waits. -/
def State.reset : State := {}

end Sys2Proof.Machine
end

