-- ==== Sys2Proof/Machine/Ops.lean ====
section
/-! DEFINITION. The shared operations: the register file, counters and register pairs, the access rules of R10 to R18 and R40, memory with
its poison and error checks, fences, the error lines, and what the block sends out. -/

namespace Sys2Proof.Machine

/-! ### The register file -/

/-- The reset value of the register at a key. -/
def regDefault (k : Nat) : BitVec 32 :=
  match Reg.at k with
  | some (r, i) => BitVec.ofNat 32 (r.rst i)
  | none => 0

/-- What register `r`, copy `i`, holds. -/
def State.rr (s : State) (r : Reg) (i : Nat := 0) : Nat :=
  ((SMap.find? s.regs (r.key i)).getD (BitVec.ofNat 32 (r.rst i))).toNat

/-- Register `r`, copy `i`, set to `v`, whatever its access code: the hardware's own write. -/
def State.wr (s : State) (r : Reg) (i v : Nat) : State :=
  { s with regs :=
      if BitVec.ofNat 32 v = BitVec.ofNat 32 (r.rst i) then SMap.del s.regs (r.key i)
      else SMap.put s.regs (r.key i) (BitVec.ofNat 32 v) }

/-- A field of copy `i` of its register (R5). -/
def State.f (s : State) (f : Fld) (i : Nat := 0) : Nat := bits (s.rr f.reg i) f.hi f.lo

/-- A one-bit field as a Bool. -/
def State.fb (s : State) (f : Fld) (i : Nat := 0) : Bool := s.f f i == 1

/-- A field set by the hardware. -/
def State.sf (s : State) (f : Fld) (i v : Nat) : State := s.wr f.reg i (putBits (s.rr f.reg i) f.hi f.lo v)

/-- A 32-bit counter raised by `n`; it stops at 0xFFFF_FFFF. -/
def State.bump (s : State) (r : Reg) (i : Nat := 0) (n : Nat := 1) : State := s.wr r i (min (s.rr r i + n) 0xFFFFFFFF)

/-- A counter field raised by one; it stops at its greatest value. -/
def State.bumpF (s : State) (f : Fld) (i : Nat := 0) : State :=
  s.sf f i (min (s.f f i + 1) (2 ^ (f.hi + 1 - f.lo) - 1))

/-- The 64-bit value of a register pair, low word first (R9). -/
def State.pair (s : State) (lo hi : Reg) (i : Nat := 0) : Nat := s.rr lo i + 2 ^ 32 * s.rr hi i

/-- A register pair set by the hardware. -/
def State.setPair (s : State) (lo hi : Reg) (i v : Nat) : State := (s.wr lo i (v % 2 ^ 32)).wr hi i (v / 2 ^ 32 % 2 ^ 32)

/-- The status of the last refused write of a block, where the block records one (R18, R40). -/
def State.err (s : State) (b : Block) (st : Status) : State :=
  match st with
  | .ok => s
  | _ =>
    match b.err with
    | some r => s.wr r 0 st.code
    | none => s

/-- The answer of an access. -/
def State.answer (s : State) (st : Status) (v : Nat) : State := { s with resp := ⟨st, BitVec.ofNat 64 v⟩ }

/-- A free value's number taken. -/
def State.take (s : State) : State := { s with free := s.free + 1 }

/-- Something sent. -/
def State.send (s : State) (o : Out) : State := { s with out := o :: s.out }

/-- PTIME. -/
def State.now (s : State) : Nat := s.tmb.ptime.toNat

/-! ### Records that repeat -/

def State.tile (s : State) (t : Nat) : Tile := SMap.get (fun _ => {}) s.tiles t
def State.setTile (s : State) (t : Nat) (x : Tile) : State := { s with tiles := SMap.set (fun _ => {}) s.tiles t x }
def State.slot (s : State) (i : Nat) : Slot := SMap.get (fun _ => {}) s.cvn.slots i
def State.setSlot (s : State) (i : Nat) (x : Slot) : State :=
  { s with cvn := { s.cvn with slots := SMap.set (fun _ => {}) s.cvn.slots i x } }
def State.port (s : State) (i : Nat) : Port := SMap.get (fun _ => {}) s.ports i
def State.setPort (s : State) (i : Nat) (x : Port) : State := { s with ports := SMap.set (fun _ => {}) s.ports i x }
def State.core (s : State) (i : Nat) : Core := SMap.get (fun _ => {}) s.cores i
def State.setCore (s : State) (i : Nat) (x : Core) : State := { s with cores := SMap.set (fun _ => {}) s.cores i x }
def State.gov (s : State) (gb : Bool) : Gov := if gb then s.govb else s.gova
def State.setGov (s : State) (gb : Bool) (x : Gov) : State := if gb then { s with govb := x } else { s with gova := x }
def State.meter (s : State) (mb : Bool) : Meter := if mb then s.metering.mb else s.metering.ma
def State.setMeter (s : State) (mb : Bool) (x : Meter) : State :=
  if mb then { s with metering := { s.metering with mb := x } } else { s with metering := { s.metering with ma := x } }

/-! ### Error lines -/

/-- An event on an error line (R606). FCL takes it in a step of its own, FCL_ERROR_EVENT (R607, log 20). -/
def State.raise (s : State) (line index : Nat) (st : Status) : State := { s with events := s.events ++ [⟨s.now, line, index, st⟩] }

/-- A SEAL_VIOLATION counted in a block (R16), and its event on line 17 (R606): the INDEX is the block's offset bits [27:20], or 0x100 plus
the steward block's bits [27:24]. -/
def State.sealViolation (s : State) (b : Block) (key : Nat) : State :=
  match b.sealViolation with
  | none => s
  | some r =>
    let i := if b = .gov then (key / 0x1000000) % 2 else 0
    let idx := if key < 0xF00000 then key / 0x100000 else 0x100 + key / 0x1000000 % 16
    (s.bump r i).raise 17 idx .denied

/-! ### Block counters (spec/20) -/

/-- PRF_EVENT bit set. -/
def State.prfEvent (s : State) (b : Nat) : State := s.wr .PRF_EVENT 0 (Nat.lor (s.rr .PRF_EVENT) (2 ^ b))

/-- Counting is not frozen (R643). -/
def State.counting (s : State) : Bool := !s.fb F.PRF_CTL_FREEZE

/-- `n` added to block counter `j` (R642, R645). -/
def State.blkAdd (s : State) (j n : Nat) : State :=
  let v := s.rr .PRF_CNT j + n
  let s1 := s.wr .PRF_CNT j v
  if v < 2 ^ 32 then s1
  else if j % 2 = 0 && s.fb F.PRF_CNT_SEL_CHAIN (j + 1) then
    let h := s1.rr .PRF_CNT (j + 1) + v / 2 ^ 32
    let s2 := s1.wr .PRF_CNT (j + 1) h
    if h < 2 ^ 32 then s2 else (s2.wr .PRF_OVF 0 (Nat.lor (s2.rr .PRF_OVF) (2 ^ (j + 1)))).prfEvent 0
  else (s1.wr .PRF_OVF 0 (Nat.lor (s1.rr .PRF_OVF) (2 ^ j))).prfEvent 0

/-- `n` occurrences of block event `ev` at unit `idx` (R654). -/
def State.blockEvent (s : State) (ev idx n : Nat) : State :=
  if !s.counting || n = 0 then s
  else (List.range 32).foldl (fun a j =>
    if s.fb F.PRF_CNT_SEL_EN j && !(j % 2 = 1 && s.fb F.PRF_CNT_SEL_CHAIN j) &&
        s.f F.PRF_CNT_SEL_EVENT j = ev && s.f F.PRF_CNT_SEL_INDEX j = idx then a.blkAdd j n else a) s

/-! ### Access by requester -/

/-- Whether every register of a block is RO from the application cores (the notes before the register tables). -/
def appReadOnly : Block → Bool
  | .tmb | .mem | .fpt | .thm | .idt | .pww => true
  | _ => false

/-- Whether a read by an application core clears an RC counter: in TMB and ETH the cores have RO access; elsewhere a counter clears on a
read from either side. -/
def appClears : Block → Bool
  | .tmb | .eth => false
  | _ => true

/-- The key of a captured or held word of a requester (R10, R11). -/
def pairKey (rq : Requester) (k : Nat) : Nat := rq.num * 2 ^ 45 + k

/-! ### Reading (R10, R13, R15) -/

/-- The word `w` with every RC field zero. -/
def clearRc (fs : List FieldD) (w : Nat) : Nat :=
  fs.foldl (fun a f => if f.acc = .rc then putBits a f.hi f.lo 0 else a) w

/-- A stored register read: `live` is what the register shows, `liveHi` what the high register of its pair shows. A low word captures
the high word for the requester (R10); an RC field is cleared by a requester that has that access (R13). -/
def State.readReg (s : State) (rq : Requester) (r : Reg) (i live liveHi : Nat) : State :=
  let k := r.key i
  match SMap.find? s.pairs.captured (pairKey rq k) with
  | some c =>
    { s with pairs := { s.pairs with captured := SMap.del s.pairs.captured (pairKey rq k) } }.answer .ok c.toNat
  | none =>
    let fs := r.desc.fields
    let clears := match rq with | .core _ => appClears r.desc.blk | _ => true
    let s1 := if clears && fs.any (fun f => f.acc = .rc) then s.wr r i (clearRc fs (s.rr r i)) else s
    let s2 := match r.highOf with
      | some h =>
        { s1 with pairs :=
            { s1.pairs with captured := SMap.put s1.pairs.captured (pairKey rq (h.key i)) (BitVec.ofNat 32 liveHi) } }
      | none => s1
    s2.answer .ok live

/-- A word captured for a requester's next read of register `r` (R310, R311). -/
def State.capture (s : State) (rq : Requester) (r : Reg) (i v : Nat) : State :=
  { s with pairs := { s.pairs with captured := SMap.put s.pairs.captured (pairKey rq (r.key i)) (BitVec.ofNat 32 v) } }

/-! ### Writing (R11, R13, R14, R16 to R18, R40) -/

/-- What a write of `v` makes of the fields: the new word, whether a protected field refused a change (R40), and whether a sealed field was
written (R16). -/
def writeFields (rq : Requester) (isSealed : Bool) (fs : List FieldD) (old v : Nat) : Nat × Bool × Bool :=
  fs.foldl (fun (a : Nat × Bool × Bool) f =>
    let x := bits v f.hi f.lo
    let cur := bits old f.hi f.lo
    let hasRole := match f.role with
      | none => true
      | some r => decide (rq = .steward (some r))
    let access := match rq with
      | .core _ => f.app
      | .tile _ => f.app
      | .steward _ => true
    if !hasRole then
      let changes := match f.acc with
        | .w1c | .w1s => x != 0
        | .rw | .rws => x != cur
        | _ => false
      (a.1, a.2.1 || changes, a.2.2)
    else if !access then a
    else
      match f.acc with
      | .ro | .rc => a
      | .rw => (putBits a.1 f.hi f.lo x, a.2.1, a.2.2)
      | .rws => if isSealed then (a.1, a.2.1, true) else (putBits a.1 f.hi f.lo x, a.2.1, a.2.2)
      | .w1c => (putBits a.1 f.hi f.lo (Nat.land cur (2 ^ (f.hi + 1 - f.lo) - 1 - x)), a.2.1, a.2.2)
      | .w1s => (putBits a.1 f.hi f.lo (Nat.lor cur x), a.2.1, a.2.2)) (old, false, false)

/-- The status of a refused write of register `r`, copy `i`, in the error status of its block: a governor's, a port's or a tile's own where
the block has one of each (R18, R40, R410). -/
def State.errAt (s : State) (r : Reg) (i : Nat) (st : Status) : State :=
  let b := r.desc.blk
  let own (e : Reg) (j : Nat) : State := match st with | .ok => s | _ => s.wr e j st.code
  if b = .gov then own .GOV_ERR (if r.key i < 0x41000000 then 0 else 1)
  else if b = .fpt then (if r.key i < 0x480000 then own .FPT_ERR ((r.key i - 0x400000) / 0x4000) else own .FPT_GERR 0)
  else if b = .tile then own .TILE_ERR ((r.key i - 0x10000000000) / 0x100000)
  else s.err b st

/-- A write of one word to a register, by the rules for fields; `legal` judges the values the write carries (R18). The status is the first
of R21; a refused field keeps its value, and an illegal value keeps the whole register. -/
def State.writeWord (s : State) (rq : Requester) (isSealed legal : Bool) (r : Reg) (i v : Nat) : State :=
  let res := writeFields rq isSealed r.desc.fields (s.rr r i) v
  let b := r.desc.blk
  let st := firstStatus [(res.2.1, .denied), (!legal, .bounds)]
  let s1 := if legal then s.wr r i res.1 else s
  let s2 := if legal && res.2.2 then s1.sealViolation b (r.key i) else s1
  let s3 := s2.errAt r i st
  s3.answer (if legal && st = .ok && res.2.2 then .denied else st) 0

/-- A write that its block refuses with BUSY, whole, while `busy` holds (R453, R492); the status is the first of R21. -/
def State.writeUnlessBusy (s : State) (rq : Requester) (legal busy : Bool) (r : Reg) (i v : Nat) : State :=
  if busy then
    let st := firstStatus [((writeFields rq false r.desc.fields (s.rr r i) v).2.1, .denied), (!legal, .bounds), (busy, .busy)]
    (s.errAt r i st).answer st 0
  else s.writeWord rq false legal r i v

/-- The low word that a requester holds for the pair whose low register has key `k` (R11). -/
def State.held (s : State) (rq : Requester) (k : Nat) : Option Nat :=
  (SMap.find? s.pairs.held (pairKey rq k)).map (·.toNat)

/-- The held low word taken by the write of the high one. -/
def State.dropHeld (s : State) (rq : Requester) (k : Nat) : State :=
  { s with pairs := { s.pairs with held := SMap.del s.pairs.held (pairKey rq k) } }

/-- A write of the low word of a writable pair: the package holds it for the requester; a second replaces the first (R11). -/
def State.holdLow (s : State) (rq : Requester) (lo : Reg) (i v : Nat) : State :=
  { s with pairs := { s.pairs with held := SMap.put s.pairs.held (pairKey rq (lo.key i)) (BitVec.ofNat 32 v) } }.answer .ok 0

/-- The value that a write of the high word `v` gives the whole pair: with the requester's held low word, or with the low word as it
stands (R11). -/
def State.pairValue (s : State) (rq : Requester) (lo : Reg) (i v : Nat) : Nat :=
  (s.held rq (lo.key i)).getD (s.rr lo i) + 2 ^ 32 * (v % 2 ^ 32)

/-- A write of the high word of a writable pair (R11): an illegal pair changes nothing and records BOUNDS. -/
def State.writeHigh (s : State) (rq : Requester) (legal : Bool) (lo hi : Reg) (i v : Nat) : State :=
  let p := s.pairValue rq lo i v
  let s1 := s.dropHeld rq (lo.key i)
  if legal then (s1.setPair lo hi i p).answer .ok 0
  else if lo.desc.blk = .tile then ((s1.wr .TILE_ERR i Status.bounds.code).answer .bounds 0)
  else (s1.err lo.desc.blk .bounds).answer .bounds 0

end Sys2Proof.Machine
end

