-- ==== Sys2Proof/Machine/MemOps.lean ====
section
/-! DEFINITION. Memory: where an address leads (R35), fences (R29, R39), the channel of an address (R277 to R283), reads that check ECC and
poison (R284, R285, R154, R298) and writes that keep or clear poison (R286, R289). -/

namespace Sys2Proof.Machine

/-- Where an application physical address leads (R35, R36). -/
inductive Place where
  | dram
  | spad (tile off : Nat)
  | imem (tile off : Nat)
  | treg (tile off : Nat)
  | depot (g off : Nat)
  | block (off : Nat)
  | unmapped
  deriving DecidableEq, Repr

/-- The end of memory. -/
def memEnd : Nat := 0x8000000000

def placeOf (a : Nat) : Place :=
  if a < memEnd then .dram
  else if 0x10000000000 ≤ a && a < 0x10030000000 then
    let t := (a - 0x10000000000) / 0x100000
    let o := a % 0x100000
    if o < 0x80000 then .spad t o
    else if o < 0x90000 then .imem t (o - 0x80000)
    else if 0xC0000 ≤ o && o < 0xC1000 then .treg t (o - 0xC0000)
    else .unmapped
  else if 0x10040000000 ≤ a && a < 0x10048000000 then .depot ((a - 0x10040000000) / 0x400000) (a % 0x400000)
  else if 0x1F000000000 ≤ a && a < 0x1F000000000 + 0xF00000 then .block (a - 0x1F000000000)
  else .unmapped

/-- The address of a byte of a tile's scratchpad, of its instruction memory, and of a depot. -/
def spadAddr (t o : Nat) : Nat := 0x10000000000 + t * 0x100000 + o
def imemAddr (t o : Nat) : Nat := 0x10000080000 + t * 0x100000 + o
def depotAddr (g o : Nat) : Nat := 0x10040000000 + g * 0x400000 + o

/-! ### Fences -/

/-- A recovery state behind a closed fence (R579): every state but OPEN and QUEUED. -/
def fenceClosed (st : Nat) : Bool := 1 ≤ st && st ≤ 5

/-- The working-tile map, IDT_GOOD. -/
def State.working (s : State) (t : Nat) : Bool := bit (s.rr .IDT_GOOD (t / 32)) (t % 32)

/-- A partition gated by the governor, as the outputs applied show it (R349, R374). -/
def State.gated (s : State) (p : Nat) : Bool := bit (s.f F.OST_OUT_GATED) p

/-- A tile behind its own fence, that of its cluster or that of its partition (R577, R580). -/
def State.tileFence (s : State) (t : Nat) : Bool :=
  fenceClosed (s.f F.RST_DOM_TILE_STATE t) || fenceClosed (s.f F.RST_DOM_CLUSTER_STATE (tileCluster t)) ||
    fenceClosed (s.f F.RST_DOM_PART_STATE (t / 192))

/-- A tile that any access from outside meets with FENCED: not working, behind a fence, or in a gated partition (R29, R39). -/
def State.tileFenced (s : State) (t : Nat) : Bool := !s.working t || s.tileFence t || s.gated (t / 192)

/-- A depot behind the fence of its cluster or partition, or in a gated partition (R39, R577). -/
def State.depotFenced (s : State) (g : Nat) : Bool :=
  fenceClosed (s.f F.RST_DOM_CLUSTER_STATE g) || fenceClosed (s.f F.RST_DOM_PART_STATE (g / 8)) || s.gated (g / 8)

/-- Whether an access to a place is refused with FENCED (R39). -/
def State.placeFenced (s : State) : Place → Bool
  | .spad t _ | .imem t _ | .treg t _ => s.tileFenced t
  | .depot g _ => s.depotFenced g
  | _ => false

/-! ### Channels -/

/-- Region `i`'s base and size in bytes; size 0 is disabled, and all are while the table is ignored (R280, R282). -/
def State.region (s : State) (i : Nat) : Nat × Nat :=
  if s.f F.MEM_STATUS_RGN_STAT = 0 && s.f F.MEM_STATUS_SEALED = 1 then
    (s.f F.MEM_RGN_BASE_BASE i * 2 ^ 30, s.f F.MEM_RGN_SIZE_SIZE i * (3 * 2 ^ 20))
  else (0, 0)

/-- The numbers of the bits set in a stack mask, lowest first. -/
def stacksOf (mask : Nat) : List Nat := (List.range 8).filter (fun k => bit mask k)

/-- The rows that region `i` takes from each channel of its stacks (R281). -/
def regionRows (size mask : Nat) : Nat := size * 128 / popCount 8 mask

/-- The channel of a memory address (R279, R283). -/
def State.channelOf (s : State) (a : Nat) : Nat :=
  match (List.range 8).find? (fun i => let b := s.region i; b.1 ≤ a && a < b.1 + b.2) with
  | some i =>
    let stk := stacksOf (s.f F.MEM_RGN_CTL_STACKS i)
    let n := stk.length
    let g := if s.f F.MEM_RGN_CTL_GRAN i = 1 then 4096 else 256
    let u := (a - (s.region i).1) / g
    96 * stk.getD (u % n) 0 + u / n % 96
  | none =>
    let below := (List.range 8).foldl (fun acc i => let b := s.region i; if b.1 + b.2 ≤ a then acc + b.2 else acc) 0
    let l := (a - below) / 256
    96 * (l % 8) + l / 8 % 96

/-- A channel that has stopped answering (R289). -/
def State.channelFailed (s : State) (q : Nat) : Bool := s.f F.MEM_CH_STAT_STATE q = 2

/-! ### Bytes, lines and their checks -/

/-- The byte at an address, as it is stored. A byte that nothing has written reads 0 (log 3). -/
def State.byte (s : State) (a : Nat) : Byte := SMap.get (fun _ => 0#8) s.mem.cells a

/-- `n` stored bytes from an address. -/
def State.bytes (s : State) (a : Nat) : Nat → List Byte
  | 0 => []
  | n + 1 => s.byte a :: State.bytes s (a + 1) n

/-- Bytes stored at an address, without any check. -/
def State.storeBytes (s : State) (a : Nat) : List Byte → State
  | [] => s
  | b :: bs => State.storeBytes { s with mem := { s.mem with cells := SMap.set (fun _ => 0#8) s.mem.cells a b } } (a + 1) bs

/-- The poison mark of a line. -/
def State.poisoned (s : State) (line : Nat) : Bool := SMap.get (fun _ => false) s.mem.poison line

/-- The poison mark of a line set or cleared. -/
def State.setPoison (s : State) (line : Nat) (p : Bool) : State :=
  { s with mem := { s.mem with poison := SMap.set (fun _ => false) s.mem.poison line p } }

/-- An error a line holds and no read has found. -/
def State.latentAt (s : State) (line : Nat) : Option Ecc := SMap.find? s.mem.latent line

def State.dropLatent (s : State) (line : Nat) : State :=
  { s with mem := { s.mem with latent := SMap.del s.mem.latent line } }

/-- A corrected error counted where its line lies, and its event on the error line (R284, R154, R298, R606). -/
def State.countCe (s : State) (a : Nat) : State :=
  match placeOf a with
  | .dram => let q := s.channelOf a; (s.bump .MEM_CH_CE q).raise 4 q .check
  | .spad t _ => (s.bump .TILE_ECC t).raise 0 t .check
  | .depot g _ => (s.bumpF F.MEM_DEP_ERR_CE g).raise 2 g .check
  | _ => s

/-- An uncorrectable error logged in MEM_ERRLOG (R285): the first while VALID is 0; a further one sets OVER. -/
def State.errlog (s : State) (a q src : Nat) : State :=
  if s.fb F.MEM_ERRLOG_INFO_VALID then s.sf F.MEM_ERRLOG_INFO_OVER 0 1
  else (s.setPair .MEM_ERRLOG_LO .MEM_ERRLOG_HI 0 (a / 64 * 64)).wr .MEM_ERRLOG_INFO 0 (2 ^ 31 + (if src < 4 then src else Config.otherSource.toNat) * 2 ^ 24 + q)

/-- An uncorrectable error counted, logged and raised (R285, R154, R298). `src` is the MEM_ERRLOG_INFO.SRC code of who met it. -/
def State.countUe (s : State) (a src : Nat) : State :=
  match placeOf a with
  | .dram => let q := s.channelOf a; ((s.bump .MEM_CH_UE q).errlog a q src).raise 5 q .poison
  | .spad t _ => s.raise 1 t .poison
  | .depot g _ => (s.bumpF F.MEM_DEP_ERR_UE g).raise 3 g .poison
  | _ => s

/-- The check that a read makes of a line (R284, R285, R289): what it leaves and whether the data is marked POISON. -/
def State.checkLine (s : State) (line src : Nat) : State × Bool :=
  let a := line * 64
  let s := if placeOf a = .dram then s.blockEvent 0x01 (s.channelOf a) 1 else s
  if placeOf a = .dram && s.channelFailed (s.channelOf a) then (s, true)
  else if s.poisoned line then
    (if placeOf a = .dram then s.bump .MEM_CH_POISRD (s.channelOf a) else s, true)
  else
    match s.latentAt line with
    | none => (s, false)
    | some .correctable => ((s.dropLatent line).countCe a, false)
    | some .uncorrectable => (((s.dropLatent line).setPoison line true).countUe a src, true)

/-- The checks of `n` lines from `line`: whether any is marked POISON. -/
def State.checkLines (s : State) (line src : Nat) : Nat → State × Bool
  | 0 => (s, false)
  | n + 1 =>
    let r := s.checkLine line src
    let r' := State.checkLines r.1 (line + 1) src n
    (r'.1, r.2 || r'.2)

/-- The number of lines that `n` bytes from `a` touch. -/
def linesOf (a n : Nat) : Nat := if n = 0 then 0 else (a + n - 1) / 64 + 1 - a / 64

/-- A read of `n` bytes: the checks of every line touched, the bytes, and whether any line is marked POISON. -/
def State.readMem (s : State) (a n src : Nat) : State × List Byte × Bool :=
  let r := s.checkLines (a / 64) src (linesOf a n)
  (r.1, r.1.bytes a n, r.2)

/-- A write of bytes within one line (R286, R289): a full line of clean data stores it clean; less checks the line as a read does and keeps
its poison; data marked POISON poisons it. A line on a failed channel is not stored. -/
def State.writeLine (s : State) (a : Nat) (bs : List Byte) (marked : Bool) (src : Nat) : State :=
  let line := a / 64
  let s := if placeOf a = .dram then s.blockEvent 0x02 (s.channelOf a) 1 else s
  if placeOf a = .dram && s.channelFailed (s.channelOf a) then s
  else if bs.length = 64 then ((s.dropLatent line).setPoison line marked).storeBytes a bs
  else
    let r := if s.poisoned line then (s, true) else s.checkLine line src
    (r.1.setPoison line (r.2 || marked)).storeBytes a bs

/-- Bytes written line by line; the first argument bounds the number of lines. -/
def State.writeLines (s : State) : Nat → Nat → List Byte → Bool → Nat → State
  | 0, _, _, _, _ => s
  | k + 1, a, bs, marked, src =>
    let n := min (64 - a % 64) bs.length
    if n = 0 then s
    else State.writeLines (s.writeLine a (bs.take n) marked src) k (a + n) (bs.drop n) marked src

/-- A write of bytes (R286). -/
def State.writeMem (s : State) (a : Nat) (bs : List Byte) (marked : Bool) (src : Nat) : State :=
  s.writeLines (linesOf a bs.length) a bs marked src

/-- Whether a range of memory touches a failed channel (R289). -/
def State.touchesFailed (s : State) (a : Nat) : Nat → Bool
  | 0 => false
  | n + 1 => (decide (a < memEnd) && s.channelFailed (s.channelOf a)) || State.touchesFailed s (a / 64 * 64 + 64) n

/-- Whether `n` bytes from `a` lie in memory (R23). -/
def inMem (a n : Nat) : Bool := a + n ≤ memEnd

end Sys2Proof.Machine
end

