-- ==== Sys2Proof/Machine/CounterOps.lean ====
section
/-! DEFINITION. The performance counters (spec/20): counting an event of a tile or of a block, chaining, overflow, bandwidth windows and the
tagging of outriders. -/

namespace Sys2Proof.Machine

/-- `n` added to counter TC`k` of a tile: what a wrap does (R642, R645). -/
def State.tcAdd (s : State) (t k n : Nat) : State :=
  let v := s.rr .PRF_TCNT (t * 4 + k) + n
  let s1 := s.wr .PRF_TCNT (t * 4 + k) v
  if v < 2 ^ 32 then s1
  else if k % 2 = 0 && bit (s.rr .PRF_TCHAIN) (k / 2) then
    let h := s1.rr .PRF_TCNT (t * 4 + k + 1) + v / 2 ^ 32
    let s2 := s1.wr .PRF_TCNT (t * 4 + k + 1) h
    if h < 2 ^ 32 then s2 else (s2.wr .PRF_TOVF 0 (Nat.lor (s2.rr .PRF_TOVF) (2 ^ (k + 1)))).prfEvent 0
  else (s1.wr .PRF_TOVF 0 (Nat.lor (s1.rr .PRF_TOVF) (2 ^ k))).prfEvent 0

/-- A tile that counts (R648): a station of a caravan with PERM.COUNT, or any under ALLTILES, and never behind a fence. -/
def State.tileCounts (s : State) (t : Nat) : Bool :=
  let x := s.tile t
  s.counting && s.working t && !s.tileFence t &&
    (s.fb F.PRF_CTL_ALLTILES || (x.handle != 0 && bit (s.slot (x.handle.toNat % 64)).perm.toNat 0))

/-- Whether counter TC`k` counts its own event: an odd one that is chained does not (R645). -/
def State.tcOwn (s : State) (k : Nat) : Bool := !(k % 2 = 1 && bit (s.rr .PRF_TCHAIN) (k / 2))

/-- `n` occurrences of count event `ev` at a tile (R647, R651). -/
def State.tileEvent (s : State) (t ev n : Nat) : State :=
  if s.rr .PRF_TSEL = 0 || n = 0 || !s.tileCounts t then s
  else (List.range 4).foldl (fun a k =>
    if s.tcOwn k && bits (s.rr .PRF_TSEL) (8 * k + 7) (8 * k) = ev then a.tcAdd t k n else a) s

/-- `n` bytes that cross a port in the bandwidth window in progress: word `i` of PRF_BW (R655). -/
def State.bwBytes (s : State) (i n : Nat) : State :=
  if s.counting && bit (s.rr .PRF_BWCTL) 31 then
    { s with prf := { s.prf with bw := SMap.set (fun _ => 0) s.prf.bw i (SMap.get (fun _ => 0) s.prf.bw i + n) } }
  else s

/-! ### Outriders (R656) -/

def State.outGen (s : State) (t : Nat) : OutGen := SMap.get (fun _ => {}) s.prf.outs t
def State.setOutGen (s : State) (t : Nat) (x : OutGen) : State :=
  { s with prf := { s.prf with outs := SMap.set (fun _ => {}) s.prf.outs t x } }

/-- The interval to the next tag: the generator's next word, from 1 to 2^(N+1) − 1. -/
def State.nextInterval (s : State) (x : OutGen) : OutGen :=
  let g := genNext x.gen.toNat
  let n := bits (s.rr .PRF_OUT_CTL) 4 0
  { x with gen := BitVec.ofNat 64 g, left := 1 + Config.outriderInterval (genWord g) n % (2 ^ (n + 1) - 1) }

/-- One instruction issued at a tile: it may be the one tagged. Its flags bit 2 says whether it had stalled on the scoreboard. -/
def State.outriderIssue (s : State) (t cls opc : Nat) : State :=
  let x := s.tile t
  if bit (s.rr .PRF_OUT_CTL) 31 && x.handle != 0 && bit (s.slot (x.handle.toNat % 64)).perm.toNat 2 then
    let o := s.outGen t
    match o.tagged with
    | some _ => s
    | none =>
      let o1 := if o.left = 0 then s.nextInterval o else o
      if o1.left ≤ 1 then
        (s.setOutGen t { o1 with
          left := 0
          tagged := some ⟨s.tmb.ptime, x.handle, x.pc, BitVec.ofNat 8 (cls * 16 + opc), if x.stalled then 4 else 0,
            x.station⟩ }).tileEvent t 0x0E 1
      else s.setOutGen t { o1 with left := o1.left - 1 }
  else s

/-- A flag of the outrider in flight at a tile (R657). -/
def State.outriderFlag (s : State) (t b : Nat) : State :=
  let o := s.outGen t
  match o.tagged with
  | some r => s.setOutGen t { o with tagged := some { r with flags := r.flags ||| BitVec.ofNat 8 (2 ^ b) } }
  | none => s

end Sys2Proof.Machine
end

