-- ==== Sys2Proof/Machine/CoreOps.lean ====
section
/-! DEFINITION. What an application core does for its caravan instructions: its registers, and the traps it takes, as the privileged
architecture of its profile has them (R493; log 7). -/

namespace Sys2Proof.Machine

/-- Register x`n`; x0 reads 0. -/
def State.xreg (s : State) (c n : Nat) : Nat := if n = 0 then 0 else (SMap.get (fun _ => 0#64) (s.core c).x n).toNat

/-- Register x`n` written; x0 discards it. -/
def State.setXreg (s : State) (c n v : Nat) : State :=
  if n = 0 then s
  else
    let k := s.core c
    s.setCore c { k with x := SMap.set (fun _ => 0#64) k.x n (BitVec.ofNat 64 v) }

/-- A core that issues: running, not in `wfi` and not stalled in `cvn.wait` (R501). -/
def Core.issues (k : Core) : Bool := k.on && !k.wfi && k.wait.isNone

/-- The MPP code of a mode. -/
def Mode.pp : Mode → BitVec 2
  | .m => 3
  | .s | .vs => 1
  | .u | .vu => 0

/-- A virtual mode. -/
def Mode.virt : Mode → Bool
  | .vs | .vu => true
  | _ => false

/-- A trap taken into supervisor mode: cause, value and the address it vectors to. -/
def Core.trapS (k : Core) (cause tval pc : Nat) : Core :=
  { k with
    sepc := k.pc, scause := BitVec.ofNat 64 cause, stval := BitVec.ofNat 64 tval
    spie := k.sie, sie := false, spp := decide (k.mode = .s ∨ k.mode = .vs), spv := k.mode.virt
    mode := .s, pc := BitVec.ofNat 64 pc, wfi := false, wait := none }

/-- A trap taken into machine mode. -/
def Core.trapM (k : Core) (cause tval pc : Nat) : Core :=
  { k with
    mepc := k.pc, mcause := BitVec.ofNat 64 cause, mtval := BitVec.ofNat 64 tval
    mpie := k.mie, mie := false, mpp := k.mode.pp, mpv := k.mode.virt
    mode := .m, pc := BitVec.ofNat 64 pc, wfi := false, wait := none }

/-- A synchronous exception (R118, R120, R123, R494): delegated by medeleg from any mode below machine mode. -/
def Core.exception (k : Core) (cause tval : Nat) : Core :=
  if k.mode ≠ .m ∧ bit k.medeleg.toNat cause then k.trapS cause tval (k.stvec.toNat / 4 * 4)
  else k.trapM cause tval (k.mtvec.toNat / 4 * 4)

/-- An interrupt; the vectored mode of the trap vector adds four times its number. -/
def Core.interrupt (k : Core) (toS : Bool) (n : Nat) : Core :=
  let vec := if toS then k.stvec.toNat else k.mtvec.toNat
  let pc := vec / 4 * 4 + (if vec % 4 = 1 then 4 * n else 0)
  if toS then k.trapS (2 ^ 63 + n) 0 pc else k.trapM (2 ^ 63 + n) 0 pc

def State.coreException (s : State) (c cause tval : Nat) : State := s.setCore c ((s.core c).exception cause tval)

/-- Exception codes of the privileged architecture. -/
def excIllegal : Nat := 2
def excLoadAccess : Nat := 5
def excStoreAccess : Nat := 7
def excLoadPage : Nat := 13
def excVirtual : Nat := 22

/-- The instruction word of a `cvn.` instruction with operation `funct7` (R117). -/
def cvnWord (o : CvnOp) (funct7 : Nat) : Nat :=
  funct7 * 2 ^ 25 + o.rs2.toNat * 2 ^ 20 + o.rs1.toNat * 2 ^ 15 + o.funct3.toNat * 2 ^ 12 + o.rd.toNat * 2 ^ 7 + 0x0B

/-- What the core makes of a `cvn.` instruction before the controller sees it (R118, R123, R494): nothing, an exception, or the
instruction goes on. `two` says that the form has rs2. -/
inductive CvnGate where
  | idle
  | trap (cause : Nat)
  | go
  deriving DecidableEq, Repr

def cvnGate (k : Core) (o : CvnOp) (two : Bool) : CvnGate :=
  if !k.issues then .idle
  else if o.funct3 ≠ 0 ∨ (!two ∧ o.rs2 ≠ 0) then .trap excIllegal
  else if k.mode.virt then .trap excVirtual
  else if k.mode = .u ∧ !k.ucvn then .trap excIllegal
  else .go

/-- One occurrence of a core event: the counters set to it count, and a wrap sets OF (R652, R653). -/
def Core.event (k : Core) (ev : Nat) : Core :=
  (List.range 8).foldl (fun a j =>
    let n := j + 3
    let e := (SMap.get (fun _ => 0#64) a.hpmEvent n).toNat
    if e % 2 ^ 16 = ev then
      let v := SMap.get (fun _ => 0#64) a.hpm n + 1
      { a with
        hpm := SMap.set (fun _ => 0#64) a.hpm n v
        hpmEvent := if v = 0 then SMap.set (fun _ => 0#64) a.hpmEvent n (BitVec.ofNat 64 (putBits e 63 63 1)) else a.hpmEvent }
    else a) k

/-- The status and result of a `cvn.` instruction written, and the core past it (R117). -/
def State.cvnResult (s : State) (c rd : Nat) (st : Status) (fields : Nat) : State :=
  let s1 := s.setXreg c rd (st.code + fields)
  let k := s1.core c
  (s1.setCore c { k.event 7 with pc := k.pc + 4, minstret := k.minstret + 1, wait := none }).answer st (st.code + fields)

end Sys2Proof.Machine
end

