-- ==== Sys2Proof/Machine/CvnOps.lean ====
section
/-! DEFINITION. The caravan controller's shared operations (spec/02): handles, events, completions and their ring, the stopping of stations,
and the entry into FAULTED. -/

namespace Sys2Proof.Machine

/-- The state codes of R113. -/
def SlotState.code : SlotState → Nat
  | .free => 0 | .loading => 1 | .ready => 2 | .running => 3 | .paused => 4 | .aborting => 5 | .faulted => 6

/-- Admission has stopped in every caravan: an ordered shutdown (R365), a thermal trip (R554), the ramp of a package reset (R602). -/
def State.admissionStopped (s : State) : Bool := s.fb F.OST_STAT_SHUTDOWN || s.thm.tripped || s.rst.pkgReset.isSome

/-- The generation of a slot and its handle (R100). -/
def State.gen (s : State) (i : Nat) : Nat := s.f F.CVN_SLOT_GEN i
def State.handle (s : State) (i : Nat) : Nat := s.gen i * 64 + i

/-- A pending event of a slot set (R136): 0 DONE, 1 IDLE, 2 LOADED, 3 ABORTED, 4 FAULT, 5 LATE. -/
def State.cvnEvent (s : State) (i b : Nat) : State := s.wr .CVN_SLOT_EVENT i (Nat.lor (s.rr .CVN_SLOT_EVENT i) (2 ^ b))

/-- A slot that admits or finishes sequences: RUNNING or PAUSED. -/
def SlotState.active : SlotState → Bool
  | .running | .paused => true
  | _ => false

/-- The sequences of a slot's queue that are not yet admitted (R115). -/
def Slot.unadmitted (x : Slot) : Nat := x.queue.foldl (fun a q => a + (q.count - q.admitted)) 0

/-- Whether the ring holds no free record (R134). -/
def State.ringFull (s : State) (i : Nat) : Bool :=
  decide (2 ^ (s.slot i).ringOrder ≤ (s.rr .CVN_SLOT_RING_WR i + 2 ^ 32 - s.rr .CVN_SLOT_RING_RD i) % 2 ^ 32)

/-- The target of a wait is reached: count minus target, as a signed 32-bit difference, is 0 or more (R130). -/
def waitDone (count target : Nat) : Bool := decide ((count + 2 ^ 32 - target % 2 ^ 32) % 2 ^ 32 < 2 ^ 31)

/-- The cores that wait on a slot and are let go with a status, given whether each is (R130, R131). -/
def State.endWaits (s : State) (i : Nat) (go : CvnWait → Bool) (st : Status) (fields : Nat) : State :=
  (List.range 32).foldl (fun a c =>
    match (a.core c).wait with
    | some w => if w.slot = i && go w then a.cvnResult c w.rd.toNat st fields else a
    | none => a) s

/-- The result field of `cvn.wait`: the completion count (R130). -/
def State.doneField (s : State) (i : Nat) : Nat := s.rr .CVN_SLOT_DONE i * 2 ^ 32

/-- Waits that a completion ends (R130). -/
def State.wakeWaiters (s : State) (i : Nat) : State :=
  let n := s.rr .CVN_SLOT_DONE i
  s.endWaits i (fun w => waitDone n w.target.toNat) .ok (s.doneField i)

/-- The completion record of R132. -/
def recordBytes (c : Completion) (now : Nat) : List Byte :=
  leBytes 2 c.seq ++ [BitVec.ofNat 8 c.status.code, c.flags] ++ leBytes 4 c.length.toNat ++ leBytes 8 now

/-- A completion written into the ring (R132, R133, R135, R136): the record, both counts, the DONE and IDLE events, the waits that end. -/
def State.writeCompletion (s : State) (i : Nat) (c : Completion) : State :=
  let x := s.slot i
  let w := s.rr .CVN_SLOT_RING_WR i
  let s1 := s.writeMem (x.ringBase + 16 * (w % 2 ^ x.ringOrder)) (recordBytes c s.now) false 2
  let s2 := (s1.wr .CVN_SLOT_RING_WR i (w + 1)).wr .CVN_SLOT_DONE i (s.rr .CVN_SLOT_DONE i + 1)
  let thr := s.rr .CVN_SLOT_THRESH i
  let n := x.sinceDone + 1
  let hit := thr ≠ 0 ∧ thr ≤ n
  let fl := x.inflight.erase c.seq
  let s3 := s2.setSlot i { x with
    sinceDone := if hit then 0 else n
    inflight := fl
    relOpen := x.relOpen.erase c.seq }
  let s4 := if hit then s3.cvnEvent i 0 else s3
  let s5 := if fl.isEmpty && x.queue.isEmpty && x.state.active then s4.cvnEvent i 1 else s4
  (s5.wakeWaiters i).blockEvent 0x41 i 1

/-- A sink whose retire is done: the waybill register is no longer VALID and the instruction is retired (R195). -/
def State.retireDone (s : State) (t : Nat) : State :=
  let x := s.tile t
  (s.setTile t { x with retiring := false, valid := false, pc := x.pc + 8, stalled := false }).tileEvent t 0x01 1

/-- A completion that arises: written at once, or waiting behind those that wait already (R134). -/
def State.complete (s : State) (i : Nat) (c : Completion) : State :=
  let x := s.slot i
  if x.waiting.isEmpty && !s.ringFull i then
    let s1 := s.writeCompletion i c
    match c.sink with
    | some t => s1.retireDone t
    | none => s1
  else s.setSlot i { x with waiting := x.waiting ++ [c] }

/-! ### Stopping a tile (R164) -/

/-- Which accumulator an operation is on, and whether it runs on the array. -/
def MxOp.acc : MxOp → Bool
  | .mac a .. => a | .macs a .. => a | .drain a .. => a | .load a .. => a | .zero a => a
def MxOp.onArray : MxOp → Bool
  | .mac .. => true | .macs .. => true | .drain .. => false | .load .. => false | .zero .. => false

/-- The operation of an engine that runs: the first in the queue for it, when no earlier one holds its accumulator (R187). The number is its
place in the queue. -/
def runningAt (arr : Bool) (q : List MxOp) : Option Nat :=
  match q.findIdx? (fun o => o.onArray == arr) with
  | none => none
  | some n =>
    match q[n]? with
    | none => none
    | some o => if (q.take n).any (fun p => p.acc == o.acc) then none else some n

/-- The queue with only the operations that run (R164). -/
def keepRunning (q : List MxOp) : List MxOp :=
  ((List.range q.length).filter (fun n => runningAt true q = some n || runningAt false q = some n)).filterMap (fun n => q[n]?)

/-- A tile that stops (R164): queued operations go, running ones and movements stay until they end. -/
def Tile.stop (x : Tile) (st : TileState) : Tile :=
  { x with st := st, waiting := none, retiring := false, sending := none, mxq := keepRunning x.mxq, inbox := [], stalled := false }

/-- A tile stops; an outrider in flight on it is marked as stopped (R657). -/
def State.stopTile (s : State) (t : Nat) (st : TileState) : State :=
  (s.outriderFlag t 4).setTile t ((s.tile t).stop st)

/-- All stations of a slot stop; a tile that took an exception keeps FAULT. -/
def State.stopStations (s : State) (i : Nat) : State :=
  (s.slot i).stations.foldl (fun a st =>
    if (a.tile st.tile).st = .fault then a else a.stopTile st.tile .stopped) s

/-- A tile that has stopped altogether: nothing runs on its engines (R164). -/
def Tile.quiet (x : Tile) : Bool := x.mxq.isEmpty && x.tags.all (fun p => match p.2 with | .busy _ => false | _ => true)

/-- The bales of a slot removed from the trail (R114). -/
def State.removeBales (s : State) (i : Nat) : State :=
  let h := BitVec.ofNat 16 (s.handle i)
  { s with cvn := { s.cvn with trail := s.cvn.trail.filter (fun b => b.wb.handle ≠ h) } }

/-- `n` sequences counted as aborted (R115). -/
def State.countAborted (s : State) (i n : Nat) : State := s.bump .CVN_SLOT_ABORTED i n

/-- The entry into FAULTED (R114, R115, R131, R136): the record of the first failure, the stations stopped, bales and queue gone, sequences
counted as aborted, FAULT raised, waits ended. -/
def State.faultSlot (s : State) (i station : Nat) (st : Status) : State :=
  let x := s.slot i
  match x.state with
  | .free | .faulted => s
  | _ =>
    let s1 := s.wr .CVN_SLOT_ERR i (station * 2 ^ 16 + st.code)
    let s2 := if x.state = .ready || x.state = .loading then s1 else (s1.stopStations i).removeBales i
    let s3 := if x.state = .ready || x.state = .loading then s2 else s2.countAborted i (x.inflight.length + x.unadmitted)
    let y := s3.slot i
    let s4 := s3.setSlot i { y with
      state := .faulted
      queue := if x.state = .ready || x.state = .loading then y.queue else []
      inflight := [], waiting := [], relOpen := [] }
    (s4.cvnEvent i 4).endWaits i (fun _ => true) .fenced 0

/-- The slot of a tile's station, when it holds one. -/
def State.slotOfTile (s : State) (t : Nat) : Option Nat :=
  let h := (s.tile t).handle.toNat
  if h = 0 then none else some (h % 64)

/-- A station tile that goes behind its fence faults its caravan with FENCED (R114, R583). -/
def State.fenceStation (s : State) (t : Nat) : State :=
  match s.slotOfTile t with
  | some i => s.faultSlot i (s.tile t).station .fenced
  | none => s

end Sys2Proof.Machine
end

