-- ==== Sys2Proof/Machine/Operands.lean ====
section
/-! DEFINITION. The operands of Viroth instructions (R150, R158): registers, immediates, scratchpad ranges, successors, the waybill register, the
tile's events and the tile registers as they read. -/

namespace Sys2Proof

/-! ### Fields of an instruction -/

/-- The 64-bit word of an instruction (R158). -/
def vWord (cls opc : Nat) (o : VOp) : Nat :=
  cls * 2 ^ 60 + opc * 2 ^ 56 + o.a.toNat * 2 ^ 51 + o.b.toNat * 2 ^ 46 + o.c.toNat * 2 ^ 41 + o.d.toNat * 2 ^ 36 +
    o.pr.toNat * 2 ^ 33 + o.pm.toNat * 2 ^ 32 + o.fn.toNat

/-- IMM, sign-extended to 64 bits (R158). -/
def VOp.imm (o : VOp) : Nat := (o.fn.signExtend 64).toNat

/-- IMM as a signed number. -/
def VOp.immZ (o : VOp) : Int := o.fn.toInt

/-- Bits of FN. -/
def VOp.fnBits (o : VOp) (hi lo : Nat) : Nat := Machine.bits o.fn.toNat hi lo

/-- Unused fields are zero (R159): each argument says whether the field is used. -/
def VOp.unusedZero (o : VOp) (a b c d p fn : Bool) : Bool :=
  (a || o.a == 0) && (b || o.b == 0) && (c || o.c == 0) && (d || o.d == 0) && (p || (o.pr == 0 && o.pm == 0)) && (fn || o.fn == 0)

/-- IMM[31:6] of a shift is zero. -/
def VOp.shiftLegal (o : VOp) : Bool := o.fnBits 31 6 == 0

/-- The FN fields of class 0x3 (R173). -/
def VOp.ty (o : VOp) : Nat := o.fnBits 31 28
def VOp.rmField (o : VOp) : Nat := o.fnBits 27 26
def VOp.sat (o : VOp) : Bool := o.fnBits 25 25 == 1
def VOp.zs (o : VOp) : Bool := o.fnBits 24 24 == 1
def VOp.sub (o : VOp) : Nat := o.fnBits 23 20
def VOp.src (o : VOp) : Nat := o.fnBits 19 16

/-- The FN checks every class 0x3 instruction shares (R173, R219). -/
def VOp.fn3Legal (o : VOp) (zs src : Bool) : Bool :=
  decide (o.ty ≤ 2) && decide (o.rmField ≤ 1) && (!o.sat || o.ty != 0) && (zs || !o.zs) && (src || o.src == 0) &&
    o.fnBits 15 0 == 0

end Sys2Proof

namespace Sys2Proof.Machine

/-! ### Registers -/

/-- g`n`; g0 reads 0. -/
def Tile.gr (x : Tile) (n : BitVec 5) : Nat := if n = 0 then 0 else (SMap.get (fun _ => 0#64) x.g n.toNat).toNat

/-- g`n` written; g0 discards it. -/
def Tile.setG (x : Tile) (n : BitVec 5) (v : Nat) : Tile :=
  if n = 0 then x else { x with g := SMap.set (fun _ => 0#64) x.g n.toNat (BitVec.ofNat 64 v) }

/-- p`n`; p0 reads all ones. -/
def Tile.pr (x : Tile) (n : Nat) : Nat := if n = 0 then 2 ^ 64 - 1 else (SMap.get (fun _ => 0#64) x.p n).toNat

/-- p`n` written; p0 discards it. -/
def Tile.setP (x : Tile) (n v : Nat) : Tile :=
  if n = 0 then x else { x with p := SMap.set (fun _ => 0#64) x.p n (BitVec.ofNat 64 v) }

/-- Lane `l` of v`n`. -/
def Tile.lane (x : Tile) (n : BitVec 5) (l : Nat) : Nat := (SMap.get (fun _ => 0#32) x.v (n.toNat * 64 + l)).toNat

/-- Lane `l` of v`n` written. -/
def Tile.setLane (x : Tile) (n : BitVec 5) (l v : Nat) : Tile :=
  { x with v := SMap.set (fun _ => 0#32) x.v (n.toNat * 64 + l) (BitVec.ofNat 32 v) }

/-- The poison bit of v`n`. -/
def Tile.vp (x : Tile) (n : BitVec 5) : Bool := x.vpois.getLsbD n.toNat
def Tile.setVp (x : Tile) (n : BitVec 5) (p : Bool) : Tile :=
  { x with vpois := BitVec.ofNat 32 (putBits x.vpois.toNat n.toNat n.toNat (b2n p)) }

/-- The predicate of a vector instruction. -/
def Tile.active (x : Tile) (o : VOp) (l : Nat) : Bool := bit (x.pr o.pr.toNat) l

/-- Every lane is active. -/
def Tile.allActive (x : Tile) (o : VOp) : Bool := x.pr o.pr.toNat == 2 ^ 64 - 1

/-- The lanes of v`n` written under a predicate: active lanes take `f`, the others 0 under PM = 1 and keep their value under PM = 0. -/
def Tile.writeLanes (x : Tile) (o : VOp) (f : Nat → Nat) : Tile :=
  (List.range 64).foldl (fun a l =>
    if x.active o l then a.setLane o.a l (f l) else if o.pm = 1 then a.setLane o.a l 0 else a) x

/-- The poison of a vector destination (R165): taken from a poisoned source; kept where a lane of a poisoned destination is kept. -/
def Tile.destPoison (x : Tile) (o : VOp) (src : Bool) : Tile :=
  x.setVp o.a (src || (x.vp o.a && o.pm == 0 && !x.allActive o))

/-- A cell of an accumulator: `a` false is acc0. -/
def Tile.cell (x : Tile) (a : Bool) (i j : Nat) : Nat := (SMap.get (fun _ => 0#96) x.acc (b2n a * 4096 + i * 64 + j)).toNat

/-- All cells of an accumulator, in row order. -/
def Tile.setAcc (x : Tile) (a : Bool) (cells : List Nat) : Tile :=
  let mine := ((cells.zipIdx (b2n a * 4096)).map (fun p => (p.2, BitVec.ofNat 96 p.1))).filter (fun p => p.2 ≠ 0)
  let other := x.acc.filter (fun p => decide (p.1 < 4096) == a)
  { x with acc := if a then other ++ mine else mine ++ other }

def Tile.mode (x : Tile) (a : Bool) : AccMode := if a then x.mode1 else x.mode0
def Tile.setMode (x : Tile) (a : Bool) (m : AccMode) : Tile := if a then { x with mode1 := m } else { x with mode0 := m }
def Tile.accPois (x : Tile) (a : Bool) : Bool := if a then x.pois1 else x.pois0
def Tile.setAccPois (x : Tile) (a p : Bool) : Tile := if a then { x with pois1 := p } else { x with pois0 := p }

/-- An accumulator cleared (R184). -/
def Tile.zeroAcc (x : Tile) (a : Bool) : Tile := ((x.setAcc a []).setAccPois a false).setMode a .none

/-- A movement tag. -/
def Tile.tag (x : Tile) (k : Nat) : MvTag := SMap.get (fun _ => MvTag.free) x.tags k
def Tile.setTag (x : Tile) (k : Nat) (v : MvTag) : Tile := { x with tags := SMap.set (fun _ => MvTag.free) x.tags k v }
def MvTag.isBusy : MvTag → Bool
  | .busy _ => true
  | _ => false
def MvTag.isDone : MvTag → Bool
  | .done _ => true
  | _ => false

/-! ### Events (R200) -/

/-- The head buffer holds a bale. -/
def Tile.headFilled (x : Tile) : Bool :=
  match x.posted with
  | p :: _ => p.bale.isSome
  | [] => false

/-- A bale at the head of the inbox does not fit the head posted buffer (R197). -/
def Tile.oversize (x : Tile) : Bool :=
  match x.posted, x.inbox with
  | p :: _, b :: _ => p.bale.isNone && decide (p.cap < b.payload.length)
  | _, _ => false

/-- The address of the head posted buffer. -/
def Tile.headAddr (x : Tile) : Nat := (x.posted.head?.map (·.addr)).getD 0

/-- No operation of an accumulator is queued or running. -/
def Tile.accIdle (x : Tile) (a : Bool) : Bool := x.mxq.all (fun o => o.acc != a)

/-- TILE_EVENT. -/
def Tile.events (x : Tile) : Nat :=
  b2n (x.headFilled || x.oversize) + 2 * b2n (x.accIdle false) + 4 * b2n (x.accIdle true) + Nat.land x.latched.toNat 0x38

/-- A latched event set: 3 MV, 4 TIMER, 5 NOTE. -/
def State.latch (s : State) (t b : Nat) : State :=
  let x := s.tile t
  s.setTile t { x with latched := x.latched ||| BitVec.ofNat 6 (2 ^ b) }

/-! ### The tile registers as they read -/

/-- The state code of R152; a tile behind its fence, or not working, is FENCED. -/
def TileState.code : TileState → Nat
  | .idle => 0 | .loading => 1 | .run => 2 | .wait => 3 | .stopped => 4 | .fault => 5 | .makeweight => 6 | .fenced => 7

def State.tileState (s : State) (t : Nat) : TileState := if !s.working t || s.tileFence t then .fenced else (s.tile t).st

def AccMode.code : AccMode → Nat
  | .none => 0 | .xa => 1 | .fp => 2

/-- What a tile register shows: those that follow the tile's state, and the stored ones. -/
def State.tileShow (s : State) (r : Reg) (i : Nat) : Nat :=
  let x := s.tile i
  match r with
  | .TILE_STATE => x.handle.toNat * 2 ^ 16 + x.station % 1024 * 16 + (s.tileState i).code
  | .TILE_PC => x.pc.toNat
  | .TILE_EVENT => x.events
  | .TILE_MXSB =>
    x.mode1.code * 2 ^ 10 + x.mode0.code * 2 ^ 8 + b2n x.pois1 * 2 ^ 7 + b2n x.pois0 * 2 ^ 6 + x.mxq.length % 8 * 8 +
      b2n (runningAt false x.mxq).isSome * 4 + b2n (runningAt true x.mxq).isSome * 2
  | .TILE_MVSTAT =>
    (List.range 16).foldl (fun a k =>
      a + (if (x.tag k).isBusy then 2 ^ k else if (x.tag k).isDone then 2 ^ (16 + k) else 0)) 0
  | .TILE_INBOX =>
    b2n x.valid * 2 ^ 12 + b2n x.oversize * 2 ^ 11 + (x.posted.filter (fun p => p.bale.isSome)).length % 16 * 16 + x.posted.length % 16
  | _ => s.rr r i

/-- The successor tile NEXT`k` of a station; 0xFFFF none. -/
def State.next (s : State) (t k : Nat) : Nat :=
  let w := s.rr .TILE_NEXT (t * 4 + k / 2)
  if k % 2 = 1 then w / 2 ^ 16 else w % 2 ^ 16

/-! ### The waybill register (R105, R196) -/

/-- The fields that `wb.get` names. -/
def Waybill.field (w : Waybill) : Nat → Option Nat
  | 0 => some w.handle.toNat
  | 1 => some w.seq.toNat
  | 2 => some w.route.toNat
  | 3 => some w.hops.toNat
  | 4 => some w.flags.toNat
  | 5 => some w.length.toNat
  | 6 => some w.origin.toNat
  | 8 => some w.data0.toNat
  | 9 => some w.data1.toNat
  | _ => none

/-- The fields that `wb.set` may write. FLAGS bits [7:4] are written 0 and POISON is not cleared. -/
def Waybill.setField (w : Waybill) (code v : Nat) : Option Waybill :=
  match code with
  | 1 => some { w with seq := BitVec.ofNat 16 v }
  | 2 => some { w with route := BitVec.ofNat 16 v }
  | 4 => some { w with flags := BitVec.ofNat 8 (Nat.lor (v % 16) (Nat.land w.flags.toNat 8)) }
  | 8 => some { w with data0 := BitVec.ofNat 64 v }
  | 9 => some { w with data1 := BitVec.ofNat 64 v }
  | _ => none

/-- A flag of a waybill: 0 END, 1 EXIT, 2 BYPASS, 3 POISON. -/
def Waybill.flag (w : Waybill) (b : Nat) : Bool := w.flags.getLsbD b
def Waybill.withFlags (w : Waybill) (m : Nat) : Waybill := { w with flags := w.flags ||| BitVec.ofNat 8 m }

/-! ### Ranges and the scoreboard (R188) -/

/-- Two byte ranges share a 64-byte line. -/
def sameLine (a n b m : Nat) : Bool :=
  n != 0 && m != 0 && decide (a / 64 ≤ (b + m - 1) / 64) && decide (b / 64 ≤ (a + n - 1) / 64)

/-- The bytes of a slice (R179), and of a panel of depth `k` (R182). -/
def sliceBytes (fmt : Nat) : Nat := 64 * elemBits fmt / 8
def panelBytes (fmt k : Nat) : Nat := k * sliceBytes fmt + (if blockFormat fmt then k / 32 * 64 else 0)

/-- The bytes a drain writes (R183). -/
def drainBytes (fmt : Nat) : Nat :=
  if fmt = 0xF then 49152 else 4096 * elemBits fmt / 8 + (if blockFormat fmt then 128 else 0)

/-- The bytes of metadata of `mx.macs` (R255). -/
def metaBytes (kind k : Nat) : Nat :=
  match kind with
  | 1 => 8 * k
  | 2 => 4 * k
  | _ => 8 * ((k + 4095) / 4096)

/-- The ranges an operation still has to read, and to write. -/
def MxOp.reads : MxOp → List (Nat × Nat)
  | .mac _ a b k f _ => [(a, panelBytes f.toNat k), (b, panelBytes f.toNat k)]
  | .macs _ a b k f _ kind m => [(a, panelBytes f.toNat k), (b, panelBytes f.toNat k), (m, metaBytes kind.toNat k)]
  | .load _ a _ => [(a, 49152)]
  | _ => []
def MxOp.writes : MxOp → List (Nat × Nat)
  | .drain _ a f _ _ _ => [(a, drainBytes f.toNat)]
  | _ => []

/-- Some range of one list shares a line with one of the other. -/
def rangesMeet (xs ys : List (Nat × Nat)) : Bool := xs.any (fun p => ys.any (fun q => sameLine p.1 p.2 q.1 q.2))

/-- A stall of the scoreboard (R188): what an instruction would read and write in scratchpad against the matrix queue. -/
def Tile.conflict (x : Tile) (reads writes : List (Nat × Nat)) : Bool :=
  x.mxq.any (fun o => rangesMeet writes o.reads || rangesMeet writes o.writes || rangesMeet reads o.writes)

end Sys2Proof.Machine
end

