-- ==== Sys2Proof/Machine/TileOps.lean ====
section
/-! DEFINITION. What every Viroth instruction goes through: issue, the exceptions of R160 to R163, flags and poison, the write of a tile
register, the waybill port's buffers, and the end of a blocking instruction. -/

namespace Sys2Proof.Machine

/-! ### Exceptions -/

/-- The causes of R160. -/
inductive Cause where
  | illegal | fetch | misalign | range | mode | noBale | postFull | recvSize | sendSize | noRoute | notSink
  deriving DecidableEq, Repr

def Cause.code : Cause → Nat
  | .illegal => 1 | .fetch => 2 | .misalign => 3 | .range => 4 | .mode => 5 | .noBale => 6 | .postFull => 7 | .recvSize => 8
  | .sendSize => 9 | .noRoute => 0xA | .notSink => 0xB

def Cause.status : Cause → Status
  | .mode => .mismatch | .noBale => .badHandle | .postFull => .noResource | .noRoute => .unreachable | .notSink => .denied
  | _ => .bounds

/-- An exception raised: its cause and the offending address or operand. -/
structure Exc where
  cause : Cause
  addr : Nat
  deriving DecidableEq, Repr

/-- The exception recorded of several: the lowest cause code (R162); the first of equals. -/
def firstExc (l : List (Bool × Cause × Nat)) : Option Exc :=
  l.foldl (fun a p =>
    if p.1 then
      match a with
      | some e => if p.2.1.code < e.cause.code then some ⟨p.2.1, p.2.2⟩ else a
      | none => some ⟨p.2.1, p.2.2⟩
    else a) none

/-- A tile takes an exception (R163, R164, R206): the record, the tile in FAULT, and its caravan faulted with CHECK. -/
def State.tileException (s : State) (t : Nat) (e : Exc) : State :=
  let x := s.tile t
  let s1 := s.wr .TILE_EXC t (x.pc.toNat * 2 ^ 16 + e.cause.status.code * 2 ^ 8 + e.cause.code)
  let s2 := s1.setPair .TILE_EXC_ADDR_LO .TILE_EXC_ADDR_HI t (e.addr % 2 ^ 64)
  let s3 := s2.stopTile t .fault
  match s.slotOfTile t with
  | some i => s3.faultSlot i x.station .check
  | none => s3

/-! ### Issue and the end of an instruction -/

/-- A tile that issues (R152): executing, no send or retire under way, not behind a fence. -/
def State.issues (s : State) (t : Nat) : Bool :=
  let x := s.tile t
  (x.st == .run || x.st == .makeweight) && !x.retiring && x.sending.isNone && s.working t && !s.tileFence t

/-- An instruction of a tile has completed, and the next is at `pc` (R150). -/
def State.retireTo (s : State) (t pc : Nat) : State :=
  let x := s.tile t
  (s.setTile t { x with pc := BitVec.ofNat 16 pc, stalled := false }).tileEvent t 0x01 1

/-- An instruction has completed, and the next follows. -/
def State.retire (s : State) (t : Nat) : State := s.retireTo t ((s.tile t).pc.toNat + 8)

/-- The causes of a fall-through: past 0xFFF8 there is no instruction (R160). -/
def fallThrough (x : Tile) : Bool × Cause × Nat := (decide (0xFFF8 ≤ x.pc.toNat), .fetch, 0x10000)

/-- An instruction arrives at its tile (R161, R188): nothing happens while the tile does not issue; an exception has no other effect; a
stall leaves all as it is but for its count; otherwise the instruction has its effect. -/
def State.issue (s : State) (t cls opc : Nat) (o : VOp) (legal : Bool) (causes : List (Bool × Cause × Nat)) (stall : Bool)
    (body : State → State) : Host.Outcome State Fault Refusal :=
  if !s.issues t then .next s
  else
    match firstExc ((!legal, .illegal, vWord cls opc o) :: causes) with
    | some e =>
      let s1 := s.outriderIssue t cls opc
      let s2 := if (s1.outGen t).tagged = (s.outGen t).tagged then s1 else s1.outriderFlag t 0
      .next (s2.tileException t e)
    | none =>
      if stall then
        let x := s.tile t
        .next (if x.stalled then s else (s.setTile t { x with stalled := true }).tileEvent t 0x07 1)
      else .next (body (s.outriderIssue t cls opc))

/-- An instruction whose next is the one that follows it. -/
def State.issueSeq (s : State) (t cls opc : Nat) (o : VOp) (legal : Bool) (causes : List (Bool × Cause × Nat)) (stall : Bool)
    (body : State → State) : Host.Outcome State Fault Refusal :=
  s.issue t cls opc o legal (fallThrough (s.tile t) :: causes) stall body

/-- Sticky flags set (R226). -/
def State.setFlags (s : State) (t fl : Nat) : State := s.wr .TILE_FLAGS t (Nat.lor (s.rr .TILE_FLAGS t) fl)

/-- Poisoned data that reached a register without a poison bit (R165): TILE_FLAGS.POIS, and FLAGS.POISON of a VALID waybill register. -/
def State.poisonSeen (s : State) (t : Nat) (p : Bool) : State :=
  if p then
    let s1 := s.setFlags t flagPOIS
    let x := s1.tile t
    if x.valid then s1.setTile t { x with wb := x.wb.withFlags 8 } else s1
  else s

/-- A register g written, and the instruction done. -/
def State.finishG (s : State) (t : Nat) (a : BitVec 5) (v : Nat) : State := (s.setTile t ((s.tile t).setG a v)).retire t

/-- The tile blocks in an instruction (R152). -/
def State.block (s : State) (t : Nat) (w : TileWait) : State :=
  let x := s.tile t
  s.setTile t { x with st := .wait, waiting := some w, stalled := false }

/-! ### Tile registers written -/

/-- TILE_TIMER set: a time already past sets the event at once. -/
def State.setTimer (s : State) (t v : Nat) : State :=
  let s1 := s.setPair .TILE_TIMER_LO .TILE_TIMER_HI t v
  if v ≠ 0 ∧ v ≤ s.now then s1.latch t 4 else s1

/-- TILE_NOTE written: every write sets NOTE (R200). -/
def State.setNote (s : State) (t v : Nat) : State := (s.wr .TILE_NOTE t v).latch t 5

/-- TILE_SEED_HI written by a requester: the pair takes effect and the generator is loaded (R223). -/
def State.seedHi (s : State) (rq : Requester) (t v : Nat) : State :=
  let s1 := s.writeHigh rq true .TILE_SEED_LO .TILE_SEED_HI t v
  let x := s1.tile t
  s1.setTile t { x with gen := BitVec.ofNat 64 (s1.pair .TILE_SEED_LO .TILE_SEED_HI t) }

/-- A write of a tile register, by R11, R13 and the table of tile registers. -/
def State.tileRegWrite (s : State) (rq : Requester) (r : Reg) (i v : Nat) : State :=
  match r with
  | .TILE_NOTE => (s.setNote i v).answer .ok 0
  | .TILE_SEED_LO | .TILE_TIMER_LO => s.holdLow rq r i v
  | .TILE_SEED_HI => s.seedHi rq i v
  | .TILE_TIMER_HI =>
    let p := s.pairValue rq .TILE_TIMER_LO i v
    ((s.dropHeld rq (Reg.TILE_TIMER_LO.key i)).setTimer i p).answer .ok 0
  | _ => s.writeWord rq false true r i v

/-! ### The waybill port -/

/-- A poisoned bale's buffer: every line of the buffer is poisoned (R165). -/
def State.poisonLines (s : State) (line : Nat) : Nat → State
  | 0 => s
  | n + 1 => State.poisonLines (s.setPoison line true) (line + 1) n

/-- A bale's payload written into a posted buffer (R197, R165). -/
def State.writeBuffer (s : State) (t : Nat) (p : Posted) (b : Bale) : State :=
  let a := spadAddr t p.addr
  let s1 := s.writeMem a b.payload false 4
  if b.wb.flag 3 then s1.poisonLines (a / 64) (linesOf a p.cap) else s1

/-- The first posted buffer without a bale, by its place. -/
def emptyBuffer (ps : List Posted) : Option Nat := ps.findIdx? (fun p => p.bale.isNone)

/-- Bales of the inbox written into posted buffers in order, as far as they fit (R197); the first argument bounds their number. -/
def State.fillBuffers : Nat → State → Nat → State
  | 0, s, _ => s
  | n + 1, s, t =>
    let x := s.tile t
    match emptyBuffer x.posted, x.inbox with
    | some k, b :: rest =>
      match x.posted[k]? with
      | some p =>
        if b.payload.length ≤ p.cap then
          let s1 := s.writeBuffer t p b
          State.fillBuffers n (s1.setTile t
            { s1.tile t with posted := x.posted.set k { p with bale := some b.wb }, inbox := rest }) t
        else s
      | none => s
    | _, _ => s

/-- `wb.take` of a filled head buffer (R195, R165). -/
def State.takeBale (s : State) (t : Nat) (a : BitVec 5) : State :=
  let x := s.tile t
  match x.posted with
  | p :: rest =>
    match p.bale with
    | some w =>
      let s1 := s.setTile t { (x.setG a p.addr) with wb := w, valid := true, posted := rest }
      ((s1.fillBuffers 4 t).tileEvent t 0x08 1).retire t
    | none => s
  | [] => s

/-! ### Completions that a tile brings about -/

/-- The retire of the bale in the waybill register (R199, R274, R275): at a sink, END completes a sequence that is in flight. -/
def State.doRetire (s : State) (t : Nat) : State :=
  let x := s.tile t
  match s.slotOfTile t with
  | none => s.retireDone t
  | some i =>
    if x.wb.flag 0 && (s.slot i).inflight.contains x.wb.seq.toNat then
      (s.setTile t { x with retiring := true }).complete i
        { seq := x.wb.seq.toNat, status := if x.wb.flag 3 then .poison else .ok, flags := x.wb.flags
          length := x.wb.length, sink := some t }
    else s.retireDone t

/-- Some movement of a tile is under way. -/
def Tile.moving (x : Tile) : Bool := x.tags.any (fun p => p.2.isBusy)

/-- What releases a blocked tile (R152), and what its instruction then does. -/
def State.release (s : State) (t : Nat) : State :=
  let x := s.tile t
  match x.waiting with
  | none => s
  | some w =>
    let run : Tile := { x with st := .run, waiting := none }
    match w with
    | .event a m =>
      let e := Nat.land x.events m.toNat
      if e = 0 then s else (s.setTile t run).finishG t a e
    | .take a =>
      if x.headFilled then (s.setTile t run).takeBale t a
      else if x.oversize then (s.setTile t run).tileException t ⟨.recvSize, x.headAddr⟩
      else s
    | .matrix a => if x.accIdle a then (s.setTile t run).retire t else s
    | .move a k =>
      match x.tag k.toNat with
      | .busy _ => s
      | .free => (s.setTile t run).finishG t a Status.ok.code
      | .done st => (s.setTile t (run.setTag k.toNat .free)).finishG t a st.code
    | .fence => if x.mxq.isEmpty && !x.moving && x.sending.isNone then (s.setTile t run).retire t else s

/-! ### Start of a station (R151, R273) -/

/-- All state of R150 but scratchpad and instruction memory set to zero, the generator loaded, the tile in RUN at PC 0. -/
def State.startTile (s : State) (t : Nat) : State :=
  let x := s.tile t
  let y : Tile := { st := .run, handle := x.handle, station := x.station, sink := x.sink
                    gen := BitVec.ofNat 64 (s.pair .TILE_SEED_LO .TILE_SEED_HI t) }
  ((((s.setTile t y).wr .TILE_EXC t 0).wr .TILE_FLAGS t 0).wr .TILE_NOTE t 0).setPair .TILE_TIMER_LO .TILE_TIMER_HI t 0

end Sys2Proof.Machine
end

