-- ==== Sys2Proof/Machine/FrtOps.lean ====
section
/-! DEFINITION. The fabric router (spec/11): frames, topology, minimal routing, slices, multicast, delivery, notices, and the ports' replay
buffers that frames leave through. -/

namespace Sys2Proof.Machine

/-! ### Frames (R419) -/

/-- A flag of a frame: 0 MCAST, 1 PHASE2, 2 DEMOTED, 3 POISON, 4 NOTICE, 5 RESENT. -/
def Frame.flag (f : Frame) (b : Nat) : Bool := f.flags.getLsbD b

/-- A flag set. -/
def Frame.set (f : Frame) (b : Nat) : Frame := { f with flags := f.flags ||| BitVec.ofNat 8 (2 ^ b) }

/-- Header bytes 0 to 59. -/
def Frame.head (f : Frame) (hops detours : Nat) : List Byte :=
  beBytes 2 0x4652 ++ [1#8, BitVec.ofNat 8 f.cls, f.flags, BitVec.ofNat 8 hops, BitVec.ofNat 8 detours, BitVec.ofNat 8 f.status] ++
    beBytes 4 f.src ++ beBytes 4 f.dst ++ beBytes 4 f.mid ++ beBytes 4 f.mask ++ beBytes 4 f.slice ++
    [BitVec.ofNat 8 f.sq, BitVec.ofNat 8 f.rq] ++ beBytes 2 f.len ++ beBytes 4 f.seq ++ beBytes 8 f.tag ++ beBytes 8 f.sent ++
    beBytes 4 0 ++ beBytes 4 f.pcrc

/-- The 64-byte header; HCRC reads HOPS and DETOURS as zero. -/
def Frame.header (f : Frame) : List Byte := f.head f.hops f.detours ++ beBytes 4 (crc32c (f.head 0 0))

/-- The frame on the wire. -/
def Frame.bytes (f : Frame) : List Byte := f.header ++ f.payload

/-- Whether a received header stands (R420): MAGIC, VERSION and HCRC. -/
def frameOk (bs : List Byte) : Bool :=
  decide (64 ≤ bs.length) && beAt bs 0 2 == 0x4652 && beAt bs 2 1 == 1 &&
    beAt bs 60 4 == crc32c (slice bs 0 5 ++ [0#8, 0#8] ++ slice bs 7 53)

/-- A received frame's fields. -/
def frameOf (bs : List Byte) : Frame :=
  { cls := beAt bs 3 1 % 4, flags := BitVec.ofNat 8 (beAt bs 4 1), hops := beAt bs 5 1, detours := beAt bs 6 1
    status := beAt bs 7 1, src := beAt bs 8 4 % 2 ^ 18, dst := beAt bs 12 4 % 2 ^ 18, mid := beAt bs 16 4 % 2 ^ 18
    mask := beAt bs 20 4 % 2 ^ 18, slice := beAt bs 24 4 % 2 ^ 18, sq := beAt bs 28 1, rq := beAt bs 29 1
    len := beAt bs 30 2, seq := beAt bs 32 4, tag := beAt bs 36 8, sent := beAt bs 44 8, pcrc := beAt bs 56 4
    payload := slice bs 64 (beAt bs 30 2) }

/-- PCRC fails (R421). -/
def Frame.payloadBad (f : Frame) : Bool :=
  f.payload.length != f.len || (f.len != 0 && f.pcrc != crc32c f.payload)

/-- What a frame routes to now (R441, R444): its random intermediate until PHASE2, else its destination. -/
def Frame.target (f : Frame) : Nat := if 2 ≤ f.cls && !f.flag 0 && !f.flag 1 then f.mid else f.dst

/-! ### Topology (R409, R437, R440) -/

/-- The crossed table's mask of dimension `d`. -/
def crossedMask (d : Nat) : Nat := (List.range 9).foldl (fun a i => if 2 * i + 1 < d then a + 2 ^ (2 * i) else a) 0

/-- TOPO of 18 twist masks: 0 PLAIN, 1 CROSSED, 2 OTHER. -/
def topoOf (es : List Nat) : Nat :=
  if es.all (· == 0) then 0
  else if es == (List.range 18).map crossedMask then 1 else 2

/-- The topology derived anew at a write of a twist mask. -/
def State.deriveTopo (s : State) : State :=
  s.sf F.FRT_STAT_TOPO 0 (topoOf ((List.range 18).map (fun d => s.f F.FPT_TWIST_E d)))

/-- The neighbour of `x` across dimension `d` under twist mask `e` (R409). -/
def neighbourOf (e x d : Nat) : Nat := Nat.xor (Nat.xor x (2 ^ d)) (Nat.land x e * 2 % 2 ^ 18)

def State.neighbour (s : State) (x d : Nat) : Nat := neighbourOf (s.f F.FPT_TWIST_E d) x d

/-- Minimal hops (R437). -/
def dist (crossed : Bool) (x z : Nat) : Nat :=
  (List.range 9).reverse.foldl (fun h i =>
    let w := Nat.xor x z
    let a := w / 2 ^ (2 * i + 1) % 2
    let e := w / 2 ^ (2 * i) % 2
    let b := x / 2 ^ (2 * i) % 2
    let c :=
      if !crossed then a + e
      else if e = 1 then (if 0 < h then 1 else 1 + a)
      else if b = 1 then Nat.xor a (h % 2)
      else a
    h + c) 0

/-- The members of a slice agree outside its mask. -/
def sameSlice (mask x y : Nat) : Bool := Nat.land (Nat.xor x y) (2 ^ 18 - 1 - mask % 2 ^ 18) == 0

/-- A closed slice (R440). -/
def closedSlice (topo mask base : Nat) : Bool :=
  topo == 0 || (List.range 18).all fun d => !bit mask d || (List.range 9).all fun i =>
    !decide (2 * i + 1 < d) || !(bit mask (2 * i) || bit base (2 * i)) || bit mask (2 * i + 1)

/-- The package's own coordinate. -/
def State.own (s : State) : Nat := s.f F.FPT_COORD_COORD

/-! ### Ports -/

/-- The port that carries a dimension, if one is UP for it. -/
def State.carrier (s : State) (d : Nat) : Option Nat :=
  let p := s.f F.FPT_DIM_CARRY d
  if p < 20 && s.f F.FPT_STAT_STATE p = 5 then some p else none

/-- The dimensions that a frame of a slice may cross now (R438, R450). -/
def State.openDims (s : State) (sl : Nat) : List Nat :=
  (List.range 18).filter fun d =>
    match s.carrier d with
    | some p => !bit (s.rr .FRT_AVOID) p && bit sl d
    | none => false

/-- The congestion byte of a port as FRT_CMAP shows it (R448): a port that is not UP reads level 3. -/
def State.cmapByte (s : State) (p : Nat) : Nat :=
  if s.f F.FPT_STAT_STATE p = 5 then bits (s.rr .FRT_CMAP (p / 4)) (8 * (p % 4) + 7) (8 * (p % 4)) else 0xFF

/-- A port's congestion level for a class. -/
def State.level (s : State) (p cls : Nat) : Nat := bits (s.cmapByte p) (7 - 2 * cls) (6 - 2 * cls)

/-- The bytes in a port's replay buffer. -/
def Port.held (p : Port) : Nat := p.replay.foldl (fun a f => a + f.2.length) 0

/-- A frame sent on a port: it gets its link sequence number and stays in the replay buffer (R389); counted and sent. -/
def State.transmit (s : State) (p : Nat) (bs : List Byte) : State :=
  let x := s.port p
  (((s.setPort p { x with replay := x.replay ++ [(x.txSeq, bs)], txSeq := x.txSeq + 1 }).blockEvent 0x10 p 1).bwBytes (2 * p)
    bs.length).send (.fabric p bs)

/-- A frame handed to a port (R392, R416): a full replay buffer, or a port that drains, holds it back at the router. -/
def State.toPort (s : State) (p : Nat) (bs : List Byte) : State :=
  let x := s.port p
  if x.draining || !x.heldBack.isEmpty || decide (2 ^ 20 < x.held + bs.length) then
    s.setPort p { x with heldBack := x.heldBack ++ [bs] }
  else s.transmit p bs

/-- Frames held back that find room now; the first argument bounds their number. -/
def State.unblock (s : State) (p : Nat) : Nat → State
  | 0 => s
  | n + 1 =>
    let x := s.port p
    match x.heldBack with
    | [] => s
    | bs :: rest =>
      if x.draining || decide (2 ^ 20 < x.held + bs.length) then s
      else State.unblock ((s.setPort p { x with heldBack := rest }).transmit p bs) p n

/-! ### One hop (R422, R435, R438, R439) -/

/-- The dimension of an escape hop: the highest in which the present coordinate differs from the target. -/
def escapeDim (x target : Nat) : Option Nat := (List.range 18).reverse.find? (fun d => bit (Nat.xor x target) d)

/-- The dimension across which a frame leaves with no detour. `escape` says that no adaptive channel toward a minimal next hop has
credit and the escape channel has (R435). -/
def State.minimalDim (s : State) (f : Frame) (escape : Bool) : Option Nat :=
  let x := s.own
  let dims := s.openDims f.slice
  let esc := (escapeDim x f.target).filter (fun d => dims.contains d)
  let topo := s.f F.FRT_STAT_TOPO
  if topo = 2 || (escape && esc.isSome) then esc
  else
    let cands := dims.filter fun d => dist (topo == 1) (s.neighbour x d) f.target + 1 == dist (topo == 1) x f.target
    cands.foldl (fun a d =>
      match a with
      | none => some d
      | some b => if s.level (s.f F.FPT_DIM_CARRY d) f.cls < s.level (s.f F.FPT_DIM_CARRY b) f.cls then some d else a) none

/-- A frame leaves toward its target, or the status of its failure: BOUNDS by HOPS, UNREACHABLE by routing. `inc` is 0 for a frame handed
back, whose HOPS stand (R447). -/
def State.forward (s : State) (f : Frame) (inc : Nat) (escape : Bool) : State × Option Status :=
  let g := { f with hops := f.hops + inc }
  if 48 < g.hops then (s, some .bounds)
  else
    match s.minimalDim f escape with
    | some d => (s.toPort (s.f F.FPT_DIM_CARRY d) g.bytes, none)
    | none =>
      if s.f F.FRT_CFG_MAXDET ≤ f.detours then (s, some .unreachable)
      else
        match (s.openDims f.slice).head? with
        | some d => ((s.bump .FRT_DETOUR).toPort (s.f F.FPT_DIM_CARRY d) { g with detours := f.detours + 1 }.bytes, none)
        | none => (s, some .unreachable)

/-! ### Delivery (R429 to R431) -/

/-- Bytes that go straight to memory or a depot, unless they lie behind a fence. -/
def State.routerWrite (s : State) (a : Nat) (bs : List Byte) : State :=
  if s.placeFenced (placeOf a) then s else s.writeMem a bs false 4

/-- CAP of a receive queue. -/
def capOf (n : Nat) : Nat := if n = 0 then 256 else if n = 1 then 1024 else 4096

/-- A tile noted from outside (R202, R430, R462): a fenced tile takes no note. -/
def State.noteTile (s : State) (t v : Nat) : State := if t < 768 && !s.tileFenced t then s.setNote t v else s

/-- A frame into its receive queue, or the status of its failure. -/
def State.deliverRq (s : State) (f : Frame) : State × Option Status :=
  let q := f.rq
  if 64 ≤ q then (s, some .badHandle)
  else
    let ring := s.pair .RQ_RING_LO .RQ_RING_HI q
    let cap := capOf (s.f F.RQ_CTL_SLOT q)
    let size := 2 ^ s.f F.RQ_CTL_ORDER q
    let n := s.rr .RQ_COUNT q
    let r := s.readMem (s.pair .RQ_CONSA_LO .RQ_CONSA_HI q) 4 4
    let st := firstStatus
      [(!s.fb F.RQ_CTL_EN q, .badHandle), (s.placeFenced (placeOf ring), .fenced), (decide (cap < f.len), .bounds),
       ((n + 2 ^ 32 - leNat r.2.1) % 2 ^ 32 == size, .noResource)]
    match st with
    | .ok =>
      let s1 := r.1.writeMem (ring + n % size * (64 + cap)) (f.header ++ f.payload) false 4
      let n' := (n + 1) % 2 ^ 32
      let s2 := (s1.wr .RQ_COUNT q n').routerWrite (s.pair .RQ_COUNTA_LO .RQ_COUNTA_HI q) (leBytes 4 n')
      ((s2.sf F.RQ_CTL_PEND q 1).noteTile (s.f F.RQ_NOTE_TILE q) n', none)
    | st => ((if s.fb F.RQ_CTL_EN q then r.1 else s).bump .RQ_DROP q, some st)

/-- A frame at its destination (R421, R429, R466): to MST when SQ is 0xFE, else to its receive queue; a notice goes to the queue that this
package names for notices (R432). -/
def State.arrive (s : State) (f : Frame) : State × Option Status :=
  let bad := f.payloadBad
  let s1 := if bad then s.bump .FRT_PCRC else s
  let g := if bad then f.set 3 else f
  if g.sq = 0xFE then ({ s1 with mst := { s1.mst with inbox := s1.mst.inbox ++ [g] } }, none)
  else s1.deliverRq (if g.flag 4 then { g with rq := s.f F.FRT_NOTICE_RQ } else g)

/-! ### Notices (R432) -/

/-- The notice for a failed frame. -/
def State.noticeFor (s : State) (f : Frame) (st : Status) (mask : Nat) : Frame :=
  { cls := 0, flags := 0x10#8, status := st.code, src := s.own, dst := f.src, mid := f.dst, mask := mask, slice := 0x3FFFF
    sq := f.sq, rq := s.f F.FRT_NOTICE_RQ, seq := f.seq, tag := f.tag, sent := s.now }

/-- A failure counted by its kind (R422, R439). -/
def State.countLoss (s : State) (st : Status) : State :=
  match st with
  | .bounds => s.bump .FRT_HOPDROP
  | _ => s.bump .FRT_UNREACH

/-- A failed frame reported to its source; a failed notice is not. -/
def State.notify (s : State) (f : Frame) (st : Status) (mask : Nat) : State :=
  if f.flag 4 then s
  else
    let n := s.noticeFor f st mask
    let s1 := s.bump .FRT_NOTICES
    if n.dst = s.own then (s1.arrive n).1
    else
      match s1.forward n 1 false with
      | (s2, none) => s2
      | (s2, some e) => s2.countLoss e

/-! ### A frame at this router -/

/-- A frame delivered, or its failure reported. -/
def State.deliver (s : State) (f : Frame) : State :=
  match s.arrive f with
  | (s1, none) => s1
  | (s1, some st) => s1.notify f st f.mask

/-- The copies of a multicast frame that leave its holder, dimension by dimension from the highest down (R444, R445). A copy carries the
member it crosses to as DST (log 30). -/
def State.replicate (s : State) (f : Frame) : State :=
  ((List.range 18).reverse.filter (fun d => bit f.mask d)).foldl (fun a d =>
    let y := a.neighbour a.own d
    let c := { f with dst := y, mid := y, mask := f.mask % 2 ^ d }
    match a.forward c 1 false with
    | (a1, none) => a1
    | (a1, some .unreachable) => (a1.bump .FRT_MCLOST).notify c .unreachable (c.mask + 2 ^ d)
    | (a1, some st) => (a1.countLoss st).notify c st c.mask) s

/-- A frame that is here: delivered, replicated or sent on (R428, R438, R441, R444). -/
def State.route (s : State) (f : Frame) (inc : Nat) (escape : Bool) : State :=
  let g := if 2 ≤ f.cls && !f.flag 0 && !f.flag 1 && f.mid == s.own then f.set 1 else f
  if g.target = s.own then
    let s1 := s.deliver g
    if g.flag 0 then s1.replicate g else s1
  else
    match s.forward g inc escape with
    | (s1, none) => s1
    | (s1, some st) => (s1.countLoss st).notify g st g.mask

/-- A frame injected here: the random intermediate of a C2 or C3 unicast frame (R441), none for a frame to the package itself (R428). -/
def State.inject (s : State) (f : Frame) (rnd : Nat) (escape : Bool) : State :=
  let src := s.own
  let g := { f with src := src, mid := f.dst, sent := s.now, pcrc := if f.len = 0 then 0 else crc32c f.payload }
  let g := if g.mask ≠ 0 then g.set 0 else g
  if g.dst = src && !g.flag 0 then s.deliver g
  else if 2 ≤ g.cls && !g.flag 0 then
    let m := Nat.lor (Nat.land src (2 ^ 18 - 1 - g.slice % 2 ^ 18)) (Nat.land rnd g.slice)
    let h := { g with mid := m }
    s.route (if m = src || m = g.dst then h.set 1 else h) 1 escape
  else s.route g 1 escape

/-- A frame that a port hands back (R447). -/
def State.handBackFrame (s : State) (bs : List Byte) : State := (s.bump .FRT_HANDBACK).route ((frameOf bs).set 5) 0 false

/-- The frames that a port no longer UP holds, handed back in order, then those held back for it, which were never sent (R393, R447). -/
def State.handBack (s : State) (p : Nat) : State :=
  let x := s.port p
  let s1 := s.setPort p { x with replay := [], heldBack := [], resends := 0, asking := false }
  let s2 := x.replay.foldl (fun a f => a.handBackFrame f.2) s1
  x.heldBack.foldl (fun a bs => a.route (frameOf bs) 0 false) s2

/-- FRT_DRAIN.DONE of a port (R451). -/
def State.drained (s : State) (p : Nat) : Bool :=
  bit (s.rr .FRT_AVOID) p &&
    (s.f F.FPT_STAT_STATE p != 5 || ((s.port p).replay.isEmpty && (s.port p).heldBack.isEmpty))

/-! ### Queue addresses and ranges -/

/-- `n` bytes from `a` lie in memory, or in one depot (R23, R424). -/
def inStore (a n : Nat) : Bool :=
  inMem a n || (decide (0x10040000000 ≤ a) && decide (a < 0x10048000000) && decide (a % 0x400000 + n ≤ 0x400000))

end Sys2Proof.Machine
end

