-- ==== Sys2Proof/Machine/CoreMemory.lean ====
section
/-! DEFINITION. Memory from outside the tiles: accesses by the application cores and the steward (R287, R289, R294 to R298), the patrol
scrubber (R288), a channel that stops answering (R289), and the bands and the self-refresh of the stacks (R290 to R293). -/

namespace Sys2Proof.Machine

/-- An error that a line has taken and no read has found yet. -/
def State.flipLine (s : State) (line : Nat) (flip : Option Ecc) : State :=
  match flip with
  | none => s
  | some e => { s with mem := { s.mem with latent := SMap.put s.mem.latent line e } }

/-- The access-fault exception of a core; the other requesters take none (R38, R287, R289, R294). -/
def State.accessFault (s : State) (rq : Requester) (store : Bool) (addr : Nat) : State :=
  match rq with
  | .core c => s.coreException c (if store then excStoreAccess else excLoadAccess) addr
  | _ => s

/-- A core that cannot make an access: it is held, or it waits. -/
def State.accessIdle (s : State) (rq : Requester) : Bool :=
  match rq with
  | .core c => !(s.core c).issues
  | _ => false

/-- An access of 1, 2, 4 or 8 bytes, naturally aligned (R294). -/
def natural (addr size : Nat) : Bool := (size == 1 || size == 2 || size == 4 || size == 8) && addr % size == 0

/-- Why an access to a tile window or a depot is refused (R29, R38, R39, R157). -/
def State.windowStatus (s : State) (addr : Nat) (store : Bool) : Status :=
  let p := placeOf addr
  if p = .unmapped then .bounds
  else if s.placeFenced p then .fenced
  else
    match p with
    | .imem t _ =>
      let st := (s.tile t).st
      if store && (st == .run || st == .wait || st == .makeweight) then .busy else .ok
    | _ => .ok

/-- A core event counted, when a core is the requester (R652): 9 an access to a window or depot, 10 an access refused. -/
def State.countCore (s : State) (rq : Requester) (ev : Nat) : State :=
  match rq with
  | .core c => s.setCore c ((s.core c).event ev)
  | _ => s

/-- An access to a tile window or a depot (R156, R157, R294, R298). -/
def execCoreWindowAccess (rq : Requester) (addr size : Nat) (write : Option (BitVec 64)) (flip : Option Ecc) (s : State) :
    Host.Outcome State Fault Refusal :=
  let store := write.isSome
  if s.accessIdle rq then .next s
  else
    match placeOf addr with
    | .dram | .treg _ _ | .block _ => .next s
    | _ =>
      let s := s.countCore rq 9
      if !natural addr size then .next (((s.countCore rq 10).accessFault rq store addr).answer .bounds 0)
      else
        match s.windowStatus addr store with
        | .ok =>
          let s0 := s.flipLine (addr / 64) flip
          let src := match rq with | .tile _ => 1 | .core _ => 0 | .steward _ => 4
          match write with
          | some v => .next ((s0.writeMem addr (leBytes size v.toNat) false src).answer .ok 0)
          | none =>
            let r := s0.readMem addr size src
            if r.2.2 then .next ((r.1.accessFault rq false addr).answer .poison 0)
            else .next (r.1.answer .ok (leNat r.2.1))
        | .busy => .next (s.answer .busy 0)
        | st => .next (((s.countCore rq 10).accessFault rq store addr).answer st 0)

/-! ### Memory as a core sees it (R287, R289) -/

/-- An instruction access fault; loads and stores as above. -/
def State.memFault (s : State) (c : Nat) (k : MemAccess) (addr : Nat) : State :=
  s.coreException c (match k with | .fetch => 1 | .load => excLoadAccess | .store _ => excStoreAccess) addr

/-- A load, store or fetch of a core (R287, R289, R495). `hit` says that the core's caches hold the line: then it is not read from its
channel, its poison mark stands, and a store to a failed channel is lost without a signal. -/
def execCoreMemoryAccess (c : Fin 32) (k : MemAccess) (addr size : Nat) (hit : Bool) (flip : Option Ecc) (s : State) :
    Host.Outcome State Fault Refusal :=
  if !(s.core c).issues then .next s
  else
    match placeOf addr with
    | .dram =>
      if !inMem addr size then .next ((s.memFault c k addr).answer .bounds 0)
      else
        let s0 := s.flipLine (addr / 64) flip
        match k with
        | .store v =>
          if hit then .next ((s0.storeBytes addr (leBytes size v.toNat)).answer .ok 0)
          else if s0.touchesFailed addr (linesOf addr size) then .next ((s0.memFault c k addr).answer .poison 0)
          else .next ((s0.writeMem addr (leBytes size v.toNat) false 0).answer .ok 0)
        | _ =>
          let r := if hit then
              (s0, s0.bytes addr size, (List.range (linesOf addr size)).any fun n => s0.poisoned (addr / 64 + n))
            else s0.readMem addr size 0
          if r.2.2 then .next ((r.1.memFault c k addr).answer .poison 0) else .next (r.1.answer .ok (leNat r.2.1))
    | .unmapped => .next ((s.memFault c k addr).answer .bounds 0)
    | _ => .next s

/-! ### The scrubber, failed channels, bands -/

/-- The number of 64-byte lines of memory. -/
def memLines : Nat := 2 ^ 33

/-- The scrubber reads a line (R287, R288); after every line has been read once the pass counts. -/
def execPatrolScrubLine (line : Fin 8589934592) (flip : Option Ecc) (s : State) : Host.Outcome State Fault Refusal :=
  if !s.fb F.MEM_SCRUB_EN then .next s
  else
    let s0 := s.flipLine line flip
    let s1 := if s0.poisoned line then s0 else (s0.checkLine line 3).1
    let seen := SMap.set (fun _ => false) s1.mem.scrubbed line true
    let whole := decide (memLines ≤ seen.length)
    let s2 := { s1 with mem := { s1.mem with scrubbed := if whole then [] else seen } }
    .next (if whole then s2.bump .MEM_SCRUB_PASS else s2)

/-- A channel stops answering (R289). -/
def execChannelFail (q : Fin 768) (s : State) : Host.Outcome State Fault Refusal :=
  if s.channelFailed q then .next s else .next ((s.sf F.MEM_CH_STAT_STATE q 2).raise 6 q .degraded)

/-- The lower edge of a band, as THM_STK.TEMP gives temperatures: 1/16 °C. -/
def bandEdge : Nat → Int
  | 0 => -1000000
  | 1 => 85 * 16
  | 2 => 95 * 16
  | _ => 105 * 16

/-- The band that follows band `b` at a temperature (R290): up at the lower edge of a higher band, down only 3 K below its own. -/
def nextBand (b : Nat) (t : Int) : Nat :=
  (List.range 4).foldl (fun a k => if b < k then (if bandEdge k ≤ t then k else a)
    else if bandEdge k - 3 * 16 ≤ t then k else a) 0

/-- A stack's band is set (R290, R291, R292). -/
def execStackBandUpdate (k : Fin 8) (s : State) : Host.Outcome State Fault Refusal :=
  .next (s.sf F.MEM_STK_BAND k (nextBand (s.f F.MEM_STK_BAND k) (toSigned 16 (s.f F.THM_STK_TEMP k))))

/-- The channels of stack `k` that are in state `a` go to state `b`. -/
def State.stackChannels (s : State) (k a b : Nat) : State :=
  (List.range 96).foldl (fun x c =>
    if x.f F.MEM_CH_STAT_STATE (96 * k + c) = a then x.sf F.MEM_CH_STAT_STATE (96 * k + c) b else x) s

/-- Every stack into self-refresh, for the floor state (R293). -/
def State.selfRefresh (s : State) : State :=
  (List.range 8).foldl (fun a k => (a.sf F.MEM_STK_SELFREF k 1).stackChannels k 0 1) s

/-- An access wakes a stack (R293). -/
def State.wakeStack (s : State) (k : Nat) : State := (s.sf F.MEM_STK_SELFREF k 0).stackChannels k 1 0

def execStackSelfrefWake (k : Fin 8) (s : State) : Host.Outcome State Fault Refusal :=
  .next (if s.fb F.MEM_STK_SELFREF k then s.wakeStack k else s)

end Sys2Proof.Machine
end

