-- ==== Sys2Proof/Machine/JournalOps.lean ====
section
/-! DEFINITION. The audit journal (R676, R677): hash-chained entries, the oldest block erased when the journal is full. -/

namespace Sys2Proof.Machine

/-- The role code of a journal entry (R676). -/
def roleCode : Option Role → Nat
  | none => 0
  | some .maker => 1
  | some .installer => 2
  | some .operator => 3

/-- What a journal entry is written about (R676). -/
structure Entry where
  event : Nat
  role : Option Role := none
  status : Status := .ok
  actor : List Byte := []
  object : Nat := 0
  old : Nat := 0
  new : Nat := 0
  detail : List Byte := []
  deriving DecidableEq, Repr

/-- Bytes brought to a length: cut or filled with zeros. -/
def fitBytes (n : Nat) (bs : List Byte) : List Byte := (bs ++ List.replicate n 0#8).take n

/-- Bytes 0 to 95 of an entry, in network byte order. -/
def Entry.body (e : Entry) (index ptime : Nat) : List Byte :=
  beBytes 8 index ++ beBytes 8 ptime ++ beBytes 2 e.event ++
    [BitVec.ofNat 8 (roleCode e.role), BitVec.ofNat 8 e.status.code] ++ fitBytes 16 e.actor ++ beBytes 4 e.object ++
    beBytes 8 e.old ++ beBytes 8 e.new ++ fitBytes 40 e.detail

/-- A chain value put into eight registers, most significant byte first. -/
def State.putHash (s : State) (r : Reg) (h : List Byte) : State :=
  (List.range 8).foldl (fun a w => a.wr r w (beAt h (4 * w) 4)) s

/-- The most entries the journal holds, and the entries of a block (R677). -/
def journalMax : Nat := 98304
def journalBlock : Nat := 512

/-- The oldest block erased when a new entry needs one and none is free (R677). -/
def State.journalRoom (s : State) : State :=
  let es := s.journal.entries
  if es.length < journalMax then s
  else
    let keep := es.take (es.length - journalBlock)
    let last := (es.drop (es.length - journalBlock)).head?.getD []
    let s1 := { s with journal := { s.journal with entries := keep } }
    let t := s1.pair .JNL_TAIL_LO .JNL_TAIL_HI + journalBlock
    ((s1.setPair .JNL_TAIL_LO .JNL_TAIL_HI 0 t).bump .JNL_LOST 0 journalBlock).putHash .JNL_TAILHASH (slice last 96 32)

/-- An entry written (R676). -/
def State.log (s : State) (e : Entry) : State :=
  let s1 := s.journalRoom
  let n := s1.pair .JNL_HEAD_LO .JNL_HEAD_HI
  let b := e.body n s1.now
  let c := sm3 (s1.journal.chain ++ b)
  let s2 := { s1 with journal := { entries := (b ++ c) :: s1.journal.entries, chain := c } }
  (s2.setPair .JNL_HEAD_LO .JNL_HEAD_HI 0 (n + 1)).putHash .JNL_HASH c

/-- The steward firmware runs: step 2 of a start is complete (R557, R575). -/
def State.firmwareUp (s : State) : Bool := s.boot.vaux && decide (2 ≤ s.f F.IDT_BOOT_STEP)

/-- An entry written when the steward firmware runs to write it. -/
def State.audit (s : State) (e : Entry) : State := if s.firmwareUp then s.log e else s

/-! ### The maintenance lock and the end of an activation (R682, R686, R691, R692) -/

/-- An image whose payload is still arriving is discarded. -/
def Sec.discardPartial (x : Sec) : Sec :=
  match x.receiving with
  | some k => { x with receiving := none, staging := SMap.del x.staging k }
  | none => x

/-- The first activity takes the lock for its session. -/
def State.takeLock (s : State) (x : Session) : State :=
  if s.f F.SEC_STAT_LOCK = 0xFF then
    (s.sf F.SEC_STAT_LOCK 0 x.ix).audit { event := 0x0030, role := some x.role, actor := x.actor }
  else s

/-- The lock released, by its cause: 1 the end of ACTIVATE, 2 ABORT, 3 its session closed. -/
def State.releaseLock (s : State) (role : Role) (actor : List Byte) (cause : Nat) : State :=
  if s.f F.SEC_STAT_LOCK = 0xFF then s
  else
    let s1 := { s with sec := s.sec.discardPartial }
    (s1.sf F.SEC_STAT_LOCK 0 0xFF).audit
      { event := 0x0031, role := some role, actor := actor, detail := Config.journalCause 0x0031 cause }

/-- An activation ends with a status: SEC_STAT.ACT, the journal, and the lock. -/
def State.endActivation (s : State) (a : Activation) (st : Status) : State :=
  let s1 := { s with sec := { s.sec with activation := none, restartDue := false } }
  ((s1.sf F.SEC_STAT_ACT 0 st.code).audit
    { event := if st = .ok then 0x0021 else 0x0022, role := some a.role, status := st, actor := a.actor
      detail := beBytes 1 a.all ++ beBytes 1 st.code }).releaseLock a.role a.actor 1

end Sys2Proof.Machine
end

