-- ==== Sys2Proof/Machine/RegOps.lean ====
section
/-! DEFINITION. What every access to a register goes through (R10 to R18, R37 to R40, R560, R676): whether its requester has a way to it, the
steward's hold before step 4, and the journal's entry about a role-protected write. -/

namespace Sys2Proof.Machine

/-- Whether a requester has a way to a register (R35 to R37): the application cores to the control blocks and tile registers, a tile to the
tile registers, the steward to all. -/
def reaches (rq : Requester) (r : Reg) : Bool :=
  match rq with
  | .steward _ => true
  | .core _ => decide (r.desc.base < 0xF00000) || decide (r.desc.blk = .tile)
  | .tile _ => decide (r.desc.blk = .tile)

/-- An application core and a block whose registers are RO from the cores. -/
def coreReadsOnly (rq : Requester) (b : Block) : Bool :=
  match rq with
  | .core _ => appReadOnly b
  | _ => false

/-- The application address of a register. -/
def appAddr (k : Nat) : Nat := if k < 0xF00000 then 0x1F000000000 + k else k

/-- An access that its requester has no way to (R37, R38). -/
def State.noWay (s : State) (rq : Requester) (store : Bool) (addr : Nat) : State := (s.accessFault rq store addr).answer .bounds 0

/-- Writes of the tray controller to compute-die blocks before step 4 are held by the steward (R560). -/
def State.early (s : State) (rq : Requester) : Bool :=
  match rq with
  | .steward _ => decide (s.f F.IDT_BOOT_STEP < 4)
  | _ => false

/-- A write held until step 4. -/
def State.holdWrite (s : State) (rq : Requester) (key : Nat) (v : BitVec 32) : State :=
  let role := match rq with
    | .steward r => r
    | _ => none
  ({ s with boot := { s.boot with heldWrites := s.boot.heldWrites ++ [(0x50000000 + key, v, role)] } }).answer .ok 0

/-- The steward address of a register (R37). -/
def stewardAddr (k : Nat) : Nat := if k < 0xF00000 then 0x50000000 + k else k

/-- Who acts for a role: the holder of an open session with it, by the hash of its certificate. -/
def State.actorOf (s : State) (ro : Role) : List Byte := ((s.sec.sessions.find? (fun x => x.role == ro)).map (·.actor)).getD []

/-- Whether a register has a field that a role protects. -/
def protects (r : Reg) (ro : Role) : Bool := r.desc.fields.any (fun f => f.role == some ro)

/-- A write to a role-protected register that was accepted is written to the journal (R676): `a` is the state that it leaves. -/
def State.logged (s : State) (rq : Requester) (r : Reg) (i : Nat) (a : State) : State :=
  match rq with
  | .steward (some ro) =>
    if protects r ro && a.resp.status == .ok then
      a.log { event := 0x0010, role := some ro, actor := s.actorOf ro, object := stewardAddr (r.key i), old := s.rr r i, new := a.rr r i }
    else a
  | _ => a

/-- A write to register `r`, copy `i`, whose effect is `act`. -/
def State.regWrite (s : State) (rq : Requester) (r : Reg) (i v : Nat) (act : State → State) : State :=
  if s.accessIdle rq then s
  else if !reaches rq r then s.noWay rq true (appAddr (r.key i))
  else if s.early rq && decide (r.key i < 0xF00000) then s.holdWrite rq (r.key i) (BitVec.ofNat 32 v)
  else if coreReadsOnly rq r.desc.blk then s.answer .ok 0
  else s.logged rq r i (act s)

/-- The refusal of an access to a tile's registers: a fenced tile, or a tile that names another's (R29, R38, R39). -/
def State.tileAccess (s : State) (rq : Requester) (t : Nat) : Status :=
  match rq with
  | .tile u => if u.val = t then .ok else .bounds
  | _ => if s.tileFenced t then .fenced else .ok

/-- An access to a register of tile `t` at application address `addr`, whose effect is `act`. -/
def State.tileReg (s : State) (rq : Requester) (t addr : Nat) (store : Bool) (act : State → State) : State :=
  if s.accessIdle rq then s
  else
    let s1 := s.countCore rq 9
    match s1.tileAccess rq t with
    | .ok => act s1
    | st => ((s1.countCore rq 10).accessFault rq store addr).answer st 0

/-- A read of register `r`, copy `i`, whose effect is `act`. -/
def State.regRead (s : State) (rq : Requester) (r : Reg) (i : Nat) (act : State → State) : State :=
  if s.accessIdle rq then s
  else if !reaches rq r then s.noWay rq false (appAddr (r.key i))
  else act s

end Sys2Proof.Machine
end

