-- ==== Sys2Proof/Machine/MeterOps.lean ====
section
/-! DEFINITION. The metering channels' shared operations (spec/07) and the forward step of PTIME, which ends their intervals (R308, R309). -/

namespace Sys2Proof.Machine

/-! ### The time base as others see it (R45) -/

/-- TMB_STATUS.SYNC: 0 UNSET, 1 LOCKED, 2 HOLDOVER, 3 FREE. -/
def State.sync (s : State) : Nat :=
  if !s.tmb.refclk then 3
  else if !s.fb F.TMB_STATUS_TOD_SET then 0
  else
    let off := toSigned 32 (s.rr .TMB_OFFSET)
    let recent := match s.tmb.sinceEdge with
      | some e => decide (e < 1500000000)
      | none => false
    if recent && decide (-20 ≤ off) && decide (off ≤ 20) then 1 else 2

def State.locked (s : State) : Bool := s.sync == 1

/-- A step that may change SYNC: a change is kept for the interrupt source of TMB until TMB_STATUS is read (R519). -/
def State.noteSync (s : State) (before : Nat) : State :=
  if s.sync = before then s else { s with tmb := { s.tmb with syncChanged := true } }

/-! ### Channel state (R303 to R306) -/

/-- The index of a channel: 0 MA, 1 MB. -/
def chIx (mb : Bool) : Nat := b2n mb

/-- A channel is FAILED. -/
def State.meterFailed (s : State) (mb : Bool) : Bool := s.f F.MTR_STAT_STATE (chIx mb) == 3

/-- The coolant counts as within its limits (R304). -/
def State.coolantOk (s : State) : Bool :=
  match s.thm.coolant with
  | none => true
  | some c =>
    let inlet := toSigned 32 (s.rr .THM_INLET)
    let flow := s.rr .THM_FLOW
    decide (20000 ≤ inlet) && decide (inlet ≤ 40000) && decide (3000 ≤ flow) && decide (flow ≤ 6000) && c.cflags.toNat % 4 == 0

/-- MTR_STAT.STATE (R305, R306): 0 WARMUP, 1 OK, 2 DEGRADED, 3 FAILED. The stored field tells WARMUP and FAILED from the rest. -/
def State.meterState (s : State) (mb : Bool) : Nat :=
  let i := chIx mb
  match s.f F.MTR_STAT_STATE i with
  | 0 => 0
  | 3 => 3
  | _ =>
    if s.fb F.MTR_STAT_VRANGE i || !s.coolantOk || s.fb F.MTR_STAT_XDIFF i || s.fb F.MTR_STAT_CALDEF i || s.meterFailed (!mb)
    then 2 else 1

/-- The worse of two statuses (R309): CHECK above DEGRADED above OK. -/
def worse (a b : Status) : Status :=
  if a = .check ∨ b = .check then .check else if a = .degraded ∨ b = .degraded then .degraded else .ok

/-- The status a reading carries (R305, R314, R317). -/
def State.readingStatus (s : State) (mb : Bool) (n : Nat) : Status :=
  if s.meterFailed mb then .check
  else if s.meterState mb = 1 ∧ s.locked ∧ n ≠ 0 then .ok
  else .degraded

/-- A reading delivered at the end of an interval (R300, R305, R318). Means are cut to whole units (log 25). -/
def State.closeReading (s : State) (mb : Bool) (endT : Nat) : State :=
  let i := chIx mb
  let m := s.meter mb
  let n := m.n
  let s0 :=
    if n = 0 then s
    else
      let v := m.sumV.tdiv n
      (((s.wr .MTR_P i (ofSigned 32 (m.sumP.tdiv (n * 1000000000)))).wr .MTR_V i (ofSigned 32 v)).wr .MTR_I i
        (ofSigned 32 (m.sumI.tdiv n))).sf F.MTR_STAT_VRANGE i (b2n (decide (v < 44000000) || decide (60000000 < v)))
  let st := s0.readingStatus mb n
  let s1 := ((s0.setPair .MTR_TS_LO .MTR_TS_HI i endT).wr .MTR_NSAMP i (n % 16 * 16)).wr .MTR_RSTAT i st.code
  let s2 := (List.range 6).foldl (fun a k =>
    (a.wr .MTR_RAIL (i * 6 + k) (Config.rail a.free k).toNat).take) s1
  let rail := (List.range 6).foldl (fun a k =>
    let w := s2.rr .MTR_RAIL (i * 6 + k); a + w % 2 ^ 16 * (w / 2 ^ 16)) 0
  s2.setMeter mb { m with
    sumP := 0, sumV := 0, sumI := 0, n := 0
    winP := m.winP + toSigned 32 (s1.rr .MTR_P i), winR := m.winR + 1, winRail := m.winRail + rail
    worst := worse m.worst st }

/-- A snapshot latched at a whole second (R309, R314). -/
def State.snapshot (s : State) (mb : Bool) (sec : Nat) : State :=
  let i := chIx mb
  let m := s.meter mb
  let st := if s.meterFailed mb then Status.check else m.worst
  let s1 := (s.setPair .MTR_SNAP_E_LO .MTR_SNAP_E_HI i (s.pair .MTR_E_LO .MTR_E_HI i)).setPair .MTR_SNAP_T_LO .MTR_SNAP_T_HI i
    (sec * 1000000000)
  ((s1.wr .MTR_SNAP_SEQ i (s1.rr .MTR_SNAP_SEQ i + 1)).wr .MTR_SNAP_STAT i st.code).setMeter mb { m with worst := .ok }

/-- A channel fails (R303, R313, R314): the error line, and a change or loss of the settlement channel in the journal. -/
def State.failMeter (s : State) (mb : Bool) : State :=
  if s.meterFailed mb then s
  else
    let s1 := (s.sf F.MTR_STAT_STATE (chIx mb) 3).raise 12 (chIx mb) .degraded
    if s1.meterFailed (!mb) then s1.log { event := 0x0040, status := .check }
    else if s1.f F.MTR_SETTLE_ACTIVE = chIx mb then
      (s1.sf F.MTR_SETTLE_ACTIVE 0 (chIx (!mb))).log
        { event := 0x0040, status := .ok, old := chIx mb, new := chIx (!mb) }
    else s1

/-! ### Acceptance runs (R323 to R325) -/

/-- A run ends with a status: both energies of the run latched, the result in the journal. -/
def State.endAcc (s : State) (st : Status) : State :=
  match s.metering.acc with
  | none => s
  | some r =>
    let e := match r.begun with
      | some (_, a, b) =>
        ((s.pair .MTR_E_LO .MTR_E_HI 0 + 2 ^ 64 - a.toNat) % 2 ^ 64, (s.pair .MTR_E_LO .MTR_E_HI 1 + 2 ^ 64 - b.toNat) % 2 ^ 64)
      | none => (0, 0)
    let s1 := { s with metering := { s.metering with acc := none } }
    let s2 := (s1.setPair .MTR_ACC_EA_LO .MTR_ACC_EA_HI 0 e.1).setPair .MTR_ACC_EB_LO .MTR_ACC_EB_HI 0 e.2
    ((s2.sf F.MTR_ACC_CTL_START 0 0).sf F.MTR_ACC_CTL_STATUS 0 st.code).log
      { event := 0x0041, status := st, detail := beBytes 8 e.1 ++ beBytes 8 e.2 }

/-! ### The cross-check and the estimate's gain (R315 to R321) -/

/-- The energies of a window disagree (R315); energies are in attojoules. -/
def energiesDisagree (ea eb rated : Nat) : Bool :=
  let d := if ea < eb then eb - ea else ea - eb
  decide (20 * (ea + eb) + 4 * rated * 10 ^ 17 < d * 100000)

/-- The quotient `a / b` rounded half to even. -/
def divHalfEven (a b : Nat) : Nat := roundMag .rne false (a / b) (a % b) b

/-- The comparison at the end of a window (R315 to R317). -/
def State.crossCheck (s : State) : State :=
  if s.meterFailed false || s.meterFailed true then s
  else if energiesDisagree s.metering.ma.winE s.metering.mb.winE (s.f F.PWW_RATED_RATED) then
    let n := s.metering.disagree + 1
    let s1 := ((s.bump .MTR_XDIFF 0).bump .MTR_XDIFF 1)
    let s2 := { s1 with metering := { s1.metering with disagree := n } }
    if n = 3 then
      (((s2.sf F.MTR_STAT_XDIFF 0 1).sf F.MTR_STAT_XDIFF 1 1).raise 12 0 .degraded).raise 12 1 .degraded
    else s2
  else
    let s1 := { s with metering := { s.metering with disagree := 0 } }
    (s1.sf F.MTR_STAT_XDIFF 0 0).sf F.MTR_STAT_XDIFF 1 0

/-- The update of k at the end of a window (R319 to R321). -/
def State.updateK (s : State) (mb : Bool) : State :=
  let i := chIx mb
  let m := s.meter mb
  let est := m.winEst * 10 ^ 10
  if s.meterState mb ≠ 1 ∨ m.winN < 99900 ∨ est = 0 then s
  else
    let k := s.f F.MTR_ESTK_K i
    let s1 := if 10 * m.winE < 9 * est ∨ 11 * est < 10 * m.winE then s.bump .MTR_ESTJUMP i else s
    let k' := divHalfEven (k * (3 * est + m.winE)) (4 * est)
    let c := max 0x3000 (min 0x5000 k')
    let s2 := s1.sf F.MTR_ESTK_K i c
    if c = k' then s2 else (s2.sf F.MTR_STAT_KLIM i 1).raise 12 i .degraded

/-- A channel's window begins anew; the efficiency of the past one is shown (R318). -/
def State.newWindow (s : State) (mb : Bool) : State :=
  let i := chIx mb
  let m := s.meter mb
  let eff := if 0 < m.winP then min 0xFFFF (m.winRail * 2 ^ 16 / (100 * m.winP.toNat)) else 0
  (s.wr .MTR_EFF i eff).setMeter mb { m with winE := 0, winN := 0, winEst := 0, winP := 0, winR := 0, winRail := 0 }

/-! ### Timers that PTIME passes -/

/-- The timer compares of the cores against PTIME (R503). -/
def State.coreTimers (s : State) : State :=
  (List.range 32).foldl (fun a c =>
    let k := a.core c
    let m := decide (a.pair .IC_MTIMECMP_LO .IC_MTIMECMP_HI c ≤ a.now)
    let t := decide (k.stimecmp.toNat ≤ a.now)
    let v := decide (k.vstimecmp.toNat ≤ a.now)
    if k.mtip = m ∧ k.stip = t ∧ k.vstip = v then a
    else a.setCore c { k with mtip := m, stip := t, vstip := v }) s

/-- The tiles whose timer PTIME has passed since `old` (R200). -/
def State.tileTimers (s : State) (old : Nat) : State :=
  (List.range 768).foldl (fun a t =>
    let w := a.pair .TILE_TIMER_LO .TILE_TIMER_HI t
    if w ≠ 0 ∧ old < w ∧ w ≤ a.now then a.latch t 4 else a) s

/-- A forward step of PTIME (R43, R44, R308, R309, R503): intervals end, the step is counted, a passed whole second is latched. -/
def State.stepPtime (s : State) (delta : Nat) : State :=
  if delta = 0 then s
  else
    let old := s.now
    let s1 := (s.closeReading false old).closeReading true old
    let s2 := ({ s1 with tmb := { s1.tmb with ptime := BitVec.ofNat 64 (old + delta) } }).bump .TMB_STEPS
    let sec := s2.now / 1000000000
    let s3 := if old / 1000000000 < sec then (s2.snapshot false sec).snapshot true sec else s2
    (s3.coreTimers).tileTimers old

end Sys2Proof.Machine
end

