-- ==== Sys2Proof/Machine/GovOps.lean ====
section
/-! DEFINITION. The governors' shared operations (spec/08, spec/09): the trajectory, the control law of R327, the actuators, the claims and the
qualification of the pair, and the frames the governors exchange. Powers are whole mW; what falls between is cut (log 25). -/

namespace Sys2Proof.Machine

/-! ### What a governor shows -/

/-- The number of a governor, for its registers: 0 GOV-A, 1 GOV-B. -/
def govIx (gb : Bool) : Nat := b2n gb

/-- The active governor is GOV-B (OST_STAT.ACTIVE). -/
def State.activeB (s : State) : Bool := s.fb F.OST_STAT_ACTIVE

/-- OST's record of a governor. -/
def State.gl (s : State) (gb : Bool) : GovLink := if gb then s.ost.b else s.ost.a
def State.setGl (s : State) (gb : Bool) (x : GovLink) : State :=
  if gb then { s with ost := { s.ost with b := x } } else { s with ost := { s.ost with a := x } }

/-- OST_STAT.A_STATE or B_STATE: 0 DOWN, 1 STARTING, 2 UNQUALIFIED, 3 STANDBY, 4 ACTIVE. -/
def State.govSt (s : State) (gb : Bool) : Nat := if gb then s.f F.OST_STAT_B_STATE else s.f F.OST_STAT_A_STATE
def State.setGovSt (s : State) (gb : Bool) (v : Nat) : State :=
  if gb then s.sf F.OST_STAT_B_STATE 0 v else s.sf F.OST_STAT_A_STATE 0 v

/-- A governor's claim register. -/
def claimReg (gb : Bool) : Reg := if gb then .OST_CLAIM_B else .OST_CLAIM_A

/-- Rated power in W (R32), and a governor's mode: 0 SAFE, 1 FOLLOW, 2 DIP, 3 FLOOR, 4 SHUTDOWN. -/
def State.rated (s : State) : Nat := s.f F.PWW_RATED_RATED
def State.mode (s : State) (gb : Bool) : Nat := s.f F.GOV_STATE_MODE (govIx gb)
def State.setMode (s : State) (gb : Bool) (m : Nat) : State := s.sf F.GOV_STATE_MODE (govIx gb) m

/-- The safe state of FCL holds (R613). -/
def State.safe? (s : State) : Bool := s.fb F.FCL_STAT_SAFE

/-- An ordered shutdown is latched (R387). -/
def State.shutting (s : State) : Bool := s.fb F.OST_STAT_SHUTDOWN

/-- The start of the control period that follows an instant (R326): periods begin at whole multiples of 10 µs. -/
def nextPeriod (t : Nat) : Nat := (t / 10000 + 1) * 10000

/-- The ms left before the hold expires (GOV_ALIVE.HOLD): 0 in SAFE. -/
def State.holdLeft (s : State) (gb : Bool) : Nat :=
  let g := s.gov gb
  if g.holdOn && g.follow then (2000000000 - g.holdAge) / 1000000 else 0

/-! ### Trajectories (R344) -/

/-- The piecewise-linear curve through points (PTIME, mW): before the first its value, after the last its value. -/
def curveAt : List (Nat × Int) → Nat → Int
  | [], _ => 0
  | [p], _ => p.2
  | p :: q :: r, t =>
    if t ≤ p.1 then p.2
    else if t < q.1 then (p.2 * ((q.1 : Int) - t) + q.2 * ((t : Int) - p.1)).tdiv ((q.1 : Int) - p.1)
    else curveAt (q :: r) t

/-- The curve of a trajectory: when every point lies after EFFECT_T it starts at the target at EFFECT_T. -/
def Gov.curve (g : Gov) : List (Nat × Int) :=
  let ps := g.points.map fun p => (p.1, (p.2 : Int))
  match ps with
  | [] => []
  | p :: _ => if g.effT < p.1 then (g.effT, g.effP) :: ps else ps

def Gov.traj (g : Gov) (t : Nat) : Int := curveAt g.curve t

/-- One period under the slew limits alone, in mW per period: the new target. -/
def slewTo (b prev : Int) (up dn : Nat) : Int := clampInt b (prev - dn) (prev + up)

/-- Σ |B − T| over the periods from `t`, in mW periods, until T meets the trajectory after its last point; the first argument bounds the
number of periods (R333). -/
def shortfall (curve : List (Nat × Int)) (lastT up dn : Nat) : Nat → Nat → Int → Nat
  | 0, _, _ => 0
  | n + 1, t, prev =>
    let b := curveAt curve t
    let x := slewTo b prev up dn
    if lastT ≤ t ∧ x = b then 0 else (b - x).natAbs + shortfall curve lastT up dn n (t + 10000) x

/-! ### The slew limits in force (R327) -/

def State.slewUp (s : State) (gb : Bool) : Nat :=
  let g := s.gov gb
  let u := s.f F.GOV_SLEW_UP (govIx gb)
  10 * (if g.slewUp ≠ 0 ∧ s.mode gb ≠ 2 then min u g.slewUp else u)

def State.slewDn (s : State) (gb : Bool) : Nat :=
  let g := s.gov gb
  if s.mode gb = 2 then 10 * s.f F.GOV_DIP_DSLEW (govIx gb)
  else
    let d := s.f F.GOV_SLEW_DN (govIx gb)
    10 * (if g.slewDn ≠ 0 then min d g.slewDn else d)

/-- ESHORT in mJ of a governor's stored trajectory (R333). -/
def State.eshort (s : State) (gb : Bool) : Nat :=
  let g := s.gov gb
  let c := g.curve
  let last := (c.getLast?.map (·.1)).getD 0
  let up := s.slewUp gb
  let dn := s.slewDn gb
  shortfall c last up dn ((last - g.effT) / 10000 + 5000000) g.effT g.tPrev / 100000

/-! ### Frequency response (R357 to R359) -/

/-- The GRID data is within its age limit. -/
def State.gridFresh (s : State) (gb : Bool) : Bool :=
  match (s.gov gb).grid with
  | some (_, t) => decide (s.now ≤ t + s.f F.GOV_FR_CTL_AGE (govIx gb) * 100000000)
  | none => false

/-- Frequency response is active (R357). -/
def State.frActive (s : State) (gb : Bool) : Bool :=
  let g := s.gov gb
  s.fb F.GOV_FR_CTL_EN (govIx gb) && !g.frBad && bit g.bflags.toNat 1 && s.mode gb == 1 && !s.safe? && s.gridFresh gb

/-- The response curve in use: (ΔF in µHz, ΔP in 0.01 %). -/
def State.frCurve (s : State) (gb : Bool) : List (Int × Int) :=
  (List.range (s.f F.GOV_FR_CTL_NPTS (govIx gb))).map fun i =>
    (toSigned 16 (s.f F.GOV_FR_PT_DF (govIx gb * 8 + i)) * 1000, toSigned 16 (s.f F.GOV_FR_PT_DP (govIx gb * 8 + i)))

/-- ΔP × rated / 10 in mW, rounded toward zero, at a deviation in µHz (R358). -/
def frOffset : List (Int × Int) → Int → Nat → Int
  | [], _, _ => 0
  | [p], _, rated => (p.2 * rated).tdiv 10
  | p :: q :: r, x, rated =>
    if x ≤ p.1 then (p.2 * rated).tdiv 10
    else if x < q.1 then ((p.2 * (q.1 - x) + q.2 * (x - p.1)) * rated).tdiv ((q.1 - p.1) * 10)
    else frOffset (q :: r) x rated

/-- The nominal frequency in µHz. -/
def State.nominal (s : State) (gb : Bool) : Nat := if s.fb F.GOV_FR_CTL_NOM (govIx gb) then 60000000 else 50000000

/-! ### Claims and qualification (R367 to R373) -/

/-- The governor whose valid claim is the higher; GOV-A at equal claims (R367). -/
def State.holder (s : State) : Option Bool :=
  match s.ost.a.valid, s.ost.b.valid with
  | false, false => none
  | true, false => some false
  | false, true => some true
  | true, true => some (decide (s.rr .OST_CLAIM_A < s.rr .OST_CLAIM_B))

/-- The conditions of R372. -/
def State.qualifies (s : State) (gb : Bool) : Bool :=
  let l := s.gl gb
  l.selfTest && !s.meterFailed gb && l.mirror && l.trajOk && decide (s.f F.OST_CFG_QUALT * 10000 ≤ l.agreeRun) && l.heartbeat

/-- A qualified standby: UNQUALIFIED and STANDBY follow the conditions. -/
def State.qualified (s : State) (gb : Bool) : Bool := (s.govSt gb == 2 || s.govSt gb == 3) && s.qualifies gb

/-- The state of a standby shown as the conditions have it. -/
def State.refreshGov (s : State) (gb : Bool) : State :=
  if s.govSt gb = 2 ∨ s.govSt gb = 3 then s.setGovSt gb (if s.qualifies gb then 3 else 2) else s

/-- The outputs that a register of the GOV_ACT layout asks for put into OST_OUT, which ends a hold (R374, R375). -/
def State.applyOut (s : State) (out : Nat) : State :=
  s.wr .OST_OUT 0 (bits out 31 8 * 2 ^ 8 + bits out 3 0)

/-- A command of a governor at OST (R367, R377). -/
def State.ostCommand (s : State) (gb : Bool) (out : Nat) : State :=
  if s.holder = some gb then s.applyOut out else s.bump .OST_IGNORED

/-- A governor takes control through a cause of R373 (R370, R371, R374 to R376): its claim one greater than the higher accepted claim, the
hold, its first command, equal to the outputs held, and the record. -/
def State.takeControl (s : State) (gb : Bool) (cause : Nat) : State :=
  let c := max (s.rr .OST_CLAIM_A) (s.rr .OST_CLAIM_B) + 1
  if 2 ^ 32 ≤ c then s.err .ost .noResource
  else
    let other := !gb
    let s1 := (s.wr (claimReg gb) 0 c).setGl gb { s.gl gb with valid := true, qualRun := 0 }
    let s2 := (s1.sf F.OST_STAT_ACTIVE 0 (b2n gb)).setGovSt gb 4
    let s3 := if s2.govSt other = 4 then s2.setGovSt other 2 else s2
    let held := Config.actuator s3.free 0 % 49
    let s4 := (s3.take.sf F.OST_OUT_HOLD 0 0).setPair .OST_LASTSW_LO .OST_LASTSW_HI 0 s3.now
    let s5 := (s4.wr .OST_LASTSW_INFO 0 (b2n gb * 2 ^ 16 + held * 2 ^ 8 + cause)).bump .OST_SWITCHES
    let s6 := { s5 with ost := { s5.ost with swapDue := false } }
    ((s6.sf F.OST_CMD_SWAP 0 0).sf F.OST_STAT_ORPHAN 0 0).refreshGov other

/-! ### The frames of R378 -/

/-- The bytes of R331 from NPTS on, as the stored trajectory has them. -/
def Gov.trajBytes (g : Gov) : List Byte :=
  [BitVec.ofNat 8 g.points.length, g.bflags, BitVec.ofNat 8 g.fixv, 0#8] ++ beBytes 2 g.slewUp ++ beBytes 2 g.slewDn ++
    g.points.flatMap fun p => beBytes 8 p.1 ++ beBytes 4 p.2

/-- A governor's frame for the period that starts at `pstart` (R378). -/
def State.frameOf (s : State) (gb : Bool) (pstart : Nat) (d : Int) : List Byte :=
  let i := govIx gb
  let g := s.gov gb
  let flags := b2n (s.fb F.GOV_STATE_FIXED i) + 2 * b2n (s.fb F.GOV_STATE_FR i) + 4 * b2n (s.fb F.GOV_STATE_PARKED i) +
    8 * b2n (s.fb F.GOV_STATE_FIXLOST i) + 16 * b2n (s.activeB != gb)
  let b := leBytes 4 (s.gl gb).fseq.toNat ++ leBytes 8 pstart ++
    [BitVec.ofNat 8 (s.mode gb), BitVec.ofNat 8 flags, BitVec.ofNat 8 (s.f F.GOV_ACT_VCORE i), BitVec.ofNat 8 (s.f F.GOV_ACT_PACE i)] ++
    leBytes 4 (ofSigned 32 g.tPrev) ++ leBytes 4 (ofSigned 32 d) ++ leBytes 4 (ofSigned 32 (g.integ.tdiv 256)) ++
    leBytes 4 (ofSigned 32 g.frOffset) ++ leBytes 4 (s.rr .GOV_SEQ i) ++ leBytes 2 (s.f F.GOV_ALIVE_ALIVE i) ++
    leBytes 2 (s.holdLeft gb) ++ leBytes 8 (s.pair .GOV_SHORT_OVER_LO .GOV_SHORT_OVER_HI i) ++
    leBytes 8 (s.pair .GOV_SHORT_UNDER_LO .GOV_SHORT_UNDER_HI i) ++ leBytes 4 (crc32c g.trajBytes)
  b ++ leBytes 4 (crc32c b)

/-! ### Makeweight and gating (R349 to R352, R361) -/

/-- The order in which IDLE tiles take `mw.burn` programs: one tile of each cluster in turn, from cluster 0 up (R352). -/
def State.burnOrder (s : State) : List Nat :=
  ((List.range 24).flatMap fun k => (List.range 32).map fun c => 24 * c + k).filter fun t =>
    s.working t && !s.tileFenced t && ((s.tile t).st == .idle || (s.tile t).st == .makeweight)

/-- All makeweight removed: no tile burns and none fills. -/
def State.dropMakeweight (s : State) : State :=
  let s1 := s.tiles.foldl (fun a p =>
    let x := a.tile p.1
    let a1 := if x.st = .makeweight then a.setTile p.1 { x with st := .idle } else a
    if a1.fb F.TILE_MW_FILL p.1 then a1.sf F.TILE_MW_FILL p.1 0 else a1) s
  (s1.wr .GOV_MWSTAT 0 0).wr .GOV_MWSTAT 1 0

/-- `n` sixteenths of makeweight on the tiles of the burn order, each to full level before the next starts (R352). -/
def State.placeBurn (s : State) (gb : Bool) (n : Nat) : State :=
  let ts := s.burnOrder
  let full := min ts.length ((n + 15) / 16)
  let s1 := ((List.range ts.length).zip ts).foldl (fun a p =>
    let x := a.tile p.2
    if p.1 < full then
      (a.setTile p.2 { x with st := .makeweight, pc := if x.st = .makeweight then x.pc else 0 }).sf F.TILE_MW_LEVEL p.2
        (min 15 (n - 16 * p.1 - 1))
    else if x.st = .makeweight then a.setTile p.2 { x with st := .idle } else a) s
  s1.sf F.GOV_MWSTAT_BURN (govIx gb) full

/-- The fill of each station tile from its real array activity of the last period (R351). -/
def State.holdUp (s : State) (gb : Bool) : State :=
  let on := s.fb F.GOV_MW_HOLDUP (govIx gb)
  let r := s.tiles.foldl (fun (p : State × Nat) e =>
    if (p.1.tile e.1).handle = 0 then p
    else
      let m := Config.activity p.1.free e.1 % 17
      let a := p.1.take
      if on && m != 0 then (a.wr .TILE_MW e.1 (16 + (m - 1)), p.2 + 1) else (a.sf F.TILE_MW_FILL e.1 0, p.2)) (s, 0)
  r.1.sf F.GOV_MWSTAT_FILL (govIx gb) r.2

/-- A partition that holds no station and no makeweight (R349). -/
def State.partitionFree (s : State) (p : Nat) : Bool :=
  s.tiles.all fun e => e.1 / 192 != p || (e.2.handle == 0 && e.2.st != .makeweight)

/-- The next gating or ungating begun, one partition at a time (R349, R350). -/
def State.nextGating (s : State) (gb floor : Bool) : State :=
  let g := s.gov gb
  match g.gating with
  | some _ => s
  | none =>
    let gated := s.f F.GOV_ACT_GATED (govIx gb)
    let pick := (List.range 4).find? fun p => if floor then !bit gated p && s.partitionFree p else bit gated p
    match pick with
    | some p => s.setGov gb { g with gating := some (p, floor) }
    | none => s

/-! ### `allocate` (R345 to R348, R354 to R356) -/

/-- The sure-pace code of a VCORE code (R355). -/
def State.surePace (s : State) (v : Nat) : Nat := bits (s.rr .PWW_SURE (v / 4)) (8 * (v % 4) + 7) (8 * (v % 4))

/-- The least VCORE code whose sure pace reaches a pace code (R346). -/
def State.leastVcore (s : State) (pace : Nat) : Nat := ((List.range 141).find? fun v => decide (pace ≤ s.surePace v)).getD 140

/-- A setting between two bounds that the plant and the seals decide (log 4). -/
def State.between (s : State) (which lo hi : Nat) : Nat := lo + Config.actuator s.free which % (hi + 1 - lo)

/-- The actuators moved toward demand `d` from a draw of `p`, in the order of R346: an actuator moves only when the one before has reached
its limit. In fixed-pace mode pace and VCORE stand; before it VCORE goes to FIXV (R355). A paused VCORE step stays (R348). -/
def State.allocate (s : State) (gb : Bool) (d p : Int) : State :=
  let i := govIx gb
  let g := s.gov gb
  let pace := s.f F.GOV_ACT_PACE i
  let v := s.f F.GOV_ACT_VCORE i
  let soak := s.f F.GOV_ACT_SOAK i
  let fixed := s.fb F.GOV_STATE_FIXED i
  let v0 :=
    if g.droop then v
    else if g.fixSeek then (if v < g.fixv then min g.fixv (v + 10) else max g.fixv (v - min v 10)) else v
  let up := decide (p < d)
  let pace1 :=
    if fixed then s.surePace v0
    else if up then s.between 1 pace 255
    else if soak = 0 then s.between 1 0 pace else pace
  let v1 :=
    if fixed ∨ g.fixSeek ∨ g.droop then v0
    else if up then (if pace1 = 255 then s.between 2 v (min 140 (v + 10)) else v)
    else max (s.leastVcore pace1) (s.between 2 (v - min v 10) v)
  let workFull := fixed ∨ (pace1 = 255 ∧ v1 = 140)
  let soak1 :=
    if up then (if workFull then s.between 3 (min soak pace1) pace1 else min soak pace1)
    else s.between 3 0 (min soak pace1)
  let room := 16 * s.burnOrder.length
  let mw := if up ∧ workFull ∧ soak1 = pace1 then s.between 4 0 room else if up then 16 * s.f F.GOV_MWSTAT_BURN i else s.between 4 0 (16 * s.f F.GOV_MWSTAT_BURN i)
  let s1 := s.take.wr .GOV_ACT i (soak1 * 2 ^ 24 + min 140 v1 * 2 ^ 16 + pace1 * 2 ^ 8 + s.f F.GOV_ACT_GATED i)
  let s2 := if s1.activeB = gb then (s1.holdUp gb).placeBurn gb mw else s1
  if g.fixSeek && v1 == g.fixv then (s2.sf F.GOV_STATE_FIXED i 1).setGov gb { s2.gov gb with fixSeek := false } else s2

/-- Tolls applied after the common pace is set, and the estimates of the caravans kept (R139, R140, R347). -/
def State.tolls (s : State) (common : Nat) : State :=
  s.cvn.slots.foldl (fun a p =>
    let x := a.slot p.1
    let y := match x.tollNext with
      | some w => (a.sf F.CVN_SLOT_TOLL_TOLL p.1 w, { x with tollNext := none })
      | none => (a, x)
    if y.2.state = .free then y.1.setSlot p.1 { y.2 with tollPace := none }
    else
      let est := Config.caravanPower y.1.free p.1
      let toll := y.1.f F.CVN_SLOT_TOLL_TOLL p.1
      let low := (common * toll + est - 1) / est
      let tp := if toll ≠ 0 ∧ toll < est then some (min common (low + Config.actuator y.1.free (8 + p.1) % (common + 1 - min low common))) else none
      y.1.take.setSlot p.1 { y.2 with tollPace := tp, sumP := y.2.sumP + est, nP := y.2.nP + 1 }) s

/-! ### The control period (R326, R327) -/

/-- The trajectory or the safe budget, and the acceptance run's level, before frequency response (R323, R327, R341, R613). -/
def State.request (s : State) (gb : Bool) : Int :=
  let g := s.gov gb
  let run := match s.metering.acc with
    | some r => if r.begun.isSome then some r.level else none
    | none => none
  match run with
  | some l => (l * s.rated * 10 : Nat)
  | none => if !g.follow || s.safe? then (s.f F.GOV_SAFE_SAFE (govIx gb) * 1000 : Nat) else g.traj s.now

/-- B of the period. -/
def State.budget (s : State) (gb : Bool) : Int :=
  s.request gb + (if s.frActive gb then (s.gov gb).frOffset else 0)

/-- The thermal cap in W (R548). -/
def State.thermalCap (s : State) : Nat := min (s.f F.THM_CAP_CAP_COOL) (s.f F.THM_CAP_CAP_DIE)

/-- The mode a governor returns to when it is not in DIP, FLOOR or SHUTDOWN. -/
def State.baseMode (s : State) (gb : Bool) : Nat := if (s.gov gb).follow && !s.safe? then 1 else 0

/-- FLOOR entered or left at the start of a period (R349, R350, R361, R362, R549). -/
def State.floorMode (s : State) (gb : Bool) (b : Int) : State :=
  let i := govIx gb
  let fl := s.rr .PWW_FLOOR
  let cap := s.thermalCap * 1000
  let m := s.mode gb
  if m = 2 ∨ m = 4 then s
  else if m = 3 then
    if (fl : Int) + 10 * s.rated < b ∧ fl + 10 * s.rated < cap then
      (s.setMode gb (s.baseMode gb)).sf F.GOV_STATE_PARKED i 0
    else s
  else if b < fl ∨ cap ≤ fl then
    let s1 := (s.setMode gb 3).sf F.GOV_STATE_PARKED i 1
    if s1.activeB = gb then s1.dropMakeweight.selfRefresh else s1
  else (s.setMode gb (s.baseMode gb)).sf F.GOV_STATE_PARKED i 0

/-- An amount of mW periods added to a shortfall pair: what is below 1 mJ and the whole mJ. -/
def addShort (frac : Nat) (x : Int) : Nat × Nat := ((frac + x.toNat) % 100000, (frac + x.toNat) / 100000)

/-- One control period of a governor, active or in shadow. -/
def State.period (s : State) (gb : Bool) : State :=
  let i := govIx gb
  let b := s.budget gb
  let s := s.floorMode gb b
  let g := s.gov gb
  let lo : Int := s.rr .PWW_FLOOR
  let h0 : Int := min (min (s.rated * 1000) (s.thermalCap * 1000)) (Config.pHigh s.free)
  let h1 := if s.mode gb = 2 then min h0 (s.f F.GOV_DIP_LEVEL i * s.rated * 10 : Nat) else h0
  let t := slewTo (clampInt b lo (max h1 lo)) g.tPrev (s.slewUp gb) (s.slewDn gb)
  let o := addShort g.shortOver (t - b)
  let u := addShort g.shortUnder (b - t)
  let est := Config.pEst s.free
  let p : Int := if s.meterFailed gb then est else toSigned 32 (s.rr .MTR_P (chIx gb))
  let e := t - p
  let imax : Int := s.f F.GOV_LAW_IMAX i * s.rated * 256 / 10
  let integ := clampInt (g.integ + s.f F.GOV_LAW_KI i * e) (-imax) imax
  let d := (256 * t + s.f F.GOV_LAW_KP i * e + integ).tdiv 256
  let s1 := s.take.setPair .GOV_SHORT_OVER_LO .GOV_SHORT_OVER_HI i ((s.pair .GOV_SHORT_OVER_LO .GOV_SHORT_OVER_HI i + o.2) % 2 ^ 64)
  let s2 := s1.setPair .GOV_SHORT_UNDER_LO .GOV_SHORT_UNDER_HI i
    ((s.pair .GOV_SHORT_UNDER_LO .GOV_SHORT_UNDER_HI i + u.2) % 2 ^ 64)
  let s3 := (((s2.wr .GOV_TARGET i (ofSigned 32 t)).wr .GOV_DEMAND i (ofSigned 32 d)).wr .GOV_EST i est).wr .GOV_MET i
    (ofSigned 32 (toSigned 32 (s.rr .MTR_P (chIx gb))))
  let s4 := s3.setGov gb { g with
    tPrev := t, integ := integ, shortOver := o.1, shortUnder := u.1, winT := g.winT + t, winJ := g.winJ + 1 }
  let m := s4.meter gb
  let s5 := (s4.setMeter gb { m with winEst := m.winEst + est }).sf F.GOV_STATE_FR i (b2n (s.frActive gb))
  -- fixed-pace mode is left when T falls below what normal caravans draw at the fixed point (R356)
  let lost := s5.fb F.GOV_STATE_FIXED i && decide (t < (Config.fixedDraw s5.free : Int))
  let s6 := if lost then (s5.sf F.GOV_STATE_FIXED i 0).sf F.GOV_STATE_FIXLOST i 1 else s5
  let s7 :=
    if s6.mode gb = 3 then
      (s6.wr .GOV_ACT i (s6.f F.GOV_ACT_VCORE i * 2 ^ 16 + s6.f F.GOV_ACT_GATED i)).nextGating gb true
    else (if s6.f F.GOV_ACT_GATED i ≠ 0 then s6.nextGating gb false else s6).allocate gb d p
  let s8 := if s7.activeB = gb then (s7.tolls (s7.f F.GOV_ACT_PACE i)).ostCommand gb (s7.rr .GOV_ACT i) else s7
  -- the heartbeat is re-armed, the frame sent, and the qualification of a standby counted (R368, R378, R386)
  let fr := s8.frameOf gb s.now d
  let l := s8.gl gb
  let s9 := s8.setGl gb { l with
    fseq := l.fseq + 1, frame := fr
    qualRun := if s8.activeB ≠ gb ∧ s8.qualified gb then l.qualRun + 1 else 0 }
  s9.refreshGov gb

end Sys2Proof.Machine
end

