-- ==== Sys2Proof/Machine/EthOps.lean ====
section
/-! DEFINITION. The Ethernet ports, the queues and their entries, failover, announcements and the host tables (spec/14). -/

namespace Sys2Proof.Machine

/-! ### Ports and networks -/

/-- The network of a port: 0 A, 1 B. -/
def netOf (k : Nat) : Nat := k / 4

def State.ethPort (s : State) (k : Nat) : EthPort := SMap.get (fun _ => {}) s.eth.ports k
def State.setEthPort (s : State) (k : Nat) (x : EthPort) : State :=
  { s with eth := { s.eth with ports := SMap.set (fun _ => {}) s.eth.ports k x } }
def State.qp (s : State) (q : Nat) : Qp := SMap.get (fun _ => {}) s.eth.qps q
def State.setQp (s : State) (q : Nat) (x : Qp) : State :=
  { s with eth := { s.eth with qps := SMap.set (fun _ => {}) s.eth.qps q x } }

/-- A bit of ETH_EVENT of a port set. -/
def State.ethEvent (s : State) (k b : Nat) : State := s.wr .ETH_EVENT k (Nat.lor (s.rr .ETH_EVENT k) (2 ^ b))

/-- An event of a network: on E0 or E4. -/
def State.netEvent (s : State) (n b : Nat) : State := s.ethEvent (4 * n) b

/-- A port is MEMBER of its network's aggregation. -/
def State.isMember (s : State) (k : Nat) : Bool := s.f F.ETH_PSTAT_LACP k == 2

/-- The MEMBER ports of a network, in port order. -/
def State.members (s : State) (n : Nat) : List Nat := ((List.range 4).map (fun j => 4 * n + j)).filter s.isMember

/-- The port that a frame with a flow hash leaves on (R528). -/
def State.txPort (s : State) (n hash : Nat) : Option Nat :=
  let m := s.members n
  if m.isEmpty then none else m[hash % m.length]?

/-- The port may be up: the rails on, from step 5 of the start on (R557), REFCLK present, its network enabled, ADMIN 1 (R521). -/
def State.ethMay (s : State) (k : Nat) : Bool :=
  s.boot.rails && s.tmb.refclk && s.fb F.ETH_NCTL_EN (netOf k) && s.fb F.ETH_PCTL_ADMIN k

/-! ### Announcements (R540) -/

/-- The address words of a network. -/
def State.ip6 (s : State) (n : Nat) : List Byte := (List.range 4).flatMap (fun w => beBytes 4 (s.rr .ETH_IP6 (n * 4 + w)))
def State.ip4 (s : State) (n : Nat) : List Byte := beBytes 4 (s.rr .ETH_IP4 n)

/-- STATE of an announcement. -/
def State.pkgState (s : State) : Nat :=
  if s.shutting then 3 else if s.safe? then 2 else if s.fb F.IDT_BOOT_READY then 1 else 0

/-- COORD of an announcement. -/
def State.annCoord (s : State) : Nat := if s.fb F.FPT_COORD_SET then s.f F.FPT_COORD_COORD else 0xFFFFFFFF

/-- An announcement message. -/
def State.annMsg (s : State) (n type : Nat) : List Byte :=
  beBytes 2 0x4A41 ++ [1#8, BitVec.ofNat 8 type] ++ beBytes 4 (SMap.get (fun _ => (0 : BitVec 32)) s.eth.annSeq n).toNat ++
    beBytes 8 (s.pair .IDT_SERIAL_LO .IDT_SERIAL_HI) ++ beBytes 4 s.annCoord ++ [BitVec.ofNat 8 s.pkgState, BitVec.ofNat 8 n] ++
    beBytes 2 (s.f F.ETH_ANN_INTERVAL) ++ s.ip4 n ++ s.ip6 n

/-- An announcement sent on a network that is enabled and has a member. -/
def State.announce (s : State) (n type : Nat) : State :=
  if s.fb F.ETH_ANN_EN && s.fb F.ETH_NCTL_EN n && !(s.members n).isEmpty then
    let seq := SMap.get (fun _ => (0 : BitVec 32)) s.eth.annSeq n
    let s1 := s.send (.udp n (s.annMsg n type))
    { s1 with eth := { s1.eth with annSeq := SMap.set (fun _ => 0) s1.eth.annSeq n (seq + 1) } }
  else s

/-- Both networks: at a change of package state or of coordinate, or BYE at an ordered shutdown. -/
def State.announceAll (s : State) (type : Nat) : State := (s.announce 0 type).announce 1 type

/-! ### Membership (R527) -/

/-- A port leaves MEMBER, or does not reach it. -/
def State.leaveMember (s : State) (k lacp : Nat) : State :=
  let was := s.isMember k
  let s1 := s.sf F.ETH_PSTAT_LACP k lacp
  if was then s1.ethEvent k 2 else s1

/-- A port goes DOWN (R521, R527). -/
def State.ethDown (s : State) (k : Nat) (st : Status) : State :=
  let up := s.f F.ETH_PSTAT_STATE k == 2
  let s1 := s.leaveMember k 0
  let s2 := ((s1.sf F.ETH_PSTAT_STATE k 0).sf F.ETH_PSTAT_PHY k 0).sf F.ETH_PSTAT_STATUS k st.code
  (if up then s2.ethEvent k 1 else s2).setEthPort k {}

/-! ### Frames sent -/

/-- A frame sent and counted. -/
def State.ethSent (s : State) (k len : Nat) : State :=
  ((s.bump .ETH_TXFRM k).blockEvent 0x20 k 1).bwBytes (40 + 2 * k) len

/-- A frame without FCS as a network sends it: tagged when the network has a VID (R523). -/
def State.tagged (s : State) (n : Nat) (f : List Byte) : List Byte :=
  let vid := s.f F.ETH_NCTL_VID n
  let g := if vid = 0 then f
    else f.take 12 ++ beBytes 2 0x8100 ++ beBytes 2 (s.f F.ETH_NCTL_PCP n * 2 ^ 13 + vid) ++ f.drop 12
  g ++ leBytes 4 (crc 1 g)

/-- A port is paused for the priority that the package sends at (R524). -/
def State.paused (s : State) (k : Nat) : Bool :=
  decide (s.now < SMap.get (fun _ => 0) (s.ethPort k).paused (s.f F.ETH_NCTL_PCP (netOf k)))

/-! ### Queues -/

/-- The network a queue uses now: its own, or the other on the alternate path (R538). -/
def Qp.path (x : Qp) (q : Nat) : Nat :=
  if q < 2 then q else b2n (x.ctx.net != x.onAlt)

/-- Messages of a queue pair go to DIP, or to ADIP on the alternate path. -/
def Qp.addr (x : Qp) : List Byte := if x.onAlt then x.ctx.adip else x.ctx.dip

/-- PSNs that a message of `len` bytes takes. -/
def psns (mtu len : Nat) : Nat := max 1 ((len + mtu - 1) / mtu)

/-- The 24-bit PSN `a` is not after `b`. -/
def psnLe (a b : Nat) : Bool := decide ((b + 2 ^ 24 - a % 2 ^ 24) % 2 ^ 24 < 2 ^ 23)

/-- A RoCEv2 message sent by a queue, if its network has a member to send it on. -/
def State.sendRdma (s : State) (q psn : Nat) (op : RdmaOp) : State :=
  let x := s.qp q
  match s.txPort (x.path q) (Config.flowHashQp q) with
  | some k => (s.ethSent k 0).send (.rdma k x.ctx.dqpn x.addr ⟨x.ctx.dqpn, psn % 2 ^ 24, op⟩)
  | none => s

/-- One work entry completed (R533): STATUS, then the done word. -/
def State.finishEntry (s : State) (q idx : Nat) (st : Status) : State :=
  let x := s.qp q
  let a := x.ctx.ring + idx % 2 ^ x.ctx.order * 32
  let s1 := s.writeMem (a + 1) [BitVec.ofNat 8 st.code] false 4
  let n := (x.done + 1) % 2 ^ 32
  (s1.setQp q { x with done := n }).writeMem x.ctx.donea (leBytes 4 n) false 4

/-- Entries completed with FENCED. -/
def State.fenceEntries (s : State) (q : Nat) (ws : List WorkOut) : State := ws.foldl (fun a w => a.finishEntry q w.idx .fenced) s

/-- The completions that are due at the head of a queue, in ring order; a status other than OK puts the queue pair in error (R535). -/
def State.drainEntries : List WorkOut → State → Nat → State
  | [], s, q => s.setQp q { s.qp q with outst := [] }
  | w :: ws, s, q =>
    match w.fin with
    | none => s.setQp q { s.qp q with outst := w :: ws }
    | some st =>
      let s1 := s.finishEntry q w.idx st
      if st = .ok then State.drainEntries ws s1 q
      else
        let x := s1.qp q
        (((s1.setQp q { x with err := true, outst := [] }).netEvent (x.path q) 6)).fenceEntries q ws

/-- The status of outstanding entries that satisfy `p` known; what is due completes. -/
def State.concludeEntries (s : State) (q : Nat) (p : WorkOut → Bool) (st : Status) : State :=
  let ws := (s.qp q).outst.map (fun w => if p w && w.fin.isNone then { w with fin := some st } else w)
  State.drainEntries ws s q

/-- The outstanding messages sent again, from the oldest (R534, R538). -/
def State.resendAll (s : State) (q : Nat) : State :=
  (s.qp q).outst.foldl (fun a w =>
    match w.op with
    | some op => if w.fin.isNone then a.sendRdma q w.psn op else a
    | none => a) s

/-- A queue pair moves to the other network (R538). -/
def State.migrate (s : State) (q : Nat) : State :=
  let x := s.qp q
  let n := x.path q
  let s1 := s.setQp q { x with onAlt := !x.onAlt, retries := 0 }
  ((s1.netEvent n 5).bump .ETH_MIGR n).resendAll q

/-- A queue pair may take its alternate path (R538): ALT set, on its home path, the other network with a member. -/
def State.mayMigrate (s : State) (q : Nat) : Bool :=
  let x := s.qp q
  x.ctx.alt && !x.onAlt && !(s.members (1 - x.path q)).isEmpty

/-! ### Receive entries (R536) -/

/-- A message into the next receive entry of a queue, or nothing when none is free: whether one was free, and whether the message fitted. -/
def State.fillRecv (s : State) (q : Nat) (place : Bool) (data : List Byte) (imm : Option (BitVec 32)) : State × Bool × Status :=
  let x := s.qp q
  if x.rprod = x.rdone then (s, false, .noResource)
  else
    let a := x.ctx.rring + x.rdone % 2 ^ x.ctx.rorder * 32
    let r := s.readMem a 12 4
    let addr := leAt r.2.1 0 8
    let st := firstStatus
      [(place && s.placeFenced (placeOf addr), .fenced),
       (place && (decide (leAt r.2.1 8 4 < data.length) || !inStore addr data.length), .bounds)]
    let s1 := if place && st = .ok then r.1.writeMem addr data false 4 else r.1
    let flags := b2n imm.isSome + (if place then 0 else 2) + (if s.locked then 0 else 4)
    let s2 := s1.writeMem (a + 12) (leBytes 4 data.length ++ leBytes 4 ((imm.map (·.toNat)).getD 0) ++
      [BitVec.ofNat 8 st.code, BitVec.ofNat 8 flags, 0#8, 0#8] ++ leBytes 8 s.now) false 4
    let n := (x.rdone + 1) % 2 ^ 32
    ((s2.setQp q { x with rdone := n }).writeMem x.ctx.rdonea (leBytes 4 n) false 4, true, st)

/-- A frame to the raw queue of a network (R525, R536). -/
def State.toRaw (s : State) (n : Nat) (frame : List Byte) : State :=
  if !(s.qp n).enabled then s.bump .ETH_RAWLOST n
  else
    let r := s.fillRecv n true frame none
    if r.2.1 then r.1 else s.bump .ETH_RAWLOST n

/-! ### The host table (R541) -/

/-- Entry `i` of a network's host table: SERIAL and ADDR6. -/
def State.host (s : State) (n i : Nat) : Nat × List Byte :=
  let a := s.pair .ETH_HTAB_LO .ETH_HTAB_HI n + 32 * i
  (leNat (s.bytes a 8), s.bytes (a + 8) 16)

/-- An entry written; SERIAL 0 empties it. -/
def State.putHost (s : State) (n i serial : Nat) (addr : List Byte) (t : Nat) : State :=
  s.writeMem (s.pair .ETH_HTAB_LO .ETH_HTAB_HI n + 32 * i) (leBytes 8 serial ++ addr ++ leBytes 8 t) false 4

/-- The entry of a host. -/
def State.findHost (s : State) (n serial : Nat) (addr : List Byte) : Option Nat :=
  (List.range 256).find? (fun i => s.host n i == (serial, addr))

/-- An announcement that reaches a network: a HOST entered or refreshed, a BYE removed. -/
def State.hostMsg (s : State) (n : Nat) (m : List Byte) : State :=
  let serial := beAt m 8 8
  let addr := fitBytes16 (slice m 28 16)
  if beAt m 0 2 ≠ 0x4A41 ∨ beAt m 2 1 ≠ 1 ∨ m.length < 44 ∨ s.pair .ETH_HTAB_LO .ETH_HTAB_HI n = 0 ∨ serial = 0 then s
  else
    match beAt m 3 1 with
    | 2 =>
      match s.findHost n serial addr with
      | some i => s.putHost n i serial addr s.now
      | none =>
        match (List.range 256).find? (fun i => (s.host n i).1 == 0) with
        | some i => ((s.putHost n i serial addr s.now).wr .ETH_HOSTS n (s.rr .ETH_HOSTS n + 1)).netEvent n 3
        | none => (s.bump .ETH_HOSTFULL n).netEvent n 7
    | 3 =>
      match s.findHost n serial addr with
      | some i => ((s.putHost n i 0 (List.replicate 16 0#8) 0).wr .ETH_HOSTS n (s.rr .ETH_HOSTS n - 1)).netEvent n 4
      | none => s
    | _ => s
where
  /-- Sixteen bytes. -/
  fitBytes16 (l : List Byte) : List Byte := (l ++ List.replicate 16 0#8).take 16

end Sys2Proof.Machine
end

