-- ==== Sys2Proof/Machine/MusterOps.lean ====
section
/-! DEFINITION. Muster support MST (spec/12): the tree, the control area, control frames, phases, the leader's decisions and common abort. -/

namespace Sys2Proof.Machine

def State.mg (s : State) (i : Nat) : MgSlot := SMap.get (fun _ => {}) s.mst.slots i
def State.setMg (s : State) (i : Nat) (x : MgSlot) : State :=
  { s with mst := { s.mst with slots := SMap.set (fun _ => {}) s.mst.slots i x } }

/-! ### Groups (R454 to R458) -/

/-- The package leads the group. -/
def State.leads (s : State) (i : Nat) : Bool := s.f F.MG_LEADER_VALUE i == s.own

/-- The walk of R457 from the leader: the member reached, its parent and the dimension between them. -/
def treeWalk (nb : Nat → Nat → Nat) (mask leader x : Nat) : Nat × Option Nat × Option Nat :=
  ((List.range 18).reverse).foldl (fun (a : Nat × Option Nat × Option Nat) d =>
    if bit mask d && bit (Nat.xor a.1 x) d then (nb a.1 d, some a.1, some d) else a) (leader, none, none)

/-- The parent of a member of group `i`, and the dimension to it. -/
def State.parentOf (s : State) (i x : Nat) : Option Nat × Option Nat :=
  (treeWalk s.neighbour (s.f F.MG_MASK_VALUE i) (s.f F.MG_LEADER_VALUE i) x).2

/-- MG_TREE as R456 computes it. -/
def State.treeWord (s : State) (i : Nat) : Nat :=
  let mask := s.f F.MG_MASK_VALUE i
  match (s.parentOf i s.own).2 with
  | some d => d * 2 ^ 24 + mask % 2 ^ d
  | none => 0x1F * 2 ^ 24 + mask

/-- The children of this member, in child order, which is that of the descending dimensions. -/
def State.children (s : State) (i : Nat) : List Nat :=
  ((List.range 18).reverse.filter (fun d => bit (s.f F.MG_TREE_CHILDREN i) d)).map (fun d => s.neighbour s.own d)

/-- The instance after `n`; 0 never names one (R458). -/
def nextIseq (n : Nat) : Nat := if n = 0xFFFFFFFF then 1 else n + 1

/-- The open instance, or the one to open. -/
def State.iseq (s : State) (i : Nat) : Nat := nextIseq (s.rr .MG_SEQ i)

/-- An instance is open: ENTERED to DONE. -/
def State.mgOpen (s : State) (i : Nat) : Bool := let p := s.f F.MG_STAT_PHASE i; 1 ≤ p && p ≤ 5

/-- The descriptor hash that MG_HASH shows. -/
def State.mgHash (s : State) (i : Nat) : Nat := s.pair .MG_HASH_LO .MG_HASH_HI i

/-! ### Control frames (R466) -/

/-- The payload of a control frame. -/
def musterPayload (kind : Nat) (m : MusterMsg) : List Byte :=
  beBytes 4 m.group ++ beBytes 4 m.iseq ++ [BitVec.ofNat 8 kind, BitVec.ofNat 8 m.status] ++ beBytes 2 0 ++ beBytes 4 m.fault ++
    beBytes 8 m.hash ++ beBytes 8 m.deadline ++ beBytes 8 m.fhash

/-- The message that a delivered frame carries. -/
def musterMsgOf (f : Frame) : MusterMsg :=
  let p := f.payload
  { src := f.src, mask := f.mask, group := beAt p 0 4, iseq := beAt p 4 4, status := beAt p 9 1, fault := beAt p 12 4 % 2 ^ 18, hash := beAt p 16 8
    deadline := beAt p 24 8, fhash := beAt p 32 8 }

/-- A message of this member about instance `iseq`. -/
def State.ownMsg (s : State) (i iseq status fault : Nat) : MusterMsg :=
  { src := s.own, group := s.rr .MG_GROUP i, iseq := iseq, status := status, fault := fault }

/-- A control frame sent: to one member, or as a multicast of the leader to the rest of its group. It takes the policer's bytes, in advance
when there are none (R466, log 31). -/
def State.sendMuster (s : State) (i kind : Nat) (m : MusterMsg) (dst : Option Nat) : State :=
  let p := musterPayload kind m
  let mask := if dst.isNone then s.f F.MG_MASK_VALUE i else 0
  let f : Frame :=
    { cls := 0, src := s.own, dst := dst.getD s.own, mid := dst.getD s.own, mask := mask, slice := s.f F.MG_MASK_VALUE i, sq := 0xFE
      len := 40, seq := m.iseq, sent := s.now, pcrc := crc32c p, payload := p }
  let s1 := { s with frt := { s.frt with tokens := s.frt.tokens - 104 } }
  match dst with
  | none => s1.replicate (f.set 0)
  | some _ => s1.route f 1 false

/-! ### Line 0 and line 1 (R459 to R462) -/

/-- The control area of a slot. -/
def State.mgLine (s : State) (i : Nat) : Nat := s.pair .MG_LINE_LO .MG_LINE_HI i

/-- Line 1 written, then the note, PEND and the counters (R462). -/
def State.writeLine1 (s : State) (i iseq : Nat) : State :=
  let ph := s.f F.MG_STAT_PHASE i
  let oc := if ph = 6 then s.f F.MG_STAT_OUTCOME i else 0
  let bs := leBytes 4 iseq ++ [BitVec.ofNat 8 ph, BitVec.ofNat 8 oc, BitVec.ofNat 8 (s.f F.MG_STAT_BROKEN i),
    BitVec.ofNat 8 (s.f F.MG_FAULT_STATUS i)] ++ leBytes 4 (s.f F.MG_FAULT_COORD i) ++ leBytes 4 0 ++ leBytes 8 s.now ++
    List.replicate 40 0#8
  ((s.routerWrite (s.mgLine i + 64) bs).noteTile (s.f F.MG_NOTE_TILE i) (iseq % 2 ^ 16 * 2 ^ 16 + ph * 2 ^ 8 + oc)).sf
    F.MG_CTL_PEND i 1

/-- One word of line 0 as a read finds it (R460): changed since the last read, not 0, and neither the open nor the next instance, it is
counted as stale. -/
def State.badWord (s : State) (i old w : Nat) : State :=
  let cur := s.iseq i
  if w = old ∨ w = 0 ∨ w = cur ∨ (s.mgOpen i ∧ w = nextIseq cur) then s
  else (s.bump .MG_BADWORD i).sf F.MG_STAT_LAST i Status.stale.code

/-- MST reads line 0 (R460): the words it finds are kept. -/
def State.readLine0 (s : State) (i : Nat) : State :=
  let a := s.mgLine i
  if !s.fb F.MG_CTL_EN i || s.placeFenced (placeOf a) then s
  else
    let r := s.readMem a 64 4
    let x := r.1.mg i
    let e := leAt r.2.1 0 4
    let rd := leAt r.2.1 4 4
    let d := leAt r.2.1 8 4
    let b := leAt r.2.1 12 4
    ((((r.1.badWord i x.enter e).badWord i x.ready rd).badWord i x.done d).badWord i x.abort b).setMg i
      { x with enter := e, ready := rd, done := d, abort := b, refused := false }

/-- A change of PHASE: line 1, the note and PEND, and line 0 read again. -/
def State.setPhase (s : State) (i ph : Nat) : State :=
  ((s.sf F.MG_STAT_PHASE i ph).writeLine1 i (s.iseq i)).readLine0 i

/-! ### The end of an instance (R467, R479) -/

/-- The first fault of an instance recorded. -/
def State.mgFault (s : State) (i st coord : Nat) : State :=
  if st = 0 ∨ s.f F.MG_FAULT_STATUS i ≠ 0 then s else s.wr .MG_FAULT i (st * 2 ^ 24 + coord % 2 ^ 18)

/-- Instance `iseq` ends with an outcome. -/
def State.endMuster (s : State) (i outcome fault : Nat) : State :=
  let cur := s.iseq i
  let x := s.mg i
  let s0 := if s.mgOpen i then s else s.wr .MG_FAULT i 0
  let s1 := s0.setMg i { x with
    counted := false, deadline := 0, arrDeadline := none
    held := x.held.filter (fun h => h.msg.iseq != cur)
    arriveSent := false, readySent := false, doneSent := false, queried := false, aborted := false, noticed := false }
  let s2 := ((s1.mgFault i outcome fault).sf F.MG_STAT_OUTCOME i outcome).sf F.MG_STAT_PHASE i 6
  let s3 := (s2.wr .MG_SEQ i cur).writeLine1 i cur
  (if outcome = 0 then s3.bump .MG_COMMITS i else s3.bump .MG_ABORTS i).readLine0 i

/-- The leader decides: DECIDE to the group, and to itself at the same instant (R472). -/
def State.decideMuster (s : State) (i st fault : Nat) : State :=
  let cur := s.iseq i
  let s1 := s.setMg i { s.mg i with decision := some (cur, st, fault) }
  (s1.sendMuster i 6 (s1.ownMsg i cur st fault) none).endMuster i st fault

/-- A member asks for an abort (R477); at the leader the request is an event of R473. -/
def State.askAbort (s : State) (i st : Nat) : State :=
  if !s.mgOpen i then s
  else
    let s1 := s.mgFault i st s.own
    if s1.leads i then s1.decideMuster i st s1.own
    else s1.sendMuster i 7 (s1.ownMsg i (s1.iseq i) st s1.own) (some (s1.f F.MG_LEADER_VALUE i))

/-! ### Entry (R459, R463, R464) -/

/-- The format codes of R179. -/
def formatCodes : List Nat := [0, 1, 2, 3, 4, 5, 6, 8, 9, 0xC, 0xD, 0xF]

/-- The limits of the descriptor in line 0. -/
def State.descLegal (s : State) (i : Nat) (l : List Byte) : Bool :=
  let op := leAt l 16 1
  let ty := leAt l 17 1
  let rop := leAt l 18 1
  let sty := leAt l 19 1
  let nar := leAt l 20 1
  let cnt := leAt l 24 4
  let root := leAt l 28 4
  let red := op == 3 || op == 4 || op == 6
  let fl := ty == 0xC || ty == 8 || ty == 9
  decide (1 ≤ op) && decide (op ≤ 7) &&
    (if op = 1 then ty == 0 else if red then fl || ty == 0xD || ty == 0xF else formatCodes.contains ty) &&
    (if red then decide (rop ≤ 2) && (ty != 0xF || rop == 0) else rop == 0) &&
    (sty == 0 || (sty == 1 && op == 7)) &&
    (nar == 0xFF || ((nar == 3 || nar == 5 || nar == 6) && red && fl)) &&
    (op != 1 || cnt == 1) &&
    (if op = 2 ∨ op = 3 then decide (root < 2 ^ 18) && sameSlice (s.f F.MG_MASK_VALUE i) root s.own else root == 0) &&
    leAt l 32 8 != 0 && (slice l 21 3).all (· == 0#8) && (slice l 48 16).all (· == 0#8)

/-- The 32-byte record whose digest gives the descriptor hash (R463). -/
def State.descRecord (s : State) (i : Nat) (l : List Byte) : List Byte :=
  beBytes 4 (s.rr .MG_GROUP i) ++ beBytes 4 (s.iseq i) ++ slice l 16 5 ++ beBytes 3 0 ++ beBytes 4 (leAt l 24 4) ++
    beBytes 4 (leAt l 28 4) ++ beBytes 8 (leAt l 40 8)

/-- A fabric port is UP. -/
def State.anyPortUp (s : State) : Bool := (List.range 20).any (fun p => s.f F.FPT_STAT_STATE p == 5)

/-- ENTER acts (R464): refused, ended under R22, or opened. -/
def State.enter (s : State) (i : Nat) : State :=
  let r := s.readMem (s.mgLine i) 64 4
  let l := r.2.1
  let bad := !s.descLegal i l
  if s.fb F.MG_STAT_BROKEN i ∨ (!bad ∧ s.f F.MG_MASK_VALUE i ≠ 0 ∧ !s.anyPortUp) then
    (r.1.sf F.MG_STAT_LAST i Status.unreachable.code).setMg i { r.1.mg i with refused := true }
  else
    let h := beNat ((sm3 (s.descRecord i l)).take 8)
    let s1 := (r.1.setPair .MG_HASH_LO .MG_HASH_HI i h).wr .MG_FAULT i 0
    let s2 := s1.setMg i { s1.mg i with counted := leAt l 19 1 == 1, deadline := leAt l 32 8 }
    if bad then (s2.setPhase i 1).askAbort i Status.bounds.code
    else if leAt l 24 4 = 0 then s2.endMuster i 0 0
    else s2.setPhase i 1

/-! ### What a slot does next -/

/-- The held frame of one KIND from one member for the open instance. -/
def State.heldFrom (s : State) (i kind src : Nat) : Option MusterMsg :=
  ((s.mg i).held.find? (fun h => h.kind == kind && h.msg.iseq == s.iseq i && h.msg.src == src)).map (·.msg)

/-- A held frame of one KIND for the open instance, from anyone. -/
def State.heldAny (s : State) (i kind : Nat) : Option MusterMsg :=
  ((s.mg i).held.find? (fun h => h.kind == kind && h.msg.iseq == s.iseq i)).map (·.msg)

/-- Every child's frame of a KIND is here. -/
def State.allHeld (s : State) (i kind : Nat) : Bool := (s.children i).all (fun c => (s.heldFrom i kind c).isSome)

/-- The disagreement a member reports (R468): FAULT and FHASH; none when all agree. -/
def State.disagreement (s : State) (i : Nat) : Option (Nat × Nat) :=
  let ms := (s.children i).filterMap (s.heldFrom i 1)
  match ms.find? (fun m => m.status == Status.mismatch.code) with
  | some m => some (m.fault, m.fhash)
  | none => (ms.find? (fun m => m.hash != s.mgHash i)).map (fun m => (m.src, m.hash))

/-- The leader's FAULT for a disagreement (R469). -/
def State.resolveFault (s : State) (i : Nat) (d : Nat × Nat) : Nat :=
  if d.2 = s.mgHash i then ((s.parentOf i d.1).1).getD d.1 else d.1

/-- What a slot does of its own accord now (R460, R467, R470, R472); none when nothing applies. -/
def State.mgNext (s : State) (i : Nat) : Option State :=
  let x := s.mg i
  let cur := s.iseq i
  let ph := s.f F.MG_STAT_PHASE i
  let lead := s.leads i
  let up := (s.parentOf i s.own).1
  if !s.fb F.MG_CTL_EN i then none
  else if s.mgOpen i then
    if lead ∧ ph = 1 ∧ s.allHeld i 1 ∧ (s.disagreement i).isSome then
      some (s.decideMuster i Status.mismatch.code (s.resolveFault i ((s.disagreement i).getD (0, 0))))
    else if lead ∧ (s.heldAny i 7).isSome then
      match s.heldAny i 7 with
      | some m => some (s.decideMuster i m.status m.fault)
      | none => none
    else if x.abort = cur ∧ !x.aborted then
      some ((s.setMg i { x with aborted := true }).askAbort i Status.musterAbort.code)
    else if !lead ∧ (s.heldAny i 6).isSome then
      match s.heldAny i 6 with
      | some m => some (s.endMuster i m.status m.fault)
      | none => none
    else
      match ph with
      | 1 =>
        if lead then
          if s.allHeld i 1 then some ((s.sendMuster i 2 (s.ownMsg i cur 0 0) none).setPhase i 2) else none
        else if s.allHeld i 1 && !x.arriveSent then
          let s1 := s.setMg i { x with arriveSent := true }
          let m := match s.disagreement i with
            | none => s.ownMsg i cur 0 s.own
            | some d => { s.ownMsg i cur Status.mismatch.code d.1 with fhash := d.2 }
          some (s1.sendMuster i 1 { m with hash := s.mgHash i, deadline := x.deadline } up)
        else if (s.heldAny i 2).isSome then some (s.setPhase i 2)
        else none
      | 2 =>
        if x.counted then (if x.ready = cur then some (s.setPhase i 3) else none)
        else if x.done = cur then some (s.setPhase i 5)
        else none
      | 3 =>
        if lead then
          if s.allHeld i 3 then some ((s.sendMuster i 4 (s.ownMsg i cur 0 0) none).setPhase i 4) else none
        else if s.allHeld i 3 && !x.readySent then
          some ((s.setMg i { x with readySent := true }).sendMuster i 3 (s.ownMsg i cur 0 0) up)
        else if (s.heldAny i 4).isSome then some (s.setPhase i 4)
        else none
      | 4 => if x.done = cur then some (s.setPhase i 5) else none
      | _ =>
        if lead then
          if s.allHeld i 5 && decide (s.now ≤ x.deadline) then some (s.decideMuster i 0 0) else none
        else if s.allHeld i 5 && !x.doneSent then
          some ((s.setMg i { x with doneSent := true }).sendMuster i 5 (s.ownMsg i cur 0 0) up)
        else none
  else
    match s.heldAny i 6 with
    | some m => if lead then none else some (s.endMuster i m.status m.fault)
    | none => if x.enter = cur ∧ !x.refused then some (s.enter i) else none

/-- What a slot does until nothing more applies; the first argument bounds the number of its acts. -/
def State.mgRun : Nat → State → Nat → State
  | 0, s, _ => s
  | n + 1, s, i =>
    match s.mgNext i with
    | some s1 => State.mgRun n s1 i
    | none => s

/-- The acts of one slot: an instance has fewer than 16, and one more may follow it. -/
def State.mgSettle (s : State) (i : Nat) : State := State.mgRun 32 s i

/-! ### A control frame arrives (R470, R471, R475, R478) -/

/-- The enabled slot of a GROUP. -/
def State.groupSlot (s : State) (group : Nat) : Option Nat :=
  (List.range 64).find? (fun i => s.fb F.MG_CTL_EN i && s.rr .MG_GROUP i == group)

/-- A frame discarded. -/
def State.stray (s : State) : State := s.bump .MST_STRAY

/-- A frame held until it applies; a second of one KIND from one member for one instance is discarded. -/
def State.hold (s : State) (i kind : Nat) (m : MusterMsg) : State :=
  let x := s.mg i
  if x.held.any (fun h => h.kind == kind && h.msg.iseq == m.iseq && h.msg.src == m.src) then s.stray
  else s.setMg i { x with held := x.held ++ [⟨kind, m⟩] }

/-- A control frame for a slot. -/
def State.slotFrame (s : State) (i kind : Nat) (m : MusterMsg) : State :=
  let cur := s.iseq i
  let known := m.iseq == cur || (s.mgOpen i && m.iseq == nextIseq cur)
  let lead := s.leads i
  match kind with
  | 8 =>
    match (s.mg i).decision with
    | some d =>
      if lead ∧ d.1 = m.iseq then s.sendMuster i 6 (s.ownMsg i d.1 d.2.1 d.2.2) (some m.src)
      else if lead ∧ known then s else s.stray
    | none => if lead ∧ known then s else s.stray
  | 7 =>
    if !lead then s.stray
    else if known then (s.hold i 7 m).mgSettle i
    else if ((s.mg i).decision.map (·.1)) = some m.iseq then s.bump .MG_BADWORD i
    else s.stray
  | 1 | 3 | 5 =>
    if known && (s.children i).contains m.src then
      let s1 := s.hold i kind m
      let x := s1.mg i
      let s2 := if kind = 1 ∧ lead ∧ !s.mgOpen i ∧ x.arrDeadline.isNone then s1.setMg i { x with arrDeadline := some m.deadline } else s1
      s2.mgSettle i
    else s.stray
  | 2 | 4 | 6 => if known && !lead then (s.hold i kind m).mgSettle i else s.stray
  | _ => s.stray

/-- A control frame of one KIND for whatever slot its GROUP names (R471). -/
def State.musterMsg (s : State) (kind : Nat) (m : MusterMsg) : State :=
  match s.groupSlot m.group with
  | some i => s.slotFrame i kind m
  | none =>
    (s.bump .MST_NOGROUP).notify
      { src := m.src, dst := s.own, sq := 0xFE, seq := m.iseq } .badHandle m.mask

/-! ### Notices for muster frames (R472, R476, R477) -/

/-- A notice as it bears on one slot: at the leader, for a copy of its GO or GO2 while the instance is open, for its DECIDE afterwards; at
a member, for its ARRIVE, READY or DONE. -/
def State.slotNotice (s : State) (i : Nat) (n : MusterNotice) : State :=
  let x := s.mg i
  if !s.fb F.MG_CTL_EN i then s
  else if s.leads i then
    if n.mask = 0 then s
    else if s.mgOpen i ∧ n.seq = s.iseq i then s.decideMuster i Status.unreachable.code n.dst
    else if (x.decision.map (·.1)) = some n.seq then
      (s.sf F.MG_STAT_BROKEN i 1).wr .MG_FAULT i (Status.unreachable.code * 2 ^ 24 + n.dst % 2 ^ 18)
    else s
  else if s.mgOpen i ∧ n.seq = s.iseq i ∧ n.mask = 0 ∧ (s.parentOf i s.own).1 = some n.dst ∧ !x.noticed ∧
      (x.arriveSent ∨ x.readySent ∨ x.doneSent) then
    (s.setMg i { x with noticed := true }).askAbort i n.status
  else s

/-- A notice whose SQ is 0xFE, at every slot that it bears on (log 32). -/
def State.musterNotice (s : State) (n : MusterNotice) : State :=
  (List.range 64).foldl (fun a i => (a.slotNotice i n).mgSettle i) s

/-! ### What the router has delivered -/

/-- One frame delivered to MST acted on. -/
def State.mstFrame (s : State) (f : Frame) : State :=
  if f.flag 4 then s.musterNotice ⟨f.seq, f.mask, f.mid, f.status, f.src⟩
  else if f.len ≠ 40 then s.stray
  else s.musterMsg (beAt f.payload 8 1) (musterMsgOf f)

/-- The frames delivered to MST, oldest first; the first argument bounds their number. -/
def State.mstRun : Nat → State → State
  | 0, s => s
  | n + 1, s =>
    match s.mst.inbox with
    | [] => s
    | f :: rest => State.mstRun n (({ s with mst := { s.mst with inbox := rest } }).mstFrame f)

/-- MST acts on all that has been delivered to it within the step. -/
def State.settleMst (s : State) : State := State.mstRun 64 s

/-- Every open instance asks for an abort with FENCED (R477, R613). -/
def State.abortMusters (s : State) : State :=
  (((List.range 64).foldl (fun a i => if a.fb F.MG_CTL_EN i then (a.askAbort i Status.fenced.code).mgSettle i else a) s)).settleMst

end Sys2Proof.Machine
end

