-- ==== Sys2Proof/Machine/LinkOps.lean ====
section
/-! DEFINITION. The fabric ports (spec/10): states, departures and arrivals, the choice of lanes, the hello exchange, takeover. -/

namespace Sys2Proof.Machine

/-! ### States (R395, R401) -/

/-- The codes of R395. -/
def PortState.code : PortState → Nat
  | .off => 0 | .seek => 1 | .train => 2 | .check => 3 | .hello => 4 | .up => 5 | .standby => 6 | .quarantine => 7 | .failed => 8

/-- A port is in a state. -/
def State.inState (s : State) (p : Nat) (st : PortState) : Bool := s.f F.FPT_STAT_STATE p == st.code

/-- Light and neighbour are tried: UP, STANDBY or QUARANTINE. -/
def State.linked (s : State) (p : Nat) : Bool := s.inState p .up || s.inState p .standby || s.inState p .quarantine

/-- The status of an UP port (R401). -/
def State.widthStatus (s : State) (p : Nat) : Nat :=
  if s.f F.FPT_STAT_RXMASK p = 0xFF ∧ s.f F.FPT_STAT_TXMASK p = 0xFF then Status.ok.code else Status.degraded.code

/-- A port's state set, with the STATUS that goes with it; QUARANTINE's is set by its cause. -/
def State.setPst (s : State) (p : Nat) (st : PortState) : State :=
  let s1 := s.sf F.FPT_STAT_STATE p st.code
  match st with
  | .up => s1.sf F.FPT_STAT_STATUS p (s1.widthStatus p)
  | .quarantine => s1
  | .off | .seek | .train | .check | .failed => ((s1.sf F.FPT_STAT_RXMASK p 0).sf F.FPT_STAT_TXMASK p 0).sf F.FPT_STAT_STATUS p Status.unreachable.code
  | _ => s1.sf F.FPT_STAT_STATUS p Status.unreachable.code

/-- A bit of FPT_EVENT set: 0 ARRIVE, 1 DEPART, 2 QUAR, 3 TAKEOVER, 4 AUDIT, 5 FAIL. -/
def State.portEvent (s : State) (p b : Nat) : State := s.wr .FPT_EVENT p (Nat.lor (s.rr .FPT_EVENT p) (2 ^ b))

/-- The lowest port in STANDBY for a dimension. -/
def State.standbyFor (s : State) (d : Nat) : Nat :=
  ((List.range 20).find? (fun p => s.inState p .standby && s.f F.FPT_MAP_DIM p == d)).getD 0x1F

/-- FPT_DIM after port `p` has left UP or STANDBY. -/
def State.leaveDims (s : State) (p : Nat) : State :=
  (List.range 18).foldl (fun a d =>
    let a1 := if a.f F.FPT_DIM_CARRY d = p then a.sf F.FPT_DIM_CARRY d 0x1F else a
    if a1.f F.FPT_DIM_GUARD d = p then a1.sf F.FPT_DIM_GUARD d (a1.standbyFor d) else a1) s

/-! ### Link control messages (R402, R403) -/

/-- The header of a message of the package. -/
def linkHeader (type : Nat) : List Byte :=
  beBytes 2 0x484C ++ [Config.protoMajor, Config.protoMinor, BitVec.ofNat 8 type] ++ beBytes 3 0

/-- A message of the package that is its header alone. -/
def State.sendLink (s : State) (p type : Nat) : State := s.send (.link p (linkHeader type))

/-- A received message's header has the MAGIC and the TYPE of R402. -/
def linkOk (m : List Byte) (type : Nat) : Bool := beAt m 0 2 == 0x484C && beAt m 4 1 == type

/-- Bytes 0 to 87 of a HELLO of the package. -/
def State.helloBody (s : State) (p : Nat) : List Byte :=
  let x := s.port p
  linkHeader 1 ++ beBytes 8 (s.pair .IDT_SERIAL_LO .IDT_SERIAL_HI) ++ beBytes 4 (s.rr .FPT_MACHINE) ++ beBytes 4 s.own ++
    [BitVec.ofNat 8 p, BitVec.ofNat 8 (s.f F.FPT_MAP_DIM p), BitVec.ofNat 8 (s.f F.FPT_MAP_ROLE p),
      BitVec.ofNat 8 (b2n (s.inState p .up || s.inState p .standby))] ++
    beBytes 4 (s.rr .IDT_FW) ++ beBytes 8 x.nonce.toNat ++ beBytes 8 x.peerNonce.toNat ++ beBytes 8 s.now ++
    sm3 (Config.leafCert Config.deviceCert)

/-! ### Arrivals and departures (R398, R414, R416, R417) -/

/-- The exchange and the counters of a link begun anew. -/
def Port.fresh (x : Port) : Port :=
  { x with sentEcho := false, gotEcho := false, passing := false, peer := none, rehello := false, misses := 0, takeover := false
           widthPend := none, draining := false, toSeek := false, asking := false, resends := 0, peerNonce := 0 }

/-- A port leaves its state for `next` with a reason (R396, R417). From UP: the event, the count and the notice, the error line unless the
reason is ADMIN or PEER_LEFT (R398), its frames back to the router (R393), and a takeover by the port in STANDBY (R414). `line` raises the
error line from the other states too. -/
def State.depart (s : State) (p : Nat) (next : PortState) (reason : Nat) (line : Bool) : State :=
  let was := s.inState p .up
  let dim := s.f F.FPT_MAP_DIM p
  let s1 := ((s.setPst p next).leaveDims p).setPort p (s.port p).fresh
  if !was then
    let s2 := s1.sf F.FPT_STAT_REASON p reason
    if line then s2.raise 14 p ((if next = .quarantine then (if reason = 8 then Status.denied else .mismatch) else .unreachable)) else s2
  else
    let s2 := (((s1.sf F.FPT_STAT_REASON p reason).portEvent p 1).bump .FPT_DEPARTS p).send (.notice 3 p)
    let quiet := reason = 1 ∨ reason = 2
    let s3 := if quiet then s2
      else s2.raise 14 p (if next = .quarantine then (if reason = 8 then Status.denied else .mismatch) else .unreachable)
    let s4 := s3.handBack p
    let g := s4.f F.FPT_DIM_GUARD dim
    if quiet ∨ 20 ≤ g then s4 else (s4.setPort g { s4.port g with takeover := true }).sendLink g 4

/-- A port arrives at UP (R396, R399, R417). -/
def State.arriveUp (s : State) (p : Nat) : State :=
  let d := s.f F.FPT_MAP_DIM p
  let x := s.port p
  let serial := (x.peer.map (·.serial)).getD 0
  let s1 := s.setPort p { x with takeover := false, saved := if x.fullTrain ∨ x.saved ≠ some serial then some serial else x.saved }
  let s2 := ((s1.setPst p .up).leaveDims p).sf F.FPT_DIM_CARRY d p
  (s2.portEvent p 0).send (.notice 2 p)

/-- A port in STANDBY takes over its dimension. -/
def State.takeOver (s : State) (p : Nat) : State := (s.arriveUp p).portEvent p 3

/-- Every condition of OFF in R395 is removed; ports leave OFF from step 5 of the start on, with the rails on (R557, R560). -/
def State.mayLeaveOff (s : State) (p : Nat) : Bool :=
  s.fb F.FPT_CTL_ADMIN p && s.fb F.FPT_COORD_SET && s.f F.FPT_MAP_ROLE p != 0 && s.tmb.refclk && s.boot.rails

/-- A port leaves OFF when it may. -/
def State.leaveOff (s : State) (p : Nat) : State := if s.inState p .off && s.mayLeaveOff p then s.setPst p .seek else s

def State.leaveOffAll (s : State) : State := (List.range 20).foldl (fun a p => a.leaveOff p) s

/-- The drain of R416 has ended, or there was nothing to drain: GOODBYE, lasers off, and SEEK under a new map entry if one was written. -/
def State.goOff (s : State) (p : Nat) : State :=
  let x := s.port p
  let s1 := if s.linked p then s.sendLink p 3 else s
  let s2 := s1.depart p .off 1 false
  if x.toSeek then s2.leaveOff p else s2

/-- A port taken off by ADMIN (R416); an UP port drains first. -/
def State.adminOff (s : State) (p : Nat) (toSeek : Bool) : State :=
  let x := s.port p
  if s.inState p .up && !x.replay.isEmpty then s.setPort p { x with draining := true, toSeek := toSeek }
  else (s.setPort p { x with toSeek := toSeek }).goOff p

/-- Training begins (R396, R399): full when asked for or when no settings are saved. -/
def State.startTraining (s : State) (p : Nat) (full : Bool) : State :=
  let x := s.port p
  let f := full || x.saved.isNone || s.fb F.FPT_CTL_RETRAIN p
  ((s.setPort p { x.fresh with fullTrain := f }).sf F.FPT_CTL_RETRAIN p 0).setPst p .train

/-- A port leaves UP, STANDBY or QUARANTINE to retrain. -/
def State.retrainFrom (s : State) (p reason : Nat) (full : Bool) : State := (s.depart p .train reason false).startTraining p full

/-! ### Lanes (R400) -/

/-- The lowest-numbered 8, 4 or 2 lanes of those that passed; 0 when fewer than 2. -/
def chooseLanes (pass : Nat) : Nat :=
  let l := (List.range 8).filter (fun i => bit pass i)
  let n := if l.length = 8 then 8 else if 4 ≤ l.length then 4 else if 2 ≤ l.length then 2 else 0
  (l.take n).foldl (fun a i => a + 2 ^ i) 0

/-- The lanes whose errors divided by the bits do not exceed 10^-exp. -/
def lanesWithin (errors : List Nat) (bits exp : Nat) : Nat :=
  (List.range 8).foldl (fun a i => if errors.getD i 0 * 10 ^ exp ≤ bits then a + 2 ^ i else a) 0

/-- The window of a check or an audit shown. -/
def State.showErrors (s : State) (p : Nat) (errors : List Nat) (bits : Nat) : State :=
  (List.range 8).foldl (fun a l => a.wr .FPT_LERR (p * 8 + l) (min (errors.getD l 0) 0xFFFFFFFF))
    (s.setPair .FPT_LWIN_LO .FPT_LWIN_HI p bits)

/-! ### The hello exchange (R404 to R408, R413) -/

/-- The first failing rule of R406, and R408's for a present neighbour, in the order of R21. -/
def State.helloStatus (s : State) (p : Nat) (m : List Byte) : Status :=
  let x := s.port p
  let dim := s.f F.FPT_MAP_DIM p
  let changed := match x.peer with
    | some n => x.rehello && (beAt m 8 8 != n.serial.toNat || beAt m 20 4 % 2 ^ 18 != n.coord || beAt m 25 1 != n.dim ||
        beAt m 26 1 != n.role)
    | none => false
  firstStatus
    [(!(Config.sm2Verifies x.cert (m.take 88) (slice m 88 64) && sm3 (Config.leafCert x.cert) == slice m 56 32), .denied),
     (beAt m 16 4 != s.rr .FPT_MACHINE || beAt m 2 1 != Config.protoMajor.toNat ||
        beAt m 8 8 == s.pair .IDT_SERIAL_LO .IDT_SERIAL_HI || beAt m 25 1 != dim || beAt m 26 1 != s.f F.FPT_MAP_ROLE p ||
        beAt m 20 4 % 2 ^ 18 != s.neighbour s.own dim || changed, .mismatch)]

/-- The exchange is complete at this end: UP, STANDBY, or as before a re-hello (R396, R413, R415). -/
def State.exchangeDone (s : State) (p : Nat) : State :=
  let x := s.port p
  let s1 := s.setPort p { x with rehello := false, misses := 0, passing := false }
  if s1.inState p .up ∨ s1.inState p .standby then s1
  else
    let d := s1.f F.FPT_MAP_DIM p
    if s1.f F.FPT_MAP_ROLE p = 1 ∧ 20 ≤ s1.f F.FPT_DIM_CARRY d then s1.arriveUp p
    else
      let s2 := s1.setPst p .standby
      if 20 ≤ s2.f F.FPT_DIM_GUARD d then s2.sf F.FPT_DIM_GUARD d p else s2

/-- The exchange ends when both its conditions hold (R404). -/
def State.tryDone (s : State) (p : Nat) : State :=
  let x := s.port p
  if x.sentEcho && x.gotEcho && (s.inState p .hello || s.inState p .quarantine || x.rehello) then s.exchangeDone p else s

/-- A hello fails under R406: QUARANTINE with its status as the reason, the event and the error line. -/
def State.helloFails (s : State) (p : Nat) (st : Status) : State :=
  let s0 := s.bump .FPT_HELLOFAIL p
  if s0.inState p .quarantine then s0
  else
    let s1 := s0.depart p .quarantine (if st = .denied then 8 else 7) true
    (s1.sf F.FPT_STAT_STATUS p st.code).portEvent p 2

/-- A HELLO that echoes the port's own NONCE and passes (R407). -/
def State.helloPasses (s : State) (p : Nat) (m : List Byte) : State :=
  let x := s.port p
  let s1 := ((s.setPair .FPT_PEER_SERIAL_LO .FPT_PEER_SERIAL_HI p (beAt m 8 8)).wr .FPT_PEER_FW p (beAt m 28 4)).setPair
    .FPT_HELLO_T_LO .FPT_HELLO_T_HI p s.now
  let s2 := s1.wr .FPT_PEER_PROTO p (beAt m 2 1 * 2 ^ 8 + min (beAt m 3 1) Config.protoMinor.toNat)
  (s2.setPort p { x with
    gotEcho := true, passing := true
    peer := some ⟨BitVec.ofNat 64 (beAt m 8 8), beAt m 20 4 % 2 ^ 18, beAt m 25 1, beAt m 26 1⟩ }).tryDone p

/-- A fresh exchange: a new NONCE (R404, R408). -/
def State.newExchange (s : State) (p : Nat) (re : Bool) : State :=
  let x := s.port p
  (s.setPort p { x with nonce := Config.nonce s.free, sentEcho := false, gotEcho := false, rehello := re }).take

end Sys2Proof.Machine
end

