-- ==== Sys2Proof/Machine/Links.lean ====
section
/-! DEFINITION. The commands of the fabric ports (R389 to R418). -/

namespace Sys2Proof.Machine

/-! ### Light, training and the check -/

/-- Light on receive lanes. -/
def execLightDetect (port : Fin 20) (lanes : BitVec 8) (s : State) : Host.Outcome State Fault Refusal :=
  let s1 := s.sf F.FPT_LANE_ST_SIGNAL port lanes.toNat
  if s1.inState port .seek && decide (2 ≤ popCount 8 lanes.toNat) then .next (s1.startTraining port false) else .next s1

/-- Training complete. -/
def execTrainDone (port : Fin 20) (s : State) : Host.Outcome State Fault Refusal :=
  .next (if s.inState port .train then s.setPst port .check else s)

/-- A check that passes: HELLO, with the lanes of R400, a fresh NONCE and one CERT (R404). -/
def State.checkPasses (s : State) (p rx tx : Nat) : State :=
  let x := s.port p
  let s1 := s.setPort p { x.fresh with fails := 0, cert := [] }
  let s2 := ((s1.sf F.FPT_STAT_RXMASK p rx).sf F.FPT_STAT_TXMASK p tx).setPst p .hello
  (s2.newExchange p false).send (.link p (linkHeader 2 ++ Config.deviceCert))

/-- A check that fails. -/
def State.checkFails (s : State) (p : Nat) : State :=
  let x := s.port p
  if !x.fullTrain then s.startTraining p true
  else
    let s1 := s.setPort p { x with fails := x.fails + 1 }
    if x.fails + 1 < 3 then s1.startTraining p true
    else (((s1.setPst p .failed).sf F.FPT_STAT_REASON p 9).portEvent p 5).raise 14 p .unreachable

/-- The check ends (R400): the errors of each receive lane in 1.12 × 10^11 bits, and the lanes that passed at the far end. A full training
counts when its check ends (R396). -/
def execLinkCheckDone (port : Fin 20) (errors : List Nat) (peerPass : BitVec 8) (s : State) : Host.Outcome State Fault Refusal :=
  if !s.inState port .check then .next s
  else
    let bits := 112000000000
    let pass := lanesWithin errors bits (s.f F.FPT_THRESH_CHECK_EXP)
    let s1 := (s.showErrors port errors bits).sf F.FPT_LANE_ST_FAILMASK port (0xFF - pass)
    let s2 := if (s.port port).fullTrain then s1.bump .FPT_TRAINS port else s1
    let rx := chooseLanes pass
    let tx := chooseLanes peerPass.toNat
    if rx = 0 ∨ tx = 0 then .next (s2.checkFails port) else .next (s2.checkPasses port rx tx)

/-! ### The hello exchange -/

/-- CERT received (R404). -/
def execCertRx (port : Fin 20) (msg : List Byte) (s : State) : Host.Outcome State Fault Refusal :=
  if !linkOk msg 2 then .next (s.bump .FPT_STALEHELLO port)
  else if s.inState port .hello || s.linked port then .next (s.setPort port { s.port port with cert := msg.drop 8 })
  else .next s

/-- A HELLO sent (R403, R404): during an exchange, or to answer the neighbour's. -/
def execHelloTx (port : Fin 20) (s : State) : Host.Outcome State Fault Refusal :=
  let p := port.val
  let x := s.port p
  if s.inState p .hello || s.linked p then
    let b := s.helloBody p
    let s1 := s.send (.link p (b ++ fitBytes 64 (Config.sm2Sign b)))
    .next ((s1.setPort p { x with sentEcho := x.sentEcho || x.peerNonce != 0 }).tryDone p)
  else .next s

/-- A HELLO received (R405 to R408). -/
def execHelloRx (port : Fin 20) (msg : List Byte) (s : State) : Host.Outcome State Fault Refusal :=
  let p := port.val
  if !(s.inState p .hello || s.linked p) then .next s
  else
    let x := s.port p
    let echo := beAt msg 40 8
    if !linkOk msg 1 || msg.length != 152 || (echo != 0 && echo != x.nonce.toNat) then .next (s.bump .FPT_STALEHELLO p)
    else
      let n := BitVec.ofNat 64 (beAt msg 32 8)
      let s1 := s.setPort p { x with peerNonce := n, sentEcho := x.sentEcho && x.peerNonce == n }
      let s2 := s1.wr .FPT_PEER_COORD p
        (beAt msg 24 1 % 32 * 2 ^ 23 + beAt msg 25 1 % 32 * 2 ^ 18 + beAt msg 20 4 % 2 ^ 18)
      if echo = 0 then .next s2
      else
        match s2.helloStatus p msg with
        | .ok => .next (s2.helloPasses p msg).settleMst
        | st => .next (s2.helloFails p st).settleMst

/-- No valid hello within 2 s. -/
def execHelloTimeout (port : Fin 20) (s : State) : Host.Outcome State Fault Refusal :=
  .next (if s.inState port .hello then ((s.bump .FPT_HELLOFAIL port).setPst port .seek).setPort port (s.port port).fresh else s)

/-- A re-hello begins (R408). -/
def execRehelloStart (port : Fin 20) (s : State) : Host.Outcome State Fault Refusal :=
  .next (if s.linked port then s.newExchange port true else s)

/-- A re-hello has had no valid reply within 3 s: it is repeated; the third miss in a row takes the port to SEEK. -/
def execRehelloTimeout (port : Fin 20) (s : State) : Host.Outcome State Fault Refusal :=
  let p := port.val
  let x := s.port p
  if !(s.linked p && x.rehello) then .next s
  else if x.misses + 1 < 3 ∨ s.inState p .quarantine then
    .next ((s.setPort p { x with misses := x.misses + 1 }).newExchange p true)
  else .next (s.depart p .seek 6 false).settleMst

/-! ### Departures -/

/-- Light lost for 10 µs on receive lanes. -/
def execLightLoss (port : Fin 20) (lanes : BitVec 8) (s : State) : Host.Outcome State Fault Refusal :=
  let p := port.val
  let s1 := s.sf F.FPT_LANE_ST_SIGNAL p (Nat.land (s.f F.FPT_LANE_ST_SIGNAL p) (0xFF - lanes.toNat))
  let lost := Nat.land (s.f F.FPT_STAT_RXMASK p) lanes.toNat
  if !s1.linked p ∨ lost = 0 then .next s1
  else if lost = s.f F.FPT_STAT_RXMASK p then .next (s1.depart p .seek 3 true).settleMst
  else .next (s1.retrainFrom p 3 false).settleMst

/-- GOODBYE received (R397). -/
def execGoodbyeRx (port : Fin 20) (s : State) : Host.Outcome State Fault Refusal :=
  .next (if s.linked port then (s.depart port .seek 2 false).settleMst else s)

/-! ### The replay buffer (R389 to R392) -/

/-- A receiver finds an uncorrectable codeword: a resend is asked for from the first frame discarded. -/
def execUncorrectableCodeword (port : Fin 20) (s : State) : Host.Outcome State Fault Refusal :=
  let s1 := s.bump .FPT_UNCORR port
  if s.inState port .up then
    let x := s1.port port
    .next ((s1.setPort port { x with asking := true }).send (.resend port x.rxSeq))
  else .next s1

/-- The neighbour asks for a resend; the ninth in a row without progress takes the port down (R391). -/
def execResendRequest (port : Fin 20) (seq : BitVec 32) (s : State) : Host.Outcome State Fault Refusal :=
  let p := port.val
  let x := s.port p
  let fs := x.replay.dropWhile (fun f => f.1 != seq)
  if !s.inState p .up || fs.isEmpty then .next s
  else if 8 ≤ x.resends then .next (s.retrainFrom p 4 false).settleMst
  else
    let s1 := s.setPort p { x with resends := x.resends + 1 }
    .next (fs.foldl (fun a f => (a.bwBytes (2 * p) f.2.length).send (.fabric p f.2))
      ((s1.bump .FPT_REPLAY p fs.length).blockEvent 0x12 p fs.length))

/-- The width that waited for a resend to end (R412). -/
def State.applyWidth (s : State) (p : Nat) : State :=
  let x := s.port p
  match x.widthPend with
  | some m =>
    let s1 := (s.setPort p { x with widthPend := none }).sf F.FPT_STAT_TXMASK p m.toNat
    s1.sf F.FPT_STAT_STATUS p (s1.widthStatus p)
  | none => s

/-- The neighbour acknowledges every frame up to `seq`: held frames move up, and a drain that is empty ends. -/
def execLinkAck (port : Fin 20) (seq : BitVec 32) (s : State) : Host.Outcome State Fault Refusal :=
  let p := port.val
  let x := s.port p
  if !s.inState p .up || !x.replay.any (fun f => f.1 == seq) then .next s
  else
    let rest := (x.replay.dropWhile (fun f => f.1 != seq)).drop 1
    let s1 := (s.setPort p { x with replay := rest, resends := 0 }).applyWidth p
    if x.draining ∧ rest.isEmpty then .next (s1.goOff p).settleMst
    else .next (s1.unblock p x.heldBack.length)

/-! ### Registers (R410, R416) -/

/-- FPT_CTL written: ADMIN and RETRAIN act by R396 and R416. -/
def State.fptCtl (s : State) (rq : Requester) (p v : Nat) : State :=
  let s1 := s.writeWord rq false true .FPT_CTL p v
  let a0 := s.fb F.FPT_CTL_ADMIN p
  let a1 := s1.fb F.FPT_CTL_ADMIN p
  let s2 :=
    if a0 && !a1 && !s1.inState p .off then
      let s3 := if s1.inState p .failed then s1.setPort p { s1.port p with fails := 0 } else s1
      s3.adminOff p false
    else if !a0 && a1 then s1.leaveOff p
    else s1
  if s2.fb F.FPT_CTL_RETRAIN p && !s2.inState p .off && !s2.inState p .seek then
    (if s2.inState p .up || s2.linked p then s2.retrainFrom p 0 true else s2.startTraining p true)
  else s2

/-- FPT_CTL written: what follows from a port that leaves. -/
def State.fptCtlWrite (s : State) (rq : Requester) (p v : Nat) : State := (s.fptCtl rq p v).settleMst

/-- Another port has the role primary for a dimension. -/
def State.primaryTaken (s : State) (p d : Nat) : Bool :=
  (List.range 20).any (fun q => q != p && s.f F.FPT_MAP_ROLE q == 1 && s.f F.FPT_MAP_DIM q == d)

/-- FPT_MAP written (R410): the port that the new entry makes. -/
def State.fptMap (s : State) (rq : Requester) (p v : Nat) : State :=
  let role := bits v 9 8
  let dim := bits v 4 0
  let s1 := s.writeWord rq false (role != 3 && decide (dim < 18) && !(role == 1 && s.primaryTaken p dim)) .FPT_MAP p v
  if s1.rr .FPT_MAP p = s.rr .FPT_MAP p then s1
  else if s1.inState p .off then s1.leaveOff p
  else if s1.inState p .hello || s1.linked p then s1.adminOff p true
  else if s1.f F.FPT_MAP_ROLE p = 0 then s1.setPst p .off
  else s1

/-- FPT_MAP written (R410). -/
def State.fptMapWrite (s : State) (rq : Requester) (p v : Nat) : State := (s.fptMap rq p v).settleMst

/-- Some port is not OFF. -/
def State.someOn (s : State) : Bool := (List.range 20).any (fun p => !s.inState p .off)

/-- FPT_COORD written (R410); a change of the coordinate is announced (R540). -/
def State.fptCoordWrite (s : State) (rq : Requester) (v : Nat) : State :=
  let s1 := s.writeUnlessBusy rq true s.someOn .FPT_COORD 0 v
  if s1.resp.status = .ok ∧ rq = .steward (some .installer) then
    let s2 := (s1.sf F.FPT_COORD_SET 0 1).leaveOffAll
    if s2.annCoord = s.annCoord then s2 else s2.announceAll 1
  else s1

/-- FPT_TWIST written (R409, R410); the router derives its topology anew. -/
def State.fptTwistWrite (s : State) (rq : Requester) (d v : Nat) : State :=
  let busy := (List.range 20).any (fun p => s.f F.FPT_MAP_ROLE p != 0 && s.f F.FPT_MAP_DIM p == d && !s.inState p .off)
  (s.writeUnlessBusy rq (Nat.land (v % 2 ^ 18) (crossedMask d) == v % 2 ^ 18) busy .FPT_TWIST d v).deriveTopo

/-- FPT_CTL written with ADMIN 0. -/
def execFptAdminDown (rq : Requester) (port : Fin 20) (s : State) : Host.Outcome State Fault Refusal :=
  let v := putBits (s.rr .FPT_CTL port) 8 0 0
  .next (s.regWrite rq .FPT_CTL port v fun a => a.fptCtlWrite rq port v)

/-- The 1 ms of R416 is over, or the last frame has been acknowledged. -/
def execAdminDrainEnd (port : Fin 20) (s : State) : Host.Outcome State Fault Refusal :=
  .next (if (s.port port).draining then (s.goOff port).settleMst else s)

/-- FPT_CTL written with ADMIN 1. -/
def execFptAdminUp (rq : Requester) (port : Fin 20) (s : State) : Host.Outcome State Fault Refusal :=
  let v := putBits (s.rr .FPT_CTL port) 8 0 1
  .next (s.regWrite rq .FPT_CTL port v fun a => a.fptCtlWrite rq port v)

/-- FPT_CTL written with RETRAIN 1. -/
def execFptRetrain (rq : Requester) (port : Fin 20) (s : State) : Host.Outcome State Fault Refusal :=
  let v := putBits (s.rr .FPT_CTL port) 8 8 1
  .next (s.regWrite rq .FPT_CTL port v fun a => a.fptCtlWrite rq port v)

/-- FPT_MAP written. -/
def execFptMapWrite (rq : Requester) (port : Fin 20) (value : BitVec 32) (s : State) : Host.Outcome State Fault Refusal :=
  .next (s.regWrite rq .FPT_MAP port value.toNat fun a => a.fptMapWrite rq port value.toNat)

/-- FPT_COORD written. -/
def execFptCoordWrite (rq : Requester) (value : BitVec 32) (s : State) : Host.Outcome State Fault Refusal :=
  .next (s.regWrite rq .FPT_COORD 0 value.toNat fun a => a.fptCoordWrite rq value.toNat)

/-- FPT_MACHINE written: refused while any port is not OFF. -/
def execFptMachineWrite (rq : Requester) (value : BitVec 32) (s : State) : Host.Outcome State Fault Refusal :=
  .next (s.regWrite rq .FPT_MACHINE 0 value.toNat fun a => a.writeUnlessBusy rq true a.someOn .FPT_MACHINE 0 value.toNat)

/-- FPT_TWIST of a dimension written. -/
def execFptTwistWrite (rq : Requester) (dim : Fin 18) (value : BitVec 32) (s : State) : Host.Outcome State Fault Refusal :=
  .next (s.regWrite rq .FPT_TWIST dim value.toNat fun a => a.fptTwistWrite rq dim value.toNat)

/-! ### Audits and widths (R411, R412) -/

/-- An audit of an UP port: the errors of each lane in use over `bits` bits, the uncorrectable codewords of the period, and the lanes that
remain at the far end. -/
def execLaneAudit (port : Fin 20) (errors : List Nat) (bits uncorr : Nat) (peerPass : BitVec 8) (s : State) :
    Host.Outcome State Fault Refusal :=
  let p := port.val
  if !s.inState p .up || s.f F.FPT_AUDIT_PERIOD == 0 then .next s
  else
    let within := lanesWithin errors bits (s.f F.FPT_THRESH_AUDIT_EXP)
    let rx0 := s.f F.FPT_STAT_RXMASK p
    let bad := Nat.land rx0 (0xFF - within)
    let s1 := s.showErrors p errors bits
    let s2 := if bad = 0 then s1
      else (s1.sf F.FPT_LANE_ST_FAILMASK p (Nat.lor (s1.f F.FPT_LANE_ST_FAILMASK p) bad)).portEvent p 4
    let rx := if bad = 0 then rx0 else chooseLanes (0xFF - s2.f F.FPT_LANE_ST_FAILMASK p)
    let tx0 := s.f F.FPT_STAT_TXMASK p
    let tx := if Nat.land tx0 peerPass.toNat = tx0 then tx0 else chooseLanes peerPass.toNat
    if s.f F.FPT_AUDIT_UNCORR_MAX < uncorr then .next (s2.retrainFrom p 4 false).settleMst
    else if rx = 0 ∨ tx = 0 then .next (s2.retrainFrom p 5 false).settleMst
    else
      let s3 := if rx = rx0 then s2 else (s2.sf F.FPT_STAT_RXMASK p rx).send (.link p (linkHeader 6 ++ [BitVec.ofNat 8 rx]))
      let x := s3.port p
      let s4 := if tx = tx0 then s3
        else if x.resends = 0 then s3.sf F.FPT_STAT_TXMASK p tx
        else s3.setPort p { x with widthPend := some (BitVec.ofNat 8 tx) }
      .next (s4.sf F.FPT_STAT_STATUS p (s4.widthStatus p))

/-- WIDTH received: the lanes the neighbour wants to hear. A change that falls due during a resend waits. -/
def execWidthRx (port : Fin 20) (mask : BitVec 8) (s : State) : Host.Outcome State Fault Refusal :=
  let p := port.val
  let x := s.port p
  let m := chooseLanes mask.toNat
  if !s.inState p .up || m == 0 then .next s
  else
    let s1 := s.setPort p { x with widthPend := some (BitVec.ofNat 8 m) }
    .next (if x.resends = 0 then s1.applyWidth p else s1)

/-! ### Takeover (R413 to R415) -/

/-- TAKEOVER received: an unanswered TAKEOVER of the port's own makes it the acknowledgement. -/
def execTakeoverRx (port : Fin 20) (s : State) : Host.Outcome State Fault Refusal :=
  let p := port.val
  if !s.inState p .standby then .next s
  else .next (if (s.port p).takeover then s.takeOver p else (s.sendLink p 5).takeOver p)

/-- TAKEOVER_ACK received. -/
def execTakeoverAckRx (port : Fin 20) (s : State) : Host.Outcome State Fault Refusal :=
  .next (if s.inState port .standby && (s.port port).takeover then s.takeOver port else s)

/-- No TAKEOVER_ACK within 1 ms: the dimension stays down. -/
def execTakeoverTimeout (port : Fin 20) (s : State) : Host.Outcome State Fault Refusal :=
  .next (s.setPort port { s.port port with takeover := false })

end Sys2Proof.Machine
end

