-- ==== Sys2Proof/Machine/Counters.lean ====
section
/-! DEFINITION. The commands and events of PRF (spec/20): tallies, bandwidth windows, outriders, and the writes of its registers. -/

namespace Sys2Proof.Machine

/-! ### Rings -/

/-- Records of a PRF ring that software has not consumed. -/
def State.prfHeld (s : State) (wr rd : Reg) : Nat := (s.rr wr + 2 ^ 32 - s.rr rd) % 2 ^ 32

/-- A ring ends within memory. -/
def ringFits (base slot order : Nat) : Bool := inMem base (slot * 2 ^ order)

/-- A consumer index is legal: WR − RD, as a signed difference, is 0 to 2^ORDER. -/
def rdLegal (wr rd order : Nat) : Bool := decide ((wr + 2 ^ 32 - rd % 2 ^ 32) % 2 ^ 32 ≤ 2 ^ order)

/-- A record lost (R657, R658). -/
def State.prfLost (s : State) (r : Reg) : State := (s.bump r).prfEvent 2

/-! ### The tally reader (R658 to R661) -/

/-- The record of a tally. -/
def State.tallyRecord (s : State) : List Byte :=
  let g := s.f F.PRF_TALLY_CTL_GROUPS
  let words (n : Nat) (r : Reg) : List Byte := (List.range n).flatMap (fun i => leBytes 4 (s.rr r i))
  leBytes 8 s.now ++ leBytes 4 s.prf.tallyNo.toNat ++ leBytes 1 g ++ leBytes 1 (s.f F.PRF_CTL_FREEZE) ++ leBytes 50 0 ++
    (if bit g 0 then words 32 .PRF_CNT else []) ++ (if bit g 1 then words 56 .PRF_BW ++ leBytes 32 0 else []) ++
    (if bit g 2 then words 3072 .PRF_TCNT else [])

/-- A tally taken. A periodic one and one on command in the same instant yield one record (R659). -/
def State.tally (s : State) (periodic : Bool) : State :=
  if s.prf.lastTally = some (s.now, !periodic) then s
  else
    let w := s.rr .PRF_TALLY_WR
    let n := 2 ^ s.f F.PRF_TALLY_CTL_ORDER
    let b := s.tallyRecord
    let s1 := { s with prf := { s.prf with tallyNo := s.prf.tallyNo + 1, lastTally := some (s.now, periodic) } }
    if n ≤ s.prfHeld .PRF_TALLY_WR .PRF_TALLY_RD then s1.prfLost .PRF_TALLY_LOST
    else
      let a := s.pair .PRF_TALLY_BASE_LO .PRF_TALLY_BASE_HI + 16384 * (w % n)
      (((s1.writeMem a b false 4).wr .PRF_TALLY_WR 0 ((w + 1) % 2 ^ 32)).prfEvent 1)

/-- PRF_TALLY_CTL written: NOW is refused where there is no ring. -/
def State.tallyCtlWrite (s : State) (rq : Requester) (v : Nat) : State :=
  let order := bits v 3 0
  let base := s.pair .PRF_TALLY_BASE_LO .PRF_TALLY_BASE_HI
  let legal := decide (2 ≤ order) && decide (order ≤ 12) && ringFits base 16384 order && !(bit v 30 && !bit v 31 && base == 0)
  let s1 := s.writeWord rq false legal .PRF_TALLY_CTL 0 v
  let s2 := s1.sf F.PRF_TALLY_CTL_NOW 0 0
  if legal && bit v 30 then s2.tally false else s2

/-- A period of the tally reader ends. -/
def execTallyPeriodic (s : State) : Host.Outcome State Fault Refusal :=
  .next (if s.fb F.PRF_TALLY_CTL_EN && s.rr .PRF_TALLY_PER != 0 then s.tally true else s)

/-- PRF_TALLY_CTL written with NOW 1. -/
def execTallyNow (rq : Requester) (value : BitVec 32) (s : State) : Host.Outcome State Fault Refusal :=
  let v := putBits value.toNat 30 30 1
  .next (s.regWrite rq .PRF_TALLY_CTL 0 v fun a => a.tallyCtlWrite rq v)

/-! ### Bandwidth windows (R643, R655) -/

/-- A window ends. -/
def execBwWindowEnd (s : State) : Host.Outcome State Fault Refusal :=
  if s.fb F.PRF_BWCTL_EN && s.counting then
    let s1 := (List.range 56).foldl (fun a i => a.wr .PRF_BW i (SMap.get (fun _ => 0) s.prf.bw i)) s
    let s2 := { s1 with prf := { s1.prf with bw := [] } }
    .next ((s2.wr .PRF_BW_SEQ 0 ((s2.rr .PRF_BW_SEQ + 1) % 2 ^ 32)).prfEvent 3)
  else .next s

/-- PRF_BWCTL written; a window that does not complete leaves nothing. -/
def State.bwctlWrite (s : State) (rq : Requester) (v : Nat) : State :=
  let w := bits v 13 0
  let s1 := s.writeWord rq false (decide (1 ≤ w) && decide (w ≤ 10000)) .PRF_BWCTL 0 v
  if s1.fb F.PRF_BWCTL_EN then s1 else { s1 with prf := { s1.prf with bw := [] } }

/-! ### Outriders (R656, R657) -/

/-- The record of an outrider. -/
def outriderBytes (t : Nat) (o : Outrider) (flags fetch engine run : Nat) : List Byte :=
  leBytes 8 o.issued.toNat ++ leBytes 2 t ++ leBytes 2 o.handle.toNat ++ leBytes 2 o.pc.toNat ++ [o.clsOpc, BitVec.ofNat 8 flags] ++
    leBytes 4 fetch ++ leBytes 4 engine ++ leBytes 4 run ++ leBytes 2 o.station ++ leBytes 2 0

/-- The outrider of a tile completes: the ticks of its stages, and whether it saw poisoned data or a bank conflict. -/
def execOutriderComplete (tile : Fin 768) (fetch engine run : BitVec 32) (poison conflict : Bool) (s : State) :
    Host.Outcome State Fault Refusal :=
  let t := tile.val
  let x := s.outGen t
  match x.tagged with
  | none => .next s
  | some o =>
    let s1 := s.setOutGen t { x with tagged := none }
    let w := s.rr .PRF_OUT_WR
    let n := 2 ^ s.f F.PRF_OUT_CTL_ORDER
    if n ≤ s.prfHeld .PRF_OUT_WR .PRF_OUT_RD then .next (s1.prfLost .PRF_OUT_LOST)
    else
      let fl := Nat.lor o.flags.toNat (b2n poison * 2 + b2n conflict * 8)
      let e := if o.clsOpc.toNat / 16 = 0 then 0 else engine.toNat
      let a := s.pair .PRF_OUT_BASE_LO .PRF_OUT_BASE_HI + 32 * (w % n)
      .next ((s1.writeMem a (outriderBytes t o fl fetch.toNat e run.toNat) false 4).wr .PRF_OUT_WR 0 ((w + 1) % 2 ^ 32))

/-- PRF_OUT_CTL written: a rise of EN loads every tile's generator (R656). -/
def State.outCtlWrite (s : State) (rq : Requester) (v : Nat) : State :=
  let order := bits v 11 8
  let n := bits v 4 0
  let base := s.pair .PRF_OUT_BASE_LO .PRF_OUT_BASE_HI
  let legal := decide (2 ≤ order) && decide (order ≤ 12) && decide (4 ≤ n) && decide (n ≤ 20) && ringFits base 32 order
  let s1 := s.writeWord rq false legal .PRF_OUT_CTL 0 v
  if !s.fb F.PRF_OUT_CTL_EN && s1.fb F.PRF_OUT_CTL_EN then
    (List.range 768).foldl (fun a t =>
      a.setOutGen t { a.outGen t with gen := BitVec.ofNat 64 (Nat.xor (s.rr .PRF_OUT_SEED) t), left := 0 }) s1
  else s1

/-- PRF_OUT_CTL written with EN 1. -/
def execPrfOutEnable (rq : Requester) (value : BitVec 32) (s : State) : Host.Outcome State Fault Refusal :=
  let v := putBits value.toNat 31 31 1
  .next (s.regWrite rq .PRF_OUT_CTL 0 v fun a => a.outCtlWrite rq v)

/-! ### The other registers (R646, R650, R651, R654) -/

/-- The tile events of R651. -/
def tileEventLegal (n : Nat) : Bool := decide (n ≤ 0xE) || (decide (0x20 ≤ n) && decide (n ≤ 0x22))

/-- The block events of R654, with the number of units of each. -/
def blockUnits (ev : Nat) : Option Nat :=
  if ev = 0 then some 1024
  else if ev ≤ 5 then some 768
  else if 0x10 ≤ ev ∧ ev ≤ 0x13 then some 20
  else if 0x20 ≤ ev ∧ ev ≤ 0x22 then some 8
  else if ev = 0x30 ∨ ev = 0x31 then some 768
  else if ev = 0x40 ∨ ev = 0x41 then some 64
  else if ev = 0x50 ∨ ev = 0x51 then some 16
  else none

/-- PRF_CNT_SEL's event and unit are legal. -/
def cntSelLegal (v : Nat) : Bool :=
  match blockUnits (bits v 27 20) with
  | some n => decide (bits v 19 10 < n)
  | none => false

/-- The user view of a slot shows its sums (R650). -/
def State.userView (s : State) (slot : Nat) : Bool := (s.slot slot).state != .free && bit (s.slot slot).perm.toNat 1

/-- The sum of TC`k` over a caravan's stations (R650). -/
def State.userCount (s : State) (slot k : Nat) : Nat :=
  if s.userView slot then ((s.slot slot).stations.foldl (fun a x => a + s.rr .PRF_TCNT (x.tile * 4 + k)) 0) % 2 ^ 64 else 0

/-- The high word of a ring's base written: refused while the ring is enabled. -/
def State.prfBaseWrite (s : State) (rq : Requester) (lo hi : Reg) (on : Bool) (slot order v : Nat) : State :=
  let p := s.pairValue rq lo 0 v
  let legal := p % 4096 == 0 && ringFits p slot order
  let st := firstStatus [(!legal, .bounds), (on, .busy)]
  match st with
  | .busy => ((s.dropHeld rq (lo.key 0)).err .prf .busy).answer .busy 0
  | _ => s.writeHigh rq legal lo hi 0 v

/-- A register of PRF written. -/
def State.prfWrite (s : State) (rq : Requester) (r : Reg) (i v : Nat) : State :=
  match r with
  | .PRF_TALLY_CTL => s.tallyCtlWrite rq v
  | .PRF_BWCTL => s.bwctlWrite rq v
  | .PRF_OUT_CTL => s.outCtlWrite rq v
  | .PRF_TSEL => s.writeWord rq false ((List.range 4).all (fun k => tileEventLegal (bits v (8 * k + 7) (8 * k)))) r i v
  | .PRF_TALLY_PER => s.writeWord rq false (v == 0 || (decide (10 ≤ v) && decide (v ≤ 1000000))) r i v
  | .PRF_TALLY_RD => s.writeWord rq false (rdLegal (s.rr .PRF_TALLY_WR) v (s.f F.PRF_TALLY_CTL_ORDER)) r i v
  | .PRF_OUT_RD => s.writeWord rq false (rdLegal (s.rr .PRF_OUT_WR) v (s.f F.PRF_OUT_CTL_ORDER)) r i v
  | .PRF_CNT_SEL => s.writeWord rq false (cntSelLegal v) r i (if i % 2 = 0 then putBits v 30 30 0 else v)
  | .PRF_TALLY_BASE_LO | .PRF_OUT_BASE_LO => s.holdLow rq r i v
  | .PRF_TALLY_BASE_HI =>
    s.prfBaseWrite rq .PRF_TALLY_BASE_LO r (s.fb F.PRF_TALLY_CTL_EN) 16384 (s.f F.PRF_TALLY_CTL_ORDER) v
  | .PRF_OUT_BASE_HI => s.prfBaseWrite rq .PRF_OUT_BASE_LO r (s.fb F.PRF_OUT_CTL_EN) 32 (s.f F.PRF_OUT_CTL_ORDER) v
  | _ => s.writeWord rq false true r i v

/-! ### What happens at a tick (R646, R651, R654) -/

/-- What an occupancy adds to a counter with threshold `thr`. -/
def occupancy (thr n : Nat) : Nat := if thr = 0 then n else if thr ≤ n then 1 else 0

/-- One tick for a tile's counters: WAIT, a send that the trail holds, and the occupancies. -/
def State.tileTick (s : State) (t : Nat) : State :=
  let x := s.tile t
  let s1 := if x.st = .wait then s.tileEvent t 0x0B 1 else s
  let s2 := if x.sending.isSome then s1.tileEvent t 0x0C 1 else s1
  if !s2.tileCounts t then s2
  else (List.range 4).foldl (fun a k =>
    let n := match bits (a.rr .PRF_TSEL) (8 * k + 7) (8 * k) with
      | 0x20 => x.mxq.length
      | 0x21 => (x.posted.filter (fun p => p.bale.isSome)).length
      | 0x22 => (x.tags.filter (fun p => p.2.isBusy)).length
      | _ => 0
    let m := occupancy (bits (a.rr .PRF_TTHR) (8 * k + 7) (8 * k)) n
    if m ≠ 0 ∧ a.tcOwn k then a.tcAdd t k m else a) s2

/-- One tick for the block counters: frames that wait for credit at a fabric port, paused Ethernet ports, bales under way to a tile. -/
def State.blockTick (s : State) (j : Nat) : State :=
  if !s.fb F.PRF_CNT_SEL_EN j || (j % 2 == 1 && s.fb F.PRF_CNT_SEL_CHAIN j) then s
  else
    let i := s.f F.PRF_CNT_SEL_INDEX j
    let n := match s.f F.PRF_CNT_SEL_EVENT j with
      | 0x13 => b2n (!(s.port i).heldBack.isEmpty)
      | 0x22 => b2n ((SMap.get (fun _ => {}) s.eth.ports i).paused.any (fun e => decide (s.now < e.2)))
      | 0x31 => occupancy (s.f F.PRF_CNT_SEL_THR j) (s.cvn.trail.filter (fun b => b.dest == i)).length
      | _ => 0
    if n = 0 then s else s.blkAdd j n

/-- One tick for PRF. -/
def State.prfTick (s : State) : State :=
  if !s.counting then s
  else
    let s1 := if s.rr .PRF_TSEL = 0 then s else s.tiles.foldl (fun a e => a.tileTick e.1) s
    (List.range 32).foldl (fun a j => a.blockTick j) s1

end Sys2Proof.Machine
end

