-- ==== Sys2Proof/Machine/IcOps.lean ====
section
/-! DEFINITION. The interrupt controller (R504 to R519): which sources are asserted, pending and offered, and what a core makes of its
interrupts. -/

namespace Sys2Proof.Machine

/-! ### Sources (R518, R519) -/

/-- PWW_STATE as it reads: bits [30:0] of the active governor's GOV_STATE, and which governor that is. -/
def State.pwwState (s : State) : Nat :=
  b2n s.activeB * 2 ^ 31 + s.rr .GOV_STATE (govIx s.activeB) % 2 ^ 31

/-- A change of PWW_STATE since its last read kept until the next (R519). -/
def State.notePww (s : State) : State :=
  if s.pwwState = s.ic.pwwSeen.toNat then s else { s with ic := { s.ic with pwwChanged := true } }

/-- Some copy of a register does not read its reset value and satisfies `p`. -/
def State.anyCopy (s : State) (r : Reg) (p : Nat → Bool) : Bool :=
  s.regs.any fun e =>
    match Reg.at e.1 with
    | some (q, _) => q == r && p e.2.toNat
    | none => false

/-- An event register and its enable have a bit in common. -/
def State.anyEvent (s : State) (ev en : Reg) (i : Nat) : Bool := Nat.land (s.rr ev i) (s.rr en i) != 0

/-- A shared source is asserted (R519). -/
def State.asserted (s : State) (n : Nat) : Bool :=
  if n = 32 then s.anyEvent .FCL_EVENT .FCL_EVENT_EN 0
  else if n = 33 then s.anyEvent .RST_EVENT .RST_EVENT_EN 0
  else if n = 34 then s.anyEvent .THM_EVENT .THM_EVENT_EN 0
  else if n = 35 then s.fb F.MEM_ERRLOG_INFO_VALID || s.anyCopy .MEM_CH_STAT (fun v => v % 4 == 2)
  else if n = 36 then s.tmb.syncChanged
  else if n = 37 then s.ic.pwwChanged || s.pwwState != s.ic.pwwSeen.toNat
  else if n = 38 then s.anyEvent .PRF_EVENT .PRF_EVENT_EN 0
  else if 48 ≤ n ∧ n ≤ 63 then s.anyEvent .CVU_EVENT .CVU_EVENT_EN (n - 48)
  else if 64 ≤ n ∧ n ≤ 71 then s.anyEvent .ETH_EVENT .ETH_EVENT_EN (n - 64)
  else if 72 ≤ n ∧ n ≤ 91 then s.anyEvent .FPT_EVENT .FPT_EVENT_EN (n - 72)
  else if 96 ≤ n ∧ n ≤ 159 then s.anyEvent .CVN_SLOT_EVENT .CVN_SLOT_EVENT_EN (n - 96)
  else if 160 ≤ n ∧ n ≤ 223 then s.fb F.RQ_CTL_PEND (n - 160) && s.f F.RQ_CTL_IRQ_CORE (n - 160) != 0xFF
  else if 224 ≤ n ∧ n ≤ 287 then s.fb F.MG_CTL_PEND (n - 224) && s.f F.MG_CTL_IRQ_CORE (n - 224) != 0xFF
  else false

/-- The shared sources that exist. -/
def sharedSources : List Nat := (List.range 288).filter icSourceUsed

/-- A private source of a core is asserted. -/
def State.assertedAt (s : State) (c k : Nat) : Bool :=
  match k with
  | 1 => bit (s.rr .IC_SWI_SET c) 0
  | 2 => s.fb F.IC_STAT_CE c
  | 3 => s.fb F.IC_STAT_UE c
  | 4 => (s.core c).hpmEvent.any (fun e => e.2.getLsbD 63)
  | _ => false

/-- The target of a shared source (R518). -/
def State.target (s : State) (n : Nat) : Nat :=
  if 96 ≤ n ∧ n ≤ 159 then (s.slot (n - 96)).irqCore
  else if 160 ≤ n ∧ n ≤ 223 then s.f F.RQ_CTL_IRQ_CORE (n - 160)
  else if 224 ≤ n ∧ n ≤ 287 then s.f F.MG_CTL_IRQ_CORE (n - 224)
  else s.f F.IC_SRC_TARGET n

/-- A shared source is in service at some core. -/
def State.inService (s : State) (n : Nat) : Bool := s.cores.any (fun e => e.2.appSvc == n || e.2.svcSvc == n)

/-- A source of a class (true: service) is pending at a core (R504); one in service is not. -/
def State.pendingAt (s : State) (c n : Nat) (svc : Bool) : Bool :=
  if n < 32 then
    let i := c * 32 + n
    let k := s.core c
    s.fb F.IC_PSRC_EN i && s.fb F.IC_PSRC_CLASS i == svc && s.assertedAt c n && k.appSvc != n && k.svcSvc != n
  else s.fb F.IC_SRC_EN n && s.fb F.IC_SRC_CLASS n == svc && s.target n == c && s.asserted n && !s.inService n

/-- The source of a class that IC offers a core (R505): the lowest number. -/
def State.offered (s : State) (c : Nat) (svc : Bool) : Option Nat :=
  (([1, 2, 3, 4] ++ sharedSources).find? (fun n => s.pendingAt c n svc))

/-- A core is idle (R501). -/
def Core.idle (k : Core) : Bool := k.wfi || k.wait.isSome

/-- SEIP (R507, R513 to R515): an application-class source is pending and none in service; a window holds all but sources 1 to 3. -/
def State.seip (s : State) (c : Nat) : Bool :=
  let k := s.core c
  k.appSvc == 0 &&
    (match s.offered c false with
      | some n => !(k.window && !k.idle) || decide (n ≤ 3)
      | none => false)

/-- MEIP (R506). -/
def State.meip (s : State) (c : Nat) : Bool := (s.core c).svcSvc == 0 && (s.offered c true).isSome

/-- A window holds a delivery. -/
def State.holdsDelivery (s : State) (c : Nat) : Bool :=
  let k := s.core c
  k.window && !k.idle && k.appSvc == 0 &&
    (match s.offered c false with
      | some n => decide (3 < n)
      | none => false)

/-! ### What a core makes of its interrupts (R130, R501, R517; log 7) -/

/-- An interrupt of number `n` for machine mode can be taken now. -/
def Core.takesM (k : Core) (pend en : Bool) : Bool := pend && en && (k.mode != .m || k.mie)

/-- An interrupt for supervisor mode can be taken now. -/
def Core.takesS (k : Core) (pend en : Bool) : Bool := pend && en && k.mode != .m && (k.mode != .s || k.sie)

/-- The interrupt a core takes now of those with no command of their own: number, and whether supervisor mode takes it. The machine
external interrupt, which has one, goes before them. -/
def Core.taken (k : Core) : Option (Nat × Bool) :=
  if k.takesM k.meip k.meie then none
  else if k.takesM k.mtip k.mtie then some (7, false)
  else if !k.delegSei && k.takesM k.seip k.seie then some (9, false)
  else if !k.delegSti && k.takesM k.stip k.stie then some (5, false)
  else if k.delegSei && k.takesS k.seip k.seie then some (9, true)
  else if k.delegSti && k.takesS k.stip k.stie then some (5, true)
  else none

/-- A wait in `cvn.wait` ended by an interrupt (R130). -/
def State.breakWait (s : State) (c : Nat) : State :=
  match (s.core c).wait with
  | some w => s.cvnResult c w.rd.toNat .busy (s.doneField w.slot)
  | none => s

/-- A core leaves `wfi` when an enabled interrupt is pending, and takes the interrupt it can take. -/
def State.coreSettle (s : State) (c : Nat) : State :=
  let k := s.core c
  if !k.on then s
  else
    let wake := (k.seip && k.seie) || (k.meip && k.meie) || (k.mtip && k.mtie) || (k.stip && k.stie)
    let s1 := if k.wfi && wake then s.setCore c { k with wfi := false } else s
    match (s1.core c).taken with
    | some (n, toS) =>
      let s2 := s1.breakWait c
      s2.setCore c ((s2.core c).interrupt toS n)
    | none => s1

/-- IC evaluates one core: SEIP, MEIP, a window that holds a delivery, then what the core does. -/
def State.icCore (s : State) (c : Nat) : State :=
  let hold := s.holdsDelivery c && !(s.core c).held
  let s1 := if hold then s.bump .IC_MODDLY c else s
  let k := s1.core c
  let k' := { k with seip := s.seip c, meip := s.meip c, held := k.held || hold }
  (if k = k' then s1 else s1.setCore c k').coreSettle c

/-- IC evaluates every core. -/
def State.icSettle (s : State) : State := (List.range 32).foldl (fun a c => a.icCore c) s.notePww

/-- The timer compares of a core against PTIME (R503), and what the core then does. -/
def State.coreTimer (s : State) (c : Nat) : State :=
  let k := s.core c
  (s.setCore c { k with
    mtip := decide (s.pair .IC_MTIMECMP_LO .IC_MTIMECMP_HI c ≤ s.now)
    stip := decide (k.stimecmp.toNat ≤ s.now)
    vstip := decide (k.vstimecmp.toNat ≤ s.now) }).coreSettle c

end Sys2Proof.Machine
end

