-- ==== Sys2Proof/Machine/BudgetOps.lean ====
section
/-! DEFINITION. The messages of the management link (R330 to R341, R550 to R552): their checks, what an accepted one does, the ACK and the
REPORT. -/

namespace Sys2Proof.Machine

/-! ### Fields of R330 -/

def msgType (m : List Byte) : Nat := beAt m 3 1
def msgSeq (m : List Byte) : Nat := beAt m 4 4
def msgAlive (m : List Byte) : Nat := beAt m 8 2
def msgLength (m : List Byte) : Nat := beAt m 10 2
def msgTarget (m : List Byte) : Nat := beAt m 12 4
def msgSent (m : List Byte) : Nat := beAt m 16 8
def msgTag (m : List Byte) : List Byte := slice m (m.length - 20) 16

/-- A CRC-valid datagram (R330, R335). -/
def msgCrcOk (m : List Byte) : Bool := decide (44 ≤ m.length) && beAt m (m.length - 4) 4 == crc32c (m.take (m.length - 4))

/-- The first 16 bytes of HMAC-SM3 with a session key over everything before the TAG. -/
def tagOf (key body : List Byte) : List Byte := (hmacSm3 key body).take 16

/-- A message with its TAG and CRC; no key gives TAG 0. -/
def sealMsg (key : Option (List Byte)) (body : List Byte) : List Byte :=
  let b := body ++ (match key with | some k => tagOf k body | none => List.replicate 16 0#8)
  b ++ beBytes 4 (crc32c b)

/-- The TARGET value that names this package (R330). -/
def State.ownTarget (s : State) : Nat := if s.fb F.FPT_COORD_SET then s.f F.FPT_COORD_COORD else 0xFFFFFFFF

/-- The header of a message from the package, whose whole length is `len`. -/
def State.msgHeader (s : State) (magic type seq alive len : Nat) : List Byte :=
  beBytes 2 magic ++ [1#8, BitVec.ofNat 8 type] ++ beBytes 4 seq ++ beBytes 2 alive ++ beBytes 2 len ++ beBytes 4 s.ownTarget ++
    beBytes 8 s.now

/-- The open budget session. -/
def State.budgetSession (s : State) : Option Session := s.sec.sessions.find? (·.budget)

/-! ### The checks of R336 -/

/-- The points of a BUDGET. -/
def budgetPoints (m : List Byte) : List (Nat × Nat) :=
  (List.range (beAt m 24 1)).map fun i => (beAt m (32 + 12 * i) 8, beAt m (40 + 12 * i) 4)

/-- Times strictly increasing. -/
def rising : List (Nat × Nat) → Bool
  | p :: q :: r => decide (p.1 < q.1) && rising (q :: r)
  | _ => true

/-- Bytes from `o`, `n` of them, all zero. -/
def zeros (m : List Byte) (o n : Nat) : Bool := (slice m o n).all (· == 0#8)

/-- The limits of a body by TYPE, for governor `gb`. -/
def State.bodyLegal (s : State) (gb : Bool) (m : List Byte) : Bool :=
  let len := m.length
  match msgType m with
  | 1 =>
    let n := beAt m 24 1
    let ps := budgetPoints m
    decide (n ≤ 16) && len == 52 + 12 * n && rising ps &&
      (match ps.getLast? with | some p => decide (p.1 ≤ msgSent m + 3600000000000) | none => true) &&
      ps.all (fun p => decide (s.f F.GOV_BUDLIM_MIN (govIx gb) * 1000 ≤ p.2) && decide (p.2 ≤ s.f F.GOV_BUDLIM_MAX (govIx gb) * 1000)) &&
      decide (beAt m 26 1 ≤ 140) && decide (beAt m 25 1 < 4) && zeros m 27 1
  | 2 => len == 56
  | 3 => len == 68 && decide (beAt m 36 1 < 4) && zeros m 37 3
  | _ => false

/-- The status of a CRC-valid message at a governor: OK when it is accepted (R336, R340, R671). -/
def State.msgStatus (s : State) (gb : Bool) (peer : Nat) (m : List Byte) : Status :=
  let g := s.gov gb
  let tagOk := match s.budgetSession with
    | some x => x.peer == peer && msgTag m == tagOf x.key (m.take (m.length - 20))
    | none => false
  let diff := toSigned 32 ((msgSeq m + 2 ^ 32 - s.rr .GOV_SEQ (govIx gb)) % 2 ^ 32)
  firstStatus [(!tagOk, .denied), (g.accepted && decide (diff ≤ 0), .stale), (s.mode gb == 4, .fenced),
    (msgLength m != m.length || !s.bodyLegal gb m, .bounds),
    (beAt m 0 2 != 0x4A42 || beAt m 2 1 != 1 || msgTarget m != s.ownTarget, .mismatch)]

/-! ### What an accepted message does -/

/-- SEQ kept, and the hold renewed by a new ALIVE (R340, R341). -/
def State.acceptSeq (s : State) (gb : Bool) (m : List Byte) : State :=
  let i := govIx gb
  let g := s.gov gb
  let renews := !g.holdOn || msgAlive m != s.f F.GOV_ALIVE_ALIVE i
  let s1 := s.wr .GOV_SEQ i (msgSeq m)
  let s2 := s1.setGov gb { g with
    accepted := true, holdOn := g.holdOn || renews, holdAge := if renews then 0 else g.holdAge }
  if renews then s2.sf F.GOV_ALIVE_ALIVE i (msgAlive m) else s2

/-- A BUDGET with points replaces the trajectory (R339, R341, R344, R355). A hold that had expired starts anew. -/
def State.acceptBudget (s : State) (gb : Bool) (m : List Byte) : State :=
  if beAt m 24 1 = 0 then s
  else
    let i := govIx gb
    let g := s.gov gb
    let fixed := bit (beAt m 25 1) 0
    let s1 := s.setGov gb { g with
      points := budgetPoints m, effT := nextPeriod s.now, effP := g.tPrev, bflags := BitVec.ofNat 8 (beAt m 25 1)
      fixv := beAt m 26 1, slewUp := beAt m 28 2, slewDn := beAt m 30 2
      fixSeek := fixed, follow := true, holdAge := if g.follow then g.holdAge else 0 }
    let s2 := s1.sf F.GOV_STATE_FIXED i 0
    if s2.mode gb = 0 then s2.setMode gb (s2.baseMode gb) else s2

/-- A GRID message sets the frequency-response offset; data past its age limit is counted at once (R358, R359). -/
def State.acceptGrid (s : State) (gb : Bool) (m : List Byte) : State :=
  let g := s.gov gb
  let t := beAt m 28 8
  let off := frOffset (s.frCurve gb) ((beAt m 24 4 : Int) - s.nominal gb) s.rated
  let s1 := s.setGov gb { g with grid := some (beAt m 24 4, t), frOffset := off, frStaleCounted := false }
  if s1.gridFresh gb then s1
  else (s1.bump .GOV_FRSTALE (govIx gb)).setGov gb { s1.gov gb with frOffset := 0, frStaleCounted := true }

/-- The COOLANT values stop being in force (R551). -/
def State.coolantExpired (s : State) : State :=
  let s1 := ((s.wr .THM_INLET 0 0).wr .THM_FLOW 0 0).wr .THM_DP 0 0
  { s1.bump .THM_CSTALE with thm := { s1.thm with coolant := none } }

/-- A COOLANT message in force, and the no-flow timer (R550 to R552). -/
def State.acceptCoolant (s : State) (m : List Byte) : State :=
  let t := beAt m 40 8
  let fl := beAt m 36 1
  let s1 := ((s.wr .THM_INLET 0 (beAt m 24 4)).wr .THM_FLOW 0 (beAt m 28 4)).wr .THM_DP 0 (beAt m 32 4)
  let s2 := { s1 with thm := { s1.thm with coolant := some ⟨BitVec.ofNat 8 fl, t⟩ } }
  if t + s.f F.THM_CFG_CAGE * 100000000 < s.now then s2.coolantExpired
  else if fl % 4 ≠ 0 then
    let s3 := s2.wr .THM_EVENT 0 (Nat.lor (s2.rr .THM_EVENT) 2)
    { s3 with thm := { s3.thm with noflow := true } }
  else if 3000 ≤ beAt m 28 4 then { s2 with thm := { s2.thm with noflow := false } } else s2

/-! ### The ACK and the REPORT -/

/-- The status that an accepted message's ACK carries (R339, R356, R382, R613, R614). -/
def State.ackStatus (s : State) (gb : Bool) (m : List Byte) (es : Nat) : Status :=
  if s.safe? || s.fb F.OST_STAT_DISAGREE then .degraded
  else if msgType m = 1 ∧ beAt m 24 1 ≠ 0 then
    if (budgetPoints m).any fun p => decide (p.2 < s.rr .PWW_FLOOR) then .floor
    else if es ≠ 0 ∨ !s.locked ∨ s.meterFailed gb ∨ (bit (beAt m 25 1) 0 ∧ s.fb F.GOV_STATE_FIXLOST (govIx gb)) then .degraded
    else .ok
  else .ok

/-- The ACK of a message (R333). -/
def State.ack (s : State) (gb : Bool) (peer : Nat) (m : List Byte) (st : Status) (effT es : Nat) : State :=
  let body := s.msgHeader 0x4A42 0x81 (msgSeq m) (msgAlive m) 64 ++
    [BitVec.ofNat 8 st.code, BitVec.ofNat 8 (s.mode gb), 0#8, 0#8] ++ beBytes 8 effT ++ beBytes 8 es
  s.send (.mgmt 47601 peer (sealMsg (s.budgetSession.map (·.key)) body))

/-- A governor that receives messages (R338): not restarting and not DOWN. Before READY both do (R559). -/
def State.receives (s : State) (gb : Bool) : Bool := decide (2 ≤ s.govSt gb) || !s.fb F.IDT_BOOT_READY

/-- A message at one governor: checked, counted, taken, and answered by the active one (R333 to R341). -/
def State.govMessage (s : State) (gb : Bool) (peer : Nat) (m : List Byte) : State :=
  let i := govIx gb
  if !s.receives gb then s
  else if !msgCrcOk m then s.bump .GOV_CRC i
  else
    let st := s.msgStatus gb peer m
    let act := s.activeB == gb
    match st with
    | .ok =>
      let s1 := s.acceptSeq gb m
      let s2 := match msgType m with
        | 1 => s1.acceptBudget gb m
        | 2 => s1.acceptGrid gb m
        | _ => if act then s1.acceptCoolant m else s1
      let es := if msgType m = 1 ∧ beAt m 24 1 ≠ 0 then s2.eshort gb else 0
      let a := s2.ackStatus gb m es
      let s3 := s2.sf F.GOV_STATE_LAST i a.code
      let s4 := if act then s3.ack gb peer m a (nextPeriod s.now) es else s3
      let s5 := if act && msgType m == 1 then
          { s4 with ost := { s4.ost with rep := s4.budgetSession.map fun x => (peer, x.key) } }
        else s4
      if act && msgType m == 1 && beAt m 24 1 != 0 then s5.endAcc .timeout else s5
    | _ =>
      let s1 := if st = .stale then s.bump .GOV_STALE i else s.bump .GOV_REFUSED i
      let s2 := s1.sf F.GOV_STATE_LAST i st.code
      if act then s2.ack gb peer m st 0 0 else s2

/-- A datagram to port 47601, handed to both governors in the same instant (R338); an accepted one keeps its session open (R671). -/
def State.message (s : State) (peer : Nat) (m : List Byte) : State := (s.govMessage false peer m).govMessage true peer m

/-- The settlement channel in use is MB (R313). -/
def State.settleB (s : State) : Bool := s.fb F.MTR_SETTLE_ACTIVE

/-- The mean of a sum over `n` terms, cut; 0 for none. -/
def meanOf (sum : Int) (n : Nat) : Int := if n = 0 then 0 else sum.tdiv n

/-- The REPORT at the end of a 100 ms window (R334, R314, R363, R382, R613). -/
def State.report (s : State) : State :=
  match s.ost.rep with
  | none => s
  | some (peer, k) =>
    let gb := s.activeB
    let i := govIx gb
    let mb := s.settleB
    let m := s.meter mb
    let g := s.gov gb
    let lost := s.meterFailed false && s.meterFailed true
    let pm := if lost then meanOf (s.meter gb).winEst g.winJ else meanOf m.winP m.winR
    let short := s.pair .GOV_SHORT_UNDER_LO .GOV_SHORT_UNDER_HI i
    let ms : Status :=
      if lost then .check
      else if s.safe? || s.fb F.OST_STAT_DISAGREE || s.meterFailed gb || (bit g.bflags.toNat 0 && s.fb F.GOV_STATE_FIXLOST i) ||
          decide (g.repShort < short) || s.rr .MTR_RSTAT (chIx mb) != 0 then .degraded
      else .ok
    let body := s.msgHeader 0x4A42 0x82 s.ost.repSeq.toNat s.ost.repAlive.toNat 84 ++
      [BitVec.ofNat 8 (s.mode gb), BitVec.ofNat 8 ms.code, 0#8, 0#8] ++ beBytes 4 (ofSigned 32 pm) ++
      beBytes 4 (ofSigned 32 (meanOf g.winT g.winJ)) ++ beBytes 4 (s.rr .PWW_FLOOR) ++
      beBytes 8 (s.pair .MTR_E_LO .MTR_E_HI (chIx mb)) ++ beBytes 8 (s.pair .GOV_SHORT_OVER_LO .GOV_SHORT_OVER_HI i) ++
      beBytes 8 short
    let key := (s.budgetSession.map (·.key)).getD k
    let s1 := s.send (.mgmt 47601 peer (sealMsg (some key) body))
    { s1 with ost := { s1.ost with repSeq := s1.ost.repSeq + 1, repAlive := s1.ost.repAlive + 1 } }

/-- A governor's window ends: its sums begin anew. -/
def State.newGovWindow (s : State) (gb : Bool) : State :=
  let g := s.gov gb
  s.setGov gb { g with winT := 0, winJ := 0, repShort := s.pair .GOV_SHORT_UNDER_LO .GOV_SHORT_UNDER_HI (govIx gb) }

end Sys2Proof.Machine
end

