-- ==== Sys2Proof/Machine/Metering.lean ====
section
/-! DEFINITION. The metering commands (spec/07): samples, readings, self-checks, snapshots, the window of the cross-check, and acceptance
runs. -/

namespace Sys2Proof.Machine

/-- A sample (R299 to R302): both codes corrected, multiplied, and its energy added. -/
def execMeterSample (mb : Bool) (icode vcode temp : BitVec 24) (s : State) : Host.Outcome State Fault Refusal :=
  if s.meterFailed mb then .next s
  else
    let i := chIx mb
    let cur := Config.sampleCurrent icode.toNat (s.rr .MTR_CAL (i * 6)) (s.rr .MTR_CAL (i * 6 + 1)) (s.rr .MTR_CAL (i * 6 + 4)) temp.toNat
    let vol := Config.sampleVoltage vcode.toNat (s.rr .MTR_CAL (i * 6 + 2)) (s.rr .MTR_CAL (i * 6 + 3))
    let p : Int := vol * cur
    let m := s.meter mb
    let e := m.frac + p.toNat
    let whole := e / 10 ^ 15
    let s1 := s.setMeter mb { m with
      frac := e % 10 ^ 15, sumP := m.sumP + p, sumV := m.sumV + vol, sumI := m.sumI + cur, n := m.n + 1
      winE := m.winE + p.toNat, winN := m.winN + 1 }
    let s2 := s1.setPair .MTR_E_LO .MTR_E_HI i ((s.pair .MTR_E_LO .MTR_E_HI i + whole) % 2 ^ 64)
    let s3 := s2.setPair .MTR_ELIFE_LO .MTR_ELIFE_HI i ((s.pair .MTR_ELIFE_LO .MTR_ELIFE_HI i + whole) % 2 ^ 64)
    .next (if p < 0 then s3.bump .MTR_NEG i else s3)

/-- The end of a 10 µs interval (R300, R305, R318). -/
def execMeterReading (mb : Bool) (s : State) : Host.Outcome State Fault Refusal :=
  .next (s.closeReading mb (s.now / 10000 * 10000))

/-- The self-check of the reference and the offset, the offset given in nA (R303, R313, R322, R372). -/
def execMeterSelfcheck (mb : Bool) (refCode offsetNa : Nat) (s : State) : Host.Outcome State Fault Refusal :=
  let r := s.rr .MTR_CAL (chIx mb * 6 + 5)
  let d := if refCode < r then r - refCode else refCode - r
  let bad := (r ≠ 0 ∧ r < d * 20000) ∨ 20000 < offsetNa
  .next (if bad then ((s.failMeter mb).refreshGov false).refreshGov true else s)

/-- 60 s after PWR_GOOD a channel leaves WARMUP (R306). -/
def execMeterWarmupEnd (mb : Bool) (s : State) : Host.Outcome State Fault Refusal :=
  .next (if s.f F.MTR_STAT_STATE (chIx mb) = 0 then s.sf F.MTR_STAT_STATE (chIx mb) 1 else s)

/-- A whole second (R309, R314). -/
def execMeterSnapshot (mb : Bool) (s : State) : Host.Outcome State Fault Refusal := .next (s.snapshot mb (s.now / 1000000000))

/-- The snapshot registers captured for a requester: those of channel `i`, or what PWW shows of it (R310, R314). -/
def State.captureSnap (s : State) (rq : Requester) (i : Nat) (pww : Bool) : State :=
  let lost := s.meterFailed false && s.meterFailed true
  if pww then
    ((((s.capture rq .PWW_SNAP_E_LO 0 (s.rr .MTR_SNAP_E_LO i)).capture rq .PWW_SNAP_E_HI 0 (s.rr .MTR_SNAP_E_HI i)).capture rq
      .PWW_SNAP_T_LO 0 (s.rr .MTR_SNAP_T_LO i)).capture rq .PWW_SNAP_T_HI 0 (s.rr .MTR_SNAP_T_HI i)).capture rq .PWW_SNAP_STAT 0
      (if lost then Status.check.code else s.rr .MTR_SNAP_STAT i)
  else
    ((((s.capture rq .MTR_SNAP_E_LO i (s.rr .MTR_SNAP_E_LO i)).capture rq .MTR_SNAP_E_HI i (s.rr .MTR_SNAP_E_HI i)).capture rq
      .MTR_SNAP_T_LO i (s.rr .MTR_SNAP_T_LO i)).capture rq .MTR_SNAP_T_HI i (s.rr .MTR_SNAP_T_HI i)).capture rq .MTR_SNAP_STAT i
      (s.rr .MTR_SNAP_STAT i)

/-- A snapshot's number read (R310). -/
def State.snapSeqRead (s : State) (rq : Requester) (i : Nat) (pww : Bool) : State :=
  (s.captureSnap rq i pww).answer .ok (s.rr .MTR_SNAP_SEQ i)

/-- MTR_SNAP_SEQ of a channel read, or PWW_SNAP_SEQ (no channel): the snapshot is captured (R310). -/
def execMtrSnapSeqRead (rq : Requester) (ch : Option Bool) (s : State) : Host.Outcome State Fault Refusal :=
  match ch with
  | some mb => .next (s.regRead rq .MTR_SNAP_SEQ (chIx mb) fun a => a.snapSeqRead rq (chIx mb) false)
  | none => .next (s.regRead rq .PWW_SNAP_SEQ 0 fun a => a.snapSeqRead rq (chIx s.settleB) true)

/-- The rest of a reading captured with its power (R311). -/
def State.powerRead (s : State) (rq : Requester) (i : Nat) : State :=
  let s1 := (s.capture rq .MTR_V i (s.rr .MTR_V i)).capture rq .MTR_I i (s.rr .MTR_I i)
  let s2 := (s1.capture rq .MTR_TS_LO i (s.rr .MTR_TS_LO i)).capture rq .MTR_TS_HI i (s.rr .MTR_TS_HI i)
  (s2.capture rq .MTR_NSAMP i (s.rr .MTR_NSAMP i)).answer .ok (s.rr .MTR_P i)

/-- MTR_P read: the rest of the same reading is captured (R311). -/
def execMtrPRead (rq : Requester) (mb : Bool) (s : State) : Host.Outcome State Fault Refusal :=
  .next (s.regRead rq .MTR_P (chIx mb) fun a => a.powerRead rq (chIx mb))

/-- MTR_ELIFE of both channels saved to flash (R312). -/
def State.saveElife (s : State) : State :=
  let sv (a : State) (mb : Bool) : State :=
    a.setMeter mb { a.meter mb with
      savedElife := BitVec.ofNat 64 (a.pair .MTR_ELIFE_LO .MTR_ELIFE_HI (chIx mb)), savedAt := a.tmb.ptime }
  sv (sv s false) true

def execElifeSave (s : State) : Host.Outcome State Fault Refusal := .next s.saveElife

/-- The mean estimated power of each slot's caravan over the window (PWW_CVN_P). -/
def State.cvnPower (s : State) : State :=
  s.cvn.slots.foldl (fun a p =>
    let x := a.slot p.1
    let w := if x.state = .free ∨ x.nP = 0 then 0 else min 0xFFFF (x.sumP / x.nP)
    (a.wr .PWW_CVN_P p.1 w).setSlot p.1 { x with sumP := 0, nP := 0 }) s

/-- The end of a 100 ms window: the comparison first, then k, the REPORT, and new windows (R315 to R321, R334). -/
def execCrossCheckWindow (s : State) : Host.Outcome State Fault Refusal :=
  let s1 := ((s.crossCheck.updateK false).updateK true).report
  .next (((((s1.newWindow false).newWindow true).newGovWindow false).newGovWindow true).cvnPower)

/-! ### Acceptance runs (R323 to R325) -/

/-- The maintenance lock is free, or a session with a role holds it and no activity of its own runs (R691). -/
def State.lockAllows (s : State) (ro : Role) : Bool :=
  let k := s.f F.SEC_STAT_LOCK
  k == 0xFF || (s.sec.sessions.any (fun x => x.ix == k && x.role == ro) && s.sec.receiving.isNone && s.sec.activation.isNone)

/-- Why a run is refused (R324, R691). -/
def State.accStatus (s : State) (rq : Requester) (level dur : Nat) : Status :=
  let busy := s.cvn.slots.any (fun p => p.2.state != .free) || s.metering.acc.isSome || !s.lockAllows .installer
  firstStatus [(decide (rq ≠ .steward (some .installer)), .denied), (busy, .busy),
    (level == 0 || decide (100 < level) || dur == 0 ||
      decide (s.budget s.activeB < (level * s.rated * 10 : Nat)), .bounds)]

/-- MTR_ACC_CTL written. LEVEL and DURATION are taken where their own values are legal. -/
def State.accCtlWrite (s : State) (rq : Requester) (v : Nat) : State :=
  let level := bits v 30 24
  let dur := bits v 23 8
  let s1 := if level ≠ 0 ∧ level ≤ 100 ∧ dur ≠ 0 then (s.sf F.MTR_ACC_CTL_LEVEL 0 level).sf F.MTR_ACC_CTL_DURATION 0 dur else s
  if bit v 31 then
    let st := s.accStatus rq level dur
    match st with
    | .ok =>
      let s2 := (({ s1 with metering := { s1.metering with acc := some ⟨level, dur, none⟩ } }.sf F.MTR_ACC_CTL_START 0 1).sf
        F.MTR_ACC_CTL_STATUS 0 0).answer .ok 0
      match s2.sec.sessions.find? (fun x => x.role == .installer) with
      | some x => s2.takeLock x
      | none => s2
    | .busy => (s1.sf F.MTR_ACC_CTL_STATUS 0 st.code).answer st 0
    | _ => ((s1.sf F.MTR_ACC_CTL_STATUS 0 st.code).err .mtr st).answer st 0
  else s1.answer .ok 0

/-- A write of MTR_ACC_CTL with START 1. -/
def execAccRunStart (rq : Requester) (value : BitVec 32) (s : State) : Host.Outcome State Fault Refusal :=
  let v := putBits value.toNat 31 31 1
  .next (s.regWrite rq .MTR_ACC_CTL 0 v fun a => a.accCtlWrite rq v)

/-- The whole second at which a requested run begins. -/
def execAccRunBegin (s : State) : Host.Outcome State Fault Refusal :=
  match s.metering.acc with
  | some r =>
    if r.begun.isSome then .next s
    else
      let b := (s.now / 1000000000, BitVec.ofNat 64 (s.pair .MTR_E_LO .MTR_E_HI 0), BitVec.ofNat 64 (s.pair .MTR_E_LO .MTR_E_HI 1))
      .next { s with metering := { s.metering with acc := some { r with begun := some b } } }
  | none => .next s

/-- The end of a run after DURATION seconds (R323). -/
def execAccRunEnd (s : State) : Host.Outcome State Fault Refusal :=
  match s.metering.acc with
  | some r => .next (if r.begun.isSome then s.endAcc .ok else s)
  | none => .next s

end Sys2Proof.Machine
end

