-- ==== Sys2Proof/Machine/PowerOps.lean ====
section
/-! DEFINITION. FAULT_N pulses, the ordered shutdown, the thermal trip, the loss of the rails, and the cold reset that begins a start
(R312, R365, R554, R557, R618). -/

namespace Sys2Proof.Machine

/-! ### FAULT_N (R618, R619) -/

/-- FAULT_N as the pulse and DRIVE make it. -/
def State.faultPin (s : State) : State :=
  if s.fb F.FCL_FAULTN_PULSE then s.sf F.FCL_FAULTN_PIN 0 1 else s.sf F.FCL_FAULTN_PIN 0 (s.f F.FCL_FAULTN_DRIVE)

/-- A pulse request: it starts a pulse or extends the one in progress. -/
def State.pulse (s : State) : State := ((s.sf F.FCL_FAULTN_PULSE 0 1).bump .FCL_PULSES).faultPin

/-! ### The rails off -/

/-- A fabric port dark: OFF, with nothing but its saved settings. -/
def State.portDark (s : State) (p : Nat) : State :=
  ((if s.inState p .off then s else s.setPst p .off).leaveDims p).setPort p { saved := (s.port p).saved }

/-- An Ethernet port dark. -/
def State.ethDark (s : State) (k : Nat) : State :=
  ((s.sf F.ETH_PSTAT_STATE k 0).sf F.ETH_PSTAT_PHY k 0).sf F.ETH_PSTAT_LACP k 0

/-- VCORE, VSRAM, VIO, VMEM and VOPT off: what the compute die, the stacks and the engines hold is lost. The registers keep what they show
until the next start resets them (log 42). -/
def State.railsOff (s : State) : State :=
  let s1 := (List.range 20).foldl (fun a p => a.portDark p) s
  let s2 := (List.range 8).foldl (fun a k => a.ethDark k) s1
  { s2 with
    cores := [], tiles := [], cvn := {}, mem := {}, mst := {}, frt := {}, eth := {}, ic := {}, prf := {}, events := [], rst := {}
    fcl := { s2.fcl with windows := false }
    boot := { s2.boot with rails := false, running := false, paused := [] } }

/-- VAUX off as well: the steward is off, its sessions and what it held for the compute die are gone. -/
def State.vauxOff (s : State) : State :=
  { s with
    boot := { s.boot with vaux := false, heldWrites := [] }
    sec := { s.sec.discardPartial with sessions := [], shakes := [], sram := [] } }

/-- A journal entry about an event of the package itself, when the steward firmware runs to write it. -/
def State.logCause (s : State) (event cause : Nat) (st : Status) : State :=
  s.audit { event := event, status := st, detail := Config.journalCause event cause }

/-- The ordered shutdown (R365). Its causes are numbered by the model: 0 low supply, 1 high supply, 2 ORPHAN, 3 no flow, 4 PWR_GOOD,
5 PKG_RESET_N. A shutdown in progress completes as it began (R703), and a trip goes before it (R555). -/
def State.orderedShutdown (s : State) (cause : Nat) : State :=
  if s.shutting || s.thm.tripped || !s.boot.vaux then s
  else
    let s1 := ((s.sf F.OST_STAT_SHUTDOWN 0 1).setMode false 4).setMode true 4
    let s2 := ((s1.endAcc .timeout).pulse.saveElife).logCause 0x0060 cause .ok
    (s2.announceAll 3).railsOff.vauxOff

/-- A thermal trip (R554, R555), by a sensor numbered as in THM_STAT.TRIPSRC; 208 is the steward die. -/
def State.thermalTrip (s : State) (sensor : Nat) : State :=
  if s.thm.tripped || !s.boot.vaux then s
  else
    let s1 := { s.sf F.THM_STAT_TRIPSRC 0 sensor with thm := { s.thm with tripped := true } }
    if sensor = 208 then s1.railsOff.vauxOff
    else (((s1.endAcc .timeout).railsOff).saveElife).logCause 0x0061 sensor .ok

/-! ### The cold reset of a start (R42, R312, R557, R671, R684, R689) -/

/-- A register that a start does not reset: the journal's, which are restored from flash, the fused ones of SEC and its staged images, and
the PTIME of an energy gap. -/
def keptKey (k : Nat) : Bool :=
  decide (k / 0x1000000 = 0x46) || k == Reg.key .SEC_STAGE 0 || k == Reg.key .SEC_SVN 0 || k == Reg.key .SEC_SVN 1 ||
    k == Reg.key .MTR_GAP_T_LO 0 || k == Reg.key .MTR_GAP_T_LO 1 || k == Reg.key .MTR_GAP_T_HI 0 || k == Reg.key .MTR_GAP_T_HI 1

/-- A meter after a start: its lifetime energy and the PTIME of its save come from flash. -/
def Meter.restored (m : Meter) : Meter := { savedElife := m.savedElife, savedAt := m.savedAt }

/-- What survives in flash of SEC's state; an image that was still arriving is discarded, and the lock is released. -/
def Sec.cold (x : Sec) : Sec :=
  { running := x.running, raise := x.raise, settings := x.settings, setFmt := x.setFmt, fieldMap := x.fieldMap, fullTrain := x.fullTrain
    activation := x.activation, staging := x.discardPartial.staging }

/-- Everything as after reset but for flash, fuses and pins. -/
def State.cold (s : State) : State :=
  let r : State :=
    { pending := s.pending, resp := s.resp, out := s.out, free := s.free, journal := s.journal
      regs := s.regs.filter (fun e => keptKey e.1)
      tmb := { refclk := s.tmb.refclk }
      metering := { ma := s.metering.ma.restored, mb := s.metering.mb.restored }
      ports := s.ports.filterMap (fun e => if e.2.saved.isSome then some (e.1, { saved := e.2.saved }) else none)
      thm := { tripped := s.thm.tripped }
      sec := s.sec.cold
      boot := { savedChannels := s.boot.savedChannels, failedBefore := s.boot.failedBefore, heldWrites := s.boot.heldWrites
                pwrGood := s.boot.pwrGood, resetReleased := s.boot.resetReleased, powered := s.boot.powered } }
  let life (a : State) (mb : Bool) : State :=
    (a.setPair .MTR_ELIFE_LO .MTR_ELIFE_HI (chIx mb) (s.meter mb).savedElife.toNat).sf F.MTR_STAT_GAP (chIx mb)
      (s.f F.MTR_STAT_GAP (chIx mb))
  let r1 := (life (life r false) true).sf F.THM_STAT_TRIPSRC 0 (s.f F.THM_STAT_TRIPSRC)
  (r1.sf F.FCL_FAULTN_PULSE 0 (s.f F.FCL_FAULTN_PULSE)).faultPin

/-- A start begins at its reference event (R557, R576). -/
def State.beginStart (s : State) (retried : Bool) : State :=
  let r := s.cold
  { r with boot := { r.boot with running := true, retried := retried } }

end Sys2Proof.Machine
end

