-- ==== Sys2Proof/Machine/RstOps.lean ====
section
/-! DEFINITION. Reset domains (spec/17): the fence, hang records, salvage, resets and their phases, escalation, package reset and power
cycle. A domain is a level, 1 tile, 2 core, 3 cluster, 4 partition, and an index. -/

namespace Sys2Proof.Machine

/-! ### Domains (R577, R579) -/

/-- The register of a domain. -/
def domReg (l : Nat) : Reg :=
  match l with
  | 1 => .RST_DOM_TILE | 2 => .RST_DOM_CORE | 3 => .RST_DOM_CLUSTER | _ => .RST_DOM_PART

/-- The number of domains of a level. -/
def domCount (l : Nat) : Nat :=
  match l with
  | 1 => 768 | 2 => 32 | 3 => 32 | 4 => 4 | _ => 0

/-- The key of a domain in RST's maps. -/
def domKey (l i : Nat) : Nat := 1024 * l + i

/-- The recovery state of a domain: 0 OPEN, 1 DRAIN, 2 SALVAGE, 3 RESET, 4 TEST, 5 HELD, 6 QUEUED. -/
def State.domState (s : State) (l i : Nat) : Nat := s.rr (domReg l) i % 16

/-- HELD set in RST_EVENT: 0 HANG, 1 RESET_DONE, 2 HELD, 3 ESCALATE. -/
def State.rstEvent (s : State) (b : Nat) : State := s.wr .RST_EVENT 0 (Nat.lor (s.rr .RST_EVENT) (2 ^ b))

/-- A recovery state entered; HELD is an event. -/
def State.setDom (s : State) (l i st : Nat) : State :=
  let s1 := s.wr (domReg l) i (putBits (s.rr (domReg l) i) 3 0 st)
  if st = 5 then s1.rstEvent 2 else s1

/-- The outcome of the last reset and its KIND. -/
def State.setDomStatus (s : State) (l i : Nat) (st : Status) : State := s.wr (domReg l) i (putBits (s.rr (domReg l) i) 15 8 st.code)
def State.setDomCause (s : State) (l i kind : Nat) : State := s.wr (domReg l) i (putBits (s.rr (domReg l) i) 31 24 kind)

/-- In its recovery window: from its fence closing until OPEN or HELD. -/
def State.inWindow (s : State) (l i : Nat) : Bool := 1 ≤ s.domState l i && s.domState l i ≤ 4

/-- A domain that stays HELD until the next start. -/
def State.stuck (s : State) (l i : Nat) : Bool := SMap.get (fun _ => false) s.rst.stuck (domKey l i)
def State.setStuck (s : State) (l i : Nat) : State :=
  { s with rst := { s.rst with stuck := SMap.set (fun _ => false) s.rst.stuck (domKey l i) true } }

/-- The domains that contain a domain, itself first. -/
def outerDomains (l i : Nat) : List (Nat × Nat) :=
  match l with
  | 1 => [(1, i), (3, i / 24), (4, i / 192)]
  | 3 => [(3, i), (4, i / 8)]
  | _ => [(l, i)]

/-- The domains inside a cluster or partition. -/
def innerDomains (l i : Nat) : List (Nat × Nat) :=
  match l with
  | 3 => (List.range 24).map (fun j => (1, 24 * i + j))
  | 4 => (List.range 192).map (fun j => (1, 192 * i + j)) ++ (List.range 8).map (fun j => (3, 8 * i + j))
  | _ => []

/-- The tiles of a domain. -/
def domTiles (l i : Nat) : List Nat :=
  match l with
  | 1 => [i]
  | 3 => (List.range 24).map (24 * i + ·)
  | 4 => (List.range 192).map (192 * i + ·)
  | _ => []

/-- The working tiles of a domain. -/
def State.workingIn (s : State) (l i : Nat) : List Nat := (domTiles l i).filter s.working

/-! ### Hang records (R591, R592) -/

/-- The 32 bytes of a record about a domain. ACTION: 0 NONE, 1 RESET, 2 HOLD, 3 ABSORBED, 4 MERGED, 5 QUEUED. -/
def State.hangRecord (s : State) (kind l action i context : Nat) : List Byte :=
  let x := s.tile i
  let station := decide (l = 1) && x.handle != 0
  leBytes 8 s.now ++ leBytes 1 kind ++ leBytes 1 l ++ leBytes 1 action ++ leBytes 1 0 ++ leBytes 2 i ++
    leBytes 2 (if station then x.handle.toNat else 0) ++ leBytes 2 (if station then x.station else 0xFFFF) ++
    leBytes 2 (if l = 1 then x.pc.toNat else 0) ++ leBytes 4 0xFFFFFFFF ++ leBytes 8 context

/-- CONTEXT of a domain's record: TILE_EXC_ADDR of a tile, the PC of a core. -/
def State.domContext (s : State) (l i : Nat) : Nat :=
  match l with
  | 1 => s.pair .TILE_EXC_ADDR_LO .TILE_EXC_ADDR_HI i
  | 2 => (s.core i).pc.toNat
  | _ => 0

/-- A record shown in RST_HREC. -/
def State.putHrec (s : State) (b : List Byte) : State := (List.range 8).foldl (fun a w => a.wr .RST_HREC w (leAt b (4 * w) 4)) s

/-- The bytes of RST_HREC. -/
def State.hrec (s : State) : List Byte := (List.range 8).flatMap (fun w => leBytes 4 (s.rr .RST_HREC w))

/-- The entries of a ring of RST that software has not consumed. -/
def State.ringHeld (s : State) (wr rd : Reg) : Nat := (s.rr wr + 2 ^ 32 - s.rr rd) % 2 ^ 32

/-- A record written to the registers and the log ring, and its place in the ring. -/
def State.writeHang (s : State) (b : List Byte) : State × Option Nat :=
  let s1 := s.putHrec b
  let base := s.pair .RST_LOG_LO .RST_LOG_HI
  let n := 2 ^ s.f F.RST_LOG_CTL_ORDER
  if base = 0 then (s1, none)
  else if n ≤ s.ringHeld .RST_LOG_WR .RST_LOG_RD then (s1.bump .RST_LOGLOST, none)
  else
    let a := base + 32 * (s.rr .RST_LOG_WR % n)
    ((s1.writeMem a b false 4).wr .RST_LOG_WR 0 ((s.rr .RST_LOG_WR + 1) % 2 ^ 32), some a)

/-- A record whose content has moved on: the last one in the registers, and its place in the ring. -/
def State.reviseHang (s : State) (old new : List Byte) (place : Option Nat) : State :=
  let s1 := if s.hrec = old then s.putHrec new else s
  match place with
  | some a => s1.writeMem a new false 4
  | none => s1

/-- Bytes of a record replaced. -/
def patch (b : List Byte) (o : Nat) (x : List Byte) : List Byte := b.take o ++ x ++ b.drop (o + x.length)

/-- CONTEXT of a record: that of the domain, or for KIND 5 the address of the request. -/
def State.contextOf (s : State) (l i : Nat) (addr : Option Nat) : Nat := addr.getD (s.domContext l i)

/-- A record that stands as it is written. -/
def State.noteHang (s : State) (kind l action i : Nat) (addr : Option Nat := none) : State :=
  (s.writeHang (s.hangRecord kind l action i (s.contextOf l i addr))).1

/-! ### The fence (R580, R583) -/

/-- A core behind its fence, stopped: IC ends its services (R517), and its wait is over. -/
def State.stopCore (s : State) (c : Nat) : State :=
  let k := s.core c
  s.setCore c { k with on := false, wfi := false, wait := none, appSvc := 0, svcSvc := 0, window := false, held := false }

/-- The fence of a domain closes: every caravan with a station in it is FAULTED, its core stops. -/
def State.closeFence (s : State) (l i : Nat) : State :=
  if l = 2 then s.stopCore i else (s.workingIn l i).foldl (fun a t => a.fenceStation t) s

/-! ### Tiles and cores given up (R573, R587, R599) -/

/-- A tile's floor-plan code and working bit. -/
def State.setCode (s : State) (t code : Nat) : State :=
  let works := code == 0 || code == 5
  let s1 := s.wr .IDT_FP (t / 8) (putBits (s.rr .IDT_FP (t / 8)) (4 * (t % 8) + 3) (4 * (t % 8)) code)
  s1.wr .IDT_GOOD (t / 32) (putBits (s1.rr .IDT_GOOD (t / 32)) (t % 32) (t % 32) (b2n works))

/-- The floor-plan code of a tile. -/
def State.codeOf (s : State) (t : Nat) : Nat := bits (s.rr .IDT_FP (t / 8)) (4 * (t % 8) + 3) (4 * (t % 8))

/-- IDT_TILES as the floor plan counts it. -/
def State.countTiles (s : State) : State :=
  let codes := (List.range 768).map s.codeOf
  (s.sf F.IDT_TILES_GOOD 0 (codes.filter (fun c => c == 0 || c == 5)).length).sf F.IDT_TILES_MARGINAL 0
    (codes.filter (· == 5)).length

/-- A tile fenced for the rest of the start: code RUNTIME, and the floor plan's generation raised before and after. -/
def State.markRuntime (s : State) (t : Nat) : State :=
  if s.working t then
    let s1 := (s.setCode t 4).countTiles
    s1.wr .IDT_FP_GEN 0 ((s1.rr .IDT_FP_GEN + 2) % 2 ^ 32)
  else s

/-- A domain HELD until the next start, with every tile in it. -/
def State.holdDomain (s : State) (l i : Nat) : State :=
  let s1 := ((s.closeFence l i).setDom l i 5).setStuck l i
  let s2 := { s1 with rst := { s1.rst with recov := SMap.del s1.rst.recov (domKey l i) } }
  (domTiles l i).foldl (fun a t => a.markRuntime t) s2

/-! ### Package reset and power cycle (R593, R602, R603) -/

/-- The package reset's preparation: nothing else recovers any more (R604), musters end, the energy is saved, and the last record goes to
the journal. -/
def State.preparePackage (s : State) (kind : Nat) : State :=
  let s1 := { s with rst := { s.rst with recov := [], queue := [], pkgReset := some kind } }
  (s1.abortMusters.saveElife).log { event := 0x0063, detail := s.hrec }

/-- A package reset asked for: it begins when the draw has reached the floor, at once in ORPHAN. -/
def State.packageReset (s : State) (kind : Nat) : State :=
  if s.rst.pkgReset.isSome || s.shutting || s.thm.tripped then s
  else
    let s1 := s.preparePackage kind
    if s1.fb F.OST_STAT_ORPHAN then s1.beginStart false else s1

/-- FAULT_N pulsed, and the tray controller asked for a power cycle. -/
def State.powerCycle (s : State) : State := s.pulse.send (.notice 4 0)

/-! ### Escalation (R600, R601) -/

/-- An escalation to a level counted, with its events. -/
def State.countEscalation (s : State) (l : Nat) : State := ((s.bump .RST_ESCAL).rstEvent 3).raise 11 l .fenced

/-- A tile or core that does not come back: HELD, with a record of KIND ESCALATE. -/
def State.escalateHeld (s : State) (l i : Nat) : State :=
  (((s.countEscalation l).noteHang 8 l 2 i).holdDomain l i)

/-- A partition escalates: a package reset. -/
def State.escalatePackage (s : State) : State := ((s.countEscalation 5).noteHang 8 5 1 0).packageReset 8

/-! ### Resets (R585, R597, R601, R604) -/

/-- PTIME of a domain's resets within the window of R601. -/
def State.recentResets (s : State) (l i : Nat) : List Nat :=
  (SMap.get (fun _ => []) s.rst.times (domKey l i)).filter (fun t => decide (s.now < t + s.f F.RST_CFG_WINDOW * 1000000000))

/-- An inner recovery taken over by a larger reset: a record with ACTION MERGED, and its own fence is the larger one's. -/
def State.mergeInner (s : State) (l i : Nat) : State :=
  let k := domKey l i
  match SMap.find? s.rst.recov k, s.rst.queue.find? (fun q => domKey q.level q.index == k) with
  | some r, _ =>
    let s1 := (s.noteHang r.kind l 4 i).setDom l i 0
    { s1 with rst := { s1.rst with recov := SMap.del s1.rst.recov k } }
  | none, some q =>
    let s1 := (s.noteHang q.kind l 4 i).setDom l i 0
    { s1 with rst := { s1.rst with queue := s1.rst.queue.filter (fun p => domKey p.level p.index != k) } }
  | none, none => s

/-- A domain's reset starts: DRAIN, behind its fence. -/
def State.startReset (s : State) (l i kind : Nat) (record : List Byte) (place : Option Nat) : State :=
  let s1 := (innerDomains l i).foldl (fun a d => a.mergeInner d.1 d.2) s
  let states := (s1.workingIn l i).map (fun t => (t, (s1.tileState t).code))
  let s2 := ((s1.bump .RST_RESETS).setDomCause l i kind).setDomStatus l i .ok
  let s3 := { s2 with rst := { s2.rst with
    times := SMap.put s2.rst.times (domKey l i) (s.now :: s.recentResets l i)
    recov := SMap.put s2.rst.recov (domKey l i) ⟨kind, record, place, states⟩ } }
  (s3.closeFence l i).setDom l i 1

/-- As many resets of a level run as may (R597): 8 clusters, 1 partition. -/
def State.resetsFull (s : State) (l : Nat) : Bool :=
  let running := ((List.range (domCount l)).filter (fun i => s.inWindow l i)).length
  match l with
  | 3 => 8 ≤ running
  | 4 => 1 ≤ running
  | _ => false

/-- A second event on a domain in recovery, or on one that stays HELD, is absorbed (R604). -/
def State.absorbs (s : State) (l i : Nat) : Bool :=
  (outerDomains l i).any (fun d => s.inWindow d.1 d.2 || s.stuck d.1 d.2) || s.domState l i == 6

/-- A reset begins or waits its turn, with its record. -/
def State.beginReset (s : State) (l i kind : Nat) (addr : Option Nat) : State :=
  let full := s.resetsFull l
  let b := s.hangRecord kind l (if full then 5 else 1) i (s.contextOf l i addr)
  let w := s.writeHang b
  if full then
    let s1 := w.1.setDom l i 6
    { s1 with rst := { s1.rst with queue := s1.rst.queue ++ [⟨l, i, kind, b, w.2⟩] } }
  else w.1.startReset l i kind b w.2

/-- A detector names a domain whose fence another detector's reset closed in this very instant (R604): two records, one reset. -/
def State.sameInstant (s : State) (l i kind : Nat) : Bool :=
  match SMap.find? s.rst.recov (domKey l i) with
  | some r => decide (kind ≤ 6) && decide (r.kind ≤ 6) && decide (s.domState l i = 1) && r.record.take 8 == leBytes 8 s.now
  | none => false

/-- A reset of a domain asked for: absorbed, escalated by `up` at its REPEAT-th time, or begun. A detector's and FCL's record is written
whatever follows (R589, R601, R604, R610). -/
def State.requestWith (s : State) (up : State → State) (l i kind : Nat) (addr : Option Nat) : State :=
  if s.sameInstant l i kind then s.noteHang kind l 1 i addr
  else if s.absorbs l i then (s.noteHang kind l 3 i addr).bump .RST_ABSORBED
  else if s.f F.RST_CFG_REPEAT ≤ (s.recentResets l i).length + 1 then
    up (if kind = 7 ∨ kind = 8 then s else s.noteHang kind l 0 i addr)
  else s.beginReset l i kind addr

/-- A partition's reset. -/
def State.resetPart (s : State) (i kind : Nat) (addr : Option Nat) : State := s.requestWith State.escalatePackage 4 i kind addr

/-- A cluster escalates: its partition's reset, with KIND ESCALATE. -/
def State.escalateCluster (s : State) (i : Nat) : State := (s.countEscalation 4).resetPart (i / 8) 8 none

/-- A reset of any domain below the package asked for. -/
def State.requestReset (s : State) (l i kind : Nat) (addr : Option Nat := none) : State :=
  match l with
  | 3 => s.requestWith (fun a => a.escalateCluster i) 3 i kind addr
  | 4 => s.resetPart i kind addr
  | _ => s.requestWith (fun a => a.escalateHeld l i) l i kind addr

/-- Queued resets that may start now, in order of request (R597). -/
def State.startQueued (s : State) : State :=
  s.rst.queue.foldl (fun a q =>
    if a.resetsFull q.level then a
    else
      let b := patch q.record 10 (leBytes 1 1)
      let a1 := a.reviseHang q.record b q.place
      let a2 := { a1 with rst := { a1.rst with queue := a1.rst.queue.filter (fun p => domKey p.level p.index != domKey q.level q.index) } }
      a2.startReset q.level q.index q.kind b q.place) s

/-! ### Salvage (R594 to R596) -/

/-- One tile's sample: the number of the slot taken, if any. -/
def State.salvageTile (s : State) (t state : Nat) : State × Option Nat :=
  let len := s.f F.RST_SALV_CFG_LEN * 64
  let off := s.f F.RST_SALV_CFG_OFFSET * 64
  let base := s.pair .RST_SALV_LO .RST_SALV_HI
  let n := 2 ^ s.f F.RST_SALV_CTL_ORDER
  if len = 0 then (s, none)
  else if base = 0 ∨ n ≤ s.ringHeld .RST_SALV_WR .RST_SALV_RD then (s.bump .RST_SALVLOST, none)
  else
    let w := s.rr .RST_SALV_WR
    let a := base + 4160 * (w % n)
    let x := s.tile t
    let src := spadAddr t off
    let bad := (List.range (len / 64)).any (fun k => s.poisoned (src / 64 + k))
    let h := leBytes 8 s.now ++ leBytes 2 t ++ leBytes 2 x.handle.toNat ++ leBytes 2 (if x.handle = 0 then 0xFFFF else x.station) ++
      leBytes 1 state ++ leBytes 1 (b2n bad) ++ leBytes 4 (s.rr .TILE_EXC t) ++ leBytes 4 (s.rr .TILE_FLAGS t) ++
      leBytes 4 x.pc.toNat ++ leBytes 4 off ++ leBytes 4 len ++ leBytes 28 0
    let s1 := (List.range (len / 64)).foldl (fun b k =>
      b.writeMem (a + 64 + 64 * k) (b.bytes (src + 64 * k) 64) (b.poisoned (src / 64 + k)) 4) (s.writeMem a h false 4)
    (s1.wr .RST_SALV_WR 0 ((w + 1) % 2 ^ 32), some w)

/-- The samples of a domain's working tiles: the first slot taken, if any. -/
def State.salvage (s : State) (states : SMap Nat) : State × Option Nat :=
  states.foldl (fun a e =>
    let r := a.1.salvageTile e.1 e.2
    (r.1, a.2.orElse (fun _ => r.2))) (s, none)

/-! ### The end of a reset (R582, R586, R587) -/

/-- Scratchpad and instruction memory of a tile cleared to zero. -/
def State.clearStore (s : State) (t : Nat) : State :=
  let lo := spadAddr t 0
  let hi := imemAddr t 0x10000
  { s with mem := { s.mem with
    cells := s.mem.cells.filter (fun e => e.1 < lo || hi ≤ e.1)
    poison := s.mem.poison.filter (fun e => e.1 * 64 < lo || hi ≤ e.1 * 64)
    latent := s.mem.latent.filter (fun e => e.1 * 64 < lo || hi ≤ e.1 * 64) } }

/-- The tile registers with their reset values. -/
def State.clearTileRegs (s : State) (t : Nat) : State :=
  let lo := 0x100000C0000 + t * 0x100000
  { s with regs := s.regs.filter (fun e => e.1 < lo || lo + 0x1000 ≤ e.1) }

/-- A tile reset: nothing of its state is kept but, while a slot that is not FREE holds it, the station it held. -/
def State.resetTile (s : State) (t : Nat) : State :=
  let x := s.tile t
  let keeps : Bool := match s.slotOfTile t with
    | some i => decide ((s.slot i).state ≠ .free) && decide (BitVec.ofNat 16 (s.handle i) = x.handle)
    | none => false
  let y : Tile := if keeps then { st := .stopped, handle := x.handle, station := x.station, sink := x.sink } else {}
  (s.clearTileRegs t).setTile t y

/-- A core reset. -/
def State.resetCore (s : State) (c : Nat) : State := s.setCore c {}

end Sys2Proof.Machine
end

