-- ==== Sys2Proof/Machine/Clock.lean ====
section
/-! DEFINITION. One nanosecond of time (log 6): what runs by itself while no command waits. The events that the opcode table names for an
elapsed time are commands of their own and do not happen here. -/

namespace Sys2Proof.Machine

/-- PTIME for one tick (R42, R44, R715): one nanosecond, and while an offset is slewed in one more or one less every 10,000 ticks. It waits for
step 4 of the start. -/
def State.ptimeTick (s : State) : State :=
  if !s.boot.rails then s
  else
    let t := s.tmb
    let since := t.sinceEdge.map (· + 1)
    if t.slew = 0 ∨ !t.refclk then { s with tmb := { t with ptime := t.ptime + 1, sinceEdge := since, slewTick := 0 } }
    else if t.slewTick + 1 < 10000 then
      { s with tmb := { t with ptime := t.ptime + 1, sinceEdge := since, slewTick := t.slewTick + 1 } }
    else if 0 < t.slew then
      { s with tmb := { t with ptime := t.ptime + 2, sinceEdge := since, slew := t.slew - 1, slewTick := 0 } }
    else { s with tmb := { t with sinceEdge := since, slew := t.slew + 1, slewTick := 0 } }

/-- The hold of a governor ages (R341). -/
def State.holdTick (s : State) (gb : Bool) : State :=
  let g := s.gov gb
  if g.holdOn && g.follow then s.setGov gb { g with holdAge := g.holdAge + 1 } else s

/-- A core for one tick: mcycle while it is not idle (R502), the cycles of a wait on the caravan port (R652), its timers (R503). -/
def State.coreTick (s : State) (c : Nat) : State :=
  let k := s.core c
  if !k.on then s
  else
    let k1 := if k.idle then k else { k with mcycle := k.mcycle + 1 }
    let k2 := if k.wait.isSome then k1.event 8 else k1
    (s.setCore c k2).coreTimer c

/-- The policer of class 0 gains 4 bytes a nanosecond, up to 4,096 (R436). -/
def State.policerTick (s : State) : State := { s with frt := { s.frt with tokens := min 4096 (s.frt.tokens + 4) } }

/-- The steward's clock (R557). -/
def State.stewardTick (s : State) : State :=
  if s.boot.vaux || s.boot.running then { s with boot := { s.boot with elapsed := s.boot.elapsed + 1 } } else s

/-- One nanosecond. -/
def State.tick (s : State) : State :=
  let s1 := ((s.stewardTick.ptimeTick).noteSync s.sync).policerTick
  let s2 := (s1.holdTick false).holdTick true
  ((List.range 32).foldl (fun a c => a.coreTick c) s2).prfTick

end Sys2Proof.Machine
end

