-- ==== Sys2Proof/Machine/Caravans.lean ====
section
/-! DEFINITION. The caravan instructions of the application cores and the events of the caravan controller (R99 to R149). -/

namespace Sys2Proof.Machine

/-! ### Admission (R127, R128, R148) -/

/-- The next queued sequence admitted: its payload read, and an entry bale for station 0, or a completion with the read's status. -/
def State.admitOne (s : State) (i : Nat) (timeout : Bool) : State :=
  let x := s.slot i
  match x.queue with
  | [] => s
  | q :: rest =>
    let seq := (q.firstSeq + q.admitted) % 65536
    let addr := q.src + q.admitted * q.stride
    let queue := if q.count ≤ q.admitted + 1 then rest else { q with admitted := q.admitted + 1 } :: rest
    let s1 := (s.setSlot i { x with queue := queue, inflight := x.inflight ++ [seq] }).blockEvent 0x40 i 1
    if timeout then s1.complete i { seq := seq, status := .timeout, flags := 0, length := 0, sink := none }
    else
      let r := s1.readMem addr q.length 2
      let entry := (x.stations.head?.map (·.tile)).getD 0
      let w : Waybill :=
        { handle := BitVec.ofNat 16 (s.handle i), seq := BitVec.ofNat 16 seq, route := q.route, hops := 0
          flags := if r.2.2 then 9 else 1, length := BitVec.ofNat 32 q.length, data0 := q.data0, data1 := q.data1, origin := 0xFFFF }
      { r.1 with cvn := { r.1.cvn with trail := r.1.cvn.trail ++ [⟨entry, w, r.2.1⟩] } }

/-- Up to `n` sequences admitted, while the slot has room. -/
def State.admitMany (s : State) (i : Nat) : Nat → State
  | 0 => s
  | n + 1 =>
    if (s.slot i).queue.isEmpty || decide (1024 ≤ (s.slot i).inflight.length) then s
    else State.admitMany (s.admitOne i false) i n

/-- The most a period is shortened by: CATCHUP × PERIOD / 256 ns, rounded down (R146). -/
def Cadence.most (c : Cadence) : Nat := c.catchup * c.period / 256

/-- A release at `now` (R145, R146, R148): up to BATCH sequences; a short release is counted. -/
def State.release0 (s : State) (i : Nat) (c : Cadence) (now : Nat) : State :=
  let x := s.slot i
  let nominal := x.t0 + x.release * c.period
  let debt := now - nominal
  let before := x.inflight
  let s1 := s.wr .CVN_SLOT_DEBT i (min debt 0xFFFFFFFF)
  let s2 := if x.unadmitted < c.batch then s1.bump .CVN_SLOT_SHORT i else s1
  let s3 := s2.setSlot i { x with
    release := x.release + 1, sched := now + c.period - min debt c.most, relLate := false }
  let s4 := s3.admitMany i c.batch
  let y := s4.slot i
  s4.setSlot i { y with relOpen := y.inflight.filter (fun q => !before.contains q) }

/-- The first release of a cadence: its time origin, with the debt at 0 (R144, R149). -/
def State.firstRelease (s : State) (i : Nat) (c : Cadence) (now : Nat) : State :=
  let x := s.slot i
  (s.setSlot i { x with cadence := some c, cadenceNext := none, t0 := now, release := 0, relOpen := [] }).release0 i c now

/-! ### Refusals the instructions share (R101, R102, R119) -/

/-- What a handle operand alone gives: BAD_HANDLE, STALE or BOUNDS. -/
def State.handleStatus (s : State) (h : Nat) : Status :=
  let i := h % 64
  let g := h / 64 % 1024
  let freeSlot := (s.slot i).state == .free
  firstStatus [ (g == 0 || freeSlot, .badHandle), (g != 0 && !freeSlot && g != s.gen i, .stale), (decide (2 ^ 16 ≤ h), .bounds) ]

/-- The statuses of a handle and of conditions together, by R21. -/
def State.refusal (s : State) (h : Nat) (l : List (Bool × Status)) : Status :=
  match s.handleStatus h with
  | .badHandle => .badHandle
  | .stale => .stale
  | .bounds => firstStatus ((true, .bounds) :: l)
  | _ => firstStatus l

/-- A caravan instruction after the core's own checks: `f` gives the state, the status and the result fields. -/
def State.cvn1 (s : State) (o : CvnOp) (funct7 : Nat) (two : Bool) (f : State → Nat → State × Status × Nat) :
    Host.Outcome State Fault Refusal :=
  let c := o.core.val
  match cvnGate (s.core c) o two with
  | .idle => .next s
  | .trap cause => .next (s.coreException c cause (cvnWord o funct7))
  | .go =>
    let r := f s (s.xreg c o.rs1.toNat)
    .next (r.1.cvnResult c o.rd.toNat r.2.1 r.2.2)

/-- A status as a refusal with no result. -/
def refuse (s : State) (st : Status) : State × Status × Nat := (s, st, 0)

/-- The safe state holds (R613). -/
def State.safe (s : State) : Bool := s.fb F.FCL_STAT_SAFE

/-! ### `cvn.open` -/

/-- The descriptor header (R109). -/
structure Header where
  stations : Nat
  hopMax : Nat
  irqCore : Nat
  thresh : Nat
  table : Nat
  ring : Nat
  order : Nat
  cls : Nat
  toll : Nat
  perm : Nat
  reserved : Bool
  deriving DecidableEq, Repr

def readHeader (b : List Byte) : Header :=
  { stations := leAt b 0 2, hopMax := leAt b 2 1, irqCore := leAt b 3 1, thresh := leAt b 4 4, table := leAt b 8 8
    ring := leAt b 16 8, order := leAt b 24 1, cls := leAt b 25 1, toll := leAt b 26 2, perm := leAt b 28 1
    reserved := leAt b 29 35 != 0 }

/-- An illegal value in the header, whatever the station table holds (R109, R112, R649). -/
def Header.illegal (h : Header) : Bool :=
  decide (768 < h.stations) || h.hopMax == 0 || (decide (31 < h.irqCore) && h.irqCore != 0xFF) || h.table % 32 != 0 ||
    h.ring % 16 != 0 || decide (h.order < 4) || decide (16 < h.order) || decide (1 < h.cls) || decide (8 ≤ h.perm) || h.reserved ||
    !inMem h.table (32 * h.stations) || !inMem h.ring (16 * 2 ^ h.order)

/-- A station table entry as the bytes give it (R110), with whether its reserved SFLAGS are zero. -/
def readStation (b : List Byte) : Station × Bool :=
  (⟨leAt b 0 2, leAt b 2 2 % 2 == 1, leAt b 4 4, leAt b 8 8, (List.range 8).map (fun k => leAt b (16 + 2 * k) 2)⟩,
    leAt b 2 2 < 2)

/-- An illegal value in a station entry (R110, R112). -/
def Station.illegal (x : Station) (n : Nat) : Bool :=
  decide (767 < x.tile) || decide (65536 < x.codeLen) || x.codeLen % 8 != 0 || x.codeAddr % 8 != 0 ||
    !inMem x.codeAddr x.codeLen || x.next.any (fun k => decide (n ≤ k) && k != 0xFFFF)

/-- The lowest FREE slot (R100). -/
def State.freeSlot (s : State) : Option Nat := (List.range 64).find? (fun i => (s.slot i).state == .free)

/-- The status of an open whose header and table have been read (R112, R21). -/
def State.openStatus (s : State) (h : Header) (sts : List (Station × Bool)) (poison : Bool) : Status :=
  let xs := sts.map (·.1)
  firstStatus [
    (s.safe, .fenced),
    (xs.any (fun x => decide (x.tile < 768) && s.tileFenced x.tile), .fenced),
    (h.illegal, .bounds),
    (sts.any (fun p => !p.2 || p.1.illegal h.stations), .bounds),
    (!xs.any (·.sink), .bounds),
    (decide ((xs.map (·.tile)).dedup.length < xs.length), .mismatch),
    (s.freeSlot.isNone, .noResource),
    (xs.any (fun x => (s.tile x.tile).handle != 0), .busy),
    (poison, .poison) ]

/-- The fan-out registers of a tile at their reset values (R276). -/
def State.resetFanout (s : State) (t : Nat) : State :=
  let s1 := ((s.wr .FO_CTL t (Reg.FO_CTL.rst t)).wr .FO_EXITS t 0).wr .FO_STALEWIN t 0
  let s2 := (List.range 4).foldl (fun a w => a.wr .FO_CAP (t * 4 + w) 0) s1
  (List.range 8).foldl (fun a k => (a.wr .FO_SENT (t * 8 + k) 0).wr .FO_DROP (t * 8 + k) 0) s2

/-- A tile taken for a station (R152, R204, R276, R648): LOADING, its successors set, fan-out and counters cleared. -/
def State.takeTile (s : State) (i : Nat) (xs : List Station) (k : Nat) (x : Station) : State :=
  let t := x.tile
  let nx := fun n => let j := x.next.getD n 0xFFFF
    if j = 0xFFFF then 0xFFFF else (xs[j]?.map (·.tile)).getD 0xFFFF
  let y := (s.tile t).stop .loading
  let s1 := s.setTile t { y with handle := BitVec.ofNat 16 (s.handle i), station := k, sink := x.sink }
  let s2 := (List.range 4).foldl (fun a w => a.wr .TILE_NEXT (t * 4 + w) (nx (2 * w) + nx (2 * w + 1) * 2 ^ 16)) s1
  let s3 := s2.resetFanout t
  (List.range 4).foldl (fun a w => a.wr .PRF_TCNT (t * 4 + w) 0) s3

/-- A slot allocated (R100, R114, R136): a new generation and the registers of the slot as at open. -/
def State.fillSlot (s : State) (i : Nat) (h : Header) (xs : List Station) : State :=
  let g := if s.gen i = 1023 then 1 else s.gen i + 1
  let s1 := s.sf F.CVN_SLOT_GEN i g
  let s2 := s1.setSlot i
    { state := .loading, stations := xs, hopMax := h.hopMax, irqCore := h.irqCore, ringBase := h.ring, ringOrder := h.order
      perm := BitVec.ofNat 8 h.perm }
  let s3 := [Reg.CVN_SLOT_DONE, .CVN_SLOT_ABORTED, .CVN_SLOT_ERR, .CVN_SLOT_RING_WR, .CVN_SLOT_RING_RD, .CVN_SLOT_EVENT,
    .CVN_SLOT_DEBT].foldl (fun a r => a.wr r i 0) s2
  let s4 := (s3.wr .CVN_SLOT_EVENT_EN i (if h.irqCore = 0xFF then 0 else 0x3F)).wr .CVN_SLOT_THRESH i h.thresh
  let s5 := s4.wr .CVN_SLOT_TOLL i (h.cls * 2 ^ 16 + h.toll)
  (xs.zipIdx 0).foldl (fun a p => a.takeTile i xs p.2 p.1) s5

/-- The checks of the address of a header or push record (R38, R39, R120): BOUNDS before anything is read, a trap, or the bytes. -/
inductive Operand where
  | crosses
  | trap (s : State) (cause : Nat)
  | bytes (s : State) (b : List Byte)
  deriving DecidableEq, Repr

def State.coreOperand (s : State) (va n : Nat) (x : Xlate) : Operand :=
  if 4096 < va % 4096 + n then .crosses
  else
    match x with
    | .pageFault => .trap s excLoadPage
    | .accessFault => .trap s excLoadAccess
    | .page ppn =>
      let a := ppn * 4096 + va % 4096
      if !inMem a n then .trap s excLoadAccess
      else
        let r := s.readMem a n 0
        if r.2.2 then .trap r.1 excLoadAccess else .bytes r.1 r.2.1

/-- `cvn.open` (R100, R112, R120, R121, R325). -/
def execCvnOpen (o : CvnOp) (x : Xlate) (s : State) : Host.Outcome State Fault Refusal :=
  let c := o.core.val
  match cvnGate (s.core c) o false with
  | .idle => .next s
  | .trap cause => .next (s.coreException c cause (cvnWord o 1))
  | .go =>
    let va := s.xreg c o.rs1.toNat
    match s.coreOperand va 64 x with
    | .crosses => .next (s.cvnResult c o.rd.toNat (firstStatus [(s.safe, .fenced), (true, .bounds)]) 0)
    | .trap s1 cause => .next (s1.coreException c cause va)
    | .bytes s1 b =>
      let h := readHeader b
      if h.stations = 0 then .next (s1.cvnResult c o.rd.toNat .ok 0)
      else
        let fits := h.stations ≤ 768 ∧ h.table % 32 = 0 ∧ inMem h.table (32 * h.stations)
        let r := if fits then s1.readMem h.table (32 * h.stations) 2 else (s1, [], false)
        let sts := (List.range h.stations).map (fun k => readStation (slice r.2.1 (32 * k) 32))
        let st := if fits then r.1.openStatus h sts r.2.2
          else firstStatus [(s1.safe, .fenced), (true, .bounds)]
        match st, r.1.freeSlot with
        | .ok, some i =>
          let s2 := (r.1.endAcc .busy).fillSlot i h (sts.map (·.1))
          .next (s2.cvnResult c o.rd.toNat .ok (s2.handle i * 2 ^ 16))
        | st, _ => .next (r.1.cvnResult c o.rd.toNat st 0)

/-! ### The other instructions -/

/-- The stations of a slot start (R151, R273). -/
def State.startStations (s : State) (i : Nat) : State := (s.slot i).stations.foldl (fun a x => a.startTile x.tile) s

/-- A slot enters RUNNING (R144, R149): a change of cadence takes effect, and a cadence makes its first release at once. -/
def State.enterRunning (s : State) (i : Nat) : State :=
  let x := s.slot i
  let cad := match x.cadenceNext with | some c => c | none => x.cadence
  let s1 := (s.setSlot i { x with state := .running, cadence := cad, cadenceNext := none }).wr .CVN_SLOT_DEBT i 0
  match cad with
  | some c => s1.firstRelease i c s1.now
  | none => s1

/-- `cvn.start` (R114, R151). -/
def execCvnStart (o : CvnOp) (s : State) : Host.Outcome State Fault Refusal :=
  s.cvn1 o 2 false fun s h =>
    let i := h % 64
    let st := (s.slot i).state
    match s.refusal h [(s.safe || st == .faulted, .fenced), (st == .loading || st == .aborting, .busy)] with
    | .ok =>
      match st with
      | .ready => ((s.startStations i).enterRunning i, .ok, 0)
      | .paused => (s.enterRunning i, .ok, 0)
      | _ => (s, .ok, 0)
    | e => refuse s e

/-- The push record (R124). -/
def readPush (b : List Byte) (first : Nat) : PushRec × Bool :=
  (⟨leAt b 0 8, leAt b 8 4, leAt b 12 4, leAt b 16 2, BitVec.ofNat 16 (leAt b 18 2), BitVec.ofNat 64 (leAt b 20 8),
    BitVec.ofNat 64 (leAt b 28 8), first, 0⟩, leAt b 36 12 != 0)

/-- `cvn.push` (R120, R125, R126). -/
def execCvnPush (o : CvnOp) (x : Xlate) (s : State) : Host.Outcome State Fault Refusal :=
  let c := o.core.val
  match cvnGate (s.core c) o true with
  | .idle => .next s
  | .trap cause => .next (s.coreException c cause (cvnWord o 3))
  | .go =>
    let h := s.xreg c o.rs1.toNat
    let va := s.xreg c o.rs2.toNat
    let i := h % 64
    let state := (s.slot i).state
    let common : List (Bool × Status) := [(s.safe || state == .faulted, .fenced), (state == .aborting, .busy)]
    match s.coreOperand va 48 x with
    | .crosses => .next (s.cvnResult c o.rd.toNat (s.refusal h ((true, .bounds) :: common)) 0)
    | .trap s1 cause => .next (s1.coreException c cause va)
    | .bytes s1 b =>
      let y := s1.slot i
      let p := readPush b y.nextSeq
      let r := p.1
      let empty := r.length == 0 || r.count == 0
      let bad := !empty && (decide (16384 < r.length) || !inMem (r.src + (r.count - 1) * r.stride) r.length || p.2)
      match s1.refusal h (common ++ [(bad, .bounds), (!empty && decide (16 ≤ y.queue.length), .noResource)]) with
      | .ok =>
        let s2 := if empty then s1
          else s1.setSlot i { y with queue := y.queue ++ [r], nextSeq := (y.nextSeq + r.count) % 65536 }
        .next (s2.cvnResult c o.rd.toNat .ok (y.nextSeq * 2 ^ 16))
      | e => .next (s1.cvnResult c o.rd.toNat e 0)

/-- `cvn.pause` (R114). -/
def execCvnPause (o : CvnOp) (s : State) : Host.Outcome State Fault Refusal :=
  s.cvn1 o 4 false fun s h =>
    let i := h % 64
    let x := s.slot i
    match s.refusal h [(x.state == .faulted, .fenced), (x.state == .loading || x.state == .ready || x.state == .aborting, .busy)] with
    | .ok => (if x.state = .running then s.setSlot i { x with state := .paused } else s, .ok, 0)
    | e => refuse s e

/-- The entry into ABORTING (R114, R164): stations stop, bales go, the queue is dropped. -/
def State.abortSlot (s : State) (i : Nat) : State :=
  let s1 := (s.stopStations i).removeBales i
  let x := s1.slot i
  s1.setSlot i { x with state := .aborting, queue := [], dropped := x.unadmitted, waiting := [], relOpen := [] }

/-- `cvn.abort` (R114). -/
def execCvnAbort (o : CvnOp) (s : State) : Host.Outcome State Fault Refusal :=
  s.cvn1 o 5 false fun s h =>
    let i := h % 64
    let x := s.slot i
    match s.refusal h [(x.state == .faulted, .fenced), (x.state == .loading || x.state == .aborting, .busy)] with
    | .ok => (if x.state.active then s.abortSlot i else s, .ok, 0)
    | e => refuse s e

/-- A slot's tiles released (R114, R164): no station, IDLE. -/
def State.releaseTiles (s : State) (i : Nat) : State :=
  (s.slot i).stations.foldl (fun a x =>
    let y := (a.tile x.tile).stop .idle
    a.setTile x.tile { y with handle := 0, station := 0, sink := false }) s

/-- `cvn.close` (R114, R115, R131). -/
def execCvnClose (o : CvnOp) (s : State) : Host.Outcome State Fault Refusal :=
  s.cvn1 o 6 false fun s h =>
    let i := h % 64
    let x := s.slot i
    let busy := match x.state with
      | .loading | .running | .aborting => true
      | .paused => !x.inflight.isEmpty
      | _ => false
    match s.refusal h [(busy, .busy)] with
    | .ok =>
      let s1 := (s.countAborted i x.unadmitted).releaseTiles i
      let n := s1.rr .CVN_SLOT_ABORTED i
      ((s1.setSlot i {}).endWaits i (fun _ => true) .badHandle 0, .ok, n * 2 ^ 32)
    | e => refuse s e

/-- `cvn.stat` (R117). -/
def execCvnStat (o : CvnOp) (s : State) : Host.Outcome State Fault Refusal :=
  s.cvn1 o 7 false fun s h =>
    let i := h % 64
    match s.refusal h [] with
    | .ok => (s, .ok, (s.slot i).state.code * 2 ^ 8 + (s.slot i).inflight.length * 2 ^ 16 + s.doneField i)
    | e => refuse s e

/-- `cvn.wait` (R130, R131): answered at once, or the core stalls. -/
def execCvnWait (o : CvnOp) (s : State) : Host.Outcome State Fault Refusal :=
  let c := o.core.val
  match cvnGate (s.core c) o true with
  | .idle => .next s
  | .trap cause => .next (s.coreException c cause (cvnWord o 8))
  | .go =>
    let h := s.xreg c o.rs1.toNat
    let target := s.xreg c o.rs2.toNat
    let i := h % 64
    match s.refusal h [((s.slot i).state == .faulted, .fenced), (decide (2 ^ 32 ≤ target), .bounds)] with
    | .ok =>
      if waitDone (s.rr .CVN_SLOT_DONE i) target then .next (s.cvnResult c o.rd.toNat .ok (s.doneField i))
      else .next (s.setCore c { s.core c with wait := some ⟨o.rd, i, BitVec.ofNat 32 target, s.now⟩ })
    | e => .next (s.cvnResult c o.rd.toNat e 0)

/-- 1 ms of PTIME has passed in a `cvn.wait` (R130). -/
def execCvnWaitTimeout (core : Fin 32) (s : State) : Host.Outcome State Fault Refusal :=
  match (s.core core).wait with
  | some w => .next (s.cvnResult core w.rd.toNat .timeout (s.doneField w.slot))
  | none => .next s

/-- `cvn.toll` (R139): in force from the next control period. -/
def execCvnToll (o : CvnOp) (s : State) : Host.Outcome State Fault Refusal :=
  s.cvn1 o 9 true fun s h =>
    let i := h % 64
    let v := s.xreg o.core.val o.rs2.toNat
    match s.refusal h [(decide (2 ^ 16 ≤ v) || decide (s.f F.PWW_RATED_RATED < v), .bounds)] with
    | .ok => (s.setSlot i { s.slot i with tollNext := some v }, .ok, 0)
    | e => refuse s e

/-- The cadence word (R143): illegal, no change, or a change. -/
def cadenceWord (v : Nat) : Bool × Option (Option Cadence) :=
  if !bit v 63 then (false, some none)
  else
    let c : Cadence := ⟨bits v 31 0, bits v 47 32, bits v 55 48⟩
    if bits v 62 56 != 0 || decide (128 < c.catchup) || decide (1024 < c.batch) || decide (c.period < 10000) then (true, none)
    else if c.batch = 0 then (false, none) else (false, some (some c))

/-- `cvn.cad` (R143, R144). -/
def execCvnCad (o : CvnOp) (s : State) : Host.Outcome State Fault Refusal :=
  s.cvn1 o 0xA true fun s h =>
    let i := h % 64
    let x := s.slot i
    let w := cadenceWord (s.xreg o.core.val o.rs2.toNat)
    match s.refusal h [(x.state == .faulted, .fenced), (w.1, .bounds), (x.state == .loading || x.state == .aborting, .busy)] with
    | .ok =>
      match w.2 with
      | none => (s, .ok, 0)
      | some c =>
        match x.state, x.cadence, c with
        | .running, none, some k => (s.firstRelease i k s.now, .ok, 0)
        | .running, none, none => (s, .ok, 0)
        | _, _, _ => (s.setSlot i { x with cadenceNext := some c }, .ok, 0)
    | e => refuse s e

/-! ### Events of the controller -/

/-- The first station whose program cannot be loaded: its tile fenced, or a read of its program marked POISON (R114). -/
def State.loadPrograms (s : State) : List (Station × Nat) → State × Option (Nat × Status)
  | [] => (s, none)
  | (x, k) :: rest =>
    if s.tileFenced x.tile then (s, some (k, .fenced))
    else if x.codeLen = 0 then State.loadPrograms (s.setTile x.tile { s.tile x.tile with st := .stopped }) rest
    else
      let r := s.readMem x.codeAddr x.codeLen 2
      if r.2.2 then (r.1, some (k, .poison))
      else
        let s1 := r.1.storeBytes (imemAddr x.tile 0) r.2.1
        State.loadPrograms (s1.setTile x.tile { s1.tile x.tile with st := .stopped }) rest

/-- The last station program is loaded (R111, R114): LOADED and READY; a program that cannot be loaded faults the slot. -/
def execStationLoadDone (slot : Fin 64) (s : State) : Host.Outcome State Fault Refusal :=
  let i := slot.val
  let x := s.slot i
  if x.state = .loading then
    let r := s.loadPrograms (x.stations.zipIdx 0)
    match r.2 with
    | none => .next ((r.1.setSlot i { r.1.slot i with state := .ready }).cvnEvent i 2)
    | some (k, st) => .next (r.1.faultSlot i k st)
  else .next s

/-- A program read returns POISON or a station tile is fenced while loading (R114). -/
def execStationLoadFault (slot : Fin 64) (s : State) : Host.Outcome State Fault Refusal :=
  let i := slot.val
  let x := s.slot i
  if x.state = .loading then
    let r := s.loadPrograms (x.stations.zipIdx 0)
    match r.2 with
    | none => .next s
    | some (k, st) => .next (r.1.faultSlot i k st)
  else .next s

/-- An abort ends (R114 to R116): all stations have stopped; sequences are counted, ABORTED is raised, the slot is READY. -/
def execAbortDone (slot : Fin 64) (s : State) : Host.Outcome State Fault Refusal :=
  let i := slot.val
  let x := s.slot i
  if x.state = .aborting ∧ x.stations.all (fun p => (s.tile p.tile).quiet) then
    let s1 := s.countAborted i (x.inflight.length + x.dropped)
    .next ((s1.setSlot i { x with state := .ready, inflight := [], dropped := 0 }).cvnEvent i 3)
  else .next s

/-- The controller admits the next queued sequence (R127, R128), in a slot without a cadence. -/
def execSeqAdmit (slot : Fin 64) (timeout : Bool) (s : State) : Host.Outcome State Fault Refusal :=
  let x := s.slot slot
  if !s.admissionStopped ∧ x.state = .running ∧ x.cadence = none ∧ x.inflight.length < 1024 ∧ x.queue ≠ [] then .next (s.admitOne slot timeout)
  else .next s

/-- The scheduled time of a release has come and the last one has completed (R144, R145). -/
def execCadenceRelease (slot : Fin 64) (s : State) : Host.Outcome State Fault Refusal :=
  let i := slot.val
  let x := s.slot i
  match x.cadence with
  | some c =>
    if !s.admissionStopped ∧ x.state = .running ∧ x.relOpen = [] then
      let now := max s.now x.sched
      match x.cadenceNext with
      | some none => .next ((s.setSlot i { x with cadence := none, cadenceNext := none }).wr .CVN_SLOT_DEBT i 0)
      | some (some k) => .next (s.firstRelease i k now)
      | none => .next (s.release0 i c now)
    else .next s
  | none => .next s

/-- The nominal time of the next release passes with the last one incomplete (R147). -/
def execLatePeriod (slot : Fin 64) (s : State) : Host.Outcome State Fault Refusal :=
  let i := slot.val
  let x := s.slot i
  if x.cadence.isSome ∧ x.relOpen ≠ [] ∧ !x.relLate then
    .next (((s.setSlot i { x with relLate := true }).bump .CVN_SLOT_LATE i).cvnEvent i 5)
  else .next s

/-- The trail without its first bale for a tile. -/
def takeFirst (t : Nat) : List Bale → Option (Bale × List Bale)
  | [] => none
  | b :: bs => if b.dest = t then some (b, bs) else (takeFirst t bs).map (fun p => (p.1, b :: p.2))

/-- The trail delivers a tile's first bale (R104, R108, R197). -/
def execBaleArrive (tile : Fin 768) (s : State) : Host.Outcome State Fault Refusal :=
  let t := tile.val
  match takeFirst t s.cvn.trail with
  | none => .next s
  | some (b, rest) =>
    let s1 := ({ s with cvn := { s.cvn with trail := rest } }).blockEvent 0x30 t 1
    let x := s1.tile t
    if x.handle ≠ b.wb.handle then .next (s1.bump .CVN_STALE_BALES)
    else
      let i := b.wb.handle.toNat % 64
      let hops := if b.wb.origin = 0xFFFF then b.wb.hops.toNat else b.wb.hops.toNat + 1
      if (s1.slot i).hopMax < hops then
        let s2 := s1.bump .CVN_SLOT_HOPDROP i
        if (s2.slot i).inflight.contains b.wb.seq.toNat then
          .next (s2.complete i { seq := b.wb.seq.toNat, status := .bounds, flags := 0, length := 0, sink := none })
        else .next s2
      else
        let b' : Bale := { b with wb := { b.wb with hops := BitVec.ofNat 8 hops } }
        .next ((s1.setTile t { x with inbox := x.inbox ++ [b'] }).fillBuffers 1 t)

/-- A completion that waited for ring space is written (R134). -/
def execCompletionResume (slot : Fin 64) (s : State) : Host.Outcome State Fault Refusal :=
  let i := slot.val
  let x := s.slot i
  match x.waiting with
  | [] => .next s
  | c :: rest =>
    if s.ringFull i then .next s
    else
      let s1 := (s.setSlot i { x with waiting := rest }).writeCompletion i c
      match c.sink with
      | some t => .next (s1.retireDone t)
      | none => .next s1

/-! ### Writes of the controller's registers that have rows of their own -/

/-- CVN_SLOT_RING_RD written: a value that leaves WR − RD outside 0 to 2^ORDER is illegal (R18, R134). -/
def State.ringRdWrite (s : State) (rq : Requester) (i v : Nat) : State :=
  let d := toSigned 32 ((s.rr .CVN_SLOT_RING_WR i + 2 ^ 32 - v % 2 ^ 32) % 2 ^ 32)
  s.writeWord rq false (decide (0 ≤ d) && decide (d ≤ 2 ^ (s.slot i).ringOrder)) .CVN_SLOT_RING_RD i v

/-- CVN_SLOT_RING_RD written. -/
def execCvnSlotRingRdWrite (rq : Requester) (slot : Fin 64) (value : BitVec 32) (s : State) : Host.Outcome State Fault Refusal :=
  .next (s.regWrite rq .CVN_SLOT_RING_RD slot value.toNat fun a => a.ringRdWrite rq slot value.toNat)

/-- CVN_SLOT_THRESH written: the count toward the next DONE event begins anew (R136). -/
def State.threshWrite (s : State) (rq : Requester) (i v : Nat) : State :=
  (s.setSlot i { s.slot i with sinceDone := 0 }).writeWord rq false true .CVN_SLOT_THRESH i v

/-- CVN_SLOT_THRESH written. -/
def execCvnSlotThreshWrite (rq : Requester) (slot : Fin 64) (value : BitVec 32) (s : State) : Host.Outcome State Fault Refusal :=
  .next (s.regWrite rq .CVN_SLOT_THRESH slot value.toNat fun a => a.threshWrite rq slot value.toNat)

/-- Legal values of FO_CTL for a station (the register's table). -/
def State.foCtlLegal (s : State) (t v : Nat) : Bool :=
  let idx := fun n => n == 0xF || (decide (n < 8) && s.next t n != 0xFFFF)
  let byp := bits v 15 12
  let cap := bits v 7 0
  decide (bits v 27 24 ≤ 10) && idx (bits v 19 16) && idx byp && (cap == 0 || (byp != 0xF && !bit cap byp))

/-- A fan-out register written (R276). -/
def State.foWrite (s : State) (rq : Requester) (r : Reg) (i t v : Nat) : State :=
  match s.slotOfTile t with
  | none => (s.err .cvn .badHandle).answer .badHandle 0
  | some k =>
    let st := (s.slot k).state
    let ctl := r == .FO_CTL
    let accepts := st == .ready || st == .paused || (!ctl && st == .running)
    let legal := !ctl || s.foCtlLegal t v
    if (r == .FO_CTL || r == .FO_CAP) && !accepts then
      let e := firstStatus [(!legal, .bounds), (true, .busy)]
      (s.err .cvn e).answer e 0
    else s.writeWord rq false legal r i v

/-- A fan-out register written, by its offset in the tile's part. -/
def execFoRegisterWrite (rq : Requester) (tile : Fin 768) (offset : Nat) (value : BitVec 32) (s : State) :
    Host.Outcome State Fault Refusal :=
  let t := tile.val
  if offset % 4 != 0 || decide (0x80 ≤ offset) then
    .next (s.regWrite rq .FO_CTL t value.toNat fun a => a.answer .bounds 0)
  else
    match Reg.at (0x80000 + t * 0x80 + offset) with
    | none => .next (s.regWrite rq .FO_CTL t value.toNat fun a => a.answer .ok 0)
    | some (r, i) => .next (s.regWrite rq r i value.toNat fun a => a.foWrite rq r i t value.toNat)

end Sys2Proof.Machine
end

