-- ==== Sys2Proof/Machine/CheckUnits.lean ====
section
/-! DEFINITION. The check-value units (spec/19): starting a value, feeding it by writes and by scans, and the events of a scan. -/

namespace Sys2Proof.Machine

/-- The running value of a unit, and that value set (R624, R639). -/
def State.cvuRun (s : State) (u : Nat) : Nat := s.pair .CVU_RUN_LO .CVU_RUN_HI u
def State.setCvuRun (s : State) (u v : Nat) : State := s.setPair .CVU_RUN_LO .CVU_RUN_HI u (v % 2 ^ cvuWidth u)

/-- The result of a unit (R624). -/
def State.cvuResult (s : State) (u : Nat) : Nat := Nat.xor (s.cvuRun u) (crcXor (cvuAlg u))

/-- Bytes fed in order (R628). -/
def State.cvuFeed (s : State) (u : Nat) (bs : List Byte) : State := s.setCvuRun u (bs.foldl (crcFeed (cvuAlg u)) (s.cvuRun u))

/-- A scan runs on a unit. -/
def State.cvuBusy (s : State) (u : Nat) : Bool := s.fb F.CVU_CMD_BUSY u

/-- The refusal of a write to a unit: the steward's unit from a core (R625), a scan under way (R636). CVU_EVENT and CVU_EVENT_EN can be written
during a scan. -/
def State.cvuRefusal (s : State) (rq : Requester) (u : Nat) (event : Bool) : Status :=
  let core := match rq with
    | .core _ => true
    | _ => false
  firstStatus [(core && decide (u = 15), .denied), (s.cvuBusy u && !event, .busy)]

/-- A write to a unit, when it is not refused. -/
def State.cvuGuard (s : State) (rq : Requester) (u : Nat) (event : Bool) (go : State → State) : State :=
  match s.cvuRefusal rq u event with
  | .ok => go s
  | st => (s.err .cvu st).answer st 0

/-- INIT (R626, R627): the initial value, then the prefix of the mode. -/
def State.cvuInit (s : State) (u : Nat) : State :=
  let s1 := s.setCvuRun u (crcInit (cvuAlg u))
  let be := s.fb F.CVU_CTL_BE u
  let order (bs : List Byte) : List Byte := if be then bs.reverse else bs
  match s.f F.CVU_CTL_MODE u with
  | 1 =>
    let v := s.f F.CVU_ALIVE_VALUE u
    (s1.cvuFeed u (order (leBytes 2 v))).sf F.CVU_ALIVE_VALUE u ((v + 1) % 2 ^ 16)
  | 2 => s1.cvuFeed u (order (leBytes 8 (s.pair .CVU_FOLD_LO .CVU_FOLD_HI u)))
  | _ => s1

/-- A scan ends with a status after `n` bytes (R634, R638). -/
def State.cvuDone (s : State) (u : Nat) (st : Status) (n : Nat) : State :=
  let s1 := ((s.sf F.CVU_CMD_BUSY u 0).sf F.CVU_CMD_STATUS u st.code).wr .CVU_SCAN_DONE u n
  s1.wr .CVU_EVENT u (Nat.lor (s.rr .CVU_EVENT u) (if st = .ok then 1 else 3))

/-- Why a scan is refused (R632). -/
def State.scanStatus (s : State) (rq : Requester) (u : Nat) : Status :=
  let a := s.pair .CVU_SCAN_ADDR_LO .CVU_SCAN_ADDR_HI u
  let n := s.rr .CVU_SCAN_LEN u
  let p := placeOf a
  let fits := match p with
    | .dram => inMem a n
    | .spad _ o => decide (o + n ≤ 0x80000)
    | .imem _ o => decide (o + n ≤ 0x10000)
    | .depot _ o => decide (o + n ≤ 0x400000)
    | _ => false
  let core := match rq with
    | .core _ => true
    | _ => false
  firstStatus [(core && decide (u = 15), .denied), (decide (n ≠ 0) && s.placeFenced p, .fenced), (decide (n ≠ 0) && !fits, .bounds)]

/-- SCAN (R631 to R633), with the INIT written with it. -/
def State.cvuScan (s : State) (rq : Requester) (u : Nat) (init : Bool) : State :=
  match s.scanStatus rq u with
  | .ok =>
    let s1 :=
      if init then
        (if s.f F.CVU_CTL_MODE u = 2 then
          s.setPair .CVU_FOLD_LO .CVU_FOLD_HI u (s.pair .CVU_SCAN_ADDR_LO .CVU_SCAN_ADDR_HI u) else s).cvuInit u
      else s
    if s.rr .CVU_SCAN_LEN u = 0 then (s1.cvuDone u .ok 0).answer .ok 0
    else ((s1.sf F.CVU_CMD_BUSY u 1).wr .CVU_SCAN_DONE u 0).answer .ok 0
  | st =>
    let s1 := if st = .denied then s.err .cvu .denied else s
    ((s1.cvuDone u st (s.rr .CVU_SCAN_DONE u)).answer st 0)

/-- CVU_CMD written. -/
def State.cvuCmd (s : State) (rq : Requester) (u v : Nat) : State :=
  if bit v 30 && !s.cvuBusy u then s.cvuScan rq u (bit v 31)
  else s.cvuGuard rq u false fun a => (if bit v 31 then a.cvuInit u else a).answer .ok 0

/-- The lines of a scan read in order (R634, R635): the bytes fed, and the outcome if the scan ends early. `quiet` is the number of the line
that gets no answer. -/
def State.scanLines (u src len : Nat) (quiet : Option Nat) : Nat → Nat → State → Nat → State × Nat × Status
  | 0, _, s, fed => (s, fed, .ok)
  | n + 1, k, s, fed =>
    let a := src + fed
    let m := min (64 - a % 64) (len - fed)
    if s.placeFenced (placeOf a) then (s, fed, .fenced)
    else if quiet = some k then (s, fed, .timeout)
    else
      let r := s.readMem a m 4
      if r.2.2 then (r.1, fed, .poison)
      else State.scanLines u src len quiet n (k + 1) (r.1.cvuFeed u r.2.1) (fed + m)

/-- A scan's end. All its lines are read here (log 50). -/
def State.endScan (s : State) (u : Nat) (quiet : Option Nat) : State :=
  let a := s.pair .CVU_SCAN_ADDR_LO .CVU_SCAN_ADDR_HI u
  let n := s.rr .CVU_SCAN_LEN u
  let r := State.scanLines u a n quiet (linesOf a n) 0 s 0
  let expect := s.pair .CVU_EXPECT_LO .CVU_EXPECT_HI u % 2 ^ cvuWidth u
  let st := if r.2.2 = .ok ∧ s.fb F.CVU_CTL_EXP_EN u ∧ r.1.cvuResult u ≠ expect then .check else r.2.2
  r.1.cvuDone u st r.2.1

/-- CVU_CMD written with INIT alone. -/
def execCvuInit (rq : Requester) (unit : Fin 16) (s : State) : Host.Outcome State Fault Refusal :=
  .next (s.regWrite rq .CVU_CMD unit (2 ^ 31) fun a => a.cvuCmd rq unit (2 ^ 31))

/-- CVU_CMD written with SCAN, and with INIT or without. -/
def execCvuScan (rq : Requester) (unit : Fin 16) (init : Bool) (s : State) : Host.Outcome State Fault Refusal :=
  let v := 2 ^ 30 + b2n init * 2 ^ 31
  .next (s.regWrite rq .CVU_CMD unit v fun a => a.cvuCmd rq unit v)

/-- A scan ends; `noAnswer` is the number of a line whose read got no answer. -/
def execCvuScanEnd (unit : Fin 16) (noAnswer : Option Nat) (s : State) : Host.Outcome State Fault Refusal :=
  .next (if s.cvuBusy unit then s.endScan unit noAnswer else s)

/-- A feed register written with `n` bytes fed (R628, R629). -/
def State.cvuFeedWrite (s : State) (rq : Requester) (r : Reg) (u n v : Nat) : State :=
  s.cvuGuard rq u false fun a => ((a.wr r u v).cvuFeed u (leBytes n v)).answer .ok 0

/-- CVU_FEED8 written. -/
def execCvuFeed8 (rq : Requester) (unit : Fin 16) (value : BitVec 32) (s : State) : Host.Outcome State Fault Refusal :=
  .next (s.regWrite rq .CVU_FEED8 unit value.toNat fun a => a.cvuFeedWrite rq .CVU_FEED8 unit 1 value.toNat)

/-- CVU_FEED16 written. -/
def execCvuFeed16 (rq : Requester) (unit : Fin 16) (value : BitVec 32) (s : State) : Host.Outcome State Fault Refusal :=
  .next (s.regWrite rq .CVU_FEED16 unit value.toNat fun a => a.cvuFeedWrite rq .CVU_FEED16 unit 2 value.toNat)

/-- CVU_FEED32 written. -/
def execCvuFeed32 (rq : Requester) (unit : Fin 16) (value : BitVec 32) (s : State) : Host.Outcome State Fault Refusal :=
  .next (s.regWrite rq .CVU_FEED32 unit value.toNat fun a => a.cvuFeedWrite rq .CVU_FEED32 unit 4 value.toNat)

/-- CVU_RUN_HI written: the pair takes effect, without the bits above the width (R639). -/
def State.cvuRunWrite (s : State) (rq : Requester) (u v : Nat) : State :=
  s.cvuGuard rq u false fun a =>
    ((a.dropHeld rq (Reg.CVU_RUN_LO.key u)).setCvuRun u (a.pairValue rq .CVU_RUN_LO u v)).answer .ok 0

/-- CVU_RUN_HI written. -/
def execCvuRunWrite (rq : Requester) (unit : Fin 16) (high : BitVec 32) (s : State) : Host.Outcome State Fault Refusal :=
  .next (s.regWrite rq .CVU_RUN_HI unit high.toNat fun a => a.cvuRunWrite rq unit high.toNat)

/-- A register of a unit written (R625, R636): the ones with an effect of their own, and the stored ones. -/
def State.cvuWrite (s : State) (rq : Requester) (r : Reg) (u v : Nat) : State :=
  match r with
  | .CVU_CMD => s.cvuCmd rq u v
  | .CVU_FEED8 => s.cvuFeedWrite rq r u 1 v
  | .CVU_FEED16 => s.cvuFeedWrite rq r u 2 v
  | .CVU_FEED32 => s.cvuFeedWrite rq r u 4 v
  | .CVU_RUN_HI => s.cvuRunWrite rq u v
  | .CVU_RUN_LO | .CVU_FOLD_LO | .CVU_SCAN_ADDR_LO | .CVU_EXPECT_LO => s.cvuGuard rq u false fun a => a.holdLow rq r u v
  | .CVU_FOLD_HI => s.cvuGuard rq u false fun a => a.writeHigh rq true .CVU_FOLD_LO r u v
  | .CVU_SCAN_ADDR_HI => s.cvuGuard rq u false fun a => a.writeHigh rq true .CVU_SCAN_ADDR_LO r u v
  | .CVU_EXPECT_HI => s.cvuGuard rq u false fun a => a.writeHigh rq true .CVU_EXPECT_LO r u v
  | .CVU_EVENT | .CVU_EVENT_EN => s.cvuGuard rq u true fun a => a.writeWord rq false true r u v
  | .CVU_CTL => s.cvuGuard rq u false fun a => a.writeWord rq false (decide (bits v 1 0 ≠ 3)) r u v
  | .CVU_ERR => s.writeWord rq false true r u v
  | _ => s.cvuGuard rq u false fun a => a.writeWord rq false true r u v

end Sys2Proof.Machine
end

