-- ==== Sys2Proof/Machine/Ethernet.lean ====
section
/-! DEFINITION. The commands of the Ethernet block (R520 to R542). -/

namespace Sys2Proof.Machine

/-! ### Links and aggregation -/

/-- Negotiation and training end (R520, R521): with PHY 1 to 4, or with none that both ends offer (0). -/
def execEthLinkUp (port : Fin 8) (phy : Fin 5) (s : State) : Host.Outcome State Fault Refusal :=
  let k := port.val
  if !s.ethMay k || s.f F.ETH_PSTAT_STATE k == 2 then .next s
  else if phy.val = 0 then .next (s.ethDown k .mismatch)
  else
    let s1 := ((s.sf F.ETH_PSTAT_STATE k 2).sf F.ETH_PSTAT_PHY k phy).sf F.ETH_PSTAT_STATUS k Status.ok.code
    .next (((s1.sf F.ETH_PSTAT_LACP k 1).ethEvent k 0))

/-- A port goes DOWN; raw frames queued on it are lost (R527, R528). -/
def execEthLinkDown (port : Fin 8) (rawLost : Nat) (s : State) : Host.Outcome State Fault Refusal :=
  .next ((s.ethDown port .unreachable).bump .ETH_RAWLOST (netOf port) rawLost)

/-- LACP has synchronised (R527); a network's first member announces the package (R540). -/
def execEthLacpMember (port : Fin 8) (s : State) : Host.Outcome State Fault Refusal :=
  let k := port.val
  if s.f F.ETH_PSTAT_STATE k ≠ 2 ∨ s.isMember k then .next s
  else
    let first := (s.members (netOf k)).isEmpty
    let s1 := (s.sf F.ETH_PSTAT_LACP k 2).ethEvent k 2
    .next (if first then s1.announce (netOf k) 1 else s1)

/-- 3 s without an LACPDU. -/
def execEthLacpTimeout (port : Fin 8) (s : State) : Host.Outcome State Fault Refusal :=
  .next (if s.isMember port then s.leaveMember port 1 else s)

/-- ETH_PCTL written: ADMIN 0 takes the port DOWN, with a BYE when its network loses its last member; RETRAIN begins negotiation anew. -/
def State.ethPctlWrite (s : State) (rq : Requester) (k v : Nat) : State :=
  let s1 := s.writeWord rq false true .ETH_PCTL k v
  if s.fb F.ETH_PCTL_ADMIN k && !s1.fb F.ETH_PCTL_ADMIN k then
    let last := s1.members (netOf k) == [k]
    (if last then s1.announce (netOf k) 3 else s1).ethDown k .unreachable
  else if s1.ethMay k && (s1.fb F.ETH_PCTL_RETRAIN k || !s.fb F.ETH_PCTL_ADMIN k) then
    ((s1.ethDown k .unreachable).sf F.ETH_PSTAT_STATE k 1).sf F.ETH_PCTL_RETRAIN k 0
  else s1

/-- ETH_PCTL written with RETRAIN 1. -/
def execEthRetrain (rq : Requester) (port : Fin 8) (s : State) : Host.Outcome State Fault Refusal :=
  let v := putBits (s.rr .ETH_PCTL port) 8 8 1
  .next (s.regWrite rq .ETH_PCTL port v fun a => a.ethPctlWrite rq port v)

/-! ### Received messages (R529, R534, R536) -/

/-- A request that must carry the expected PSN: a duplicate is acknowledged again, one from the future is answered with a sequence error.
Otherwise `act` says what it does and the answer. -/
def State.inSequence (s : State) (q n : Nat) (p : RdmaPkt) (act : State → State × RdmaOp × Bool) : State :=
  let x := s.qp q
  let last := (p.psn + n - 1) % 2 ^ 24
  if p.psn % 2 ^ 24 = x.epsn then
    let r := act s
    let s1 := if r.2.2 then r.1.setQp q { r.1.qp q with epsn := (last + 1) % 2 ^ 24 } else r.1
    s1.sendRdma q last r.2.1
  else if psnLe p.psn x.epsn then s.sendRdma q last .ack
  else s.sendRdma q x.epsn .seqNak

/-- Why a remote access is refused (R530, R534). -/
def Qp.remote (x : Qp) (allowed : Bool) (raddr rkey len : Nat) : Status :=
  firstStatus [(!allowed || rkey != x.ctx.rkey, .denied), (decide (x.ctx.wlen < raddr + len), .bounds)]

/-- A message for a queue pair. -/
def State.rdmaRx (s : State) (q : Nat) (p : RdmaPkt) : State :=
  let x := s.qp q
  match p.op with
  | .send imm data =>
    s.inSequence q (psns x.ctx.mtu data.length) p fun s =>
      let r := s.fillRecv q true data imm
      if !r.2.1 then (s, .rnr, false) else if r.2.2 = .ok then (r.1, .ack, true) else (r.1, .nak r.2.2, true)
  | .write raddr rkey imm data =>
    s.inSequence q (psns x.ctx.mtu data.length) p fun s =>
      match x.remote x.ctx.rwrite raddr rkey data.length with
      | .ok =>
        let place (a : State) : State := a.writeMem (x.ctx.wbase + raddr) data false 4
        match imm with
        | none => (place s, .ack, true)
        | some _ =>
          let r := s.fillRecv q false data imm
          if r.2.1 then (place r.1, .ack, true) else (s, .rnr, false)
      | st => (s, .nak st, true)
  | .read raddr rkey len =>
    let n := psns x.ctx.mtu len
    if p.psn % 2 ^ 24 = x.epsn ∨ psnLe p.psn x.epsn then
      let s1 := if p.psn % 2 ^ 24 = x.epsn then s.setQp q { x with epsn := (p.psn + n) % 2 ^ 24 } else s
      match x.remote x.ctx.rread raddr rkey len with
      | .ok =>
        let r := s1.readMem (x.ctx.wbase + raddr) len 4
        if r.2.2 then r.1 else r.1.sendRdma q ((p.psn + n - 1) % 2 ^ 24) (.readResp r.2.1)
      | st => s1.sendRdma q p.psn (.nak st)
    else s.sendRdma q x.epsn .seqNak
  | .ack =>
    let s1 := s.setQp q { x with retries := 0, rnr := 0 }
    s1.concludeEntries q (fun w => psnLe (w.psn + w.n - 1) p.psn && !(match w.op with | some (.read _ _ _) => true | _ => false)) .ok
  | .readResp data =>
    match x.outst.find? (fun w => (w.psn + w.n - 1) % 2 ^ 24 == p.psn % 2 ^ 24 && w.fin.isNone) with
    | some w =>
      let s1 := (s.setQp q { x with retries := 0, rnr := 0 }).concludeEntries q (fun u => u.idx != w.idx && psnLe u.psn w.psn) .ok
      (s1.writeMem w.laddr (data.take w.len) false 4).concludeEntries q (fun u => u.idx == w.idx) .ok
    | none => s
  | .nak st =>
    match x.outst.find? (fun w => psnLe w.psn p.psn && psnLe p.psn (w.psn + w.n - 1) && w.fin.isNone) with
    | some w =>
      (s.concludeEntries q (fun u => u.idx != w.idx && psnLe u.psn w.psn) .ok).concludeEntries q (fun u => u.idx == w.idx) st
    | none => s
  | .seqNak => (s.concludeEntries q (fun w => psnLe (w.psn + w.n) p.psn) .ok).resendAll q
  | .rnr =>
    let s1 := s.concludeEntries q (fun w => psnLe (w.psn + w.n) p.psn) .ok
    if x.rnr < 7 then (s1.setQp q { s1.qp q with rnr := x.rnr + 1 }).resendAll q
    else
      match (s1.qp q).outst.head? with
      | some w => s1.concludeEntries q (fun u => u.idx == w.idx) .noResource
      | none => s1
  | .cnp => s

/-! ### Received frames (R522 to R525, R537) -/

/-- The buffer of a priority against its levels (R524): XOFF at 1,536 KiB, XON below 1,024 KiB. -/
def State.pfcLevel (s : State) (k prio held : Nat) : State :=
  let x := s.ethPort k
  let mask := s.f F.ETH_NCTL_PFCMASK (netOf k)
  if !bit mask prio then s
  else if 1572864 ≤ held ∧ !x.xoff.getLsbD prio then
    ((s.setEthPort k { x with xoff := x.xoff ||| BitVec.ofNat 8 (2 ^ prio) }).bump .ETH_PFCTX k).send
      (.pfc k (BitVec.ofNat 8 (2 ^ prio)) true)
  else if held < 1048576 ∧ x.xoff.getLsbD prio then
    ((s.setEthPort k { x with xoff := x.xoff &&& ~~~(BitVec.ofNat 8 (2 ^ prio)) }).bump .ETH_PFCTX k).send
      (.pfc k (BitVec.ofNat 8 (2 ^ prio)) false)
  else s

/-- Priorities paused for a number of quanta, each 512 bit times at 100 Gbit/s, 5.12 ns. -/
def State.pausePrios (s : State) (k mask quanta : Nat) : State :=
  let x := s.ethPort k
  let t := if quanta = 0 then 0 else s.now + (quanta * 512 + 99) / 100
  s.setEthPort k { x with
    paused := (List.range 8).foldl (fun a p => if bit mask p then SMap.set (fun _ => 0) a p t else a) x.paused }

/-- An accepted frame, by what it is. -/
def State.ethBody (s : State) (k : Nat) (b : EthBody) : State :=
  let n := netOf k
  match b with
  | .pfc classes quanta =>
    let mask := s.f F.ETH_NCTL_PFCMASK n
    let s1 := s.bump .ETH_PFCRX k
    if mask = 0 then s1 else s1.pausePrios k (Nat.land mask classes.toNat) quanta
  | .pause quanta =>
    let s1 := s.bump .ETH_PFCRX k
    if s.f F.ETH_NCTL_PFCMASK n = 0 then s1.pausePrios k 0xFF quanta else s1
  | .lacp => s
  | .ask v6 addr frame =>
    let own := if v6 then s.ip6 n else s.ip4 n
    if addr = own ∧ own.any (· != 0#8) then ((s.send (.ethAnswer k frame)).ethSent k (frame.length + 4)) else s.toRaw n frame
  | .announce msg frame => (s.hostMsg n msg).toRaw n frame
  | .rdma p =>
    let q := p.qp
    if 2 ≤ q && decide (q < 4096) && (s.qp q).enabled && !(s.qp q).err then s.rdmaRx q p else s
  | .other frame => s.toRaw n frame

/-- A frame received. -/
def execEthFrameRx (port : Fin 8) (frame : EthRx) (s : State) : Host.Outcome State Fault Refusal :=
  let k := port.val
  if s.f F.ETH_PSTAT_STATE k ≠ 2 then .next s
  else
    let s1 := ((s.bump .ETH_RXFRM k).blockEvent 0x21 k 1).bwBytes (41 + 2 * k) frame.len
    if frame.len < 64 ∨ 9216 < frame.len then .next (s1.bump .ETH_RXDROP k)
    else if !frame.fcsOk then .next (s1.bump .ETH_FCS k)
    else
      let control := match frame.body with
        | .pfc _ _ | .pause _ | .lacp => true
        | _ => false
      let vid := s.f F.ETH_NCTL_VID (netOf k)
      let tagOk := if vid = 0 then frame.vid.isNone else frame.vid == some vid
      if !control && (!tagOk || !frame.sumOk) then .next (s1.bump .ETH_RXDROP k)
      else .next ((s1.pfcLevel k frame.prio frame.buffered).ethBody k frame.body)

/-- Three INTERVALs without an announcement (R541). -/
def execEthHostExpire (net : Fin 2) (entry : Fin 256) (s : State) : Host.Outcome State Fault Refusal :=
  let n := net.val
  if s.pair .ETH_HTAB_LO .ETH_HTAB_HI n = 0 ∨ (s.host n entry).1 = 0 then .next s
  else
    .next (((s.putHost n entry 0 (List.replicate 16 0#8) 0).wr .ETH_HOSTS n (s.rr .ETH_HOSTS n - 1)).netEvent n 4)

/-! ### Work entries (R529 to R535) -/

/-- A write to the line of a producer word: the package reads the word and takes its index, or ignores one out of range (log 41). -/
def execEthWorkProducer (q : Fin 4096) (recv : Bool) (value : Option (BitVec 32)) (s : State) : Host.Outcome State Fault Refusal :=
  let x := s.qp q
  if !x.enabled then .next s
  else
    let a := if recv then x.ctx.rproda else x.ctx.proda
    let s1 := match value with
      | some v => s.writeMem a (leBytes 4 v.toNat) false 4
      | none => s
    let r := s1.readMem a 4 4
    let p := leNat r.2.1
    let base := if recv then x.rdone else x.taken
    let size := 2 ^ (if recv then x.ctx.rorder else x.ctx.order)
    if size < (p + 2 ^ 32 - base) % 2 ^ 32 then .next r.1
    else .next (r.1.setQp q (if recv then { x with rprod := p } else { x with prod := p }))

/-- A work entry's message, if its OP is one of R532. -/
def workOp (op raddr rkey len : Nat) (imm : BitVec 32) (data : List Byte) : Option RdmaOp :=
  match op with
  | 0 => some (.send none data)
  | 1 => some (.send (some imm) data)
  | 2 => some (.write raddr rkey none data)
  | 3 => some (.write raddr rkey (some imm) data)
  | 4 => some (.read raddr rkey len)
  | _ => none

/-- A taken entry appended to the outstanding ones. -/
def State.pushWork (s : State) (q : Nat) (w : WorkOut) : State :=
  let x := s.qp q
  State.drainEntries (x.outst ++ [w]) (s.setQp q { x with taken := (x.taken + 1) % 2 ^ 32 }) q

/-- A raw entry (R532, R537): the frame read and sent with its transmit time stamp written back. -/
def State.rawEntry (s : State) (q k idx a len laddr : Nat) : State :=
  let st := firstStatus
    [(s.placeFenced (placeOf laddr), .fenced), (decide (len < 60) || decide (9212 < len) || !inStore laddr len, .bounds)]
  let fin (s : State) (st : Status) : State := s.pushWork q ⟨idx, 0, 0, none, laddr, len, some st⟩
  match st with
  | .ok =>
    let r := s.readMem laddr len 4
    if r.2.2 then fin r.1 .poison
    else
      let f := r.1.tagged q r.2.1
      let s1 := (r.1.send (.eth k f)).ethSent k f.length
      fin (s1.writeMem (a + 16) (leBytes 8 s.now) false 4) .ok
  | e => fin s e

/-- An RDMA entry: refused, completed at once, or sent. -/
def State.rdmaEntry (s : State) (q idx : Nat) (e : List Byte) : State :=
  let x := s.qp q
  let op := leAt e 0 1
  let len := leAt e 4 4
  let laddr := leAt e 8 8
  let fin (s : State) (st : Status) : State := s.pushWork q ⟨idx, 0, 0, none, laddr, len, some st⟩
  let st := firstStatus
    [(decide (op ≤ 4) && decide (len ≠ 0) && s.placeFenced (placeOf laddr), .fenced),
     (decide (4 < op) || decide (2 ^ 31 < len) || (len != 0 && !inStore laddr len), .bounds)]
  match st with
  | .ok =>
    if len = 0 then fin s .ok
    else
      let r := if op = 4 then (s, [], false) else s.readMem laddr len 4
      if r.2.2 then fin r.1 .poison
      else
        match workOp op (leAt e 16 8) (leAt e 28 4) len (BitVec.ofNat 32 (leAt e 24 4)) r.2.1 with
        | some m =>
          let n := psns x.ctx.mtu len
          let s1 := r.1.setQp q { x with spsn := (x.spsn + n) % 2 ^ 24 }
          (s1.sendRdma q x.spsn m).pushWork q ⟨idx, x.spsn, n, some m, laddr, len, none⟩
        | none => fin s .bounds
  | e => fin s e

/-- The next work entry of a queue executed. It waits while its network has no member or its port is paused. -/
def execEthWorkEntry (q : Fin 4096) (s : State) : Host.Outcome State Fault Refusal :=
  let x := s.qp q
  if !x.enabled || x.prod == x.taken then .next s
  else
    let idx := x.taken
    let a := x.ctx.ring + idx % 2 ^ x.ctx.order * 32
    if x.err then .next (s.pushWork q ⟨idx, 0, 0, none, 0, 0, some .fenced⟩)
    else
      match s.txPort (x.path q) (if q.val < 2 then Config.flowHash (s.bytes a 32) else Config.flowHashQp q) with
      | none => .next s
      | some k =>
        if s.paused k then .next s
        else
          let r := s.readMem a 32 4
          let e := r.2.1
          if q.val < 2 then
            (if leAt e 0 1 = 0x10 then .next (r.1.rawEntry q k idx a (leAt e 4 4) (leAt e 8 8))
            else if leAt e 4 4 = 0 then .next (r.1.pushWork q ⟨idx, 0, 0, none, 0, 0, some .ok⟩)
            else .next (r.1.pushWork q ⟨idx, 0, 0, none, 0, 0, some .bounds⟩))
          else .next (r.1.rdmaEntry q idx e)

/-- 65.5 µs without an acknowledgement (R534, R538, R539): resend, migrate, or end with UNREACHABLE. -/
def execEthAckTimeout (q : Fin 4096) (s : State) : Host.Outcome State Fault Refusal :=
  let x := s.qp q
  match x.outst.head? with
  | none => .next s
  | some w =>
    if x.retries < x.ctx.retry then .next ((s.setQp q { x with retries := x.retries + 1 }).resendAll q)
    else if s.mayMigrate q then .next (s.migrate q)
    else .next (s.concludeEntries q (fun u => u.idx == w.idx) .unreachable)

/-- A network has had no member for 1 ms (R538, R539). -/
def execEthNetFailover (net : Fin 2) (s : State) : Host.Outcome State Fault Refusal :=
  if !(s.members net).isEmpty then .next s
  else
    let qs := (s.eth.qps.map (·.1)).filter (fun q => 2 ≤ q && (s.qp q).enabled && (s.qp q).path q == net.val)
    .next (qs.foldl (fun a q =>
      if a.mayMigrate q then a.migrate q
      else
        match (a.qp q).outst.head? with
        | some w => a.concludeEntries q (fun u => u.idx == w.idx) .unreachable
        | none => a) s)

/-! ### Queue commands (R530, R531, R538) -/

/-- A queue context's fields. -/
def ctxOf (b : List Byte) : QpCtx :=
  let c := leAt b 0 1
  { net := bit c 1, alt := bit c 2, mtu := 1024 * 2 ^ bits c 4 3, rwrite := bit (leAt b 1 1) 0, rread := bit (leAt b 1 1) 1
    retry := leAt b 2 1, order := leAt b 3 1, dqpn := leAt b 4 4, dip := slice b 8 16, adip := slice b 24 16, ring := leAt b 40 8
    proda := leAt b 48 8, donea := leAt b 56 8, rring := leAt b 64 8, rproda := leAt b 72 8, rdonea := leAt b 80 8
    rorder := leAt b 88 1, rkey := leAt b 100 4, wbase := leAt b 104 8, wlen := leAt b 112 8 }

/-- The limits of a context: those of a raw queue concern its rings alone. -/
def ctxLegal (q : Nat) (b : List Byte) : Bool :=
  let x := ctxOf b
  let ord (n : Nat) : Bool := decide (4 ≤ n) && decide (n ≤ 12)
  ord x.order && ord x.rorder && inMem x.ring (32 * 2 ^ x.order) && inMem x.rring (32 * 2 ^ x.rorder) && inMem x.proda 4 &&
    inMem x.donea 4 && inMem x.rproda 4 && inMem x.rdonea 4 &&
    (decide (q < 2) ||
      (!bit (leAt b 0 1) 0 && decide (leAt b 0 1 < 32) && bits (leAt b 0 1) 4 3 != 3 && decide (leAt b 1 1 < 4) &&
        decide (x.retry ≤ 7) && decide (x.dqpn < 2 ^ 24) && (slice b 89 3).all (· == 0#8) && (slice b 120 8).all (· == 0#8) &&
        inMem x.wbase x.wlen))

/-- ENABLE. -/
def State.qpEnable (s : State) (q : Nat) : State × Status :=
  let r := s.readMem (s.pair .ETH_QPT_LO .ETH_QPT_HI + 128 * q) 128 4
  let b := r.2.1
  let x := ctxOf b
  let st := firstStatus
    [((s.qp q).enabled, .busy),
     (s.placeFenced (placeOf x.ring) || s.placeFenced (placeOf x.rring) || (2 ≤ q && s.placeFenced (placeOf x.wbase)), .fenced),
     (!ctxLegal q b, .bounds)]
  match st with
  | .ok => (r.1.setQp q { enabled := true, ctx := x, spsn := leAt b 92 4 % 2 ^ 24, epsn := leAt b 96 4 % 2 ^ 24 }, .ok)
  | e => (r.1, e)

/-- The entries of a queue from a count up to its producer index. -/
def postedFrom (first n : Nat) : List WorkOut :=
  (List.range n).map fun i => ⟨(first + i) % 2 ^ 32, 0, 0, none, 0, 0, none⟩

/-- DISABLE: outstanding entries, and those posted and not yet taken, end with FENCED; the connection is dropped. -/
def State.qpDisable (s : State) (q : Nat) : State :=
  let x := s.qp q
  if !x.enabled then s
  else
    let s1 := s.fenceEntries q (x.outst ++ postedFrom x.taken ((x.prod + 2 ^ 32 - x.taken) % 2 ^ 32))
    s1.setQp q {}

/-- MIGRATE: back to the home network. -/
def State.qpMigrate (s : State) (q : Nat) : State × Status :=
  let x := s.qp q
  if q < 2 then (s, .bounds)
  else if (s.members (b2n x.ctx.net)).isEmpty then (s, .unreachable)
  else if x.enabled && x.onAlt then ((s.setQp q { x with onAlt := false, retries := 0 }).resendAll q, .ok)
  else (s, .ok)

/-- ETH_QPCMD written. -/
def State.qpCmd (s : State) (rq : Requester) (v : Nat) : State :=
  let op := bits v 31 28
  let q := bits v 11 0
  let s1 := s.writeWord rq false (decide (op ≤ 3)) .ETH_QPCMD 0 v
  match op with
  | 1 => let r := s1.qpEnable q; (r.1.sf F.ETH_QPCMD_STATUS 0 r.2.code).answer .ok 0
  | 2 => ((s1.qpDisable q).sf F.ETH_QPCMD_STATUS 0 0).answer .ok 0
  | 3 => let r := s1.qpMigrate q; (r.1.sf F.ETH_QPCMD_STATUS 0 r.2.code).answer .ok 0
  | _ => s1

/-- ETH_QPCMD written with OP ENABLE. -/
def execEthQpEnable (rq : Requester) (q : Fin 4096) (s : State) : Host.Outcome State Fault Refusal :=
  let v := 1 * 2 ^ 28 + q.val
  .next (s.regWrite rq .ETH_QPCMD 0 v fun a => a.qpCmd rq v)

/-- ETH_QPCMD written with OP DISABLE. -/
def execEthQpDisable (rq : Requester) (q : Fin 4096) (s : State) : Host.Outcome State Fault Refusal :=
  let v := 2 * 2 ^ 28 + q.val
  .next (s.regWrite rq .ETH_QPCMD 0 v fun a => a.qpCmd rq v)

/-- ETH_QPCMD written with OP MIGRATE. -/
def execEthQpMigrate (rq : Requester) (q : Fin 4096) (s : State) : Host.Outcome State Fault Refusal :=
  let v := 3 * 2 ^ 28 + q.val
  .next (s.regWrite rq .ETH_QPCMD 0 v fun a => a.qpCmd rq v)

/-- An announcement at its interval (R540). -/
def execEthAnnounce (net : Fin 2) (s : State) : Host.Outcome State Fault Refusal := .next (s.announce net 1)

end Sys2Proof.Machine
end

