-- ==== Sys2Proof/Machine/Governor.lean ====
section
/-! DEFINITION. The governor's commands (spec/08): control periods, messages, the floor, gating, droops and dips. -/

namespace Sys2Proof.Machine

/-- A control period of a governor that runs (R326, R327, R338). In SHUTDOWN it computes nothing and its heartbeat goes on. -/
def execControlPeriod (gb : Bool) (s : State) : Host.Outcome State Fault Refusal :=
  if s.govSt gb < 2 ∨ s.mode gb = 4 then .next s else .next (s.period gb)

/-- PWW_FLOOR recomputed (R362). -/
def execFloorRecompute (s : State) : Host.Outcome State Fault Refusal :=
  .next (s.take.wr .PWW_FLOOR 0 (Config.floor s.free % 2 ^ 32))

/-- A gating or ungating completes (R345, R349). -/
def execPartitionGateDone (p : Fin 4) (s : State) : Host.Outcome State Fault Refusal :=
  let gb := s.activeB
  let g := s.gov gb
  match g.gating with
  | some (q, on) =>
    if q = p.val then
      let put (a : State) (fld : Fld) (i : Nat) : State := a.sf fld i (putBits (a.f fld i) q q (b2n on))
      .next ((put (put s F.GOV_ACT_GATED (govIx gb)) F.OST_OUT_GATED 0).setGov gb { g with gating := none })
    else .next s
  | none => .next s

/-- A BUDGET datagram (R330, R331, R335 to R344). -/
def execBudgetMessage (peer : Nat) (msg : List Byte) (s : State) : Host.Outcome State Fault Refusal := .next (s.message peer msg)

/-- A GRID datagram (R332, R357 to R359). -/
def execGridMessage (peer : Nat) (msg : List Byte) (s : State) : Host.Outcome State Fault Refusal := .next (s.message peer msg)

/-- A COOLANT datagram (R550 to R552). -/
def execCoolantMessage (peer : Nat) (msg : List Byte) (s : State) : Host.Outcome State Fault Refusal := .next (s.message peer msg)

/-- 2 s without a renewal of the hold (R341). -/
def execHoldExpiry (gb : Bool) (s : State) : Host.Outcome State Fault Refusal :=
  let g := s.gov gb
  if !g.holdOn || !g.follow then .next s
  else
    let s1 := (s.bump .GOV_HOLDEXP (govIx gb)).setGov gb { g with follow := false, holdAge := 0 }
    .next (if s1.mode gb = 1 then s1.setMode gb 0 else s1)

/-- The GRID data passes its age limit (R359). -/
def execFrStale (gb : Bool) (s : State) : Host.Outcome State Fault Refusal :=
  let g := s.gov gb
  if g.grid.isNone || g.frStaleCounted then .next s
  else .next ((s.bump .GOV_FRSTALE (govIx gb)).setGov gb { g with frOffset := 0, frStaleCounted := true })

/-- A droop (R348): counted, and the VCORE step in progress pauses. -/
def execVcoreDroop (gb : Bool) (s : State) : Host.Outcome State Fault Refusal :=
  .next ((s.bump .GOV_DROOP (govIx gb)).setGov gb { s.gov gb with droop := true })

/-- 1 µs after the droop has cleared (R348, R387). -/
def execDroopResume (gb : Bool) (s : State) : Host.Outcome State Fault Refusal := .next (s.setGov gb { s.gov gb with droop := false })

/-- The input below 43 V for 20 µs (R325, R364, R606). -/
def execSupplyDip (gb : Bool) (s : State) : Host.Outcome State Fault Refusal :=
  if s.mode gb = 4 ∨ s.mode gb = 2 then .next s
  else
    let s1 := ((s.bump .GOV_DIPS (govIx gb)).raise 16 0 .degraded).setMode gb 2
    .next (if s1.activeB = gb then s1.endAcc .timeout else s1)

/-- 44 V or more for 1 ms in DIP (R364). -/
def execDipRecover (gb : Bool) (s : State) : Host.Outcome State Fault Refusal :=
  .next (if s.mode gb = 2 then s.setMode gb (s.baseMode gb) else s)

end Sys2Proof.Machine
end

