-- ==== Sys2Proof/Machine/Pair.lean ====
section
/-! DEFINITION. The governor pair (spec/09): heartbeats, claims, switch-overs, orphaning, the mirror frames and their comparison, resets and
reversion. -/

namespace Sys2Proof.Machine

/-! ### Shared operations -/

/-- The due cause of R373 for the standby to take control, METER before COMMAND (R387); the standby must be qualified. -/
def State.dueCause (s : State) : Option Nat :=
  let act := s.activeB
  if s.shutting || !s.qualified (!act) then none
  else if !(s.gl act).valid then some 1
  else if s.meterFailed act && !s.meterFailed (!act) then some 2
  else if s.ost.swapDue then some 3
  else none

/-- The measurement of an image kind extended by a digest (R674). -/
def State.extendMeas (s : State) (k : Nat) (digest : List Byte) : State :=
  let old := (List.range 8).flatMap fun w => beBytes 4 (s.rr .SEC_MEAS (k * 8 + w))
  let h := sm3 (old ++ digest)
  (List.range 8).foldl (fun a w => a.wr .SEC_MEAS (k * 8 + w) (beAt h (4 * w) 4)) s

/-- The digest in the manifest of the running image of a kind. -/
def State.runDigest (s : State) (k : Nat) : Option (List Byte) := (SMap.find? s.sec.running k).map fun x => slice x.manifest 28 32

/-- The digest of the image that a governor reloads: the staged one while it runs that in an activation (R383, R687). -/
def State.govDigest (s : State) (gb : Bool) : Option (List Byte) :=
  match s.sec.activation with
  | some a =>
    if (if gb then a.hadB else a.hadA) then (SMap.find? s.sec.staging 1).map fun x => slice x.manifest 28 32 else s.runDigest 1
  | none => s.runDigest 1

/-- The registers that a governor's restart returns to their reset values: those it shows, not the sealed settings (R383). -/
def govShown : List Reg :=
  [.GOV_STATE, .GOV_TARGET, .GOV_DEMAND, .GOV_EST, .GOV_MET, .GOV_ACT, .GOV_MWSTAT, .GOV_SEQ, .GOV_ALIVE, .GOV_SHORT_OVER_LO,
    .GOV_SHORT_OVER_HI, .GOV_SHORT_UNDER_LO, .GOV_SHORT_UNDER_HI, .GOV_STALE, .GOV_CRC, .GOV_REFUSED, .GOV_HOLDEXP, .GOV_DIPS,
    .GOV_DROOP, .GOV_FRSTALE]

/-- One governor reset (R383): STARTING, claim 0, its state gone but for the sealed settings; the reload of its image is measured (R674). -/
def State.resetGov (s : State) (gb : Bool) : State :=
  let s1 := govShown.foldl (fun a r => a.wr r (govIx gb) (r.rst (govIx gb))) s
  let s2 := (s1.setGov gb { frBad := (s.gov gb).frBad }).setGl gb { restarts := (s.gl gb).restarts }
  let s3 := (s2.setGovSt gb 1).wr (claimReg gb) 0 0
  match s.govDigest gb with
  | some d => s3.extendMeas 1 d
  | none => s3

/-! ### Switch-overs while GOV activates (R687) -/

/-- The activation of GOV fails: every governor that runs the new image is reloaded from the running slot, and it ends with CHECK. OST holds
its outputs when that takes the claim of the active one (R375). -/
def State.failGov (s : State) (a : Activation) : State :=
  let s1 := s.endActivation a .check
  let reload (b : State) (gb : Bool) : State :=
    let b1 := b.resetGov gb
    if b1.activeB = gb ∧ !b1.shutting then b1.sf F.OST_OUT_HOLD 0 1 else b1
  let s2 := if a.hadA then reload s1 false else s1
  if a.hadB then reload s2 true else s2

/-- A switch-over while GOV activates: the SWAP of step 2 leads to step 3, and any other fails the activation. -/
def State.afterSwitch (s : State) (cause : Nat) : State :=
  match s.sec.activation with
  | none => s
  | some a =>
    if a.govStep = 0 then s
    else if a.govStep = 2 ∧ cause = 3 then
      let gb := !s.activeB
      let b := { a with govStep := 3, hadA := a.hadA || !gb, hadB := a.hadB || gb }
      ({ s with sec := { s.sec with activation := some b } }).resetGov gb
    else s.failGov a

/-- A governor takes control through a cause of R373. -/
def State.switchOver (s : State) (gb : Bool) (cause : Nat) : State :=
  let t := s.takeControl gb cause
  if t.rr (claimReg gb) = s.rr (claimReg gb) then t else t.afterSwitch cause

/-! ### Heartbeats and claims -/

/-- A heartbeat that was not re-armed stops (R368). -/
def execHeartbeatStop (gb : Bool) (s : State) : Host.Outcome State Fault Refusal :=
  .next (s.setGl gb { s.gl gb with heartbeat := false })

/-- 96 ns without a strobe (R369): the claim lapses, its governor is DOWN, and OST freezes its outputs when it was active (R375). -/
def execClaimLapse (gb : Bool) (s : State) : Host.Outcome State Fault Refusal :=
  let l := s.gl gb
  if !l.valid || l.heartbeat then .next s
  else
    let s1 := (s.setGl gb { l with valid := false, qualRun := 0 }).setGovSt gb 0
    .next (if s1.activeB = gb ∧ !s1.shutting then s1.sf F.OST_OUT_HOLD 0 1 else s1)

/-- A governor writes its claim (R370, R371, R373, R377): a qualified standby that a cause of R373 calls, or one that ends ORPHAN. A
standby without a cause never raises its claim. -/
def execClaimWrite (gb : Bool) (s : State) : Host.Outcome State Fault Refusal :=
  if s.shutting then .next s
  else if s.fb F.OST_STAT_ORPHAN && s.qualified gb then .next (s.switchOver gb 1)
  else if gb = !s.activeB then
    match s.dueCause with
    | some c => .next (s.switchOver gb c)
    | none => .next s
  else .next s

/-- A command of a governor over its private port (R367, R374). VCORE codes above 140 do not occur. -/
def execOstCommand (gb : Bool) (out : BitVec 32) (s : State) : Host.Outcome State Fault Refusal :=
  if 140 < bits out.toNat 23 16 then .next s else .next (s.ostCommand gb out.toNat)

/-- A switch-over from its reference event to the end of the hold (R373 to R376). -/
def execSwitchOver (s : State) : Host.Outcome State Fault Refusal :=
  match s.dueCause with
  | some c => .next (s.switchOver (!s.activeB) c)
  | none => .next s

/-- 48 governor clocks without a valid claim (R377, R606). -/
def execOrphanEntry (s : State) : Host.Outcome State Fault Refusal :=
  if s.holder.isSome || s.shutting || s.fb F.OST_STAT_ORPHAN || !s.fb F.IDT_BOOT_READY then .next s
  else .next ((((s.sf F.OST_STAT_ORPHAN 0 1).sf F.OST_OUT_HOLD 0 1).bump .OST_ORPHAN).raise 13 (govIx s.activeB) .unreachable)

/-! ### The mirror (R379 to R382) -/

/-- The conditions of R381 between an own frame and the other's for the same PSTART. -/
def framesDisagree (own other : List Byte) (rated modeRun : Nat) (asked : Bool) : Bool :=
  let dt := (toSigned 32 (leAt own 16 4) - toSigned 32 (leAt other 16 4)).natAbs
  let dd := (toSigned 32 (leAt own 20 4) - toSigned 32 (leAt other 20 4)).natAbs
  decide (rated < 2 * dt) || decide (rated * 5 < dd) || decide (3 < modeRun) || (asked && leAt own 56 4 != leAt other 56 4)

/-- A standby takes over the active governor's values (R380). Its own DIP and SHUTDOWN stand. -/
def State.adopt (s : State) (gb : Bool) (f : List Byte) : State :=
  let i := govIx gb
  let g := s.gov gb
  let m := leAt f 12 1
  let fl := leAt f 13 1
  let hold := leAt f 38 2
  let s1 := s.setGov gb { g with
    tPrev := toSigned 32 (leAt f 16 4), integ := toSigned 32 (leAt f 24 4) * 256, frOffset := toSigned 32 (leAt f 28 4)
    follow := m == 1 || hold != 0, holdOn := true, holdAge := (2000 - min hold 2000) * 1000000, shortOver := 0, shortUnder := 0 }
  let s2 := if s.mode gb = 2 ∨ s.mode gb = 4 ∨ 4 < m then s1 else s1.setMode gb m
  let s3 := (((s2.sf F.GOV_STATE_FIXED i (b2n (bit fl 0))).sf F.GOV_STATE_FR i (b2n (bit fl 1))).sf F.GOV_STATE_PARKED i
    (b2n (bit fl 2))).sf F.GOV_STATE_FIXLOST i (b2n (bit fl 3))
  let s4 := (s3.wr .GOV_SEQ i (leAt f 32 4)).sf F.GOV_ALIVE_ALIVE i (leAt f 36 2)
  (s4.setPair .GOV_SHORT_OVER_LO .GOV_SHORT_OVER_HI i (leAt f 40 8)).setPair .GOV_SHORT_UNDER_LO .GOV_SHORT_UNDER_HI i (leAt f 48 8)

/-- The comparison that the standby makes of the period (R381, R382). -/
def State.compareFrames (s : State) (gb : Bool) (f : List Byte) : State :=
  let l := s.gl gb
  if l.frame.length ≠ 64 ∨ leAt l.frame 4 8 ≠ leAt f 4 8 then s
  else
    let mr := if leAt l.frame 12 1 = leAt f 12 1 then 0 else l.modeRun + 1
    if framesDisagree l.frame f s.rated mr l.trajAsked then
      let n := s.ost.disagreeRun + 1
      let s1 := (s.setGl gb { l with modeRun := mr, agreeRun := 0 }).bump .OST_DISAGREE
      let s2 := { s1 with ost := { s1.ost with disagreeRun := n } }
      if n = 100 then (s2.sf F.OST_STAT_DISAGREE 0 1).raise 13 (govIx gb) .mismatch else s2
    else
      let s1 := (s.setGl gb { l with modeRun := mr, agreeRun := l.agreeRun + 1 }).sf F.OST_STAT_DISAGREE 0 0
      { s1 with ost := { s1.ost with disagreeRun := 0 } }

/-- A frame of the other governor arrives (R378 to R382). -/
def execMirrorFrame (gb : Bool) (frame : List Byte) (s : State) : Host.Outcome State Fault Refusal :=
  if s.govSt gb < 2 then .next s
  else if frame.length ≠ 64 ∨ leAt frame 60 4 ≠ crc32c (frame.take 60) then
    .next ((s.bump .OST_MCRC).setGl gb { s.gl gb with goodRun := 0 })
  else
    let l := s.gl gb
    let n := leAt frame 0 4
    let gap := match l.lastSeq with
      | some p => (n + 2 ^ 32 - p.toNat - 1) % 2 ^ 32
      | none => 0
    let s1 := if gap = 0 then s else s.bump .OST_MGAP 0 gap
    let run := if gap = 0 then l.goodRun + 1 else 1
    let standby := s.activeB != gb
    let own := crc32c (s.gov gb).trajBytes
    let same := leAt frame 56 4 == own
    let s2 := s1.setGl gb { s1.gl gb with
      lastSeq := some (BitVec.ofNat 32 n), goodRun := run, mirror := l.mirror || decide (100 ≤ run)
      trajOk := same, trajAsked := l.trajAsked || (standby && !same) }
    let s3 := if standby then s2.compareFrames gb frame else s2
    let s4 := if standby && !bit (leAt frame 13 1) 4 then s3.adopt gb frame else s3
    .next (s4.refreshGov gb)

/-- 4 periods without a good frame (R379). -/
def execMirrorLost (gb : Bool) (s : State) : Host.Outcome State Fault Refusal :=
  .next ((s.setGl gb { s.gl gb with mirror := false, goodRun := 0 }).refreshGov gb)

/-- A trajectory frame (R380): FSEQ, the BUDGET body from NPTS on, a CRC-32C; FSEQ and CRC little-endian as on-die data (log 26). -/
def execTrajectoryFrame (gb : Bool) (frame : List Byte) (s : State) : Host.Outcome State Fault Refusal :=
  let n := frame.length
  if s.govSt gb < 2 ∨ s.activeB = gb then .next s
  else if n < 16 ∨ leAt frame (n - 4) 4 ≠ crc32c (frame.take (n - 4)) then .next (s.bump .OST_MCRC)
  else
    let m := List.replicate 24 0#8 ++ slice frame 4 (n - 8)
    if m.length ≠ 32 + 12 * beAt m 24 1 then .next s
    else
      let g := s.gov gb
      .next (((s.setGov gb { g with
        points := budgetPoints m, effT := nextPeriod s.now, effP := g.tPrev, bflags := BitVec.ofNat 8 (beAt m 25 1)
        fixv := beAt m 26 1, slewUp := beAt m 28 2, slewDn := beAt m 30 2 }).setGl gb { s.gl gb with trajOk := true }).refreshGov gb)

/-! ### Commands of the steward and reversion (R383 to R387) -/

/-- The status of a command in OST_CMD. -/
def State.ostStatus (s : State) (st : Status) : State := (s.sf F.OST_CMD_STATUS 0 st.code).answer st 0

/-- OST_CMD.SWAP (R385). -/
def State.swapCommand (s : State) : State :=
  let m := s.mode s.activeB
  if !s.qualified (!s.activeB) || m == 2 || m == 4 then s.ostStatus .busy
  else ({ s with ost := { s.ost with swapDue := true } }.sf F.OST_CMD_SWAP 0 1).ostStatus .ok

/-- OST_CMD.RESET_A or RESET_B (R383). -/
def State.resetCommand (s : State) (gb : Bool) : State :=
  if s.activeB = gb ∧ s.govSt gb = 4 then s.ostStatus .busy else (s.resetGov gb).ostStatus .ok

/-- OST_CMD written: more than one command bit is illegal. -/
def State.ostCmdWrite (s : State) (v : Nat) : State :=
  match bits v 10 8 with
  | 0 => s.answer .ok 0
  | 1 => s.swapCommand
  | 2 => s.resetCommand false
  | 4 => s.resetCommand true
  | _ => (s.err .ost .bounds).answer .bounds 0

/-- OST_CMD written with SWAP 1. -/
def execOstSwap (rq : Requester) (s : State) : Host.Outcome State Fault Refusal :=
  .next (s.regWrite rq .OST_CMD 0 0x100 fun a => a.ostCmdWrite 0x100)

/-- OST_CMD written with RESET_A 1. -/
def execOstResetA (rq : Requester) (s : State) : Host.Outcome State Fault Refusal :=
  .next (s.regWrite rq .OST_CMD 0 0x200 fun a => a.ostCmdWrite 0x200)

/-- OST_CMD written with RESET_B 1. -/
def execOstResetB (rq : Requester) (s : State) : Host.Outcome State Fault Refusal :=
  .next (s.regWrite rq .OST_CMD 0 0x400 fun a => a.ostCmdWrite 0x400)

/-- A reset governor has restarted and tested itself (R372, R383). -/
def execGovRestartDone (gb pass : Bool) (s : State) : Host.Outcome State Fault Refusal :=
  if s.govSt gb ≠ 1 ∨ !s.fb F.IDT_BOOT_READY then .next s
  else .next ((s.setGl gb { s.gl gb with selfTest := pass, heartbeat := true }).setGovSt gb 2)

/-- The steward resets a lapsed governor, up to 3 times in 60 s (R384). -/
def execLapsedGovReset (gb : Bool) (s : State) : Host.Outcome State Fault Refusal :=
  let l := s.gl gb
  if s.govSt gb ≠ 0 ∨ s.activeB = gb ∨ l.leftDown then .next s
  else
    let recent := l.restarts.filter fun t => decide (s.now < t + 60000000000)
    if 3 ≤ recent.length then
      .next ((s.setGl gb { l with restarts := recent, leftDown := true }).raise 13 (govIx gb) .unreachable)
    else .next ((s.setGl gb { l with restarts := s.now :: recent }).resetGov gb)

/-- GOV-A takes control back (R386, R387). -/
def execGovRevert (s : State) : Host.Outcome State Fault Refusal :=
  let m := s.mode true
  if s.activeB ∧ !s.shutting ∧ s.qualified false ∧ s.f F.OST_CFG_REVERT * 100000 ≤ s.ost.a.qualRun ∧ (m = 0 ∨ m = 1 ∨ m = 3) ∧
      s.dueCause ≠ some 1 ∧ s.dueCause ≠ some 2 then
    .next (s.switchOver false 4)
  else .next s

end Sys2Proof.Machine
end

