-- ==== Sys2Proof/Machine/FclOps.lean ====
section
/-! DEFINITION. The fault collector (spec/18): latching and classifying events, reactions, the safe state. -/

namespace Sys2Proof.Machine

/-! ### The safe state (R613, R615) -/

/-- Entry to the safe state by a line, a class code and a status; `self` marks R616 and R617. A thermal trip or a shutdown goes on (R620). -/
def State.enterSafe (s : State) (line cls : Nat) (st : Status) (self : Bool) : State :=
  let s1 := s.wr .FCL_STAT 0 (2 ^ 31 + b2n self * 2 ^ 30 + line * 2 ^ 16 + cls * 2 ^ 14 + st.code)
  let s2 := (s1.setPair .FCL_SAFE_T_LO .FCL_SAFE_T_HI 0 s1.now).pulse
  let s3 := (s2.sf F.FCL_FAULTN_DRIVE 0 1).faultPin
  let s4 := (List.range 64).foldl (fun a i => if (a.slot i).state.active then a.abortSlot i else a) s3
  let s5 := (s4.endAcc .timeout).abortMusters
  let calm (a : State) (gb : Bool) : State := if a.mode gb = 1 then a.setMode gb 0 else a
  let s6 := calm (calm s5 false) true
  (s6.log { event := 0x0050, status := st, detail := Config.journalCause 0x0050 (line * 4 + cls) }).announceAll 1

/-- The safe state ends: a governor whose hold is alive returns to FOLLOW. -/
def State.leaveSafe (s : State) : State :=
  let s1 := s.sf F.FCL_STAT_SAFE 0 0
  let back (a : State) (gb : Bool) : State := if a.mode gb = 0 then a.setMode gb (a.baseMode gb) else a
  (back (back s1 false) true).announceAll 1

/-! ### Events (R607 to R612) -/

/-- An event latched and counted, with its class code. -/
def State.latchEvent (s : State) (line index : Nat) (st : Status) (cls : Nat) : State :=
  let s1 :=
    if s.fb F.FCL_LST_LATCH line then s.sf F.FCL_LST_OVER line 1
    else s.wr .FCL_LST line (2 ^ 31 + s.f F.FCL_LST_OVER line * 2 ^ 30 + cls * 2 ^ 28 + st.code * 2 ^ 16 + index % 512)
  s1.bump .FCL_CNT line

/-- The class of an event in its window, and the window after it (R608, R609): 1 ISOLATED, 2 RECURRENT, 3 PERSISTENT. -/
def State.classify (s : State) (line : Nat) : State × Nat :=
  let c := s.f F.FCL_WIN_COUNT line
  let s1 := s.sf F.FCL_WIN_COUNT line (min (c + 1) 0xFF)
  if c + 1 = s.f F.FCL_CLS_THR line then
    let run := min (s.f F.FCL_WIN_RUN line + 1) 0xFF
    (s1.sf F.FCL_WIN_RUN line run, if s.f F.FCL_CLS_PERS line ≤ run then 3 else 2)
  else (s1, 1)

/-- The reset that a line's RECOVER asks for (R606). -/
def State.recover (s : State) (line index : Nat) : State :=
  match line with
  | 0 | 1 => s.requestReset 1 index 9
  | 8 | 9 => s.requestReset 2 index 9
  | 13 => s.resetGov (!s.activeB)
  | _ => s

/-- A reaction: 0 LOG, 1 NOTIFY, 2 RECOVER, 3 SAFE, each with those before it (R610, R620). -/
def State.react (s : State) (line index cls : Nat) (st : Status) (level : Nat) : State :=
  let s1 := if 1 ≤ level then s.wr .FCL_EVENT 0 (Nat.lor (s.rr .FCL_EVENT) (2 ^ line)) else s
  let s2 := if 2 ≤ level then s1.recover line index else s1
  if 3 ≤ level then (if s2.safe? then s2.bump .FCL_SAFEREP else s2.enterSafe line cls st false) else s2

/-- The reaction code of a class. -/
def State.reaction (s : State) (line cls : Nat) : Nat :=
  match cls with
  | 1 => s.f F.FCL_CLS_R_ISO line
  | 2 => s.f F.FCL_CLS_R_REC line
  | _ => s.f F.FCL_CLS_R_PER line

/-! ### The end of the safe state (R615) -/

/-- A SAFE reaction falls due in this instant (R620). -/
def State.safeDue (s : State) : Bool :=
  s.fcl.windows && s.events.any (fun e => e.time == s.now && s.reaction e.line (s.classify e.line).2 == 3)

/-- The status of an exit request (R615), in the order of R21. -/
def State.exitStatus (s : State) (rq : Requester) : Status :=
  firstStatus
    [(decide (rq ≠ .steward (some .installer)), .denied), (s.fb F.FCL_STAT_SELF, .check),
     (s.fb F.FCL_LST_LATCH (s.f F.FCL_STAT_CAUSE) || s.safeDue, .busy)]

/-- EXIT requested. Outside the safe state there is nothing to end (log 33). -/
def State.safeExit (s : State) (rq : Requester) : State :=
  if s.safe? then
    let st := s.exitStatus rq
    let s1 := s.sf F.FCL_SAFE_STATUS 0 st.code
    match st with
    | .ok => s1.leaveSafe.answer .ok 0
    | .denied => (s1.err .fcl .denied).answer .denied 0
    | e => s1.answer e 0
  else if rq = .steward (some .installer) then (s.sf F.FCL_SAFE_STATUS 0 0).answer .ok 0
  else ((s.sf F.FCL_SAFE_STATUS 0 Status.denied.code).err .fcl .denied).answer .denied 0

/-! ### Taking events (R607 to R612, R616) -/

/-- An event taken by FCL (R607 to R611, R616): before READY and after a failure of FCL itself it is latched and counted alone. -/
def State.fclTake (s : State) (e : LineEvent) : State :=
  if !s.fcl.windows || s.fb F.FCL_STAT_SELF then s.latchEvent e.line e.index e.status 0
  else
    let c := s.classify e.line
    (c.1.latchEvent e.line e.index e.status c.2).react e.line e.index c.2 e.status (s.reaction e.line c.2)

/-- The event that FCL takes next (R612): the earliest, of one instant the lowest line, then the lowest INDEX. -/
def firstEvent : List LineEvent → Option LineEvent
  | [] => none
  | e :: es => some (es.foldl (fun a b =>
      if b.time < a.time || (b.time == a.time && (b.line < a.line || (b.line == a.line && decide (b.index < a.index)))) then b else a) e)

/-- FCL's own failure (R616): line 31, and the safe state without classification. -/
def State.ownFault (s : State) : State :=
  let s1 := s.latchEvent 31 0 .check 0
  if s1.safe? then s1.sf F.FCL_STAT_SELF 0 1 else s1.enterSafe 31 0 .check true

end Sys2Proof.Machine
end

