-- ==== Sys2Proof/Machine/Recovery.lean ====
section
/-! DEFINITION. The commands and events of RST (spec/17): resets, holds and releases, the phases of a reset, the hang detectors and the ramp
before a package reset. -/

namespace Sys2Proof.Machine

/-! ### RST_CMD (R597 to R599) -/

/-- The level names a domain below the package and the index lies in its range. -/
def domExists (l i : Nat) : Bool := 1 ≤ l && l ≤ 4 && decide (i < domCount l)

/-- The domain, and every domain that contains it, is OPEN. -/
def State.domOpen (s : State) (l i : Nat) : Bool := (outerDomains l i).all (fun d => s.domState d.1 d.2 == 0)

/-- A tile, cluster or partition in a gated partition. -/
def State.domGated (s : State) (l i : Nat) : Bool :=
  match l with
  | 1 => s.gated (i / 192)
  | 3 => s.gated (i / 8)
  | 4 => s.gated i
  | _ => false

/-- Where RELEASE starts a core. -/
def State.releasePc (s : State) : Nat := s.pair .RST_PC_LO .RST_PC_HI

/-- The status of a command: the first of R21 among the conditions of R597. ACTION: 0 RESET, 1 HOLD, 2 RELEASE. -/
def State.rstStatus (s : State) (rq : Requester) (l action i : Nat) : Status :=
  let ex := domExists l i
  let free := if action = 2 then s.domState 2 i == 5 else s.domOpen l i
  firstStatus
    [((l == 5 || l == 6) && decide (rq ≠ .steward (some .installer)), .denied),
     (ex && ((l == 1 && !s.working i) || s.domGated l i || (action == 2 && l == 2 && s.stuck 2 i)), .fenced),
     (decide (6 < l) || action == 3 || (decide (1 ≤ l) && decide (l ≤ 4) && !ex) || (decide (5 ≤ l) && action != 0) ||
        (action == 2 && (l != 2 || s.releasePc % 4 != 0 || !inMem s.releasePc 4)), .bounds),
     (ex && !free, .busy)]

/-- A core started in machine mode, with a0 its number (R598). -/
def State.startCore (s : State) (c pc : Nat) : State :=
  let k := s.core c
  (s.setDom 2 c 0).setCore c
    { k with on := true, mode := .m, pc := BitVec.ofNat 64 pc, x := SMap.set (fun _ => 0#64) k.x 10 (BitVec.ofNat 64 c) }

/-- HOLD: a recovery inside the domain is taken over, and the domain stays HELD until the next start (R599). -/
def State.holdCmd (s : State) (l i : Nat) : State :=
  (((innerDomains l i).foldl (fun a d => a.mergeInner d.1 d.2) s).noteHang 7 l 2 i).holdDomain l i

/-- A command that is not refused. -/
def State.rstRun (s : State) (l action i : Nat) : State :=
  match l, action with
  | 5, _ => (s.noteHang 7 5 1 0).packageReset 7
  | 6, _ => (s.noteHang 7 6 1 0).powerCycle
  | 2, 2 => s.startCore i s.releasePc
  | _, 1 => s.holdCmd l i
  | _, _ => s.requestReset l i 7

/-- RST_CMD written. An illegal value changes no field but STATUS (R18). -/
def State.rstCmd (s : State) (rq : Requester) (v : Nat) : State :=
  let l := bits v 31 28
  let action := bits v 27 26
  let i := bits v 9 0
  let st := s.rstStatus rq l action i
  let fields := l * 2 ^ 28 + action * 2 ^ 26 + i
  if l = 0 ∧ action ≠ 3 then (s.wr .RST_CMD 0 (fields + s.f F.RST_CMD_STATUS * 2 ^ 16)).answer .ok 0
  else
    let s1 := if st = .bounds then s else s.wr .RST_CMD 0 fields
    let s2 := s1.sf F.RST_CMD_STATUS 0 st.code
    match st with
    | .ok => (s2.rstRun l action i).answer .ok 0
    | .denied => (s2.err .rst .denied).answer .denied 0
    | .bounds => (s2.err .rst .bounds).answer .bounds 0
    | e => s2.answer e 0

/-- The word of a command. -/
def rstWord (l action i : Nat) : Nat := l * 2 ^ 28 + action * 2 ^ 26 + i

/-- RST_CMD written with ACTION RESET. -/
def execRstReset (rq : Requester) (level : Fin 16) (index : Fin 1024) (s : State) : Host.Outcome State Fault Refusal :=
  let v := rstWord level 0 index
  .next (s.regWrite rq .RST_CMD 0 v fun a => a.rstCmd rq v)

/-- RST_CMD written with ACTION HOLD. -/
def execRstHold (rq : Requester) (level : Fin 16) (index : Fin 1024) (s : State) : Host.Outcome State Fault Refusal :=
  let v := rstWord level 1 index
  .next (s.regWrite rq .RST_CMD 0 v fun a => a.rstCmd rq v)

/-- RST_CMD written with ACTION RELEASE. -/
def execRstRelease (rq : Requester) (level : Fin 16) (index : Fin 1024) (s : State) : Host.Outcome State Fault Refusal :=
  let v := rstWord level 2 index
  .next (s.regWrite rq .RST_CMD 0 v fun a => a.rstCmd rq v)

/-! ### The phases of a reset (R581, R582, R585 to R587) -/

/-- A domain is in recovery state `st`. -/
def State.domIn (s : State) (l i st : Nat) : Bool := domExists l i && s.domState l i == st

/-- DRAIN ends: a core goes on to RESET, its services ended (R517); the others to SALVAGE. -/
def execDrainEnd (level : Fin 5) (index : Fin 768) (s : State) : Host.Outcome State Fault Refusal :=
  let l := level.val
  let i := index.val
  .next (if s.domIn l i 1 then (if l = 2 then (s.stopCore i).setDom 2 i 3 else s.setDom l i 2) else s)

/-- The record of a domain's recovery changed at a byte. -/
def State.patchRecord (s : State) (l i o : Nat) (x : List Byte) : State :=
  match SMap.find? s.rst.recov (domKey l i) with
  | some r =>
    let b := patch r.record o x
    let s1 := s.reviseHang r.record b r.place
    { s1 with rst := { s1.rst with recov := SMap.put s1.rst.recov (domKey l i) { r with record := b } } }
  | none => s

/-- SALVAGE ends: the samples of the working tiles are in the ring (R594 to R596). -/
def execSalvageDone (level : Fin 5) (index : Fin 768) (s : State) : Host.Outcome State Fault Refusal :=
  let l := level.val
  let i := index.val
  if !s.domIn l i 2 then .next s
  else
    let states := match SMap.find? s.rst.recov (domKey l i) with
      | some r => r.states
      | none => []
    let r := s.salvage states
    let s1 := match r.2 with
      | some n => r.1.patchRecord l i 20 (leBytes 4 n)
      | none => r.1
    .next (s1.setDom l i 3)

/-- RESET ends, and TEST begins. -/
def execDomainResetDone (level : Fin 5) (index : Fin 768) (s : State) : Host.Outcome State Fault Refusal :=
  let l := level.val
  let i := index.val
  if !s.domIn l i 3 then .next s
  else
    let s1 := if l = 2 then s.resetCore i else (s.workingIn l i).foldl (fun a t => a.resetTile t) s
    .next (s1.setDom l i 4)

/-- TEST ends (R586, R587): what failed is HELD or escalates, and the rest is in service again. -/
def State.endTest (s : State) (l i : Nat) (passed : Bool) (failed : List Nat) : State :=
  let bad := (s.workingIn l i).filter (fun t => failed.contains t)
  let ok := if l = 1 then bad.isEmpty else passed
  let st : Status := if ok then .ok else .check
  let s1 := (s.setDomStatus l i st).patchRecord l i 11 (leBytes 1 st.code)
  let good := (s1.workingIn l i).filter (fun t => !failed.contains t)
  let s2 := good.foldl (fun a t => a.clearStore t) s1
  let s3 := { s2 with rst := { s2.rst with recov := SMap.del s2.rst.recov (domKey l i) } }
  let s4 := (s3.setDom l i (if l = 2 then 5 else 0)).rstEvent 1
  let s5 := bad.foldl (fun a t => a.escalateHeld 1 t) s4
  let s6 :=
    if passed then s5
    else
      match l with
      | 2 => s5.escalateHeld 2 i
      | 3 => s5.escalateCluster i
      | 4 => s5.escalatePackage
      | _ => s5
  s6.startQueued

/-- TEST ends; `failed` are the tiles that failed twice, `passed` the trail check or the core's tests. -/
def execDomainTestDone (level : Fin 5) (index : Fin 768) (passed : Bool) (failed : List Nat) (s : State) :
    Host.Outcome State Fault Refusal :=
  .next (if s.domIn level index 4 then s.endTest level index passed failed else s)

/-! ### Hang detectors (R588 to R590) -/

/-- A detector fires: counted, with its event and its record, and with AUTO the domain is reset. -/
def State.detect (s : State) (kind l i : Nat) (addr : Option Nat) : State :=
  let s1 := ((s.bump .RST_HANGS).rstEvent 0).raise 10 i .timeout
  if bit (s.f F.RST_HANG_AUTO) (kind - 1) then
    (if l = 5 then (s1.noteHang kind 5 1 0 addr).packageReset kind else s1.requestReset l i kind addr)
  else s1.noteHang kind l 0 i addr

/-- The pace code of a tile. -/
def State.tilePace (s : State) (t : Nat) : Nat :=
  match s.slotOfTile t with
  | some i => (s.slot i).tollPace.getD (s.f F.OST_OUT_PACE)
  | none => s.f F.OST_OUT_PACE

/-- A tile that the detectors count: paced, not in a gated partition, in service. -/
def State.watched (s : State) (t : Nat) : Bool := s.tilePace t != 0 && !s.tileFenced t

/-- A sink that waits for room in a full ring (R134). -/
def State.ringStall (s : State) (t : Nat) : Bool :=
  match s.slotOfTile t with
  | some i => (s.slot i).waiting.any (fun c => c.sink == some t)
  | none => false

/-- A tile in RUN retires nothing. -/
def execTileStall (tile : Fin 768) (s : State) : Host.Outcome State Fault Refusal :=
  .next (if s.watched tile && (s.tile tile).st == .run && !s.ringStall tile then s.detect 1 1 tile none else s)

/-- A tile in WAIT for an engine. -/
def Tile.awaitsEngine (x : Tile) : Bool :=
  x.st == .wait && (match x.waiting with
    | some (.matrix _) | some (.move _ _) | some .fence => true
    | _ => false)

/-- The engine that a tile waits for makes no step. -/
def execEngineStall (tile : Fin 768) (s : State) : Host.Outcome State Fault Refusal :=
  .next (if s.watched tile && (s.tile tile).awaitsEngine then s.detect 2 1 tile none else s)

/-- The tile that a stalled caravan names. -/
def State.stalledTile (s : State) (i : Nat) : Option Nat :=
  let ts := (s.slot i).stations.map (·.tile)
  match ts.find? (fun t => !(s.tile t).inbox.isEmpty) with
  | some t => some t
  | none =>
    match ts.find? (fun t => (s.tile t).awaitsEngine) with
    | some t => some t
    | none => ts.head?

/-- A caravan with sequences in flight moves no bale. -/
def execCaravanStall (slot : Fin 64) (s : State) : Host.Outcome State Fault Refusal :=
  let x := s.slot slot
  if x.state != .running || x.inflight.isEmpty || !x.waiting.isEmpty then .next s
  else
    match s.stalledTile slot with
    | some t => .next (if s.watched t then s.detect 3 1 t none else s)
    | none => .next s

/-- The pace code of the cores: FLOOR parks the caravans and leaves the cores at 32 (R361, R500). -/
def State.corePace (s : State) : Nat := if s.mode s.activeB = 3 then 32 else s.f F.OST_OUT_PACE

/-- A core that is not idle retires nothing. -/
def execCoreStall (core : Fin 32) (s : State) : Host.Outcome State Fault Refusal :=
  .next (if (s.core core).issues && s.corePace != 0 then s.detect 4 2 core none else s)

/-- The safe state that the steward enters on FCL's behalf (R617). -/
def State.stewardSafe (s : State) : State := if s.safe? then s else s.enterSafe 31 0 .timeout true

/-- How a request that got no answer ends (R590). -/
def State.endTimedOut (s : State) (addr : Nat) (req : TimedOut) : State :=
  match req with
  | .core c store => if (s.core c).issues then s.coreException c (if store then excStoreAccess else excLoadAccess) addr else s
  | .move t tag =>
    match (s.tile t).tag tag.toNat with
    | .busy _ => (s.setTile t ((s.tile t).setTag tag.toNat (.done .timeout))).latch t 3
    | _ => s
  | .admission slot => if (s.slot slot).state = .running then s.admitOne slot true else s
  | .stewardFcl => s.stewardSafe
  | .other => s.answer .timeout 0

/-- A request across a domain boundary got no answer; the target is named by its level, 5 the package, and its index. -/
def execReqTimeout (level : Fin 6) (index : Fin 768) (addr : Nat) (req : TimedOut) (s : State) : Host.Outcome State Fault Refusal :=
  let l := level.val
  .next (if domExists l index || l == 5 then (s.detect 5 l (if l = 5 then 0 else index) (some addr)).endTimedOut addr req else s)

/-- A tile that should have stopped has not (R164, R600): the caravan's recovery goes up to the tile's. -/
def execStopFail (tile : Fin 768) (s : State) : Host.Outcome State Fault Refusal :=
  let t := tile.val
  let x := s.tile t
  if (x.st == .stopped || x.st == .fault) && !x.quiet && !s.tileFence t && s.working t then
    let s1 := if bit (s.f F.RST_HANG_AUTO) 5 then (s.countEscalation 1).noteHang 8 1 1 t else s
    .next (s1.detect 6 1 t none)
  else .next s

/-! ### The ramp before a package reset (R602) -/

/-- The draw has reached the floor: the start sequence begins. -/
def execPackageResetRampDone (s : State) : Host.Outcome State Fault Refusal :=
  .next (if s.rst.pkgReset.isSome && !s.shutting && !s.thm.tripped then s.beginStart false else s)

end Sys2Proof.Machine
end

