-- ==== Sys2Proof/Machine/Faults.lean ====
section
/-! DEFINITION. The commands and events of the fault collector (spec/18). -/

namespace Sys2Proof.Machine

/-- FCL takes the event that is due (R607 to R612, R620). -/
def execFclErrorEvent (s : State) : Host.Outcome State Fault Refusal :=
  match firstEvent s.events with
  | none => .next s
  | some e => .next ({ s with events := s.events.erase e }.fclTake e)

/-- A line's window ends (R608). -/
def execFclWindowEnd (line : Fin 31) (s : State) : Host.Outcome State Fault Refusal :=
  let n := line.val
  if s.fcl.windows && decide (n ≤ 18) then
    let s1 := if s.f F.FCL_WIN_COUNT n < s.f F.FCL_CLS_THR n then s.sf F.FCL_WIN_RUN n 0 else s
    .next (s1.sf F.FCL_WIN_COUNT n 0)
  else .next s

/-- The shadow copy of a line's FCL_CLS. -/
def State.shadow (s : State) (n : Nat) : BitVec 32 := (SMap.find? s.fcl.shadow n).getD (BitVec.ofNat 32 (Reg.FCL_CLS.rst n))

/-- FCL compares its FCL_CLS values with the shadow copy (R616). An upset leaves a value in one of them first. -/
def execFclSelfCheck (upset : Option (Fin 31 × BitVec 32)) (s : State) : Host.Outcome State Fault Refusal :=
  let s1 := match upset with
    | some u => s.wr .FCL_CLS u.1 u.2.toNat
    | none => s
  let differs := (List.range 31).any (fun n => s1.rr .FCL_CLS n != (s1.shadow n).toNat)
  .next (if differs && !s1.fb F.FCL_STAT_SELF then s1.ownFault else s1)

/-- FCL_SAFE written with EXIT 1. A SAFE reaction due in the same instant wins (R620). -/
def execFclSafeExit (rq : Requester) (s : State) : Host.Outcome State Fault Refusal :=
  .next (s.regWrite rq .FCL_SAFE 0 (2 ^ 31) fun a => a.safeExit rq)

/-- The pulse on FAULT_N ends; DRIVE decides the pin from here (R618, R619). -/
def execFaultNPulseEnd (s : State) : Host.Outcome State Fault Refusal :=
  .next (if s.fb F.FCL_FAULTN_PULSE then (s.sf F.FCL_FAULTN_PULSE 0 0).faultPin else s)

/-- FCL_FAULTN written: a WIDTH below 2 is illegal. -/
def State.faultnWrite (s : State) (rq : Requester) (isSealed : Bool) (v : Nat) : State :=
  (s.writeWord rq isSealed (decide (2 ≤ bits v 7 0)) .FCL_FAULTN 0 v).faultPin

/-- FCL finds a parity error in a register of its own, or a handshake that does not complete (R616). -/
def execFclOwnFault (s : State) : Host.Outcome State Fault Refusal := .next (if s.fb F.FCL_STAT_SELF then s else s.ownFault)

end Sys2Proof.Machine
end

