-- ==== Sys2Proof/Machine/Interrupts.lean ====
section
/-! DEFINITION. The commands of the interrupt controller (R498, R503 to R519). -/

namespace Sys2Proof.Machine

/-- A cache error of a core (R498): its private source, and the error line. -/
def State.cacheError (s : State) (c : Nat) (e : Ecc) : State :=
  match e with
  | .correctable => (s.sf F.IC_STAT_CE c 1).raise 8 c .check
  | .uncorrectable => (s.sf F.IC_STAT_UE c 1).raise 9 c .poison

/-- A source has changed, by an error of a core's caches when one is named: IC evaluates anew. -/
def execIcSourceChange (cache : Option (Fin 32 × Ecc)) (s : State) : Host.Outcome State Fault Refusal :=
  match cache with
  | some e => .next (s.cacheError e.1 e.2).icSettle
  | none => .next s.icSettle

/-- The requester is core `c`. -/
def isCoreOf (rq : Requester) (c : Nat) : Bool :=
  match rq with
  | .core k => k.val == c
  | _ => false

/-- IC_CLAIM read (R508, R513). -/
def State.icClaim (s : State) (rq : Requester) (c : Nat) : State :=
  if !isCoreOf rq c then s.answer .ok 0
  else
    let k := s.core c
    match (if k.appSvc = 0 then s.offered c false else none) with
    | some n =>
      let gap := s.f F.IC_MOD_GAP c
      let k' := { k with appSvc := n, window := k.window || gap != 0, held := if gap = 0 then k.held else false }
      ((s.setCore c k').icCore c).answer .ok n
    | none => s.answer .ok 0

/-- IC_CLAIM read. -/
def execIcClaimRead (rq : Requester) (bank : Fin 32) (s : State) : Host.Outcome State Fault Refusal :=
  .next (s.regRead rq .IC_CLAIM bank fun a => a.icClaim rq bank)

/-- IC_CLAIM written (R509). -/
def State.icClaimWrite (s : State) (rq : Requester) (c v : Nat) : State :=
  let k := s.core c
  if !isCoreOf rq c then (s.err .ic .denied).answer .denied 0
  else if k.appSvc = 0 ∨ v % 1024 ≠ k.appSvc then (s.err .ic .bounds).answer .bounds 0
  else ((s.setCore c { k with appSvc := 0 }).icSettle).answer .ok 0

/-- IC_CLAIM written. -/
def execIcClaimWrite (rq : Requester) (bank : Fin 32) (value : BitVec 32) (s : State) : Host.Outcome State Fault Refusal :=
  .next (s.regWrite rq .IC_CLAIM bank value.toNat fun a => a.icClaimWrite rq bank value.toNat)

/-- IC_SVC written (R512). -/
def State.icSvcWrite (s : State) (rq : Requester) (c v : Nat) : State :=
  let k := s.core c
  if !isCoreOf rq c then (s.err .ic .denied).answer .denied 0
  else if k.svcSvc = 0 ∨ v % 1024 ≠ k.svcSvc then (s.err .ic .bounds).answer .bounds 0
  else ((s.setCore c { k with svcSvc := 0, msrc := 0 }).icSettle).answer .ok 0

/-- IC_SVC written. -/
def execIcSvcWrite (rq : Requester) (bank : Fin 32) (value : BitVec 32) (s : State) : Host.Outcome State Fault Refusal :=
  .next (s.regWrite rq .IC_SVC bank value.toNat fun a => a.icSvcWrite rq bank value.toNat)

/-- The address at which a core continues after a machine external interrupt, and whether its vector entry failed (R510, R511). -/
def State.vector (s : State) (c n : Nat) : State × Option Nat × Bool :=
  let b := s.pair .IC_VBASE_LO .IC_VBASE_HI c
  if b = 0 then (s, none, false)
  else if !inMem (b + 8 * n) 8 then (s, none, true)
  else
    let r := s.readMem (b + 8 * n) 8 0
    let a := leNat r.2.1
    if r.2.2 || a % 4 != 0 then (r.1, none, true) else (r.1, some a, false)

/-- A core takes a machine external interrupt (R510, R511). -/
def execMachineExternalInterrupt (core : Fin 32) (s : State) : Host.Outcome State Fault Refusal :=
  let c := core.val
  let k := s.core c
  match (if k.on && k.takesM (s.meip c) k.meie then s.offered c true else none) with
  | none => .next s
  | some n =>
    let s1 := s.breakWait c
    let s2 := s1.setCore c ({ (s1.core c) with svcSvc := n, msrc := n }.interrupt false 11)
    let r := s2.vector c n
    let s3 := match r.2.1 with
      | some a => r.1.setCore c { r.1.core c with pc := BitVec.ofNat 64 a }
      | none => r.1
    let s4 := if r.2.2 then s3.sf F.IC_STAT_VFAIL c 1 else s3
    .next (s4.icCore c)

/-- A moderation window closes (R513). -/
def execModerationEnd (core : Fin 32) (s : State) : Host.Outcome State Fault Refusal :=
  .next ((s.setCore core { s.core core with window := false, held := false }).icCore core)

/-- A core executes `wfi`, or has stalled in `cvn.wait` (R501, R514). -/
def execCoreIdle (core : Fin 32) (s : State) : Host.Outcome State Fault Refusal :=
  let k := s.core core
  if !k.on then .next s
  else
    .next ((s.setCore core { k with
      wfi := k.wait.isNone, pc := if k.wait.isNone && !k.wfi then k.pc + 4 else k.pc, window := false, held := false }).icCore core)

/-- PTIME reaches a timer compare value of a core (R503). -/
def execTimerCompare (core : Fin 32) (s : State) : Host.Outcome State Fault Refusal := .next (s.coreTimer core)

end Sys2Proof.Machine
end

