-- ==== Sys2Proof/Machine/Scalar.lean ====
section
/-! DEFINITION. The scalar and control instructions of Viroth, classes 0x0 to 0x2 (R166 to R172). -/

namespace Sys2Proof.Machine

/-! ### Class 0x0 (R166, R167) -/

/-- A class 0x0 instruction: g[A] from g[B] and g[C], FN and D zero. -/
def State.scalar (s : State) (t : Fin 768) (opc : Nat) (o : VOp) (f : Nat → Nat → Nat) : Host.Outcome State Fault Refusal :=
  s.issueSeq t 0 opc o (o.unusedZero true true true false false false) [] false fun s1 =>
    let x := s1.tile t
    s1.finishG t o.a (f (x.gr o.b) (x.gr o.c))

/-- The result of `sc.add`: modulo 2^64. -/
def scAddValue (x y : Nat) : Nat := x + y
/-- The result of `sc.sub`. -/
def scSubValue (x y : Nat) : Nat := x + 2 ^ 64 - y
/-- The result of `sc.and`. -/
def scAndValue (x y : Nat) : Nat := Nat.land x y
/-- The result of `sc.or`. -/
def scOrValue (x y : Nat) : Nat := Nat.lor x y
/-- The result of `sc.xor`. -/
def scXorValue (x y : Nat) : Nat := Nat.xor x y
/-- The result of `sc.sll`. -/
def scSllValue (x y : Nat) : Nat := x * 2 ^ (y % 64)
/-- The result of `sc.srl`: zero fill. -/
def scSrlValue (x y : Nat) : Nat := x / 2 ^ (y % 64)
/-- The result of `sc.sra`: sign fill. -/
def scSraValue (x y : Nat) : Nat := ofSigned 64 (toSigned 64 x / (2 ^ (y % 64) : Nat))
/-- The result of `sc.mul`: low 64 bits. -/
def scMulValue (x y : Nat) : Nat := x * y
/-- The result of `sc.mulh`: high 64 bits of the signed product. -/
def scMulhValue (x y : Nat) : Nat := ofSigned 64 (toSigned 64 x * toSigned 64 y / (2 ^ 64 : Nat))
/-- The result of `sc.div`: signed, toward zero; by zero all ones (R167). -/
def scDivValue (x y : Nat) : Nat := if y = 0 then 2 ^ 64 - 1 else ofSigned 64 ((toSigned 64 x).tdiv (toSigned 64 y))
/-- The result of `sc.rem`: signed, with the sign of g[B]; by zero g[B] (R167). -/
def scRemValue (x y : Nat) : Nat := if y = 0 then x else ofSigned 64 ((toSigned 64 x).tmod (toSigned 64 y))
/-- The result of `sc.slt`: signed less. -/
def scSltValue (x y : Nat) : Nat := b2n (decide (toSigned 64 x < toSigned 64 y))
/-- The result of `sc.sltu`: unsigned less. -/
def scSltuValue (x y : Nat) : Nat := b2n (decide (x < y))
/-- The result of `sc.min`: signed minimum. -/
def scMinValue (x y : Nat) : Nat := if toSigned 64 x ≤ toSigned 64 y then x else y
/-- The result of `sc.max`: signed maximum. -/
def scMaxValue (x y : Nat) : Nat := if toSigned 64 x ≤ toSigned 64 y then y else x

def execScAdd (t : Fin 768) (o : VOp) (s : State) : Host.Outcome State Fault Refusal := s.scalar t 0x0 o scAddValue
def execScSub (t : Fin 768) (o : VOp) (s : State) : Host.Outcome State Fault Refusal := s.scalar t 0x1 o scSubValue
def execScAnd (t : Fin 768) (o : VOp) (s : State) : Host.Outcome State Fault Refusal := s.scalar t 0x2 o scAndValue
def execScOr (t : Fin 768) (o : VOp) (s : State) : Host.Outcome State Fault Refusal := s.scalar t 0x3 o scOrValue
def execScXor (t : Fin 768) (o : VOp) (s : State) : Host.Outcome State Fault Refusal := s.scalar t 0x4 o scXorValue
def execScSll (t : Fin 768) (o : VOp) (s : State) : Host.Outcome State Fault Refusal := s.scalar t 0x5 o scSllValue
def execScSrl (t : Fin 768) (o : VOp) (s : State) : Host.Outcome State Fault Refusal := s.scalar t 0x6 o scSrlValue
def execScSra (t : Fin 768) (o : VOp) (s : State) : Host.Outcome State Fault Refusal := s.scalar t 0x7 o scSraValue
def execScMul (t : Fin 768) (o : VOp) (s : State) : Host.Outcome State Fault Refusal := s.scalar t 0x8 o scMulValue
def execScMulh (t : Fin 768) (o : VOp) (s : State) : Host.Outcome State Fault Refusal := s.scalar t 0x9 o scMulhValue
def execScDiv (t : Fin 768) (o : VOp) (s : State) : Host.Outcome State Fault Refusal := s.scalar t 0xA o scDivValue
def execScRem (t : Fin 768) (o : VOp) (s : State) : Host.Outcome State Fault Refusal := s.scalar t 0xB o scRemValue
def execScSlt (t : Fin 768) (o : VOp) (s : State) : Host.Outcome State Fault Refusal := s.scalar t 0xC o scSltValue
def execScSltu (t : Fin 768) (o : VOp) (s : State) : Host.Outcome State Fault Refusal := s.scalar t 0xD o scSltuValue
def execScMin (t : Fin 768) (o : VOp) (s : State) : Host.Outcome State Fault Refusal := s.scalar t 0xE o scMinValue
def execScMax (t : Fin 768) (o : VOp) (s : State) : Host.Outcome State Fault Refusal := s.scalar t 0xF o scMaxValue

/-! ### Class 0x1 (R168 to R170) -/

/-- A class 0x1 instruction that computes g[A] from g[B] and IMM. -/
def State.scalarImm (s : State) (t : Fin 768) (opc : Nat) (o : VOp) (legal : Bool) (f : Nat → Nat) : Host.Outcome State Fault Refusal :=
  s.issueSeq t 1 opc o (o.unusedZero true true false false false true && legal) [] false fun s1 =>
    s1.finishG t o.a (f ((s1.tile t).gr o.b))

def execScAddi (t : Fin 768) (o : VOp) (s : State) : Host.Outcome State Fault Refusal :=
  s.scalarImm t 0x0 o true fun x => x + o.imm
def execScAndi (t : Fin 768) (o : VOp) (s : State) : Host.Outcome State Fault Refusal :=
  s.scalarImm t 0x1 o true fun x => Nat.land x o.imm
def execScOri (t : Fin 768) (o : VOp) (s : State) : Host.Outcome State Fault Refusal :=
  s.scalarImm t 0x2 o true fun x => Nat.lor x o.imm
def execScXori (t : Fin 768) (o : VOp) (s : State) : Host.Outcome State Fault Refusal :=
  s.scalarImm t 0x3 o true fun x => Nat.xor x o.imm
def execScSlli (t : Fin 768) (o : VOp) (s : State) : Host.Outcome State Fault Refusal :=
  s.scalarImm t 0x4 o o.shiftLegal fun x => scSllValue x o.imm
def execScSrli (t : Fin 768) (o : VOp) (s : State) : Host.Outcome State Fault Refusal :=
  s.scalarImm t 0x5 o o.shiftLegal fun x => scSrlValue x o.imm
def execScSrai (t : Fin 768) (o : VOp) (s : State) : Host.Outcome State Fault Refusal :=
  s.scalarImm t 0x6 o o.shiftLegal fun x => scSraValue x o.imm
def execScSlti (t : Fin 768) (o : VOp) (s : State) : Host.Outcome State Fault Refusal :=
  s.scalarImm t 0x7 o true fun x => scSltValue x o.imm

/-- `sc.li`: B is unused. -/
def execScLi (t : Fin 768) (o : VOp) (s : State) : Host.Outcome State Fault Refusal :=
  s.issueSeq t 1 0x8 o (o.unusedZero true false false false false true) [] false fun s1 => s1.finishG t o.a o.imm

/-- `sc.lih`: IMM, taken unsigned, into the high half. -/
def execScLih (t : Fin 768) (o : VOp) (s : State) : Host.Outcome State Fault Refusal :=
  s.issueSeq t 1 0x9 o (o.unusedZero true false false false false true) [] false fun s1 =>
    s1.finishG t o.a (putBits ((s1.tile t).gr o.a) 63 32 o.fn.toNat)

/-- The width in bytes that D names (R169). -/
def widthOf (d : Nat) : Nat := 2 ^ (d % 4)

/-- The address g[B] + IMM. -/
def Tile.addr (x : Tile) (o : VOp) : Nat := (x.gr o.b + o.imm) % 2 ^ 64

/-- The checks of an access of `n` bytes at an address aligned to `al` (R160, R169). -/
def accessExc (a n al : Nat) : List (Bool × Cause × Nat) := [(a % al != 0, .misalign, a), (decide (0x80000 < a + n), .range, a)]

/-- `sc.ld`: zero-extended, or sign-extended for D 4 to 6 (R165, R169). -/
def execScLd (t : Fin 768) (o : VOp) (s : State) : Host.Outcome State Fault Refusal :=
  let x := s.tile t
  let a := x.addr o
  let n := widthOf o.d.toNat
  s.issueSeq t 1 0xA o (o.unusedZero true true false true false true && decide (o.d.toNat ≤ 6)) (accessExc a n n)
    (x.conflict [(a, n)] []) fun s1 =>
      let r := s1.readMem (spadAddr t a) n 4
      let v := leNat r.2.1
      ((r.1.poisonSeen t r.2.2).finishG t o.a (if 4 ≤ o.d.toNat then ofSigned 64 (toSigned (8 * n) v) else v))

/-- `sc.st`. -/
def execScSt (t : Fin 768) (o : VOp) (s : State) : Host.Outcome State Fault Refusal :=
  let x := s.tile t
  let a := x.addr o
  let n := widthOf o.d.toNat
  s.issueSeq t 1 0xB o (o.unusedZero false true true true false true && decide (o.d.toNat ≤ 3)) (accessExc a n n)
    (x.conflict [] [(a, n)]) fun s1 =>
      (s1.writeMem (spadAddr t a) (leBytes n ((s1.tile t).gr o.c)) false 4).retire t

/-- The checks of a tile-register offset (R170). -/
def tileRegExc (a : Nat) : List (Bool × Cause × Nat) := [(a % 4 != 0, .misalign, a), (decide (0x1000 ≤ a), .range, a)]

/-- The tile register at an offset of a tile. -/
def tileRegAt (t off : Nat) : Option (Reg × Nat) := Reg.at (0x100000C0000 + t * 0x100000 + off)

/-- `sc.tr`: a read with all that a read does (R10, R13). -/
def execScTr (t : Fin 768) (o : VOp) (s : State) : Host.Outcome State Fault Refusal :=
  let a := (s.tile t).addr o
  s.issueSeq t 1 0xC o (o.unusedZero true true false false false true) (tileRegExc a) false fun s1 =>
    match tileRegAt t a with
    | some (r, i) =>
      let hi := match r.highOf with | some h => s1.tileShow h i | none => 0
      let s2 := s1.readReg (.tile t) r i (s1.tileShow r i) hi
      s2.finishG t o.a s2.resp.value.toNat
    | none => s1.finishG t o.a 0

/-- `sc.tw`: a write by the table of tile registers. -/
def execScTw (t : Fin 768) (o : VOp) (s : State) : Host.Outcome State Fault Refusal :=
  let a := (s.tile t).addr o
  s.issueSeq t 1 0xD o (o.unusedZero false true true false false true) (tileRegExc a) false fun s1 =>
    let v := (s1.tile t).gr o.c % 2 ^ 32
    match tileRegAt t a with
    | some (r, i) => (s1.tileRegWrite (.tile t) r i v).retire t
    | none => s1.retire t

/-! ### Class 0x2 (R171, R172) -/

/-- PC + IMM × 8. -/
def branchTarget (x : Tile) (o : VOp) : Nat := ofSigned 64 ((x.pc.toNat : Int) + o.immZ * 8)

/-- The causes of a transfer to a target (R160). -/
def fetchExc (target : Nat) : Bool × Cause × Nat := (decide (0xFFF8 < target) || target % 8 != 0, .fetch, target)

/-- `ct.br`. -/
def execCtBr (t : Fin 768) (o : VOp) (s : State) : Host.Outcome State Fault Refusal :=
  let x := s.tile t
  let legal := o.unusedZero false true true true false true && decide (o.d.toNat ≤ 5)
  if brCond o.d.toNat (x.gr o.b) (x.gr o.c) then
    s.issue t 2 0 o legal [fetchExc (branchTarget x o)] false fun s1 => s1.retireTo t (branchTarget x o)
  else s.issueSeq t 2 0 o legal [] false fun s1 => s1.retire t

/-- `ct.jal`. -/
def execCtJal (t : Fin 768) (o : VOp) (s : State) : Host.Outcome State Fault Refusal :=
  let x := s.tile t
  s.issue t 2 1 o (o.unusedZero true false false false false true) [fetchExc (branchTarget x o)] false fun s1 =>
    let y := s1.tile t
    (s1.setTile t (y.setG o.a (y.pc.toNat + 8))).retireTo t (branchTarget x o)

/-- `ct.jr`. -/
def execCtJr (t : Fin 768) (o : VOp) (s : State) : Host.Outcome State Fault Refusal :=
  let x := s.tile t
  s.issue t 2 2 o (o.unusedZero true true false false false true) [fetchExc (x.addr o)] false fun s1 =>
    let y := s1.tile t
    (s1.setTile t (y.setG o.a (y.pc.toNat + 8))).retireTo t (x.addr o)

/-- `ct.fence`: done at once when nothing is under way, else the tile waits (R190). -/
def execCtFence (t : Fin 768) (o : VOp) (s : State) : Host.Outcome State Fault Refusal :=
  s.issueSeq t 2 3 o (o.unusedZero false false false false false false) [] false fun s1 => (s1.block t .fence).release t

/-- `ct.nop`. -/
def execCtNop (t : Fin 768) (o : VOp) (s : State) : Host.Outcome State Fault Refusal :=
  s.issueSeq t 2 4 o (o.unusedZero false false false false false false) [] false fun s1 => s1.retire t

end Sys2Proof.Machine
end

