-- ==== Sys2Proof/Machine/Vector.lean ====
section
/-! DEFINITION. The vector instructions of Viroth, class 0x3, and the vector memory, lane and predicate instructions of class 0x4
(R173 to R178, R244 to R249, R260, R261). -/

namespace Sys2Proof.Machine

/-! ### Class 0x3 -/

/-- The way of rounding of lane `l`, its stochastic value drawn from generator state `g` (R219, R224). -/
def rmOf (m g l : Nat) : Rm := if m = 1 then .sr (genValue g l) else .rne

/-- The lanes skipped by zero-skip (R260, R261): their number among the active ones. -/
def Tile.skipped (x : Tile) (o : VOp) : Nat :=
  if o.zs then
    ((List.range 64).filter (fun l => x.active o l &&
      (let z := fun (v : Nat) => if o.ty = 0 then v % 2 ^ 31 == 0 else v == 0
       z (x.lane o.b l) || z (x.lane o.c l)))).length
  else 0

/-- The number of active lanes. -/
def Tile.activeCount (x : Tile) (o : VOp) : Nat := popCount 64 (x.pr o.pr.toNat)

/-- A vector register written lane by lane from results, flags of active lanes set, poison taken (R165, R226, R228). -/
def State.vectorWrite (s : State) (t : Nat) (o : VOp) (srcPois : Bool) (f : Nat → Rounded) : State :=
  let x := s.tile t
  let fl := (List.range 64).foldl (fun a l => if x.active o l then Nat.lor a (f l).flags else a) 0
  let y := (x.writeLanes o (fun l => (f l).code)).destPoison o srcPois
  (((s.setTile t y).setFlags t fl).tileEvent t 0x04 (x.activeCount o)).tileEvent t 0x05 (x.skipped o)

/-- A class 0x3 instruction that computes each lane from B, C and D; `draws` says that RM = 1 draws 64 values (R224, R225). -/
def State.vector3 (s : State) (t : Fin 768) (opc : Nat) (o : VOp) (legal draws useC useD : Bool) : Host.Outcome State Fault Refusal :=
  s.issueSeq t 3 opc o (o.unusedZero true true useC useD true true && legal) [] false fun s1 =>
    let x := s1.tile t
    let stoch := draws && o.rmField == 1
    let g := x.gen.toNat
    let f := fun l =>
      lane3 opc o.ty (if stoch then rmOf 1 g l else .rne) o.sat o.zs o.sub o.src (x.lane o.b l) (x.lane o.c l) (x.lane o.d l)
    let s2 := s1.vectorWrite t o (x.vp o.b || (useC && x.vp o.c) || (useD && x.vp o.d)) f
    let y := s2.tile t
    (s2.setTile t { y with gen := if stoch then BitVec.ofNat 64 (genSkip g 16) else y.gen }).retire t

def execVAdd (t : Fin 768) (o : VOp) (s : State) : Host.Outcome State Fault Refusal :=
  s.vector3 t 0x0 o (o.fn3Legal false false && o.sub == 0) (o.ty == 0) true false
def execVSub (t : Fin 768) (o : VOp) (s : State) : Host.Outcome State Fault Refusal :=
  s.vector3 t 0x1 o (o.fn3Legal false false && o.sub == 0) (o.ty == 0) true false
def execVMul (t : Fin 768) (o : VOp) (s : State) : Host.Outcome State Fault Refusal :=
  s.vector3 t 0x2 o (o.fn3Legal true false && o.sub == 0) (o.ty == 0) true false
def execVFma (t : Fin 768) (o : VOp) (s : State) : Host.Outcome State Fault Refusal :=
  s.vector3 t 0x3 o (o.fn3Legal true false && o.sub == 0) (o.ty == 0) true true
def execVMin (t : Fin 768) (o : VOp) (s : State) : Host.Outcome State Fault Refusal :=
  s.vector3 t 0x4 o (o.fn3Legal false false && o.sub == 0) false true false
def execVMax (t : Fin 768) (o : VOp) (s : State) : Host.Outcome State Fault Refusal :=
  s.vector3 t 0x5 o (o.fn3Legal false false && o.sub == 0) false true false
def execVAnd (t : Fin 768) (o : VOp) (s : State) : Host.Outcome State Fault Refusal :=
  s.vector3 t 0x6 o (o.fn3Legal false false && o.sub == 0 && o.ty != 0) false true false
def execVOr (t : Fin 768) (o : VOp) (s : State) : Host.Outcome State Fault Refusal :=
  s.vector3 t 0x7 o (o.fn3Legal false false && o.sub == 0 && o.ty != 0) false true false
def execVXor (t : Fin 768) (o : VOp) (s : State) : Host.Outcome State Fault Refusal :=
  s.vector3 t 0x8 o (o.fn3Legal false false && o.sub == 0 && o.ty != 0) false true false
def execVShl (t : Fin 768) (o : VOp) (s : State) : Host.Outcome State Fault Refusal :=
  s.vector3 t 0x9 o (o.fn3Legal false false && decide (o.sub ≤ 1) && o.ty != 0) false true false

/-- `v.cmp`: p[A], inactive bits 0; a poisoned source reaches a register without a poison bit. -/
def execVCmp (t : Fin 768) (o : VOp) (s : State) : Host.Outcome State Fault Refusal :=
  s.issueSeq t 3 0xA o (o.unusedZero true true true false true true && o.fn3Legal false false && decide (o.a.toNat ≤ 7) &&
      decide (o.sub ≤ 4) && (o.sub != 4 || o.ty == 0)) [] false fun s1 =>
    let x := s1.tile t
    let v := (List.range 64).foldl (fun a l =>
      if x.active o l && cmpLane o.ty o.sub (x.lane o.b l) (x.lane o.c l) then a + 2 ^ l else a) 0
    let s2 := s1.poisonSeen t (x.vp o.b || x.vp o.c)
    ((s2.setTile t ((s2.tile t).setP o.a.toNat v)).tileEvent t 0x04 (x.activeCount o)).retire t

/-- `v.sel`: p[D] chooses between B and C. -/
def execVSel (t : Fin 768) (o : VOp) (s : State) : Host.Outcome State Fault Refusal :=
  s.issueSeq t 3 0xB o (o.unusedZero true true true true true true && o.fn3Legal false false && o.sub == 0 &&
      decide (o.d.toNat ≤ 7)) [] false fun s1 =>
    let x := s1.tile t
    (s1.vectorWrite t o (x.vp o.b || x.vp o.c)
      (fun l => ⟨if bit (x.pr o.d.toNat) l then x.lane o.b l else x.lane o.c l, 0⟩)).retire t

/-- `v.cvt` (R231): TYPE 0, both formats among those of R179. -/
def execVCvt (t : Fin 768) (o : VOp) (s : State) : Host.Outcome State Fault Refusal :=
  s.vector3 t 0xC o (o.fn3Legal false true && o.ty == 0 && cvtFormat o.sub && cvtFormat o.src) true false false

/-- `v.red` (R175, R248): lane 0 takes the reduction, lanes 1 to 63 are 0. -/
def execVRed (t : Fin 768) (o : VOp) (s : State) : Host.Outcome State Fault Refusal :=
  s.issueSeq t 3 0xD o (o.unusedZero true true false false true true && o.fn3Legal false false && decide (o.sub ≤ 2) &&
      o.rmField == 0) [] false fun s1 =>
    let x := s1.tile t
    let r := reduce o.ty o.sub ((List.range 64).map (fun l => if x.active o l then x.lane o.b l else redIdentity o.ty o.sub))
    let y := (List.range 64).foldl (fun a l => a.setLane o.a l (if l = 0 then r.1 else 0)) x
    (((s1.setTile t (y.setVp o.a (x.vp o.b))).setFlags t r.2).tileEvent t 0x04 (x.activeCount o)).retire t

/-- `v.spec` (R249). -/
def execVSpec (t : Fin 768) (o : VOp) (s : State) : Host.Outcome State Fault Refusal :=
  s.vector3 t 0xE o (o.fn3Legal false false && o.ty == 0 && decide (o.sub ≤ 4) && o.rmField == 0) false false false

/-! ### Class 0x4 -/

/-- The active lanes' four-byte ranges at addresses `f`. -/
def Tile.laneRanges (x : Tile) (o : VOp) (f : Nat → Nat) : List (Nat × Nat) :=
  ((List.range 64).filter (x.active o)).map (fun l => (f l, 4))

/-- The checks of the active lanes' own addresses (R178). -/
def laneExcs (rs : List (Nat × Nat)) : List (Bool × Cause × Nat) := rs.flatMap (fun p => accessExc p.1 4 4)

/-- The lines that ranges touch, read and checked: whether any is poisoned. -/
def State.checkRanges (s : State) (t : Nat) (rs : List (Nat × Nat)) : State × Bool :=
  let lines := (rs.map (fun p => p.1 / 64)).dedup
  lines.foldl (fun a l => let r := a.1.checkLine (spadAddr t (l * 64) / 64) 4; (r.1, a.2 || r.2)) (s, false)

/-- The stored 32-bit word at a scratchpad address. -/
def State.spadWord (s : State) (t a : Nat) : Nat := leNat (s.bytes (spadAddr t a) 4)

/-- Active lanes loaded from addresses `f` (R165, R178). -/
def State.loadLanes (s : State) (t : Nat) (o : VOp) (f : Nat → Nat) : State :=
  let x := s.tile t
  let r := s.checkRanges t (x.laneRanges o f)
  let y := ((r.1.tile t).writeLanes o (fun l => r.1.spadWord t (f l))).destPoison o r.2
  ((r.1.setTile t y).tileEvent t 0x04 (x.activeCount o)).retire t

/-- `v.ld`. -/
def execVLd (t : Fin 768) (o : VOp) (s : State) : Host.Outcome State Fault Refusal :=
  let x := s.tile t
  let a := x.addr o
  s.issueSeq t 4 0 o (o.unusedZero true true false false true true) (accessExc a 256 64)
    (x.conflict (x.laneRanges o (fun l => a + 4 * l)) []) fun s1 => s1.loadLanes t o (fun l => a + 4 * l)

/-- One line of a `v.st`: whole when its 16 lanes are active, else lane by lane (R165, R286). -/
def State.storeLine (s : State) (t a : Nat) (vals : List (Option Nat)) (marked : Bool) : State :=
  if vals.all Option.isSome then
    s.writeMem (spadAddr t a) (vals.flatMap (fun v => leBytes 4 (v.getD 0))) marked 4
  else
    (vals.zipIdx 0).foldl (fun acc p =>
      match p.1 with
      | some v => acc.writeMem (spadAddr t (a + 4 * p.2)) (leBytes 4 v) marked 4
      | none => acc) s

/-- `v.st`. -/
def execVSt (t : Fin 768) (o : VOp) (s : State) : Host.Outcome State Fault Refusal :=
  let x := s.tile t
  let a := x.addr o
  s.issueSeq t 4 1 o (o.unusedZero false true true false true true) (accessExc a 256 64)
    (x.conflict [] (x.laneRanges o (fun l => a + 4 * l))) fun s1 =>
      let x := s1.tile t
      let lane := fun l => if x.active o l then some (x.lane o.c l) else none
      let s2 := (List.range 4).foldl (fun acc k =>
        acc.storeLine t (a + 64 * k) ((List.range 16).map (fun l => lane (16 * k + l))) (x.vp o.c)) s1
      (s2.tileEvent t 0x04 (x.activeCount o)).retire t

/-- The address of an active lane of `v.gath` and `v.scat` (R178). -/
def Tile.laneAddr (x : Tile) (o : VOp) (l : Nat) : Nat := (x.gr o.b + x.lane o.c l) % 2 ^ 64

/-- `v.gath`. -/
def execVGath (t : Fin 768) (o : VOp) (s : State) : Host.Outcome State Fault Refusal :=
  let x := s.tile t
  let rs := x.laneRanges o (x.laneAddr o)
  s.issueSeq t 4 2 o (o.unusedZero true true true false true false) (laneExcs rs) (x.conflict rs []) fun s1 =>
    s1.loadLanes t o (x.laneAddr o)

/-- `v.scat`: lanes store in ascending order. -/
def execVScat (t : Fin 768) (o : VOp) (s : State) : Host.Outcome State Fault Refusal :=
  let x := s.tile t
  let rs := x.laneRanges o (x.laneAddr o)
  s.issueSeq t 4 3 o (o.unusedZero false true true true true false) (laneExcs rs) (x.conflict [] rs) fun s1 =>
    let s2 := (List.range 64).foldl (fun acc l =>
      if x.active o l then acc.writeMem (spadAddr t (x.laneAddr o l)) (leBytes 4 (x.lane o.d l)) (x.vp o.d) 4 else acc) s1
    (s2.tileEvent t 0x04 (x.activeCount o)).retire t

/-- `v.bcast`. -/
def execVBcast (t : Fin 768) (o : VOp) (s : State) : Host.Outcome State Fault Refusal :=
  s.issueSeq t 4 4 o (o.unusedZero true true false false true false) [] false fun s1 =>
    let x := s1.tile t
    (s1.vectorWrite t o false (fun _ => ⟨x.gr o.b % 2 ^ 32, 0⟩)).retire t

/-- `v.get`. -/
def execVGet (t : Fin 768) (o : VOp) (s : State) : Host.Outcome State Fault Refusal :=
  s.issueSeq t 4 5 o (o.unusedZero true true false false false true && decide (o.fn.toNat ≤ 63)) [] false fun s1 =>
    let x := s1.tile t
    (s1.poisonSeen t (x.vp o.b)).finishG t o.a (x.lane o.b o.fn.toNat)

/-- `v.put`. -/
def execVPut (t : Fin 768) (o : VOp) (s : State) : Host.Outcome State Fault Refusal :=
  s.issueSeq t 4 6 o (o.unusedZero true true false false false true && decide (o.fn.toNat ≤ 63)) [] false fun s1 =>
    let x := s1.tile t
    (s1.setTile t (x.setLane o.a o.fn.toNat (x.gr o.b))).retire t

/-- `v.perm`. -/
def execVPerm (t : Fin 768) (o : VOp) (s : State) : Host.Outcome State Fault Refusal :=
  s.issueSeq t 4 7 o (o.unusedZero true true true false true false) [] false fun s1 =>
    let x := s1.tile t
    (s1.vectorWrite t o (x.vp o.b || x.vp o.c) (fun l => ⟨x.lane o.b (x.lane o.c l % 64), 0⟩)).retire t

/-- `p.mov`. -/
def execPMov (t : Fin 768) (o : VOp) (s : State) : Host.Outcome State Fault Refusal :=
  s.issueSeq t 4 8 o (o.unusedZero true true false false false false && decide (o.a.toNat ≤ 7)) [] false fun s1 =>
    let x := s1.tile t
    (s1.setTile t (x.setP o.a.toNat (x.gr o.b))).retire t

/-- `p.get`. -/
def execPGet (t : Fin 768) (o : VOp) (s : State) : Host.Outcome State Fault Refusal :=
  s.issueSeq t 4 9 o (o.unusedZero true true false false false false && decide (o.b.toNat ≤ 7)) [] false fun s1 =>
    s1.finishG t o.a ((s1.tile t).pr o.b.toNat)

/-- The operations of `p.op`, by IMM. -/
def pOpValue (imm x y : Nat) : Nat :=
  match imm with
  | 0 => Nat.land x y
  | 1 => Nat.lor x y
  | 2 => Nat.xor x y
  | _ => Nat.land x (2 ^ 64 - 1 - y)

/-- `p.op`. -/
def execPOp (t : Fin 768) (o : VOp) (s : State) : Host.Outcome State Fault Refusal :=
  s.issueSeq t 4 0xA o (o.unusedZero true true true false false true && decide (o.a.toNat ≤ 7) && decide (o.b.toNat ≤ 7) &&
      decide (o.c.toNat ≤ 7) && decide (o.fn.toNat ≤ 3)) [] false fun s1 =>
    let x := s1.tile t
    (s1.setTile t (x.setP o.a.toNat (pOpValue o.fn.toNat (x.pr o.b.toNat) (x.pr o.c.toNat)))).retire t

/-- `p.cnt`. -/
def execPCnt (t : Fin 768) (o : VOp) (s : State) : Host.Outcome State Fault Refusal :=
  s.issueSeq t 4 0xB o (o.unusedZero true true false false false false && decide (o.b.toNat ≤ 7)) [] false fun s1 =>
    s1.finishG t o.a (popCount 64 ((s1.tile t).pr o.b.toNat))

end Sys2Proof.Machine
end

