-- ==== Sys2Proof/Machine/MatrixOps.lean ====
section
/-! DEFINITION. What the matrix array and the drain path compute (R180 to R184, R217, R232 to R243, R250 to R259). -/

namespace Sys2Proof.Machine

/-! ### Panels -/

/-- A panel read: the number of each element slice and of each exponent slice (R180). -/
structure Panel where
  fmt : Nat
  slices : List Nat
  exps : List Nat
  deriving DecidableEq, Repr

/-- A panel of `k` element slices and `e` exponent slices at a scratchpad address, as stored. -/
def State.panel (s : State) (t a fmt k e : Nat) : Panel :=
  let n := sliceBytes fmt
  { fmt := fmt
    slices := (List.range k).map (fun i => leNat (s.bytes (spadAddr t (a + i * n)) n))
    exps := (List.range e).map (fun i => leNat (s.bytes (spadAddr t (a + k * n + i * 64)) 64)) }

/-- A value scaled by 2^z. -/
def scaleVal (z : Int) : Val → Val
  | .fin neg m e => .fin neg m (e + z)
  | v => v

/-- The value of element `n` of slice `k`, in the block of logical depth `kl` for the block formats (R217, R253). -/
def Panel.val (p : Panel) (k kl n : Nat) : Val :=
  let w := elemBits p.fmt
  let v := elemVal p.fmt (bits (p.slices.getD k 0) (w * n + w - 1) (w * n))
  if blockFormat p.fmt then
    let e := bits (p.exps.getD (kl / 32) 0) (8 * n + 7) (8 * n)
    if e = 0xFF then .nan else scaleVal ((e : Int) - 127) v
  else v

/-! ### Which products an operation adds -/

/-- The products of one accumulation group of four `k` for row `i` and column `j` (R238, R252, R254, R257): pairs of the logical `k` and
the slice of B that holds the value. -/
def groupTerms (kind : Nat) (record : Nat) (mask : Nat → Bool) (k g j : Nat) : List (Nat × Nat) :=
  match kind with
  | 0 => ((List.range 4).map (fun r => (4 * g + r, 4 * g + r))).filter (fun p => decide (p.1 < k))
  | 1 =>
    [(4 * g + bits record (4 * j + 1) (4 * j), 2 * g), (4 * g + bits record (4 * j + 3) (4 * j + 2), 2 * g + 1)]
  | 2 => [(4 * g + bits record (2 * j + 1) (2 * j), g)]
  | _ => if mask (g / 16) then (List.range 4).map (fun r => (4 * g + r, 4 * g + r)) else []

/-! ### XA mode -/

/-- The bounds of XA96 in units of 2^-56. -/
def xaMax : Int := 2 ^ 95 - 1
def xaMin : Int := -(2 ^ 95)

/-- A product in units of 2^-56 and the flags its handling sets (R233, R234). -/
def xaProduct (a b : Val) : Int × Nat :=
  match mulVal a b with
  | (.nan, _) => (0, flagNV)
  | (.inf neg, _) => (if neg then xaMin else xaMax, flagXR)
  | (.fin neg m e, _) =>
    let u := unitsOf m e (-56)
    let n := roundMag .rne neg u.1 u.2.1 u.2.2
    let z : Int := if neg then -(n : Int) else n
    let c := clampInt z xaMin xaMax
    (c, if u.2.1 != 0 || c != z then flagXR else 0)

/-- A cell as a signed number. -/
def xaCell (c : Nat) : Int := toSigned 96 c

/-- One cell of an operation in XA mode (R235): products summed without loss, the end value saturated. -/
def xaAccumulate (cell : Int) (terms : List (Val × Val)) : Int × Nat :=
  let r := terms.foldl (fun (a : Int × Nat) p => let q := xaProduct p.1 p.2; (a.1 + q.1, Nat.lor a.2 q.2)) (cell, 0)
  let c := clampInt r.1 xaMin xaMax
  (c, if c = r.1 then r.2 else Nat.lor r.2 flagXR)

/-! ### FP mode -/

/-- One group of R238: the exact sum of the cell and the products, rounded once to nearest even. -/
def fpGroup (cell : Nat) (terms : List (Val × Val)) : Nat × Nat :=
  if terms.isEmpty then (cell, 0)
  else
    let ps := terms.map (fun p => mulVal p.1 p.2)
    let sum := sumVals (fp32.decode cell :: ps.map (·.1))
    let r := toFp32 .rne (sum.1, Nat.lor sum.2 (ps.foldl (fun a p => Nat.lor a p.2) 0))
    (r.code, r.flags)

/-- One cell of an operation in FP mode. -/
def fpAccumulate (cell : Nat) (groups : List (List (Val × Val))) : Nat × Nat :=
  groups.foldl (fun (a : Nat × Nat) g => let r := fpGroup a.1 g; (r.1, Nat.lor a.2 r.2)) (cell, 0)

/-! ### `mx.mac` and `mx.macs` on the array -/

/-- The element slices of B that an operation of depth `k` reads (R250). -/
def bSlices (kind k : Nat) : Nat :=
  match kind with
  | 1 => k / 2
  | 2 => k / 4
  | _ => k

/-- The bit of the occupancy mask for block `b` (R257). -/
def State.maskBit (s : State) (t m b : Nat) : Bool := bit (leNat (s.bytes (spadAddr t (m + b / 64 * 8)) 8)) (b % 64)

/-- The scratchpad ranges an operation reads (R165, R257): whole panels, but only the blocks that the mask names. -/
def State.macRanges (s : State) (t a b k fmt kind m : Nat) : List (Nat × Nat) :=
  let n := sliceBytes fmt
  let e := if blockFormat fmt then k / 32 else 0
  match kind with
  | 3 =>
    let on := (List.range (k / 64)).filter (s.maskBit t m)
    (m, metaBytes 3 k) :: on.flatMap (fun q =>
      [(a + 64 * q * n, 64 * n), (b + 64 * q * n, 64 * n)] ++
        (if e = 0 then [] else [(a + k * n + 128 * q, 128), (b + k * n + 128 * q, 128)]))
  | 0 => [(a, k * n + 64 * e), (b, k * n + 64 * e)]
  | _ => [(a, k * n + 64 * e), (b, bSlices kind k * n + 64 * e), (m, metaBytes kind k)]

/-- The lines of ranges checked one range after another: whether any is poisoned. -/
def State.checkAll (s : State) (t : Nat) (rs : List (Nat × Nat)) : State × Bool :=
  rs.foldl (fun a p => let r := a.1.checkLines (spadAddr t p.1 / 64) 4 (linesOf (spadAddr t p.1) p.2); (r.1, a.2 || r.2)) (s, false)

/-- One cell after an operation, and its flags. -/
def macCell (fp : Bool) (pa pb : Panel) (terms : Nat → Nat → List (Nat × Nat)) (groups i j cell : Nat) : Nat × Nat :=
  let gs := (List.range groups).map (fun g => (terms g j).map (fun p => (pa.val p.1 p.1 i, pb.val p.2 p.1 j)))
  if fp then fpAccumulate (cell % 2 ^ 32) gs
  else let r := xaAccumulate (xaCell cell) gs.flatten; (ofSigned 96 r.1, r.2)

/-- The steps an operation takes on the array (R185, R258, R259); `blocks` is the number of mask bits at 1. -/
def macSteps (fmt kind k blocks : Nat) : Nat :=
  let dense := if fpFormat fmt then 4 * k else if elemBits fmt < 8 then (k + 1) / 2 else k
  match kind with
  | 0 => dense
  | 3 => max 1 (if fpFormat fmt then 256 * blocks else if elemBits fmt < 8 then 32 * blocks else 64 * blocks)
  | _ => if fpFormat fmt then 2 * k else if elemBits fmt < 8 then (k + 3) / 4 else k / 2

/-- `mx.mac` (kind 0) or `mx.macs` carried out on the array (R182, R252, R257, R165). -/
def State.runMac (s : State) (t : Nat) (acc : Bool) (a b k fmt : Nat) (clr : Bool) (kind m : Nat) : State :=
  let c := s.checkAll t (s.macRanges t a b k fmt kind m)
  let s1 := c.1
  let x0 := s1.tile t
  let x := if clr then x0.zeroAcc acc else x0
  let fp := fpFormat fmt
  let e := if blockFormat fmt then k / 32 else 0
  let pa := s1.panel t a fmt k e
  let pb := s1.panel t b fmt (bSlices kind k) e
  let recSize := if kind = 1 then 32 else 16
  let record := fun g => if kind = 1 || kind = 2 then leNat (s1.bytes (spadAddr t (m + g * recSize)) recSize) else 0
  let recs := (List.range ((k + 3) / 4)).map record
  let terms := fun g j => groupTerms kind (recs.getD g 0) (s1.maskBit t m) k g j
  let cells := (List.range 4096).map (fun n => macCell fp pa pb terms ((k + 3) / 4) (n / 64) (n % 64) (x.cell acc (n / 64) (n % 64)))
  let y := ((x.setAcc acc (cells.map (·.1))).setMode acc (if fp then .fp else .xa)).setAccPois acc (x.accPois acc || c.2)
  let on := ((List.range (k / 64)).filter (s1.maskBit t m)).length
  let steps := macSteps fmt kind k on
  let left := if kind = 3 then k - 64 * on else k - bSlices kind k
  (((s1.setTile t y).setFlags t (cells.foldl (fun f p => Nat.lor f p.2) 0)).tileEvent t 0x02 steps).tileEvent t 0x03
    (if kind = 0 then 0 else left)

/-! ### Drain -/

/-- The value of a cell in a mode (R232, R237). -/
def cellVal (mode : AccMode) (c : Nat) : Val :=
  match mode with
  | .none => .fin false 0 0
  | .xa => let z := xaCell c; .fin (decide (z < 0)) z.natAbs (-56)
  | .fp => fp32.decode (c % 2 ^ 32)

/-- The magnitude of a value. -/
def absVal : Val → Val
  | .fin _ m e => .fin false m e
  | .inf _ => .inf false
  | .nan => .nan

/-- The shared exponent of a block of values, none of them NaN (R242): the least E that fits, 254 when none does. -/
def blockExp (f : FloatFmt) (vs : List Val) : Nat :=
  let m := vs.foldl (fun a v => if ltVal false a (absVal v) then absVal v else a) (.fin false 0 0)
  let top := fun (e : Nat) => scaleVal ((e : Int) - 127) (f.decode f.maxc)
  ((List.range 255).find? (fun e => !ltVal false (top e) m)).getD 254

/-- A block of 32 values drained to a block format (R242, R243): the element codes, the exponent byte and the flags. -/
def drainBlock (f : FloatFmt) (rm : Nat → Rm) (vs : List Val) : List Nat × Nat × Nat :=
  if vs.contains .nan then (vs.map (fun _ => 0), 0xFF, 0)
  else if vs.all (fun v => v.isZero) then ((vs.zipIdx 0).map (fun p => (f.ofVal (rm p.2) p.1).code), 0, 0)
  else
    let e := blockExp f vs
    let rs := (vs.zipIdx 0).map (fun p => f.ofVal (rm p.2) (scaleVal (127 - (e : Int)) p.1))
    (rs.map (·.code), e, rs.foldl (fun a r => Nat.lor a r.flags) 0)

/-- `n`-bit codes packed as a little-endian bit stream (R180). -/
def packBits (n : Nat) (cs : List Nat) : Nat := cs.foldr (fun c a => c % 2 ^ n + a * 2 ^ n) 0

/-- The bytes of a drain of 4,096 cells and its flags (R183, R241 to R243). -/
def drainResult (fmt : Nat) (mode : AccMode) (rm : Nat → Rm) (cells : List Nat) : List Byte × Nat :=
  if fmt = 0xF then (cells.flatMap (leBytes 12), 0)
  else
    let vs := cells.map (cellVal mode)
    if blockFormat fmt then
      match floatOf fmt with
      | none => ([], 0)
      | some f =>
        let blocks := (List.range 128).map (fun b => drainBlock f (fun n => rm (32 * b + n)) (slice vs (32 * b) 32))
        let w := elemBits fmt
        let body := (List.range 64).flatMap (fun i =>
          leBytes (8 * w) (packBits w ((blocks.getD (2 * i) ([], 0, 0)).1 ++ (blocks.getD (2 * i + 1) ([], 0, 0)).1)))
        (body ++ blocks.map (fun b => BitVec.ofNat 8 b.2.1), blocks.foldl (fun a b => Nat.lor a b.2.2) 0)
    else
      let rs := (vs.zipIdx 0).map (fun p => convert fmt (rm p.2) p.1)
      (rs.flatMap (fun r => leBytes (elemBits fmt / 8) r.code), rs.foldl (fun a r => Nat.lor a r.flags) 0)

/-- All cells of an accumulator as numbers; a mode of NONE has zero cells. -/
def Tile.cells (x : Tile) (acc : Bool) : List Nat :=
  (List.range 4096).map (fun n => if x.mode acc = .none then 0 else x.cell acc (n / 64) (n % 64))

/-- `mx.drain` carried out (R183, R184, R165). -/
def State.runDrain (s : State) (t : Nat) (acc : Bool) (dst fmt : Nat) (stoch clr : Bool) (g : Nat) : State :=
  let x := s.tile t
  let r := drainResult fmt (x.mode acc) (fun n => if stoch then .sr (genValue g n) else .rne) (x.cells acc)
  let s1 := s.writeMem (spadAddr t dst) r.1 (x.accPois acc) 4
  let y := s1.tile t
  (s1.setTile t (if clr then y.zeroAcc acc else y)).setFlags t r.2

/-- `mx.load` carried out (R184, R237). -/
def State.runLoad (s : State) (t : Nat) (acc : Bool) (src : Nat) (fp : Bool) : State :=
  let r := s.checkLines (spadAddr t src / 64) 4 (linesOf (spadAddr t src) 49152)
  let cells := (List.range 4096).map (fun n =>
    let c := leNat (r.1.bytes (spadAddr t (src + 12 * n)) 12); if fp then c % 2 ^ 32 else c)
  let x := r.1.tile t
  r.1.setTile t (((x.setAcc acc cells).setMode acc (if fp then .fp else .xa)).setAccPois acc r.2)

/-- One operation carried out. -/
def State.runMx (s : State) (t : Nat) : MxOp → State
  | .mac acc a b k f clr => s.runMac t acc a b k f.toNat clr 0 0
  | .macs acc a b k f clr kind m => s.runMac t acc a b k f.toNat clr kind.toNat m
  | .drain acc dst f stoch clr g => s.runDrain t acc dst f.toNat stoch clr g.toNat
  | .load acc src fp => s.runLoad t acc src fp
  | .zero acc => s.setTile t ((s.tile t).zeroAcc acc)

/-- The mode an accumulator has once the queued operations have run, for the check at issue (R160, R182). -/
def Tile.modeAfter (x : Tile) (acc : Bool) : AccMode :=
  x.mxq.foldl (fun m o =>
    if o.acc != acc then m
    else match o with
      | .mac _ _ _ _ f _ => if fpFormat f.toNat then .fp else .xa
      | .macs _ _ _ _ f .. => if fpFormat f.toNat then .fp else .xa
      | .drain _ _ _ _ clr _ => if clr then .none else m
      | .load _ _ fp => if fp then .fp else .xa
      | .zero _ => .none) (x.mode acc)

end Sys2Proof.Machine
end

