-- ==== Sys2Proof/Machine/Matrix.lean ====
section
/-! DEFINITION. The matrix instructions of Viroth, class 0x5, and the completion of a matrix operation (R181 to R190, R250 to R259). -/

namespace Sys2Proof.Machine

/-- The accumulator a register field names; only 0 and 1 are legal (R181). -/
def accLegal (f : BitVec 5) : Bool := decide (f.toNat ≤ 1)
def accOf (f : BitVec 5) : Bool := f == 1

/-- The queue has no room (R186). -/
def Tile.mxFull (x : Tile) : Bool := decide (4 ≤ x.mxq.length)

/-- An operation queued, and the instruction done. -/
def State.queueMx (s : State) (t : Nat) (op : MxOp) : State :=
  let x := s.tile t
  (s.setTile t { x with mxq := x.mxq ++ [op] }).retire t

/-- The checks of `mx.mac` and `mx.macs` on depth, ranges and mode (R182, R250, R255, R257), none of them when K is 0. -/
def macExc (x : Tile) (acc : Bool) (a b k fmt kind m : Nat) (clr : Bool) (word : Nat) : List (Bool × Cause × Nat) :=
  if k = 0 then []
  else
    let len := panelBytes fmt k
    let fam : AccMode := if fpFormat fmt then .fp else .xa
    let mode := x.modeAfter acc
    let al := if kind = 1 then 32 else if kind = 2 then 16 else 8
    [ (blockFormat fmt && k % 32 != 0, .illegal, word),
      ((kind == 1 || kind == 2) && k % 4 != 0, .illegal, word),
      (kind == 3 && k % 64 != 0, .illegal, word),
      (kind != 0 && m % al != 0, .misalign, m),
      (decide (0x80000 < a + len), .range, a),
      (decide (0x80000 < b + len), .range, b),
      (kind != 0 && decide (0x80000 < m + metaBytes kind k), .range, m),
      (!clr && mode != .none && mode != fam, .mode, 0) ]

/-- `mx.mac`. -/
def execMxMac (t : Fin 768) (o : VOp) (s : State) : Host.Outcome State Fault Refusal :=
  let x := s.tile t
  let fmt := o.fnBits 31 28
  let clr := o.fnBits 27 27 == 1
  let a := x.gr o.b
  let b := x.gr o.c
  let k := x.gr o.d
  s.issueSeq t 5 0 o (o.unusedZero true true true true false true && accLegal o.a && panelFormat fmt && o.fnBits 26 0 == 0)
    (macExc x (accOf o.a) a b k fmt 0 0 clr (vWord 5 0 o))
    (k != 0 && (x.mxFull || x.conflict [(a, panelBytes fmt k), (b, panelBytes fmt k)] [])) fun s1 =>
      if k = 0 then s1.retire t
      else s1.queueMx t (.mac (accOf o.a) a b k (BitVec.ofNat 4 fmt) clr)

/-- `mx.macs`. -/
def execMxMacs (t : Fin 768) (o : VOp) (s : State) : Host.Outcome State Fault Refusal :=
  let x := s.tile t
  let fmt := o.fnBits 31 28
  let clr := o.fnBits 27 27 == 1
  let kind := o.fnBits 26 25
  let m := x.gr (BitVec.ofNat 5 (o.fnBits 24 20))
  let a := x.gr o.b
  let b := x.gr o.c
  let k := x.gr o.d
  s.issueSeq t 5 1 o (o.unusedZero true true true true false true && accLegal o.a && panelFormat fmt && kind != 0 &&
      o.fnBits 19 0 == 0)
    (macExc x (accOf o.a) a b k fmt kind m clr (vWord 5 1 o))
    (k != 0 && (x.mxFull || x.conflict [(a, panelBytes fmt k), (b, panelBytes fmt k), (m, metaBytes kind k)] [])) fun s1 =>
      if k = 0 then s1.retire t
      else s1.queueMx t (.macs (accOf o.a) a b k (BitVec.ofNat 4 fmt) clr (BitVec.ofNat 2 kind) m)

/-- `mx.drain`: a stochastic drain takes its 1,024 words at issue (R225). -/
def execMxDrain (t : Fin 768) (o : VOp) (s : State) : Host.Outcome State Fault Refusal :=
  let x := s.tile t
  let fmt := o.fnBits 31 28
  let rm := o.fnBits 27 26
  let dst := x.gr o.a
  let n := drainBytes fmt
  s.issueSeq t 5 2 o (o.unusedZero true true false false false true && accLegal o.b && drainFormat fmt && decide (rm ≤ 1) &&
      o.fnBits 24 0 == 0)
    [(decide (0x80000 < dst + n), .range, dst)] (x.mxFull || x.conflict [] [(dst, n)]) fun s1 =>
      let y := s1.tile t
      let draws := rm == 1 && fmt != 0xF
      let s2 := s1.setTile t { y with gen := if draws then BitVec.ofNat 64 (genSkip y.gen.toNat 1024) else y.gen }
      s2.queueMx t (.drain (accOf o.b) dst (BitVec.ofNat 4 fmt) draws (o.fnBits 25 25 == 1) y.gen)

/-- `mx.load`. -/
def execMxLoad (t : Fin 768) (o : VOp) (s : State) : Host.Outcome State Fault Refusal :=
  let x := s.tile t
  let src := x.gr o.b
  s.issueSeq t 5 3 o (o.unusedZero true true false false false true && accLegal o.a && o.fnBits 31 25 == 0 && o.fnBits 23 0 == 0)
    [(decide (0x80000 < src + 49152), .range, src)] (x.mxFull || x.conflict [(src, 49152)] []) fun s1 =>
      s1.queueMx t (.load (accOf o.a) src (o.fnBits 24 24 == 1))

/-- `mx.zero`. -/
def execMxZero (t : Fin 768) (o : VOp) (s : State) : Host.Outcome State Fault Refusal :=
  s.issueSeq t 5 4 o (o.unusedZero true false false false false false && accLegal o.a) [] (s.tile t).mxFull fun s1 =>
    s1.queueMx t (.zero (accOf o.a))

/-- `mx.wait` (R190). -/
def execMxWait (t : Fin 768) (o : VOp) (s : State) : Host.Outcome State Fault Refusal :=
  s.issueSeq t 5 5 o (o.unusedZero true false false false false false && accLegal o.a) [] false fun s1 =>
    (s1.block t (.matrix (accOf o.a))).release t

/-- A matrix operation completes on the array or on the drain path (R182 to R187, R228); nothing when that engine does not work. -/
def execMxOpComplete (t : Fin 768) (drainPath : Bool) (s : State) : Host.Outcome State Fault Refusal :=
  let x := s.tile t
  match runningAt (!drainPath) x.mxq with
  | none => .next s
  | some n =>
    match x.mxq[n]? with
    | none => .next s
    | some op =>
      let s1 := s.runMx t op
      let y := s1.tile t
      .next (s1.setTile t { y with mxq := y.mxq.eraseIdx n })

end Sys2Proof.Machine
end

