-- ==== Sys2Proof/Machine/Movement.lean ====
section
/-! DEFINITION. The movement instructions of Viroth, class 0x6, and the completion of a movement (R191 to R194, R165, R199). -/

namespace Sys2Proof.Machine

/-- A `mv.get` or `mv.put` issued (R192): the tag is busy until the copy ends. -/
def State.issueMove (s : State) (t : Fin 768) (opc : Nat) (put : Bool) (o : VOp) : Host.Outcome State Fault Refusal :=
  let x := s.tile t
  let k := o.fn.toNat % 16
  let a := x.gr o.b
  let n := x.gr o.d
  s.issueSeq t 6 opc o (o.unusedZero false true true true false true && o.fnBits 31 4 == 0) []
    (x.tag k != .free || (if put then x.conflict [(a, n)] [] else x.conflict [] [(a, n)])) fun s1 =>
      let y := s1.tile t
      (s1.setTile t (y.setTag k (.busy ⟨put, a, y.gr o.c, n⟩))).retire t

/-- `mv.get`. -/
def execMvGet (t : Fin 768) (o : VOp) (s : State) : Host.Outcome State Fault Refusal := s.issueMove t 0 false o

/-- `mv.put`. -/
def execMvPut (t : Fin 768) (o : VOp) (s : State) : Host.Outcome State Fault Refusal := s.issueMove t 1 true o

/-- `mv.wait`. -/
def execMvWait (t : Fin 768) (o : VOp) (s : State) : Host.Outcome State Fault Refusal :=
  s.issueSeq t 6 2 o (o.unusedZero true false false false false true && o.fnBits 31 4 == 0) [] false fun s1 =>
    (s1.block t (.move o.a (BitVec.ofNat 4 o.fn.toNat))).release t

/-- `mv.poll`. -/
def execMvPoll (t : Fin 768) (o : VOp) (s : State) : Host.Outcome State Fault Refusal :=
  s.issueSeq t 6 3 o (o.unusedZero true false false false false true && o.fnBits 31 4 == 0) [] false fun s1 =>
    let x := s1.tile t
    let k := o.fn.toNat % 16
    match x.tag k with
    | .busy _ => s1.finishG t o.a Status.busy.code
    | .free => s1.finishG t o.a Status.ok.code
    | .done st => (s1.setTile t (x.setTag k .free)).finishG t o.a st.code

/-- A remote range that lies in memory, one depot or one tile's scratchpad (R193). -/
def remoteFits (a n : Nat) : Bool :=
  match placeOf a with
  | .dram => inMem a n
  | .depot _ o => decide (o + n ≤ 0x400000)
  | .spad _ o => decide (o + n ≤ 0x80000)
  | _ => false

/-- The status that a movement of one byte or more ends with, but for POISON (R193, R21). -/
def State.moveStatus (s : State) (m : Movement) (timeout : Bool) : Status :=
  firstStatus [ (s.placeFenced (placeOf m.remote), .fenced),
                (!remoteFits m.remote m.len || decide (0x80000 < m.spad + m.len), .bounds),
                (timeout, .timeout) ]

/-- A movement's copy (R165, R193, R286, R289): what it leaves and whether its data is marked POISON. -/
def State.copyMove (s : State) (t : Nat) (m : Movement) : State × Bool :=
  if m.put then
    let r := s.readMem (spadAddr t m.spad) m.len 1
    (r.1.writeMem m.remote r.2.1 r.2.2 1, r.2.2 || r.1.touchesFailed m.remote (linesOf m.remote m.len))
  else
    let r := s.readMem m.remote m.len 1
    (r.1.writeMem (spadAddr t m.spad) r.2.1 r.2.2 1, r.2.2)

/-- A movement ends (R193, R200): its tag takes the status, MV is set, and a retire that waited for it goes on (R199). What returns to a
fenced tile is discarded (R582). -/
def execMvComplete (t : Fin 768) (tag : BitVec 4) (timeout : Bool) (s : State) : Host.Outcome State Fault Refusal :=
  match (s.tile t).tag tag.toNat with
  | .busy m =>
    if s.tileFence t && !m.put then .next (s.setTile t ((s.tile t).setTag tag.toNat .free)) else
    let st := if m.len = 0 then .ok else s.moveStatus m timeout
    let r := if st = .ok ∧ m.len ≠ 0 then s.copyMove t m else (s, false)
    let done := if r.2 then .poison else st
    let s1 := r.1.setTile t ((r.1.tile t).setTag tag.toNat (.done done))
    let s2 := s1.latch t 3
    let x := s2.tile t
    let waits := match s2.slotOfTile t with
      | some i => (s2.slot i).waiting.any (fun c => c.sink == some t.val)
      | none => false
    .next (if x.retiring && !x.moving && !waits then s2.doRetire t else s2)
  | _ => .next s

end Sys2Proof.Machine
end

