-- ==== Sys2Proof/Machine/Musters.lean ====
section
/-! DEFINITION. The commands of muster support (R454 to R492). -/

namespace Sys2Proof.Machine

/-! ### Enabling a slot (R455, R456, R492) -/

/-- Why a slot is not enabled (R455), the role apart. -/
def State.mgStatus (s : State) (i : Nat) : Status :=
  let a := s.mgLine i
  let mask := s.f F.MG_MASK_VALUE i
  firstStatus
    [(a % 64 != 0 || !inStore a 128, .bounds), (!closedSlice (s.f F.FRT_STAT_TOPO) mask s.own, .bounds),
     (!sameSlice mask (s.f F.MG_LEADER_VALUE i) s.own, .bounds),
     ((List.range 64).any (fun j => j != i && s.fb F.MG_CTL_EN j && s.rr .MG_GROUP j == s.rr .MG_GROUP i), .mismatch),
     (mask != 0 && !s.fb F.FPT_COORD_SET, .unreachable)]

/-- A slot enabled. -/
def State.mgStart (s : State) (i : Nat) : State :=
  let s1 := (((s.wr .MG_SEQ i 0).sf F.MG_STAT_PHASE i 0).sf F.MG_STAT_BROKEN i 0).setMg i {}
  s1.wr .MG_TREE i (s1.treeWord i)

/-- An open instance of a slot that is disabled: ended here with MUSTER_ABORT, and an abort request to the leader (R456, R477). -/
def State.mgStop (s : State) (i : Nat) : State :=
  if !s.mgOpen i then s
  else
    let s1 := s.askAbort i Status.musterAbort.code
    if s1.mgOpen i then s1.endMuster i Status.musterAbort.code s1.own else s1

/-- MG_CTL written: fields other than EN while EN is 1 are refused with BUSY; EN acts by R455 and R456. -/
def State.mgCtlWrite (s : State) (rq : Requester) (i v : Nat) : State :=
  let on := s.fb F.MG_CTL_EN i
  let core := bits v 23 16
  let grace := bits v 15 8
  let legal := (decide (core < 32) || core == 0xFF) && grace != 0
  let busy := on && (core != s.f F.MG_CTL_IRQ_CORE i || grace != s.f F.MG_CTL_GRACE i)
  let s1 := s.writeUnlessBusy rq legal busy .MG_CTL i v
  let now := s1.fb F.MG_CTL_EN i
  if !on && now then
    match s1.mgStatus i with
    | .ok => s1.mgStart i
    | st => (s.err .mst st).answer st 0
  else if on && !now then (s1.mgStop i).settleMst
  else s1

/-- MG_CTL written with EN 1, PEND 0 and the other fields as they stand. -/
def execMgEnable (rq : Requester) (g : Fin 64) (s : State) : Host.Outcome State Fault Refusal :=
  let v := putBits (putBits (s.rr .MG_CTL g) 30 30 0) 31 31 1
  .next (s.regWrite rq .MG_CTL g v fun a => a.mgCtlWrite rq g v)

/-- MG_CTL written with EN 0, PEND 0 and the other fields as they stand. -/
def execMgDisable (rq : Requester) (g : Fin 64) (s : State) : Host.Outcome State Fault Refusal :=
  let v := putBits (putBits (s.rr .MG_CTL g) 30 30 0) 31 31 0
  .next (s.regWrite rq .MG_CTL g v fun a => a.mgCtlWrite rq g v)

/-! ### Words of line 0 (R460) -/

/-- Bytes written into line 0, if any, and the read that follows any write to the line. -/
def State.lineWrite (s : State) (i off : Nat) (bs : Option (List Byte)) : State :=
  let a := s.mgLine i
  if s.placeFenced (placeOf a) then s
  else
    let s1 := match bs with
      | some l => s.writeMem (a + off) (l.take (64 - off)) false 4
      | none => s
    ((s1.readLine0 i).mgSettle i).settleMst

/-- Line 0 written with an ENTER (R463, R464). -/
def execMusterEnter (g : Fin 64) (line : Option (List Byte)) (s : State) : Host.Outcome State Fault Refusal :=
  .next (s.lineWrite g 0 line)

/-- READY written. -/
def execMusterReadyWord (g : Fin 64) (word : Option (BitVec 32)) (s : State) : Host.Outcome State Fault Refusal :=
  .next (s.lineWrite g 4 (word.map (fun w => leBytes 4 w.toNat)))

/-- DONE written. -/
def execMusterDoneWord (g : Fin 64) (word : Option (BitVec 32)) (s : State) : Host.Outcome State Fault Refusal :=
  .next (s.lineWrite g 8 (word.map (fun w => leBytes 4 w.toNat)))

/-- ABORT written. -/
def execMusterAbortWord (g : Fin 64) (word : Option (BitVec 32)) (s : State) : Host.Outcome State Fault Refusal :=
  .next (s.lineWrite g 12 (word.map (fun w => leBytes 4 w.toNat)))

/-! ### Control frames (R466 to R471) -/

/-- ARRIVE from a child (R468, R469). -/
def execMusterArrive (m : MusterMsg) (s : State) : Host.Outcome State Fault Refusal := .next (s.musterMsg 1 m).settleMst

/-- GO from the leader. -/
def execMusterGo (m : MusterMsg) (s : State) : Host.Outcome State Fault Refusal := .next (s.musterMsg 2 m).settleMst

/-- READY from a child. -/
def execMusterReady (m : MusterMsg) (s : State) : Host.Outcome State Fault Refusal := .next (s.musterMsg 3 m).settleMst

/-- GO2 from the leader. -/
def execMusterGo2 (m : MusterMsg) (s : State) : Host.Outcome State Fault Refusal := .next (s.musterMsg 4 m).settleMst

/-- DONE from a child. -/
def execMusterDone (m : MusterMsg) (s : State) : Host.Outcome State Fault Refusal := .next (s.musterMsg 5 m).settleMst

/-- DECIDE from the leader (R467, R479). -/
def execMusterDecide (m : MusterMsg) (s : State) : Host.Outcome State Fault Refusal := .next (s.musterMsg 6 m).settleMst

/-- ABORT_REQ at the leader (R477, R478). -/
def execMusterAbortReq (m : MusterMsg) (s : State) : Host.Outcome State Fault Refusal := .next (s.musterMsg 7 m).settleMst

/-- QUERY at the leader (R475). -/
def execMusterQuery (m : MusterMsg) (s : State) : Host.Outcome State Fault Refusal := .next (s.musterMsg 8 m).settleMst

/-! ### Time (R467, R474, R475) -/

/-- The leader's deadline passes without DECIDE OK: its own entry's, or the first ARRIVE's before it has entered. -/
def execLeaderDeadline (g : Fin 64) (s : State) : Host.Outcome State Fault Refusal :=
  let i := g.val
  if s.fb F.MG_CTL_EN i && s.leads i && (s.mgOpen i || (s.mg i).arrDeadline.isSome) then
    .next (((s.decideMuster i Status.timeout.code s.own).mgSettle i).settleMst)
  else .next s

/-- DEADLINE + GRACE / 2 without a decision: one QUERY. -/
def execMusterQueryTimer (g : Fin 64) (s : State) : Host.Outcome State Fault Refusal :=
  let i := g.val
  let x := s.mg i
  if s.fb F.MG_CTL_EN i && s.mgOpen i && !s.leads i && !x.queried then
    .next (((s.setMg i { x with queried := true }).sendMuster i 8 (s.ownMsg i (s.iseq i) 0 0) (some (s.f F.MG_LEADER_VALUE i))).settleMst)
  else .next s

/-- DEADLINE + GRACE without DECIDE: UNREACHABLE, and the slot is BROKEN. -/
def execMusterGraceExpiry (g : Fin 64) (s : State) : Host.Outcome State Fault Refusal :=
  let i := g.val
  if s.fb F.MG_CTL_EN i && s.mgOpen i then
    .next ((((s.sf F.MG_STAT_BROKEN i 1).endMuster i Status.unreachable.code s.own).mgSettle i).settleMst)
  else .next s

/-- A router notice for a muster frame (R466, R472, R476, R477). -/
def execMusterNotice (n : MusterNotice) (s : State) : Host.Outcome State Fault Refusal := .next (s.musterNotice n).settleMst

end Sys2Proof.Machine
end

