-- ==== Sys2Proof/Machine/Power.lean ====
section
/-! DEFINITION. The supply and the discrete pins: shutdowns, PWR_GOOD, PKG_RESET_N and the 54 V input (R364, R377, R696 to R703, R713). -/

namespace Sys2Proof.Machine

/-- A governor orders a shutdown on its own channel (R364): OST obeys the active one, and before READY the sequencer acts (R558); a standby
enters SHUTDOWN alone. -/
def State.supplyShutdown (s : State) (gb : Bool) (cause : Nat) : State :=
  if s.activeB = gb ∨ !s.fb F.IDT_BOOT_READY then s.orderedShutdown cause else s.setMode gb 4

/-- The input below 38 V for 5 ms. -/
def execSupplyLowShutdown (gb : Bool) (s : State) : Host.Outcome State Fault Refusal := .next (s.supplyShutdown gb 0)

/-- The input above 61 V for 1 ms. -/
def execSupplyHighShutdown (gb : Bool) (s : State) : Host.Outcome State Fault Refusal := .next (s.supplyShutdown gb 1)

/-- ORPHAN for 10 ms (R377). -/
def execOrphanTimeout (s : State) : Host.Outcome State Fault Refusal :=
  .next (if s.fb F.OST_STAT_ORPHAN then s.orderedShutdown 2 else s)

/-- A start begins when the input is there, both pins call for it and no trip stands (R555, R557, R701, R703). -/
def State.mayStart (s : State) : Bool := s.boot.powered && s.boot.pwrGood && s.boot.resetReleased && !s.thm.tripped

/-- PWR_GOOD asserted for 10 µs (R701). -/
def execPwrGoodAssert (s : State) : Host.Outcome State Fault Refusal :=
  if s.boot.pwrGood then .next s
  else
    let s1 := { s with boot := { s.boot with pwrGood := true } }
    .next (if s1.mayStart then s1.beginStart false else s1)

/-- PWR_GOOD deasserted for 10 µs (R555, R701): an ordered shutdown, THERM_TRIP_N released, a start in progress over (R568). -/
def execPwrGoodDeassert (s : State) : Host.Outcome State Fault Refusal :=
  let s1 := { s with boot := { s.boot with pwrGood := false } }
  let s2 := s1.orderedShutdown 4
  let s3 := if s2.boot.vaux then s2.railsOff.vauxOff else s2
  .next { s3 with thm := { s3.thm with tripped := false }, rst := { s3.rst with pkgReset := none } }

/-- PKG_RESET_N asserted for 10 µs (R602, R701, R703): a shutdown without the ramp; a trip stands. -/
def execPkgResetAssert (s : State) : Host.Outcome State Fault Refusal :=
  let s1 := { s with boot := { s.boot with resetReleased := false } }
  .next (s1.orderedShutdown 5)

/-- PKG_RESET_N released for 10 µs (R701). -/
def execPkgResetRelease (s : State) : Host.Outcome State Fault Refusal :=
  if s.boot.resetReleased then .next s
  else
    let s1 := { s with boot := { s.boot with resetReleased := true } }
    .next (if s1.mayStart then s1.beginStart false else s1)

/-- The input rises through 30 V (R696). -/
def execInputPowerRise (s : State) : Host.Outcome State Fault Refusal :=
  if s.boot.powered then .next s else .next { s with boot := { s.boot with powered := true, inrush := true } }

/-- A channel's energy gap (R312): the restored value is the last save, GAP is set, MTR_GAP_T holds the PTIME of that save. -/
def State.energyGap (s : State) (mb : Bool) : State :=
  let m := s.meter mb
  ((s.setPair .MTR_ELIFE_LO .MTR_ELIFE_HI (chIx mb) m.savedElife.toNat).setPair .MTR_GAP_T_LO .MTR_GAP_T_HI (chIx mb)
    m.savedAt.toNat).sf F.MTR_STAT_GAP (chIx mb) 1

/-- An abrupt loss of power or of the lands (R312, R684, R713): nothing is saved, both outputs are released (R699). -/
def execInputPowerLoss (s : State) : Host.Outcome State Fault Refusal :=
  let s1 := if s.boot.vaux then (s.energyGap false).energyGap true else s
  let s2 := (s1.railsOff.vauxOff.sf F.FCL_FAULTN_PULSE 0 0).sf F.FCL_FAULTN_PIN 0 0
  .next { s2 with
    thm := { s2.thm with tripped := false }
    rst := { s2.rst with pkgReset := none }
    boot := { s2.boot with powered := false, inrush := false } }

end Sys2Proof.Machine
end

