-- ==== Sys2Proof/Machine/Routing.lean ====
section
/-! DEFINITION. The commands of the fabric router (R420 to R453). -/

namespace Sys2Proof.Machine

/-! ### Registers with a rule of their own -/

/-- SQ_CTL written (R453). -/
def State.sqCtlWrite (s : State) (rq : Requester) (q v : Nat) : State :=
  let ord := bits v 11 8
  let on := s.fb F.SQ_CTL_EN q
  let s1 := s.writeUnlessBusy rq (decide (4 ≤ ord) && decide (ord ≤ 12)) (on && ord != s.f F.SQ_CTL_ORDER q) .SQ_CTL q v
  if !on && s1.fb F.SQ_CTL_EN q then
    let s2 := (s1.wr .SQ_CONS q 0).wr .SQ_DONE q 0
    { s2 with frt := { s2.frt with prods := SMap.set (fun _ => 0) s2.frt.prods q 0 } }
  else s1

/-- SQ_SLICE written (R440, R453). -/
def State.sqSliceWrite (s : State) (rq : Requester) (q v : Nat) : State :=
  s.writeUnlessBusy rq (closedSlice (s.f F.FRT_STAT_TOPO) (v % 2 ^ 18) s.own) (s.fb F.SQ_CTL_EN q) .SQ_SLICE q v

/-- RQ_CTL written. -/
def State.rqCtlWrite (s : State) (rq : Requester) (q v : Nat) : State :=
  let ord := bits v 11 8
  let core := bits v 23 16
  let on := s.fb F.RQ_CTL_EN q
  let s1 := s.writeWord rq false
    (decide (4 ≤ ord) && (decide (core < 32) || core == 0xFF) && bits v 1 0 != 3) .RQ_CTL q v
  if !on && s1.fb F.RQ_CTL_EN q then s1.wr .RQ_COUNT q 0 else s1

/-! ### Send queues -/

/-- The producer index that queue `q` holds. -/
def State.prod (s : State) (q : Nat) : Nat := SMap.get (fun _ => 0) s.frt.prods q

/-- A write to the line of a producer word: the router reads the word and takes its index, or ignores it (R427). -/
def execSqProducerWrite (q : Fin 64) (value : Option (BitVec 32)) (s : State) : Host.Outcome State Fault Refusal :=
  let a := s.pair .SQ_PRODA_LO .SQ_PRODA_HI q
  if s.placeFenced (placeOf a) then .next s
  else
    let s1 := match value with
      | some v => s.writeMem a (leBytes 4 v.toNat) false 4
      | none => s
    if !s1.fb F.SQ_CTL_EN q then .next s1
    else
      let r := s1.readMem a 4 4
      let p := leNat r.2.1
      let d := (p + 2 ^ 32 - s1.rr .SQ_CONS q) % 2 ^ 32
      if 2 ^ s1.f F.SQ_CTL_ORDER q < d then .next (r.1.err .frt .bounds)
      else .next { r.1 with frt := { r.1.frt with prods := SMap.set (fun _ => 0) r.1.frt.prods q p } }

/-- Why a descriptor is refused (R424). -/
def State.descStatus (s : State) (q : Nat) (d : List Byte) : Status :=
  let dst := leAt d 0 4
  let mask := leAt d 4 4
  let len := leAt d 10 2
  let pay := leAt d 24 8
  let m := s.f F.SQ_SLICE_MASK q
  firstStatus
    [(decide (s.f F.SQ_CTL_CLASSMAX q < leAt d 8 1), .denied),
     (len != 0 && s.placeFenced (placeOf pay), .fenced),
     (decide (3 < leAt d 8 1) || decide (63 < leAt d 9 1) || decide (4096 < len) || decide (2 ^ 18 ≤ dst) ||
        (slice d 33 15).any (· != 0#8) || (len != 0 && !inStore pay len), .bounds),
     (!sameSlice m dst s.own || decide (2 ^ 18 ≤ mask) || Nat.land mask m != mask ||
        !closedSlice (s.f F.FRT_STAT_TOPO) mask dst, .bounds)]

/-- The class that the policer leaves a frame from a send queue, and what it makes of the frame (R436). -/
def State.police (s : State) (f : Frame) : State × Frame :=
  if f.cls ≠ 0 then (s, f)
  else if 256 < f.len + 64 then (s.bump .FRT_C0OVERSIZE, { f with cls := 1 }.set 2)
  else if s.frt.tokens < (f.len + 64 : Nat) then (s.bump .FRT_C0DEMOTE, { f with cls := 1 }.set 2)
  else ({ s with frt := { s.frt with tokens := s.frt.tokens - (f.len + 64 : Nat) } }, f)

/-- The frame of an accepted descriptor sent. -/
def State.sendDesc (s : State) (q : Nat) (d : List Byte) (rnd : Nat) (escape : Bool) : State :=
  let len := leAt d 10 2
  let r := s.readMem (leAt d 24 8) len 4
  let f : Frame :=
    { cls := leAt d 8 1, dst := leAt d 0 4, mask := leAt d 4 4, slice := s.f F.SQ_SLICE_MASK q, sq := q, rq := leAt d 9 1
      len := len, seq := leAt d 12 4, tag := leAt d 16 8, payload := r.2.1 }
  let p := r.1.police (if r.2.2 then f.set 3 else f)
  p.1.inject p.2 rnd escape

/-- The next descriptor of a queue (R425): its frame sent or the descriptor refused, STATUS written, then the done count. None is taken in
the safe state (R613), nor from a ring behind a fence. -/
def execSqDescriptor (q : Fin 64) (rnd : BitVec 18) (escape : Bool) (s : State) : Host.Outcome State Fault Refusal :=
  let n := s.rr .SQ_CONS q
  let a := s.pair .SQ_RING_LO .SQ_RING_HI q + n % 2 ^ s.f F.SQ_CTL_ORDER q * 48
  if !s.fb F.SQ_CTL_EN q || s.prod q == n || s.safe? || s.placeFenced (placeOf a) then .next s
  else
    let r := s.readMem a 48 4
    let d := r.2.1
    let s1 := r.1.wr .SQ_CONS q (n + 1)
    let st := s1.descStatus q d
    let s2 := match st with
      | .ok => s1.sendDesc q d rnd.toNat escape
      | _ => s1.bump .SQ_REFUSED q
    let s3 := s2.writeMem (a + 32) [BitVec.ofNat 8 st.code] false 4
    let n' := (s3.rr .SQ_DONE q + 1) % 2 ^ 32
    .next ((s3.wr .SQ_DONE q n').routerWrite (s.pair .SQ_DONEA_LO .SQ_DONEA_HI q) (leBytes 4 n')).settleMst

/-! ### Frames from a port -/

/-- A frame comes in on a port that is UP (R389, R390, R420, R442), and is delivered, replicated or sent on. -/
def execFrameRx (port : Fin 20) (frame : List Byte) (escape : Bool) (s : State) : Host.Outcome State Fault Refusal :=
  if s.f F.FPT_STAT_STATE port ≠ 5 then .next s
  else
    let x := s.port port
    let s1 := ((s.setPort port { x with rxSeq := x.rxSeq + 1, asking := false }).blockEvent 0x11 port 1).bwBytes (2 * port + 1)
      frame.length
    if !frameOk frame then .next ((s1.bump .FRT_HCRC).raise 18 0 .check)
    else
      let f := frameOf frame
      if !sameSlice f.slice f.src s1.own then .next (s1.bump .FRT_SLICEVIOL)
      else .next (s1.route f 1 escape).settleMst

/-! ### Congestion (R448, R449) -/

/-- The congestion report. -/
def State.cmapReport (s : State) : List Byte :=
  beBytes 8 s.now ++ beBytes 4 s.own ++
    beBytes 4 ((List.range 20).foldl (fun a p => if s.f F.FPT_STAT_STATE p = 5 then a + 2 ^ p else a) 0) ++
    (List.range 20).map (fun p => BitVec.ofNat 8 (s.cmapByte p)) ++ List.replicate 28 0#8

/-- A congestion period ends with an average level for each port and class, coded as R449 has them. -/
def execCmapPeriod (levels : List (BitVec 8)) (s : State) : Host.Outcome State Fault Refusal :=
  let byte (p : Nat) : Nat := if s.f F.FPT_STAT_STATE p = 5 then (levels.getD p 0).toNat else 0xFF
  let s1 := (List.range 5).foldl (fun a w =>
    a.wr .FRT_CMAP w (byte (4 * w) + byte (4 * w + 1) * 2 ^ 8 + byte (4 * w + 2) * 2 ^ 16 + byte (4 * w + 3) * 2 ^ 24)) s
  if s1.fb F.FRT_CMAP_CTL_EN then
    let f : Frame :=
      { cls := 2, dst := s1.f F.FRT_CMAP_DST_COORD, slice := 0x3FFFF, sq := 0xFF, rq := s1.f F.FRT_CMAP_CTL_RQ, len := 64
        payload := s1.cmapReport }
    .next ((s1.take).inject f (Config.nonce s1.free).toNat false).settleMst
  else .next s1

/-! ### Registers -/

/-- FRT_AVOID written (R450, R452): the ports are candidates or none from the next routing decision. -/
def execFrtAvoidWrite (rq : Requester) (value : BitVec 32) (s : State) : Host.Outcome State Fault Refusal :=
  .next (s.regWrite rq .FRT_AVOID 0 value.toNat fun a => a.writeWord rq false true .FRT_AVOID 0 value.toNat)

/-- SQ_SLICE written. -/
def execSqSliceWrite (rq : Requester) (q : Fin 64) (value : BitVec 32) (s : State) : Host.Outcome State Fault Refusal :=
  .next (s.regWrite rq .SQ_SLICE q value.toNat fun a => a.sqSliceWrite rq q value.toNat)

/-- SQ_CTL written with EN 1 and the other fields as they stand. -/
def execSqEnable (rq : Requester) (q : Fin 64) (s : State) : Host.Outcome State Fault Refusal :=
  let v := putBits (s.rr .SQ_CTL q) 31 31 1
  .next (s.regWrite rq .SQ_CTL q v fun a => a.sqCtlWrite rq q v)

/-- RQ_CTL written with EN 1, PEND 0 and the other fields as they stand. -/
def execRqEnable (rq : Requester) (q : Fin 64) (s : State) : Host.Outcome State Fault Refusal :=
  let v := putBits (putBits (s.rr .RQ_CTL q) 30 30 0) 31 31 1
  .next (s.regWrite rq .RQ_CTL q v fun a => a.rqCtlWrite rq q v)

end Sys2Proof.Machine
end

