-- ==== Sys2Proof/Machine/WaybillPort.lean ====
section
/-! DEFINITION. The waybill instructions of Viroth, class 0x7, with fan-out, capacity and bypass, and what the trail and the controller do
for them (R195 to R199, R262 to R275). -/

namespace Sys2Proof.Machine

/-- `wb.post`. -/
def execWbPost (t : Fin 768) (o : VOp) (s : State) : Host.Outcome State Fault Refusal :=
  let x := s.tile t
  let a := x.gr o.b
  let n := x.gr o.c
  s.issueSeq t 7 0 o (o.unusedZero false true true false false false)
    [(n != 0 && decide (0x80000 < a + n), .range, a), (n != 0 && decide (4 ≤ x.posted.length), .postFull, 0)] false fun s1 =>
      if n = 0 then s1.retire t
      else
        let y := s1.tile t
        ((s1.setTile t { y with posted := y.posted ++ [⟨a, n, none⟩] }).fillBuffers 4 t).retire t

/-- `wb.take`: at once from a filled head buffer, an exception at a bale that does not fit, else the tile waits. -/
def execWbTake (t : Fin 768) (o : VOp) (s : State) : Host.Outcome State Fault Refusal :=
  let x := s.tile t
  s.issueSeq t 7 1 o (o.unusedZero true false false false false false) [(x.oversize, .recvSize, x.headAddr)] false fun s1 =>
    (s1.block t (.take o.a)).release t

/-- `wb.get`. -/
def execWbGet (t : Fin 768) (o : VOp) (s : State) : Host.Outcome State Fault Refusal :=
  let x := s.tile t
  s.issueSeq t 7 2 o (o.unusedZero true false false false false true && (x.wb.field o.fn.toNat).isSome) [(!x.valid, .noBale, 0)]
    false fun s1 => s1.finishG t o.a (((s1.tile t).wb.field o.fn.toNat).getD 0)

/-- `wb.set`. -/
def execWbSet (t : Fin 768) (o : VOp) (s : State) : Host.Outcome State Fault Refusal :=
  let x := s.tile t
  s.issueSeq t 7 3 o (o.unusedZero false true false false false true && (x.wb.setField o.fn.toNat 0).isSome)
    [(!x.valid, .noBale, 0)] false fun s1 =>
      let y := s1.tile t
      (s1.setTile t { y with wb := (y.wb.setField o.fn.toNat (y.gr o.b)).getD y.wb }).retire t

/-! ### Fan-out (R262 to R273) -/

/-- FO_CAP of successor `k`. -/
def State.foCap (s : State) (t k : Nat) : Nat :=
  let w := s.rr .FO_CAP (t * 4 + k / 2)
  if k % 2 = 1 then w / 2 ^ 16 else w % 2 ^ 16

/-- The window of a sequence id (R266). -/
def State.windowOf (s : State) (t seq : Nat) : Nat := seq / 2 ^ s.f F.FO_CTL_PSHIFT t

/-- What the window table makes of a window (R267): the table with the entry in place, or stale. -/
def State.openWindow (s : State) (t w : Nat) : Option (List Window) :=
  let tab := (s.tile t).windows
  let p := s.f F.FO_CTL_PSHIFT t
  let fresh : Window := ⟨w, List.replicate 8 0, (List.range 8).map (s.foCap t)⟩
  if tab.any (fun e => e.number == w) then some tab
  else
    match tab with
    | [] => some [fresh]
    | n :: _ =>
      let d := (w + 2 ^ (16 - p) - n.number) % 2 ^ (16 - p)
      if 1 ≤ d ∧ d < 2 ^ (15 - p) then some (fresh :: tab.take 3) else none

/-- The entry of a window with one more slot of successor `k` used, when its capacity allows (R268). -/
def Window.takeSlot (e : Window) (k : Nat) : Option Window :=
  if e.used.getD k 0 < e.caps.getD k 0 then some { e with used := setAt e.used k (e.used.getD k 0 + 1) } else none

/-- A slot asked for a bale of sequence `seq` towards successor `k`: the table after, whether a slot was taken, and whether the window was
stale (R267 to R269). -/
def State.takeSlot (s : State) (t seq k : Nat) : State × Bool × Bool :=
  let w := s.windowOf t seq
  match s.openWindow t w with
  | none => (s, false, true)
  | some tab =>
    match tab.find? (fun e => e.number == w) with
    | none => (s, false, false)
    | some e =>
      match e.takeSlot k with
      | some e' => (s.setTile t { s.tile t with windows := tab.map (fun q => if q.number = w then e' else q) }, true, false)
      | none => (s.setTile t { s.tile t with windows := tab }, false, false)

/-- The successor, the flags added, the length and the effects of a send's choice (R198, R264, R265, R269, R270). -/
structure Route where
  st : State
  target : Nat
  flags : Nat
  len : Nat
  deriving DecidableEq, Repr

def State.routeOf (s : State) (t sel len : Nat) : Route :=
  let w := (s.tile t).wb
  let r := w.route.toNat
  if sel < 8 then ⟨s, sel, 0, len⟩
  else if bits r 15 14 = 1 then ⟨s.bump .FO_EXITS t, s.f F.FO_CTL_EXIT t, 2, len⟩
  else
    let idx := bits r 2 0
    if bit (s.f F.FO_CTL_CAP_EN t) idx then
      let q := s.takeSlot t w.seq.toNat idx
      if q.2.1 then ⟨q.1, idx, 0, len⟩
      else
        let s1 := q.1.bump .FO_DROP (t * 8 + idx)
        let s2 := if q.2.2 then s1.bump .FO_STALEWIN t else s1
        ⟨s2, s.f F.FO_CTL_BYP t, 4, if s.fb F.FO_CTL_TRUNC t then 0 else len⟩
    else ⟨s, idx, 0, len⟩

/-- No successor is there to send to (R160, R264). -/
def State.noRoute (s : State) (t sel : Nat) : Bool :=
  let r := (s.tile t).wb.route.toNat
  if sel < 8 then s.next t sel == 0xFFFF
  else if bits r 15 14 = 1 then s.f F.FO_CTL_EXIT t == 0xF || s.next t (s.f F.FO_CTL_EXIT t) == 0xFFFF
  else s.next t (bits r 2 0) == 0xFFFF

/-- `wb.send`: the bale leaves the scratchpad; the tile is blocked until its last byte has left (R198). -/
def execWbSend (t : Fin 768) (o : VOp) (s : State) : Host.Outcome State Fault Refusal :=
  let x := s.tile t
  let sel := o.fn.toNat % 16
  let a := x.gr o.b
  let len := x.gr o.c
  let r := x.wb.route.toNat
  let word := vWord 7 4 o
  s.issueSeq t 7 4 o (o.unusedZero false true true false false true && o.fnBits 31 4 == 0 && decide (sel ≤ 8))
    [ (!x.valid, .noBale, 0),
      (x.valid && sel == 8 && (decide (1 < bits r 15 14) || bits r 7 3 != 0), .illegal, word),
      (decide (0x80000 < a + len), .range, a),
      (decide (16384 < len), .sendSize, len),
      (x.valid && s.noRoute t sel, .noRoute, 0) ]
    (x.conflict [(a, len)] []) fun s1 =>
      let q := s1.routeOf t sel len
      let p := q.st.readMem (spadAddr t a) q.len 4
      let y := p.1.tile t
      let w := { (y.wb.withFlags (q.flags + if p.2.2 then 8 else 0)) with
        length := BitVec.ofNat 32 q.len, origin := BitVec.ofNat 16 t.val }
      let b : Bale := ⟨p.1.next t q.target, w, p.2.1⟩
      let s2 := (p.1.setTile t { y with sending := some b }).bump .FO_SENT (t * 8 + q.target)
      (s2.tileEvent t 0x09 1).tileEvent t 0x0A q.len

/-- The last payload byte of a send has left the scratchpad (R198): the bale is in the trail and the instruction is done. -/
def State.sendLeft (s : State) (t : Nat) : State :=
  let x := s.tile t
  match x.sending with
  | none => s
  | some b =>
    let s1 := s.setTile t { x with sending := none }
    ({ s1 with cvn := { s1.cvn with trail := s1.cvn.trail ++ [b] } }).retire t

/-- The last payload byte of a held send leaves the scratchpad (R198). -/
def execSendPayloadLeft (tile : Fin 768) (s : State) : Host.Outcome State Fault Refusal := .next (s.sendLeft tile)

/-- `wb.retire`: waits for the movements issued before it, then retires the bale (R199). -/
def execWbRetire (t : Fin 768) (o : VOp) (s : State) : Host.Outcome State Fault Refusal :=
  let x := s.tile t
  s.issueSeq t 7 5 o (o.unusedZero false false false false false false) [(!x.valid, .noBale, 0), (!x.sink, .notSink, 0)] false fun s1 =>
    let y := s1.tile t
    if y.moving then s1.setTile t { y with retiring := true } else s1.doRetire t

/-- `wb.count`. -/
def execWbCount (t : Fin 768) (o : VOp) (s : State) : Host.Outcome State Fault Refusal :=
  s.issueSeq t 7 6 o (o.unusedZero true false false false false false) [] false fun s1 => s1.finishG t o.a (s1.tileShow .TILE_INBOX t)

end Sys2Proof.Machine
end

