-- ==== Sys2Proof/Machine/TileEvents.lean ====
section
/-! DEFINITION. The event and makeweight instructions of Viroth, classes 0x8 and 0x9, and what happens to a tile from outside its program
(R200 to R206). -/

namespace Sys2Proof.Machine

/-- IMM[31:6] is zero. -/
def maskLegal (o : VOp) : Bool := o.fnBits 31 6 == 0

/-- `ev.wait`. -/
def execEvWait (t : Fin 768) (o : VOp) (s : State) : Host.Outcome State Fault Refusal :=
  s.issueSeq t 8 0 o (o.unusedZero true false false false false true && maskLegal o) [] false fun s1 =>
    if o.fn = 0 then s1.finishG t o.a 0 else (s1.block t (.event o.a (BitVec.ofNat 6 o.fn.toNat))).release t

/-- `ev.clr`: level bits ignore it. -/
def execEvClr (t : Fin 768) (o : VOp) (s : State) : Host.Outcome State Fault Refusal :=
  s.issueSeq t 8 1 o (o.unusedZero false false false false false true && maskLegal o) [] false fun s1 =>
    let x := s1.tile t
    (s1.setTile t { x with latched := x.latched &&& ~~~(BitVec.ofNat 6 o.fn.toNat) }).retire t

/-- `ev.note` (R202). -/
def execEvNote (t : Fin 768) (o : VOp) (s : State) : Host.Outcome State Fault Refusal :=
  s.issueSeq t 8 2 o (o.unusedZero false true true false false false) [] false fun s1 =>
    let x := s1.tile t
    let n := x.gr o.b
    let ok := decide (n < 768) && s1.working n && x.handle != 0 && (s1.tile n).handle == x.handle
    (if ok then s1.setNote n (x.gr o.c % 2 ^ 32) else s1.bump .TILE_NOTEDROP t).retire t

/-- `ev.time`. -/
def execEvTime (t : Fin 768) (o : VOp) (s : State) : Host.Outcome State Fault Refusal :=
  s.issueSeq t 8 3 o (o.unusedZero true false false false false false) [] false fun s1 => s1.finishG t o.a s1.now

/-- `ev.timer`. -/
def execEvTimer (t : Fin 768) (o : VOp) (s : State) : Host.Outcome State Fault Refusal :=
  s.issueSeq t 8 4 o (o.unusedZero false true false false false false) [] false fun s1 =>
    (s1.setTimer t ((s1.tile t).gr o.b)).retire t

/-- `mw.burn` (R203): dummy work that reads and writes no architectural state; only in MAKEWEIGHT. -/
def execMwBurn (t : Fin 768) (o : VOp) (s : State) : Host.Outcome State Fault Refusal :=
  s.issueSeq t 9 0 o (o.unusedZero false true false false false true && o.fnBits 31 6 == 0 && o.fnBits 5 4 != 3 &&
      (s.tile t).st == .makeweight) [] false fun s1 => s1.retire t

/-- What a tile in WAIT waits for has come about (R152, R201, R190, R191, R195): the instruction is completed. -/
def execTileWaitRelease (t : Fin 768) (s : State) : Host.Outcome State Fault Refusal :=
  .next (if (s.tile t).st = .wait then s.release t else s)

/-- PTIME reaches TILE_TIMER (R200). -/
def execTileTimerFire (t : Fin 768) (s : State) : Host.Outcome State Fault Refusal :=
  .next (if s.pair .TILE_TIMER_LO .TILE_TIMER_HI t = 0 then s else s.latch t 4)

/-- TILE_NOTE written from outside the tile's program (R200, R202). -/
def execTileNoteWrite (rq : Requester) (t : Fin 768) (value : BitVec 32) (s : State) : Host.Outcome State Fault Refusal :=
  .next (s.tileReg rq t (Reg.TILE_NOTE.key t) true fun a => a.tileRegWrite rq .TILE_NOTE t value.toNat)

/-- TILE_SEED_HI written (R223, R225). -/
def execTileSeedHiWrite (rq : Requester) (t : Fin 768) (value : BitVec 32) (s : State) : Host.Outcome State Fault Refusal :=
  .next (s.tileReg rq t (Reg.TILE_SEED_HI.key t) true fun a => a.tileRegWrite rq .TILE_SEED_HI t value.toNat)

end Sys2Proof.Machine
end

