-- ==== Sys2Proof/Machine/TimeBase.lean ====
section
/-! DEFINITION. The commands of the time base: the time of day, PPS edges and REFCLK (R42 to R45, R705, R706, R715, R716). -/

namespace Sys2Proof.Machine

/-- TMB_TOD_HI written, after any low word held for the requester (R11, R43): a legal value is armed. Application cores only read TMB. -/
def State.todHiWrite (s : State) (rq : Requester) (v : Nat) : State :=
  let legal := s.pairValue rq .TMB_TOD_LO 0 v % 1000000000 == 0
  let s1 := s.writeHigh rq legal .TMB_TOD_LO .TMB_TOD_HI 0 v
  if legal then
    let s2 := s1.sf F.TMB_STATUS_TOD_ARMED 0 1
    { s2 with tmb := { s2.tmb with armedAt := s2.tmb.ptime } }
  else s1

/-- A write of TMB_TOD_HI. -/
def execTmbTodArm (rq : Requester) (high : BitVec 32) (s : State) : Host.Outcome State Fault Refusal :=
  .next (s.regWrite rq .TMB_TOD_HI 0 high.toNat fun a => a.todHiWrite rq high.toNat)

/-- The whole second nearest to an instant. -/
def nearestSecond (t : Nat) : Nat := (t + 500000000) / 1000000000 * 1000000000

/-- TMB_OFFSET for an offset in ns: it saturates. -/
def offsetWord (o : Int) : Nat := ofSigned 32 (clampInt o (-2147483648) 2147483647)

/-- The offset of PTIME from `ref` measured and corrected (R44): more than 1 µs behind is one forward step, anything else slews. -/
def State.correctTo (s : State) (ref : Nat) : State :=
  let off : Int := (s.now : Int) - ref
  let s1 := s.wr .TMB_OFFSET 0 (offsetWord off)
  if off < -1000 then
    let s2 := s1.stepPtime (-off).toNat
    { s2 with tmb := { s2.tmb with slew := 0, armedAt := s2.tmb.armedAt + BitVec.ofInt 64 (-off) } }
  else { s1 with tmb := { s1.tmb with slew := -off } }

/-- The first time of day at its edge (R43). -/
def State.firstTod (s : State) (tod : Nat) : State :=
  if tod < s.now then (s.sf F.TMB_STATUS_TOD_ARMED 0 0).sf F.TMB_STATUS_TOD_LOW 0 1
  else
    let s1 := s.stepPtime (tod - s.now)
    let s2 := ((s1.sf F.TMB_STATUS_TOD_ARMED 0 0).sf F.TMB_STATUS_TOD_LOW 0 0).sf F.TMB_STATUS_TOD_SET 0 1
    { s2.wr .TMB_OFFSET 0 0 with tmb := { s2.tmb with slew := 0 } }

/-- An edge is accepted (R706, R715): REFCLK present, and not within 0.9 s of the last one. -/
def State.acceptsEdge (s : State) : Bool :=
  s.tmb.refclk && (match s.tmb.sinceEdge with
    | some e => decide (900000000 ≤ e)
    | none => true)

/-- A rising edge of PPS. -/
def execPpsEdge (s : State) : Host.Outcome State Fault Refusal :=
  if !s.acceptsEdge then .next s
  else
    let s1 := { s with tmb := { s.tmb with sinceEdge := some 0, missed := 0 } }
    let armed := s.fb F.TMB_STATUS_TOD_ARMED && decide (s.tmb.armedAt.toNat + 1000000 ≤ s.now)
    let tod := s.pair .TMB_TOD_LO .TMB_TOD_HI
    let s2 :=
      if s.fb F.TMB_STATUS_TOD_SET then
        (if armed then (s1.sf F.TMB_STATUS_TOD_ARMED 0 0).correctTo tod else s1.correctTo (nearestSecond s.now))
      else if armed then s1.firstTod tod
      else s1
    .next (s2.noteSync s.sync)

/-- A further whole second without an edge, from 1.5 s after the last accepted one (R716). The command is the elapse of that time. -/
def execPpsMiss (s : State) : Host.Outcome State Fault Refusal :=
  match s.tmb.sinceEdge with
  | none => .next s
  | some e =>
    if !s.tmb.refclk then .next s
    else
      let s1 := { s with tmb := { s.tmb with
        sinceEdge := some (max e (1500000000 + 1000000000 * s.tmb.missed)), missed := s.tmb.missed + 1 } }
      .next ((s1.bump .TMB_PPS_MISS).noteSync s.sync)

/-- A fabric port into OFF for want of REFCLK (R705): reason LOS, and a departure when it was UP. Its frames are handed back afterwards. -/
def State.portOff (s : State) (p : Nat) : State :=
  if s.inState p .off then s
  else
    let was := s.inState p .up
    let s1 := (((s.setPst p .off).leaveDims p).setPort p (s.port p).fresh).sf F.FPT_STAT_REASON p 3
    if was then ((((s1.portEvent p 1).bump .FPT_DEPARTS p).send (.notice 3 p)).raise 14 p .unreachable) else s1

/-- Every fabric port into OFF together: none is left to take over, and what the UP ports held goes back to the router. -/
def State.portsOff (s : State) : State :=
  let ups := (List.range 20).filter (fun p => s.inState p .up)
  let s1 := (List.range 20).foldl (fun a p => a.portOff p) s
  ups.foldl (fun a p => a.handBack p) s1

/-- Every Ethernet port DOWN with UNREACHABLE (R521). -/
def State.ethOff (s : State) : State := (List.range 8).foldl (fun a k => a.ethDown k .unreachable) s

/-- REFCLK absent for 1 µs (R705, R715). -/
def execRefclkLoss (s : State) : Host.Outcome State Fault Refusal :=
  if !s.tmb.refclk then .next s
  else
    let s1 := { s with tmb := { s.tmb with refclk := false } }
    .next ((s1.portsOff.ethOff.noteSync s.sync).settleMst)

/-- The Ethernet ports that may be up negotiate (R521, R557). -/
def State.ethNegotiate (s : State) : State :=
  (List.range 8).foldl (fun a k => if a.ethMay k && a.f F.ETH_PSTAT_STATE k == 0 then a.sf F.ETH_PSTAT_STATE k 1 else a) s

/-- REFCLK present again for 1 ms (R705, R715). -/
def execRefclkRestore (s : State) : Host.Outcome State Fault Refusal :=
  if s.tmb.refclk then .next s
  else
    let s1 := { s with tmb := { s.tmb with refclk := true } }
    .next (s1.leaveOffAll.ethNegotiate.noteSync s.sync)

end Sys2Proof.Machine
end

