-- ==== Sys2Proof/Machine/RegisterAccess.lean ====
section
/-! DEFINITION. Reads and writes of every register (R9 to R18, R35 to R40): where an address leads, what each register shows, which values are
legal, and what a write does beyond the field rules. -/

namespace Sys2Proof.Machine

/-! ### Where an address leads (R12, R35 to R38) -/

/-- What lies at an address that a requester names. -/
inductive Site where
  | reg (r : Reg) (i : Nat)
  | tileReg (t : Nat) (r : Option (Reg × Nat))
  | blank
  | sram (off : Nat)
  | closed
  | memory
  | unmapped
  deriving DecidableEq, Repr

/-- The site of a key of the register file that lies in a block. An offset not listed reads 0 and ignores writes. -/
def siteOfKey (k : Nat) : Site :=
  match Reg.at k with
  | some (r, i) => .reg r i
  | none => .blank

/-- The site of a place in the application map. -/
def siteOfPlace (addr : Nat) : Site :=
  match placeOf addr with
  | .block off => siteOfKey off
  | .treg t _ => .tileReg t (Reg.at addr)
  | .unmapped => .unmapped
  | _ => .memory

/-- The site in the steward map. Its blocks take the first 1 MiB of their windows; the flash controller, the management Ethernet, the boot ROM
and the loader have no register or content in the manual (log 51). -/
def siteOfSteward (addr : Nat) : Site :=
  if addr < 0x80000 then .closed
  else if 0x10000000 ≤ addr && addr < 0x10200000 then .sram (addr - 0x10000000)
  else if 0x40000000 ≤ addr && addr < 0x48000000 && addr % 0x1000000 < 0x100000 then
    (if addr / 0x1000000 = 0x44 || addr / 0x1000000 = 0x47 then .closed else siteOfKey addr)
  else if 0x50000000 ≤ addr && addr < 0x50F00000 then siteOfKey (addr - 0x50000000)
  else
    match placeOf addr with
    | .treg t _ => .tileReg t (Reg.at addr)
    | _ => .unmapped

/-- The site that a requester's address names. A tile names its own registers by their offset. -/
def siteOf (rq : Requester) (addr : Nat) : Site :=
  match rq with
  | .core _ => siteOfPlace addr
  | .steward _ => siteOfSteward addr
  | .tile t => if addr < 0x1000 then .tileReg t (Reg.at (0x100000C0000 + t.val * 0x100000 + addr)) else .unmapped

/-! ### What registers show -/

/-- TMB_STATUS: SYNC and the whole seconds since the last edge (R45, R715). -/
def State.tmbStatus (s : State) : Nat :=
  let age := match s.tmb.sinceEdge with
    | some e => min 255 (e / 1000000000)
    | none => 255
  putBits (putBits (s.rr .TMB_STATUS) 15 8 age) 1 0 s.sync

/-- IC_PEND: the sources of a word that are asserted. -/
def State.icPend (s : State) (w : Nat) : Nat :=
  (List.range 32).foldl (fun a j => if w ≠ 0 && s.asserted (32 * w + j) then a + 2 ^ j else a) 0

/-- IC_SRC of a shared source. -/
def State.icSrc (s : State) (n : Nat) : Nat :=
  let w := s.rr .IC_SRC n
  let pend := decide (s.target n < 32) && s.pendingAt (s.target n) n (bit w 28)
  putBits (putBits (putBits w 30 30 (b2n pend)) 29 29 (b2n (icSourceUsed n && s.inService n))) 7 0 (s.target n)

/-- IC_PSRC of a private source, copy 32 × core + source. -/
def State.icPsrc (s : State) (i : Nat) : Nat :=
  let w := s.rr .IC_PSRC i
  let k := s.core (i / 32)
  let n := i % 32
  putBits (putBits w 30 30 (b2n (s.pendingAt (i / 32) n (bit w 28)))) 29 29 (b2n (k.appSvc == n || k.svcSvc == n))

/-- IC_STAT of a core. -/
def State.icStat (s : State) (c : Nat) : Nat :=
  let k := s.core c
  putBits (s.rr .IC_STAT c) 2 0 (b2n k.idle * 4 + b2n (s.meip c) * 2 + b2n (s.seip c))

/-- Both channels are FAILED (R314). -/
def State.metersLost (s : State) : Bool := s.meterFailed false && s.meterFailed true

/-- What a register shows (the register tables): some follow the state behind them, the others are stored. -/
def State.show (s : State) (r : Reg) (i : Nat) : Nat :=
  let ch := chIx s.settleB
  let gv := govIx s.activeB
  match r with
  | .TMB_PTIME_LO => s.now % 2 ^ 32
  | .TMB_PTIME_HI => s.now / 2 ^ 32
  | .TMB_STATUS => s.tmbStatus
  | .CVN_LIVE =>
    (s.cvn.slots.foldl (fun a p => a + p.2.inflight.length) 0) % 2 ^ 17 * 2 ^ 7 + (s.cvn.slots.filter (fun p => p.2.state != .free)).length
  | .CVN_SLOT => putBits (s.rr r i) 11 8 (s.slot i).state.code
  | .CVN_SLOT_FLIGHT => (s.slot i).inflight.length % 2 ^ 11 * 2 ^ 16 + (s.slot i).queue.length % 2 ^ 5
  | .TILE_STATE | .TILE_PC | .TILE_EVENT | .TILE_MXSB | .TILE_MVSTAT | .TILE_INBOX => s.tileShow r i
  | .MTR_STAT => putBits (s.rr r i) 1 0 (s.meterState (i == 1))
  | .GOV_ALIVE => putBits (s.rr r i) 31 16 (s.holdLeft (i == 1))
  | .PWW_STATE => s.pwwState
  | .PWW_TARGET => s.rr .GOV_TARGET gv
  | .PWW_MET => if s.metersLost then s.rr .GOV_EST gv else s.rr .MTR_P ch
  | .PWW_E_LO => s.rr .MTR_E_LO ch
  | .PWW_E_HI => s.rr .MTR_E_HI ch
  | .PWW_SNAP_E_LO => s.rr .MTR_SNAP_E_LO ch
  | .PWW_SNAP_E_HI => s.rr .MTR_SNAP_E_HI ch
  | .PWW_SNAP_T_LO => s.rr .MTR_SNAP_T_LO ch
  | .PWW_SNAP_T_HI => s.rr .MTR_SNAP_T_HI ch
  | .PWW_SNAP_SEQ => s.rr .MTR_SNAP_SEQ ch
  | .PWW_SNAP_STAT => if s.metersLost then Status.check.code else s.rr .MTR_SNAP_STAT ch
  | .PWW_SHORT_OVER_LO => s.rr .GOV_SHORT_OVER_LO gv
  | .PWW_SHORT_OVER_HI => s.rr .GOV_SHORT_OVER_HI gv
  | .PWW_SHORT_UNDER_LO => s.rr .GOV_SHORT_UNDER_LO gv
  | .PWW_SHORT_UNDER_HI => s.rr .GOV_SHORT_UNDER_HI gv
  | .FRT_DRAIN => (List.range 20).foldl (fun a p => if s.drained p then a + 2 ^ p else a) 0
  | .FRT_CMAP => (List.range 4).foldl (fun a b => a + s.cmapByte (4 * i + b) * 2 ^ (8 * b)) 0
  | .IC_PEND => s.icPend i
  | .IC_SRC => s.icSrc i
  | .IC_PSRC => s.icPsrc i
  | .IC_SVC => (s.core i).svcSvc
  | .IC_STAT => s.icStat i
  | .IC_SWI_CLR => s.rr .IC_SWI_SET i
  | .ETH_MAC_LO => if i = 0 then s.rr .IDT_MAC_A_LO else s.rr .IDT_MAC_B_LO
  | .ETH_MAC_HI => if i = 0 then s.rr .IDT_MAC_A_HI else s.rr .IDT_MAC_B_HI
  | .CVU_RUN_LO | .CVU_RUN_HI => if s.cvuBusy i then Config.openValue s.free % 2 ^ 32 else s.rr r i
  | .CVU_RESULT_LO => if s.cvuBusy i then Config.openValue s.free % 2 ^ 32 else s.cvuResult i % 2 ^ 32
  | .CVU_RESULT_HI => if s.cvuBusy i then Config.openValue s.free % 2 ^ 32 else s.cvuResult i / 2 ^ 32
  | .PRF_UV_CNT_LO => s.userCount (i / 4) (i % 4) % 2 ^ 32
  | .PRF_UV_CNT_HI => s.userCount (i / 4) (i % 4) / 2 ^ 32
  | .PRF_UV_HANDLE => if s.userView i then s.handle i else 0
  | .RST_DOM_TILE => putBits (s.rr r i) 23 16 (min 255 (s.recentResets 1 i).length)
  | .RST_DOM_CORE => putBits (s.rr r i) 23 16 (min 255 (s.recentResets 2 i).length)
  | .RST_DOM_CLUSTER => putBits (s.rr r i) 23 16 (min 255 (s.recentResets 3 i).length)
  | .RST_DOM_PART => putBits (s.rr r i) 23 16 (min 255 (s.recentResets 4 i).length)
  | .SEC_STAT => putBits (s.rr r i) 27 24 s.sec.sessions.length
  | _ => s.rr r i

/-- What the high word of a register's pair shows; an even counter that the next one chains pairs with it (R645). -/
def State.showHi (s : State) (r : Reg) (i : Nat) : Nat :=
  match r.highOf with
  | some h => s.show h i
  | none => 0

/-! ### Reads -/

/-- TMB_STATUS read: source 36 is no longer asserted (R519). -/
def State.tmbStatusRead (s : State) (rq : Requester) : State :=
  ({ s with tmb := { s.tmb with syncChanged := false } }.readReg rq .TMB_STATUS 0 s.tmbStatus 0)

/-- PWW_STATE read: source 37 is no longer asserted (R519). -/
def State.pwwStateRead (s : State) (rq : Requester) : State :=
  ({ s with ic := ⟨BitVec.ofNat 32 s.pwwState, false⟩ }.readReg rq .PWW_STATE 0 s.pwwState 0)

/-- A counter read; one that the next counts on captures it (R645). -/
def State.chainRead (s : State) (rq : Requester) (r : Reg) (i : Nat) (chained : Bool) : State :=
  let s1 := s.readReg rq r i (s.rr r i) 0
  if chained then s1.capture rq r (i + 1) (s.rr r (i + 1)) else s1

/-- A register read by a requester that has a way to it. -/
def State.readOf (s : State) (rq : Requester) (r : Reg) (i : Nat) : State :=
  match r with
  | .TMB_STATUS => s.tmbStatusRead rq
  | .PWW_STATE => s.pwwStateRead rq
  | .MTR_SNAP_SEQ => s.snapSeqRead rq i false
  | .PWW_SNAP_SEQ => s.snapSeqRead rq (chIx s.settleB) true
  | .MTR_P => s.powerRead rq i
  | .IC_CLAIM => s.icClaim rq i
  | .PRF_CNT => s.chainRead rq r i (i % 2 == 0 && s.fb F.PRF_CNT_SEL_CHAIN (i + 1))
  | .PRF_TCNT => s.chainRead rq r i (i % 2 == 0 && bit (s.rr .PRF_TCHAIN) (i % 4 / 2))
  | .CVU_RUN_LO | .CVU_RUN_HI | .CVU_RESULT_LO | .CVU_RESULT_HI =>
    (if s.cvuBusy i then s.take else s).readReg rq r i (s.show r i) (s.showHi r i)
  | _ => s.readReg rq r i (s.show r i) (s.showHi r i)

/-- A read of an address: of a word, on a word's boundary, or BOUNDS (R12). -/
def State.readAt (s : State) (rq : Requester) (addr size : Nat) : State :=
  if s.accessIdle rq then s
  else
    let whole := size == 4 && addr % 4 == 0
    match siteOf rq addr with
    | .memory => s
    | .unmapped => s.noWay rq false addr
    | .tileReg t e =>
      s.tileReg rq t addr false fun a =>
        match whole, e with
        | true, some (r, i) => a.readOf rq r i
        | true, none => a.answer .ok 0
        | false, _ => a.answer .bounds 0
    | .sram off => if natural addr size then s.answer .ok (leNat ((List.range size).map fun k => SMap.get (fun _ => 0#8) s.sec.sram (off + k)))
        else s.answer .bounds 0
    | .closed => s.take.answer .ok (Config.openValue s.free % 2 ^ 32)
    | .blank => s.answer (if whole then .ok else .bounds) 0
    | .reg r i => if whole then s.readOf rq r i else s.answer .bounds 0

/-- A read of a register that counts and clears (R13, R15). -/
def execCounterReadClear (rq : Requester) (addr size : Nat) (s : State) : Host.Outcome State Fault Refusal := .next (s.readAt rq addr size)

/-- A read of the low word of a pair (R10). -/
def execPairLowRead (rq : Requester) (addr size : Nat) (s : State) : Host.Outcome State Fault Refusal := .next (s.readAt rq addr size)

/-- TMB_STATUS read. -/
def execTmbStatusRead (rq : Requester) (s : State) : Host.Outcome State Fault Refusal :=
  .next (s.regRead rq .TMB_STATUS 0 fun a => a.tmbStatusRead rq)

/-- PWW_STATE read. -/
def execPwwStateRead (rq : Requester) (s : State) : Host.Outcome State Fault Refusal :=
  .next (s.regRead rq .PWW_STATE 0 fun a => a.pwwStateRead rq)

/-! ### Legal values (R18) -/

/-- A field's value in a word written. -/
def Fld.of (f : Fld) (v : Nat) : Nat := bits v f.hi f.lo

/-- A tile number, or none. -/
def tileOrNone (n : Nat) : Bool := decide (n < 768) || n == 0xFFFF

/-- A ring of RST stays within memory; base 0 keeps none. -/
def rstRingLegal (base slot order : Nat) : Bool := base % 64 == 0 && (base == 0 || inMem base (slot * 2 ^ order))

/-- Whether a word written gives a register legal values (the Descriptions of the register tables); registers with a rule of their own are
judged there. -/
def State.legal (s : State) (r : Reg) (i v : Nat) : Bool :=
  match r with
  | .MEM_SCRUB => F.MEM_SCRUB_PERIOD.of v != 0
  | .MEM_RGN_CTL => [1, 2, 4, 8].contains (popCount 8 (F.MEM_RGN_CTL_STACKS.of v))
  | .GOV_SAFE => decide (F.GOV_SAFE_SAFE.of v ≤ s.rated)
  | .GOV_SLEW =>
    F.GOV_SLEW_UP.of v != 0 && decide (4 * F.GOV_SLEW_UP.of v ≤ s.rated) && F.GOV_SLEW_DN.of v != 0 &&
      decide (4 * F.GOV_SLEW_DN.of v ≤ s.rated)
  | .GOV_BUDLIM => decide (F.GOV_BUDLIM_MAX.of v ≤ s.rated) && decide (F.GOV_BUDLIM_MIN.of v ≤ F.GOV_BUDLIM_MAX.of v)
  | .GOV_DIP => decide (F.GOV_DIP_LEVEL.of v ≤ 100) && F.GOV_DIP_DSLEW.of v != 0 && decide (F.GOV_DIP_DSLEW.of v ≤ 10 * s.rated)
  | .GOV_MW => decide (4 * F.GOV_MW_BALLAST.of v ≤ s.rated)
  | .GOV_FR_CTL => F.GOV_FR_CTL_AGE.of v != 0 && decide (F.GOV_FR_CTL_NPTS.of v ≤ 8)
  | .GOV_FR_PT => decide ((toSigned 16 (F.GOV_FR_PT_DP.of v)).natAbs ≤ 10000)
  | .GOV_LAW => decide (F.GOV_LAW_IMAX.of v ≤ 10000)
  | .OST_CFG => F.OST_CFG_REVERT.of v != 0 && F.OST_CFG_QUALT.of v != 0
  | .FPT_THRESH =>
    let ok (n : Nat) : Bool := decide (3 ≤ n) && decide (n ≤ 12)
    ok (F.FPT_THRESH_AUDIT_EXP.of v) && ok (F.FPT_THRESH_CHECK_EXP.of v)
  | .FRT_CFG => decide (F.FRT_CFG_MAXDET.of v ≤ 7)
  | .FRT_WEIGHT => F.FRT_WEIGHT_C1.of v != 0 && F.FRT_WEIGHT_C2.of v != 0 && F.FRT_WEIGHT_C3.of v != 0
  | .FRT_CMAP_CTL => F.FRT_CMAP_CTL_PERIOD.of v != 0
  | .RQ_NOTE => tileOrNone (F.RQ_NOTE_TILE.of v)
  | .MG_NOTE => tileOrNone (F.MG_NOTE_TILE.of v)
  | .IC_SRC => decide (96 ≤ i) && decide (i ≤ 287) || decide (F.IC_SRC_TARGET.of v < 32) || F.IC_SRC_TARGET.of v == 0xFF
  | .ETH_NCTL => F.ETH_NCTL_VID.of v != 0xFFF
  | .ETH_ANN => decide (100 ≤ F.ETH_ANN_INTERVAL.of v)
  | .THM_LIM =>
    decide (70 ≤ F.THM_LIM_THROT.of v) && decide (F.THM_LIM_THROT.of v < F.THM_LIM_MAX.of v) &&
      decide (F.THM_LIM_MAX.of v < s.f F.THM_TRIP_DIE)
  | .THM_CFG =>
    let nom := F.THM_CFG_NOMFLOW.of v
    let nof := F.THM_CFG_NOFLOW.of v
    decide (30 ≤ nom) && decide (nom ≤ 60) && decide (1 ≤ nof) && decide (nof ≤ 60) && F.THM_CFG_PAIRD.of v != 0 &&
      decide (F.THM_CFG_TAU.of v ≤ 10) && F.THM_CFG_CAGE.of v != 0
  | .RST_CFG => F.RST_CFG_DRAIN.of v != 0 && decide (2 ≤ F.RST_CFG_REPEAT.of v) && F.RST_CFG_WINDOW.of v != 0
  | .RST_HANG =>
    F.RST_HANG_REQ.of v != 0 && F.RST_HANG_CVN.of v != 0 && F.RST_HANG_CORE.of v != 0 && F.RST_HANG_TILE.of v != 0
  | .RST_SALV_CFG =>
    decide (F.RST_SALV_CFG_LEN.of v ≤ 64) && decide (F.RST_SALV_CFG_OFFSET.of v + F.RST_SALV_CFG_LEN.of v ≤ 8192)
  | .RST_SALV_CTL =>
    let o := F.RST_SALV_CTL_ORDER.of v
    decide (2 ≤ o) && decide (o ≤ 12) && rstRingLegal (s.pair .RST_SALV_LO .RST_SALV_HI) 4160 o
  | .RST_LOG_CTL =>
    let o := F.RST_LOG_CTL_ORDER.of v
    decide (2 ≤ o) && decide (o ≤ 12) && rstRingLegal (s.pair .RST_LOG_LO .RST_LOG_HI) 32 o
  | .RST_SALV_RD => rdLegal (s.rr .RST_SALV_WR) v (s.f F.RST_SALV_CTL_ORDER)
  | .RST_LOG_RD => rdLegal (s.rr .RST_LOG_WR) v (s.f F.RST_LOG_CTL_ORDER)
  | .FCL_CLS => F.FCL_CLS_WIN.of v != 0 && F.FCL_CLS_THR.of v != 0 && F.FCL_CLS_PERS.of v != 0
  | _ => true

/-! ### Seals (R16, R322, R557) -/

/-- Sealed fields of a register take no write any more: the calibration from step 3 on, all others from step 10 on. -/
def State.sealed (s : State) (r : Reg) : Bool :=
  match r with
  | .MTR_CAL => decide (3 ≤ s.f F.IDT_BOOT_STEP)
  | _ => decide (10 ≤ s.f F.IDT_BOOT_STEP)

/-! ### Writes with a rule of their own -/

/-- A high word whose pair its block refuses with BUSY while `busy` holds. -/
def State.highUnlessBusy (s : State) (rq : Requester) (legal : Nat → Bool) (busy : Bool) (lo hi : Reg) (i v : Nat) : State :=
  let ok := legal (s.pairValue rq lo i v)
  match firstStatus [(!ok, .bounds), (busy, .busy)] with
  | .busy => ((s.dropHeld rq (lo.key i)).err lo.desc.blk .busy).answer .busy 0
  | _ => s.writeHigh rq ok lo hi i v

/-- The table of `n` bytes at `a`, aligned to `al`, lies in memory. -/
def tableLegal (al n a : Nat) : Bool := a % al == 0 && inMem a n

/-- FCL_CLS written (R606, R616): the shadow copy follows. Line 31 and the reserved lines have no class. -/
def State.clsWrite (s : State) (rq : Requester) (i v : Nat) : State :=
  if (fclLine i).isNone then s.answer .ok 0
  else
    let s1 := s.writeWord rq (s.sealed .FCL_CLS) (s.legal .FCL_CLS i v) .FCL_CLS i v
    { s1 with fcl := { s1.fcl with shadow := SMap.put s1.fcl.shadow i (BitVec.ofNat 32 (s1.rr .FCL_CLS i)) } }

/-- IC_SWI_SET or IC_SWI_CLR written: the software interrupt of a core. -/
def State.swiWrite (s : State) (c v : Nat) (on : Bool) : State :=
  (if v % 2 = 1 then s.wr .IC_SWI_SET c (b2n on) else s).answer .ok 0

/-- A register of the interrupt controller written; IC then evaluates anew. -/
def State.icWrite (s : State) (rq : Requester) (r : Reg) (i v : Nat) : State :=
  match r with
  | .IC_CLAIM => s.icClaimWrite rq i v
  | .IC_SVC => s.icSvcWrite rq i v
  | .IC_SWI_SET => (s.swiWrite i v true).icSettle
  | .IC_SWI_CLR => (s.swiWrite i v false).icSettle
  | .IC_SRC =>
    let w := if 96 ≤ i ∧ i ≤ 287 then putBits v 7 0 (s.rr .IC_SRC i) else v
    (s.writeWord rq false (s.legal r i w) r i w).icSettle
  | .IC_VBASE_LO | .IC_MTIMECMP_LO => s.holdLow rq r i v
  | .IC_VBASE_HI => s.writeHigh rq (tableLegal 8 8192 (s.pairValue rq .IC_VBASE_LO i v)) .IC_VBASE_LO r i v
  | .IC_MTIMECMP_HI => (s.writeHigh rq true .IC_MTIMECMP_LO r i v).coreTimer i
  | _ => (s.writeWord rq false true r i v).icSettle

/-- A register of the router or of MST written. -/
def State.routeWrite (s : State) (rq : Requester) (r : Reg) (i v : Nat) : State :=
  let sq := s.fb F.SQ_CTL_EN i
  let mg := s.fb F.MG_CTL_EN i
  match r with
  | .SQ_CTL => s.sqCtlWrite rq i v
  | .SQ_SLICE => s.sqSliceWrite rq i v
  | .RQ_CTL => s.rqCtlWrite rq i v
  | .MG_CTL => s.mgCtlWrite rq i v
  | .SQ_RING_LO | .SQ_PRODA_LO | .SQ_DONEA_LO | .RQ_RING_LO | .RQ_COUNTA_LO | .RQ_CONSA_LO | .MG_LINE_LO => s.holdLow rq r i v
  | .SQ_RING_HI => s.highUnlessBusy rq (fun a => a % 48 == 0 && inStore a 48) sq .SQ_RING_LO r i v
  | .SQ_PRODA_HI => s.highUnlessBusy rq (fun a => a % 4 == 0) sq .SQ_PRODA_LO r i v
  | .SQ_DONEA_HI => s.highUnlessBusy rq (fun a => a % 4 == 0) sq .SQ_DONEA_LO r i v
  | .RQ_RING_HI => s.highUnlessBusy rq (fun a => a % 64 == 0 && inStore a 64) false .RQ_RING_LO r i v
  | .RQ_COUNTA_HI => s.highUnlessBusy rq (fun a => a % 4 == 0) false .RQ_COUNTA_LO r i v
  | .RQ_CONSA_HI => s.highUnlessBusy rq (fun a => a % 4 == 0) false .RQ_CONSA_LO r i v
  | .MG_LINE_HI => s.highUnlessBusy rq (fun _ => true) mg .MG_LINE_LO r i v
  | .MG_GROUP | .MG_LEADER | .MG_MASK | .MG_NOTE => s.writeUnlessBusy rq (s.legal r i v) mg r i v
  | _ => s.writeWord rq (s.sealed r) (s.legal r i v) r i v

/-- A register of a fabric port or of FPT written. -/
def State.fptWrite (s : State) (rq : Requester) (r : Reg) (i v : Nat) : State :=
  match r with
  | .FPT_CTL => s.fptCtlWrite rq i v
  | .FPT_MAP => s.fptMapWrite rq i v
  | .FPT_COORD => s.fptCoordWrite rq v
  | .FPT_MACHINE => s.writeUnlessBusy rq true s.someOn r i v
  | .FPT_TWIST => s.fptTwistWrite rq i v
  | _ => s.writeWord rq (s.sealed r) (s.legal r i v) r i v

/-- The Ethernet ports follow ETH_NCTL.EN (R521): a port that may not be up goes down, and one that may negotiates. -/
def State.ethRefresh (s : State) : State :=
  ((List.range 8).foldl (fun a k =>
    if !a.ethMay k && a.f F.ETH_PSTAT_STATE k != 0 then a.ethDown k .unreachable else a) s).ethNegotiate

/-- A register of the Ethernet block written. -/
def State.ethWrite (s : State) (rq : Requester) (r : Reg) (i v : Nat) : State :=
  match r with
  | .ETH_PCTL => s.ethPctlWrite rq i v
  | .ETH_QPCMD => s.qpCmd rq v
  | .ETH_NCTL => (s.writeWord rq (s.sealed r) (s.legal r i v) r i v).ethRefresh
  | .ETH_HTAB_LO | .ETH_QPT_LO => s.holdLow rq r i v
  | .ETH_HTAB_HI => s.writeHigh rq (tableLegal 32 8192 (s.pairValue rq .ETH_HTAB_LO i v)) .ETH_HTAB_LO r i v
  | .ETH_QPT_HI => s.highUnlessBusy rq (tableLegal 128 0x80000) (s.eth.qps.any (fun e => e.2.enabled)) .ETH_QPT_LO r i v
  | _ => s.writeWord rq (s.sealed r) (s.legal r i v) r i v

/-- A register of RST or FCL written. -/
def State.rstFclWrite (s : State) (rq : Requester) (r : Reg) (i v : Nat) : State :=
  match r with
  | .RST_CMD => s.rstCmd rq v
  | .RST_PC_LO | .RST_SALV_LO | .RST_LOG_LO => s.holdLow rq r i v
  | .RST_PC_HI => s.writeHigh rq true .RST_PC_LO r i v
  | .RST_SALV_HI =>
    s.writeHigh rq (rstRingLegal (s.pairValue rq .RST_SALV_LO i v) 4160 (s.f F.RST_SALV_CTL_ORDER)) .RST_SALV_LO r i v
  | .RST_LOG_HI => s.writeHigh rq (rstRingLegal (s.pairValue rq .RST_LOG_LO i v) 32 (s.f F.RST_LOG_CTL_ORDER)) .RST_LOG_LO r i v
  | .FCL_SAFE => if bit v 31 then s.safeExit rq else s.answer .ok 0
  | .FCL_FAULTN => s.faultnWrite rq (s.sealed r) v
  | .FCL_CLS => s.clsWrite rq i v
  | _ => s.writeWord rq (s.sealed r) (s.legal r i v) r i v

/-- A register of the caravan controller written. -/
def State.cvnWrite (s : State) (rq : Requester) (r : Reg) (i v : Nat) : State :=
  match r with
  | .CVN_SLOT_RING_RD => s.ringRdWrite rq i v
  | .CVN_SLOT_THRESH => s.threshWrite rq i v
  | .FO_CTL | .FO_EXITS | .FO_STALEWIN => s.foWrite rq r i i v
  | .FO_CAP => s.foWrite rq r i (i / 4) v
  | .FO_SENT | .FO_DROP => s.foWrite rq r i (i / 8) v
  | _ => s.writeWord rq false true r i v

/-- The settlement channel in use: the one that CH names, or the other while that is FAILED (R313, R314). -/
def State.settleChannel (s : State) : State :=
  let mb := s.fb F.MTR_SETTLE_CH
  if !s.meterFailed mb then s.sf F.MTR_SETTLE_ACTIVE 0 (b2n mb)
  else if !s.meterFailed (!mb) then s.sf F.MTR_SETTLE_ACTIVE 0 (b2n (!mb))
  else s

/-- A register of the time base or of the steward's other blocks written. -/
def State.plainWrite (s : State) (rq : Requester) (r : Reg) (i v : Nat) : State :=
  match r with
  | .TMB_TOD_LO => s.holdLow rq r i v
  | .TMB_TOD_HI => s.todHiWrite rq v
  | .MTR_ACC_CTL => s.accCtlWrite rq v
  | .OST_CMD => s.ostCmdWrite v
  | .MTR_SETTLE => (s.writeWord rq (s.sealed r) true r i v).settleChannel
  | _ => s.writeWord rq (s.sealed r) (s.legal r i v) r i v

/-- A register written by a requester that has a way to it, by its block. -/
def State.writeOf (s : State) (rq : Requester) (r : Reg) (i v : Nat) : State :=
  match r.desc.blk with
  | .cvn => s.cvnWrite rq r i v
  | .tile => s.tileRegWrite rq r i v
  | .fpt => s.fptWrite rq r i v
  | .frt => s.routeWrite rq r i v
  | .mst => s.routeWrite rq r i v
  | .ic => s.icWrite rq r i v
  | .eth => s.ethWrite rq r i v
  | .rst => s.rstFclWrite rq r i v
  | .fcl => s.rstFclWrite rq r i v
  | .cvu => s.cvuWrite rq r i v
  | .prf => s.prfWrite rq r i v
  | _ => s.plainWrite rq r i v

/-- A write of a word to an address. -/
def State.writeAt (s : State) (rq : Requester) (addr size v : Nat) : State :=
  if s.accessIdle rq then s
  else
    let whole := size == 4 && addr % 4 == 0
    match siteOf rq addr with
    | .memory => s
    | .unmapped => s.noWay rq true addr
    | .tileReg t e =>
      s.tileReg rq t addr true fun a =>
        match whole, e with
        | true, some (r, i) => a.tileRegWrite rq r i v
        | true, none => a.answer .ok 0
        | false, _ => a.answer .bounds 0
    | .sram off =>
      if natural addr size then
        { s with sec := { s.sec with
          sram := ((leBytes size v).zipIdx off).foldl (fun m (b : Byte × Nat) => SMap.set (fun _ => 0#8) m b.2 b.1) s.sec.sram } }.answer .ok 0
      else s.answer .bounds 0
    | .closed => s.answer .ok 0
    | .blank => s.answer (if whole then .ok else .bounds) 0
    | .reg r i => if whole then s.regWrite rq r i v fun a => a.writeOf rq r i v else s.answer .bounds 0

/-- A write to a register field with no row of its own (R13). -/
def execRegisterWrite (rq : Requester) (addr size : Nat) (value : BitVec 32) (s : State) : Host.Outcome State Fault Refusal :=
  .next (s.writeAt rq addr size value.toNat)

/-- A write of the low word of a pair (R11). -/
def execPairLowWrite (rq : Requester) (addr size : Nat) (value : BitVec 32) (s : State) : Host.Outcome State Fault Refusal :=
  .next (s.writeAt rq addr size value.toNat)

/-- A write of the high word of a pair (R11). -/
def execPairHighWrite (rq : Requester) (addr size : Nat) (value : BitVec 32) (s : State) : Host.Outcome State Fault Refusal :=
  .next (s.writeAt rq addr size value.toNat)

/-- FCL_FAULTN written with a new DRIVE (R618, R619). -/
def execFclFaultnDriveWrite (rq : Requester) (value : BitVec 32) (s : State) : Host.Outcome State Fault Refusal :=
  .next (s.regWrite rq .FCL_FAULTN 0 value.toNat fun a => a.faultnWrite rq (a.sealed .FCL_FAULTN) value.toNat)

end Sys2Proof.Machine
end

