-- ==== Sys2Proof/Machine/TrustOps.lean ====
section
/-! DEFINITION. Sessions, messages of port 47603, images and activation: the operations that the rows of spec/21 share (R663 to R692). -/

namespace Sys2Proof.Machine

/-! ### Messages of port 47603 (R668, R672) -/

/-- The resident loader stays in service: no steward firmware image verified (R575, R684). -/
def State.loaderMode (s : State) : Bool := s.boot.vaux && s.fb F.IDT_BOOT_FAILED && decide (s.f F.IDT_BOOT_STEP < 2)

/-- Someone serves the management link: the steward from step 3 on, or the loader (R671, R684). Messages at other times are lost. -/
def State.mgmtUp (s : State) : Bool := s.firmwareUp || s.loaderMode

/-- A message to a peer: the header of R330 with MAGIC 0x4A4D and ALIVE 0, a body, TAG and CRC. SEQ is that of the message answered. -/
def State.tell (s : State) (peer type : Nat) (m body : List Byte) (key : Option (List Byte)) : State :=
  s.send (.mgmt 47603 peer (sealMsg key (s.msgHeader 0x4A4D type (msgSeq m) 0 (44 + body.length) ++ body)))

/-- An ANSWER. -/
def State.answerTo (s : State) (peer : Nat) (m : List Byte) (st : Status) (data : List Byte) (key : Option (List Byte)) : State :=
  s.tell peer 0x90 m ([BitVec.ofNat 8 st.code, 0#8, 0#8, 0#8] ++ data) key

/-- The conditions on the form of a message whose length is to be `len`. -/
def State.formRules (s : State) (m : List Byte) (len : Nat) : List (Bool × Status) :=
  [(m.length != len || msgLength m != m.length || msgAlive m != 0, .bounds),
    (beAt m 0 2 != 0x4A4D || beAt m 2 1 != 1 || msgTarget m != s.ownTarget, .mismatch)]

/-! ### Sessions (R669 to R672) -/

/-- The session of a peer. -/
def State.sessionOf (s : State) (peer : Nat) : Option Session := s.sec.sessions.find? (fun x => x.peer == peer)

/-- A session put at the head of the list. -/
def State.putSession (s : State) (x : Session) : State :=
  { s with sec := { s.sec with sessions := x :: s.sec.sessions.filter (fun y => y.ix != x.ix) } }

/-- DETAIL of a session's journal entries: PURPOSE and the peer's address. -/
def peerDetail (budget : Bool) (peer : Nat) : List Byte := beBytes 1 (b2n budget) ++ beBytes 16 (peer / 2 ^ 16)

/-- A session closed (R671): the lock goes with it, unless its activation runs (R692). -/
def State.closeSession (s : State) (x : Session) : State :=
  let s1 := { s with sec := { s.sec with sessions := s.sec.sessions.filter (fun y => y.ix != x.ix) } }
  let s2 := s1.audit { event := 0x0002, role := some x.role, actor := x.actor, detail := peerDetail x.budget x.peer }
  if s2.f F.SEC_STAT_LOCK = x.ix ∧ s2.sec.activation.isNone then s2.releaseLock x.role x.actor 3 else s2

/-- The session of a peer closed, if there is one. -/
def State.closePeer (s : State) (peer : Nat) : State :=
  match s.sessionOf peer with
  | some x => s.closeSession x
  | none => s

/-- An index for a new session: not in use, and not the one that holds the lock. -/
def State.freeIndex (s : State) : Option Nat :=
  (List.range 8).find? (fun i => !s.sec.sessions.any (fun x => x.ix == i) && s.f F.SEC_STAT_LOCK != i)

/-- 7 maintenance sessions are open, or no index is free. -/
def State.sessionsFull (s : State) (budget : Bool) : Bool :=
  (!budget && decide (7 ≤ (s.sec.sessions.filter (fun x => !x.budget)).length)) || s.freeIndex.isNone

/-- The SEQ of an accepted message kept. -/
def State.keepSeq (s : State) (peer seq : Nat) : State :=
  { s with sec := { s.sec with
    sessions := s.sec.sessions.map (fun x => if x.peer = peer then { x with lastSeq := some (BitVec.ofNat 32 seq) } else x) } }

/-- A request inside a session (R672): its TAG, its SEQ and its form checked, then its own rules; `act` does it and gives the status and the
data of the ANSWER. -/
def State.serve (s : State) (peer : Nat) (m : List Byte) (type len : Nat) (rules : Session → List (Bool × Status))
    (act : State → Session → State × Status × List Byte) : State :=
  if !s.mgmtUp || !msgCrcOk m || msgType m != type then s
  else
    match s.sessionOf peer with
    | none => s.answerTo peer m .denied [] none
    | some x =>
      if msgTag m != tagOf x.key (m.take (m.length - 20)) then s.bump .SEC_BADTAG
      else
        let stale := match x.lastSeq with
          | some q => decide (msgSeq m ≤ q.toNat)
          | none => false
        match firstStatus ((stale, .stale) :: (s.formRules m len ++ rules x)) with
        | .ok =>
          let r := act (s.putSession x) x
          let a := if r.2.1 = .ok then r.1.keepSeq peer (msgSeq m) else r.1
          a.answerTo peer m r.2.1 r.2.2 (some x.key)
        | st => s.answerTo peer m st [] (some x.key)

/-- A request that ends with OK and returns no data. -/
def done (s : State) : State × Status × List Byte := (s, .ok, [])

/-! ### Opening (R666, R669, R670) -/

/-- PTIME when validity periods are checked against it (R666). -/
def State.certTime (s : State) : Option Nat := if s.locked then some s.now else none

/-- The package's serial number. -/
def State.serial (s : State) : Nat := s.pair .IDT_SERIAL_LO .IDT_SERIAL_HI

/-- The chain of an OPEN, and the role that it gives. -/
def openChain (m : List Byte) : List Byte := slice m 124 (beAt m 26 2)
def State.openRole (s : State) (m : List Byte) : Option Role := Config.chainRole (openChain m) s.serial s.certTime

/-- The first 16 bytes of the hash of a chain's leaf certificate. -/
def actorOfChain (chain : List Byte) : List Byte := (sm3 (Config.leafCert chain)).take 16

/-- The status of an OPEN (R670). An OPEN with no chain opens nothing, and no role is asked of it. -/
def State.sessionStatus (s : State) (m : List Byte) : Status :=
  let n := beAt m 26 2
  let budget := beAt m 24 1 == 1
  let asked := beAt m 25 1
  firstStatus (s.formRules m (144 + n) ++
    [(decide (1 < beAt m 24 1) || asked == 0 || decide (3 < asked) || decide (4096 < n), .bounds),
     (n != 0 && ((s.openRole m).isNone || roleCode (s.openRole m) != asked), .denied),
     (budget && (asked != 3 || !s.fb F.IDT_BOOT_READY), .denied),
     (s.sessionsFull budget, .noResource)])

/-- The session key (R669): the first 16 bytes of the SM3-based KDF of GB/T 32918. -/
def sessionKey (z nonce nonceP : List Byte) : List Byte := (sm3 (z ++ nonce ++ nonceP ++ beBytes 4 1)).take 16

/-- An accepted OPEN: a session of the same peer closes, and the REPLY starts the handshake. -/
def State.openReply (s : State) (peer : Nat) (m : List Byte) : State :=
  let s0 := s.closePeer peer
  let k := s0.free
  let nonceP := (List.range 4).flatMap fun i => beBytes 8 (Config.nonce (k + i)).toNat
  let z := fitBytes 64 (Config.sharedPoint (slice m 60 64) k)
  let body := [0#8, 0#8, 0#8, 0#8] ++ nonceP ++ fitBytes 64 (Config.ephemeral k) ++ sm3 (Config.leafCert Config.deviceCert)
  let t := sm3 (slice m 24 (100 + beAt m 26 2) ++ body)
  let sig := fitBytes 64 (Config.sm2Sign t)
  let h : Handshake :=
    { budget := beAt m 24 1 == 1, role := (s.openRole m).getD .operator, peer := peer, leaf := Config.leafCert (openChain m), tHash := t
      sig := sig, key := sessionKey z (slice m 28 32) nonceP, since := s0.boot.elapsed }
  let s1 := { s0 with
    free := k + 4, sec := { s0.sec with shakes := h :: s0.sec.shakes.filter (fun y => y.peer != peer) } }
  s1.tell peer 0x11 m (body ++ sig) none

/-- An OPEN: answered with a REPLY, whose STATUS tells of a refusal (log 52). -/
def State.openMessage (s : State) (peer : Nat) (m : List Byte) : State :=
  if !s.mgmtUp || !msgCrcOk m || msgType m != 0x10 then s
  else
    let refuse (a : State) (st : Status) : State := a.tell peer 0x11 m (BitVec.ofNat 8 st.code :: List.replicate 195 0#8) none
    match s.sessionStatus m with
    | .ok => if beAt m 26 2 = 0 then refuse s .ok else s.openReply peer m
    | st =>
      refuse (s.audit { event := 0x0003, role := s.openRole m, status := st, actor := actorOfChain (openChain m)
                        detail := peerDetail (beAt m 24 1 == 1) peer }) st

/-- The handshake of a peer ends. -/
def State.dropShake (s : State) (peer : Nat) : State :=
  { s with sec := { s.sec with shakes := s.sec.shakes.filter (fun h => h.peer != peer) } }

/-- The budget session before closes, and both governors take the new one's SEQ as it comes (R340, R671). -/
def State.newBudget (s : State) : State :=
  let s1 := match s.budgetSession with
    | some x => s.closeSession x
    | none => s
  (s1.setGov false { s1.gov false with accepted := false }).setGov true { s1.gov true with accepted := false }

/-- A confirmed session. -/
def State.openSession (s : State) (h : Handshake) : State :=
  let s1 := if h.budget then s.newBudget else s
  let actor := (sm3 h.leaf).take 16
  let x : Session :=
    { ix := s1.freeIndex.getD 0, budget := h.budget, role := h.role, peer := h.peer, key := h.key, actor := actor, lastSeq := none }
  (s1.putSession x).audit { event := 0x0001, role := some h.role, actor := actor, detail := peerDetail h.budget h.peer }

/-- A CONFIRM (R669, R670): discarded without a REPLY before it, or more than 1 s after it. -/
def State.confirmMessage (s : State) (peer : Nat) (m : List Byte) : State :=
  if !s.mgmtUp || !msgCrcOk m || msgType m != 0x12 then s
  else
    match s.sec.shakes.find? (fun h => h.peer == peer) with
    | none => s
    | some h =>
      let s1 := s.dropShake peer
      if h.since + 1000000000 < s.boot.elapsed then s1
      else
        let signed := Config.sm2Verifies h.leaf (sm3 (h.tHash ++ h.sig)) (slice m 24 64)
        match firstStatus (s.formRules m 108 ++ [(!signed, .denied), (s.sessionsFull h.budget, .noResource)]) with
        | .ok => (s1.openSession h).answerTo peer m .ok [] (some h.key)
        | st =>
          (s1.audit { event := 0x0003, role := some h.role, status := st, actor := (sm3 h.leaf).take 16
                      detail := peerDetail h.budget h.peer }).answerTo peer m st [] none

/-! ### Attestation (R673, R675) -/

/-- The manifest of the image of a kind that its processor runs, and a field of it. -/
def State.loadedField (s : State) (k o n : Nat) : Nat :=
  match SMap.find? s.sec.loaded k with
  | some m => beAt m o n
  | none => 0

/-- The anti-rollback counter of a kind (R689). -/
def State.svn (s : State) (k : Nat) : Nat := bits (s.rr .SEC_SVN (k / 4)) (8 * (k % 4) + 7) (8 * (k % 4))

/-- Bytes 28 to 479 of a report; its signature covers bytes 24 to 415. -/
def State.reportBody (s : State) (nonce : List Byte) : List Byte :=
  let b := nonce ++ beBytes 8 s.serial ++ beBytes 4 (s.rr .IDT_PART) ++
    (List.range 7).flatMap (fun k => beBytes 4 (s.loadedField k 12 4)) ++ (List.range 7).flatMap (fun k => beBytes 1 (s.svn k)) ++ [0#8] ++
    (List.range 64).flatMap (fun w => beBytes 4 (s.rr .SEC_MEAS w)) ++ beBytes 8 (s.pair .JNL_HEAD_LO .JNL_HEAD_HI) ++
    s.journal.chain ++ beBytes 8 s.now ++ beBytes 1 s.sync ++ beBytes 1 (s.mode s.activeB) ++ beBytes 1 (b2n s.safe?) ++ [0#8]
  b ++ fitBytes 64 (Config.sm2Sign ([0#8, 0#8, 0#8, 0#8] ++ b))

/-- An ATTEST outside a session: TAG 0, at most 10 in a second, the rest discarded. -/
def State.attestOutside (s : State) (peer : Nat) (m : List Byte) : State :=
  let sec := s.boot.elapsed / 1000000000
  let n := if s.sec.attestSec = sec then s.sec.attests else 0
  if 10 ≤ n then s
  else
    let s1 := { s with sec := { s.sec with attests := n + 1, attestSec := sec } }
    match firstStatus (s.formRules m 76) with
    | .ok => s1.answerTo peer m .ok (s.reportBody (slice m 24 32)) none
    | st => s1.answerTo peer m st [] none

/-! ### Registers that the commands name (R667, R673) -/

/-- The register at a steward address. -/
def registerAt (addr : Nat) : Option (Reg × Nat) :=
  if addr % 4 ≠ 0 then none
  else
    match siteOfSteward addr with
    | .reg r i => some (r, i)
    | .tileReg _ e => e
    | _ => none

/-- The sealed fields of a register, and its live fields that software writes. -/
def sealedFields (r : Reg) : List FieldD := r.desc.fields.filter (fun f => decide (f.acc = .rws))
def liveFields (r : Reg) : List FieldD := r.desc.fields.filter (fun f => decide (f.acc = .rw) || decide (f.acc = .w1c) || decide (f.acc = .w1s))

/-- A role may write a field. -/
def fieldOpen (ro : Role) (f : FieldD) : Bool := decide (f.role = none) || decide (f.role = some ro)

/-- The conditions of SETTING and REGWRITE on the register that they name: it has such a field, and the role may write one. -/
def registerRules (fs : Reg → List FieldD) (ro : Role) (addr : Nat) : List (Bool × Status) :=
  match registerAt addr with
  | some (r, _) => [((fs r).isEmpty, .bounds), (!(fs r).isEmpty && !(fs r).any (fieldOpen ro), .denied)]
  | none => [(true, .bounds)]

/-- A maintenance activity of a session is refused: the lock is another's, or an activity runs (R691). -/
def State.maintBusy (s : State) (x : Session) : Bool :=
  (s.f F.SEC_STAT_LOCK != 0xFF && s.f F.SEC_STAT_LOCK != x.ix) || s.metering.acc.isSome || s.sec.receiving.isSome ||
    s.sec.activation.isSome

/-- The settings format of the steward that runs (R690). -/
def State.runFormat (s : State) : Nat := s.loadedField 0 24 4

/-- The word that a sealed register has in the stored settings. -/
def State.setting (s : State) (r : Reg) (i : Nat) : Nat :=
  ((SMap.find? s.sec.settings (r.key i)).getD (BitVec.ofNat 32 (r.rst i))).toNat

/-- SETTING (R673): the sealed fields that the role may write, stored for the next sealing. -/
def State.storeSetting (s : State) (x : Session) (addr v : Nat) : State :=
  match registerAt addr with
  | none => s
  | some (r, i) =>
    let old := s.setting r i
    let new := ((sealedFields r).filter (fieldOpen x.role)).foldl (fun w f => putBits w f.hi f.lo (bits v f.hi f.lo)) old
    let s1 := s.takeLock x
    let s2 := { s1 with sec := { s1.sec with
      setFmt := if s1.sec.settings.isEmpty then s1.runFormat else s1.sec.setFmt
      settings := SMap.put s1.sec.settings (r.key i) (BitVec.ofNat 32 new) } }
    s2.audit { event := 0x0010, role := some x.role, actor := x.actor, object := addr, old := old, new := new }

/-- REGWRITE (R673): the register's own rules apply. A write to a register that the role protects is journaled by those rules. -/
def State.liveWrite (s : State) (x : Session) (addr v : Nat) : State × Status × List Byte :=
  match registerAt addr with
  | none => (s, .bounds, [])
  | some (r, i) =>
    let a := s.writeAt (.steward (some x.role)) addr 4 v
    let st := a.resp.status
    let b := if st = .ok ∧ !protects r x.role then
        a.audit { event := 0x0010, role := some x.role, actor := x.actor, object := addr, old := s.rr r i, new := a.rr r i }
      else a
    (b, st, [])

/-! ### Images (R678 to R682, R689) -/

/-- The bytes of a slot, by kind. -/
def slotSize (k : Nat) : Nat :=
  [0x400000, 0x100000, 0x200000, 0x100000, 0x80000, 0x800000, 0x8000].getD k 0

/-- Fields of a manifest (R679). -/
def manKind (m : List Byte) : Nat := beAt m 6 1
def manVersion (m : List Byte) : Nat := beAt m 12 4
def manSvn (m : List Byte) : Nat := beAt m 16 4
def manLength (m : List Byte) : Nat := beAt m 20 4
def manDigest (m : List Byte) : List Byte := slice m 28 32

/-- A session may stage and activate a kind (R667). -/
def kindOpen (ro : Role) (k : Nat) : Bool := if k = 6 then decide (ro = .maker) else decide (ro = .installer)

/-- The checks of R680 that every verification of a manifest makes. -/
def State.manifestRules (s : State) (m : List Byte) : List (Bool × Status) :=
  let k := manKind m
  let step := s.f F.IDT_PART_STEPPING
  [(!Config.manifestVerifies m, .denied), (decide (k ≤ 6) && decide (manSvn m < s.svn k), .stale),
    (decide (6 < k) || decide (63 < manSvn m) || decide (slotSize k - 4096 < manLength m) ||
      (k == 0 && decide (1572864 < manLength m)) || !zeros m 7 1 || !zeros m 156 100, .bounds),
    (beAt m 0 4 != 0x4A584D46 || beAt m 4 2 != 1 || beAt m 8 2 != 0x5180 || decide (step < beAt m 10 1) || decide (beAt m 11 1 < step),
      .mismatch)]

/-- A whole image verified (R680, R682, R683). -/
def State.imageStatus (s : State) (x : Image) : Status :=
  firstStatus (s.manifestRules x.manifest ++
    [(x.payload.length != manLength x.manifest || sm3 x.payload != manDigest x.manifest, .check)])

/-- SEC_STAGE shows whether an image of a kind is staged. -/
def State.showStaged (s : State) (k : Nat) (on : Bool) : State := s.wr .SEC_STAGE 0 (putBits (s.rr .SEC_STAGE) k k (b2n on))
def State.staged (s : State) (k : Nat) : Bool := bit (s.rr .SEC_STAGE) k

/-- The anti-rollback counter of a kind raised to an image's SVN when that is higher (R689). -/
def State.raiseSvn (s : State) (k : Nat) (m : List Byte) : State :=
  let old := s.svn k
  let new := manSvn m
  if old < new then
    (s.wr .SEC_SVN (k / 4) (putBits (s.rr .SEC_SVN (k / 4)) (8 * (k % 4) + 7) (8 * (k % 4)) new)).audit
      { event := 0x0023, object := k, old := old, new := new, detail := beBytes 1 k ++ beBytes 1 old ++ beBytes 1 new }
  else s

/-- A staging slot opened (R680). -/
def State.beginImage (s : State) (x : Session) (m : List Byte) : State :=
  let k := manKind m
  let s1 := (s.takeLock x).showStaged k false
  { s1 with sec := { s1.sec with receiving := some k, staging := SMap.put s1.sec.staging k ⟨m, []⟩ } }

/-- The image that arrives: its kind and what it holds so far. -/
def State.arriving (s : State) : Option (Nat × Image) :=
  match s.sec.receiving with
  | some k => (SMap.find? s.sec.staging k).map fun x => (k, x)
  | none => none

/-- The bytes received of the image that arrives, and its LENGTH. -/
def State.received (s : State) : Nat × Nat :=
  match s.arriving with
  | some (_, x) => (x.payload.length, manLength x.manifest)
  | none => (0, 0)

/-- Payload data in order; what has been received already is left out (R681). -/
def State.takeChunk (s : State) (off : Nat) (data : List Byte) : State :=
  match s.arriving with
  | some (k, x) =>
    let y := { x with payload := x.payload ++ data.drop (x.payload.length - off) }
    { s with sec := { s.sec with staging := SMap.put s.sec.staging k y } }
  | none => s

/-- The end of an image (R682): staged, or erased with CHECK. -/
def State.finishImage (s : State) (x : Session) : State × Status × List Byte :=
  match s.arriving with
  | none => (s, .bounds, [])
  | some (k, im) =>
    if sm3 im.payload = manDigest im.manifest then
      let s1 := { s with sec := { s.sec with receiving := none } }.showStaged k true
      done (s1.audit { event := 0x0020, role := some x.role, actor := x.actor, object := k
                       detail := manDigest im.manifest ++ beBytes 4 (manVersion im.manifest) ++ beBytes 1 k ++ beBytes 1 (manSvn im.manifest) })
    else ({ s with sec := { s.sec with receiving := none, staging := SMap.del s.sec.staging k } }, .check, [])

/-- The lock is another's, an acceptance run lasts or an activation runs: no chunk, end or abort (R691). -/
def State.stagingBusy (s : State) (x : Session) : Bool :=
  (s.f F.SEC_STAT_LOCK != 0xFF && s.f F.SEC_STAT_LOCK != x.ix) || s.metering.acc.isSome || s.sec.activation.isSome

/-- ABORT (R682, R692): what the role may stage is discarded, and the lock released. -/
def State.abortImages (s : State) (x : Session) : State :=
  let s1 := { s with sec := s.sec.discardPartial }
  let s2 := ((List.range 7).filter (kindOpen x.role)).foldl (fun a k =>
    { a.showStaged k false with sec := { a.sec with staging := SMap.del a.sec.staging k } }) s1
  s2.releaseLock x.role x.actor 2

/-! ### Memory scans of the steward (R640, R641) -/

/-- Where the steward may put a copy of `n` bytes: an address that the manual does not give, on a line's boundary and within memory. -/
def copyAddress (a n : Nat) : Nat := a % (memEnd - n) / 64 * 64

/-- An image copied to memory and scanned there with CVU15, whose EXPECT is the CRC-32C found while it was read from flash. -/
def State.copyAndScan (s : State) (a : Nat) (payload : List Byte) : State × Status :=
  let s1 := s.writeMem a payload false 4
  let s2 := (s1.wr .CVU_CTL 15 0).sf F.CVU_CTL_EXP_EN 15 1
  let s3 := (s2.setPair .CVU_EXPECT_LO .CVU_EXPECT_HI 15 (crc32c payload)).setPair .CVU_SCAN_ADDR_LO .CVU_SCAN_ADDR_HI 15 a
  let s4 := ((s3.wr .CVU_SCAN_LEN 15 payload.length).cvuInit 15).endScan 15 none
  (s4, if s4.f F.CVU_CMD_STATUS 15 = 0 then .ok else if s4.f F.CVU_CMD_STATUS 15 = Status.poison.code then .poison else .check)

/-! ### Activation (R685 to R688) -/

/-- The kinds that a KINDS byte names, in kind order, STEWARD last. -/
def kindsOf (w : Nat) : List Nat := [1, 2, 3, 4, 5, 6, 0].filter (fun k => bit w k)

/-- The activation's record changed. -/
def State.setActivation (s : State) (a : Activation) : State := { s with sec := { s.sec with activation := some a } }

/-- The staged image of a kind becomes its running slot's; it is no longer staged, and READY will raise its counter (R686, R689). -/
def State.writeRunning (s : State) (k : Nat) : State :=
  match SMap.find? s.sec.staging k with
  | none => s
  | some x =>
    { s.showStaged k false with sec := { s.sec with
      running := SMap.put s.sec.running k x, staging := SMap.del s.sec.staging k
      raise := if s.sec.raise.contains k then s.sec.raise else s.sec.raise ++ [k] } }

/-- BOOT, MEMPHY and ETHPHY are scanned in memory before their running slot is written (R641, R685), where memory is there to scan. -/
def State.scanStaged (s : State) (k : Nat) : State × Status :=
  match SMap.find? s.sec.staging k with
  | some x =>
    if (k == 2 || k == 4 || k == 5) && decide (7 ≤ s.f F.IDT_BOOT_STEP) && s.boot.rails then
      s.copyAndScan (copyAddress Config.stagingAddress x.payload.length) x.payload
    else (s, .ok)
  | none => (s, .ok)

/-- An activation that has handled every kind: with RESTART a package reset follows for the kinds that take effect at the next start. -/
def State.finishActivation (s : State) (a : Activation) : State :=
  let s1 := s.endActivation a .ok
  if a.restart && (kindsOf a.all).any (fun k => decide (2 ≤ k)) then s1.packageReset 7 else s1

/-- Step 1 of R687: the standby reloads from the staging slot. -/
def State.beginGov (s : State) (a : Activation) : State :=
  let gb := !s.activeB
  (s.setActivation { a with govStep := 1, hadA := !gb, hadB := gb }).resetGov gb

/-- The kinds left, in order: GOV and STEWARD wait for their own steps, and the others are written at once. -/
def State.activateFrom (s : State) (a : Activation) : List Nat → State
  | [] => s.finishActivation a
  | k :: ks =>
    let b := { a with kinds := ks }
    if k = 0 then
      let s1 := s.setActivation b
      { s1 with sec := { s1.sec with restartDue := true } }
    else if k = 1 then s.beginGov b
    else
      let r := s.scanStaged k
      match r.2 with
      | .ok => State.activateFrom (r.1.writeRunning k) b ks
      | st => r.1.endActivation b st

/-- The first staged image of an activation that no longer verifies, by its status. -/
def State.verifyStaged (s : State) (ks : List Nat) : Status :=
  ks.foldl (fun st k =>
    if st = .ok then
      match SMap.find? s.sec.staging k with
      | some x => s.imageStatus x
      | none => .bounds
    else st) .ok

/-- An accepted ACTIVATE. -/
def State.startActivation (s : State) (x : Session) (w : Nat) (restart : Bool) : State :=
  let ks := kindsOf w
  let a : Activation :=
    { kinds := ks, all := w, restart := restart, session := x.ix, role := x.role, actor := x.actor, govStep := 0, hadA := false
      hadB := false }
  let s1 := (s.takeLock x).setActivation a
  match s1.verifyStaged ks with
  | .ok => s1.activateFrom a ks
  | st => s1.endActivation a st

end Sys2Proof.Machine
end

