-- ==== Sys2Proof/Machine/Startup.lean ====
section
/-! DEFINITION. The start sequence (R557 to R576, R683, R684, R689, R690): its ten steps, the waves, the pauses, READY and the failures. -/

namespace Sys2Proof.Machine

/-! ### Steps and failures -/

/-- Step `k` completes: IDT_STEP and IDT_BOOT.STEP (R561). -/
def State.stepDone (s : State) (k : Nat) : State := (s.wr .IDT_STEPT (k - 1) (s.boot.elapsed / 1000000)).sf F.IDT_BOOT_STEP 0 k

/-- A second failure, or one that no retry follows, of a start: a power cycle is asked for (R576, R600, R603). -/
def State.startEscalates (s : State) : State := ((s.countEscalation 6).noteHang 8 6 1 0).powerCycle

/-- The start stops without READY (R575), and is retried once (R576). -/
def State.startFail (s : State) (st : Status) : State :=
  let s1 := (s.sf F.IDT_BOOT_FAILED 0 1).sf F.IDT_BOOT_STATUS 0 st.code
  let s2 := s1.pulse.logCause 0x0062 st.code st
  let again := st = .timeout ∨ st = .check
  let retried := s.boot.retried
  if again ∧ !retried then s2.railsOff.beginStart true
  else if retried then s2.startEscalates.railsOff
  else s2.railsOff

/-! ### Steps 1 to 5 -/

/-- Step 1: VAUX on, the boot ROM runs. -/
def State.startVaux (s : State) : State := { s with boot := { s.boot with vaux := true } }.stepDone 1

/-- An activation that a reset or a loss of power interrupted: the copies of its staged kinds are completed (R684). -/
def State.resumeCopies (s : State) : State :=
  match s.sec.activation with
  | some a => ((kindsOf a.all).filter s.staged).foldl (fun b k => b.writeRunning k) s
  | none => s

/-- The image of a slot verifies as an image of its kind (R683). -/
def State.slotGood (s : State) (k : Nat) (x : Option Image) : Bool :=
  match x with
  | some y => decide (s.imageStatus y = .ok) && decide (manKind y.manifest = k)
  | none => false

/-- A running slot that fails verification takes the image of a staging slot that verifies (R684). -/
def State.repairSlot (s : State) (k : Nat) : State :=
  let r := SMap.find? s.sec.running k
  let g := SMap.find? s.sec.staging k
  match g with
  | some x =>
    if !s.slotGood k r && s.staged k && s.slotGood k g then { s with sec := { s.sec with running := SMap.put s.sec.running k x } } else s
  | none => s

/-- An image loaded into its processor and measured (R674, R683); one that does not verify is not loaded. -/
def State.loadImage (s : State) (k : Nat) : State :=
  match SMap.find? s.sec.running k with
  | some x =>
    if s.slotGood k (some x) then
      { s with sec := { s.sec with loaded := SMap.put s.sec.loaded k x.manifest } }.extendMeas k (manDigest x.manifest)
    else s
  | none => s

/-- Step 2: the images. BOOT is loaded in step 9. -/
def State.startImages (s : State) : State :=
  let s1 := (List.range 7).foldl (fun a k => a.repairSlot k) s.resumeCopies
  if !s1.slotGood 0 (SMap.find? s1.sec.running 0) then s1.startFail .denied
  else
    let s2 := [0, 1, 2, 3, 4, 6].foldl (fun a k => a.loadImage k) s1
    let s3 := (s2.wr .IDT_FW 0 (s2.loadedField 0 12 4)).stepDone 2
    match s3.sec.activation with
    | some a => s3.endActivation a .ok
    | none => s3

/-- The calibration and the sure paces that MAKERDATA holds, or the boot ROM's constants with CALDEF (R322, R355). -/
def State.loadCalibration (s : State) : State :=
  match SMap.find? s.sec.loaded 6, SMap.find? s.sec.running 6 with
  | some _, some x =>
    let s1 := (List.range 12).foldl (fun a j => a.wr .MTR_CAL j (Config.calibration x.payload j % 2 ^ 32)) s
    (List.range 36).foldl (fun a w => a.wr .PWW_SURE w (Config.calibration x.payload (12 + w) % 2 ^ 32)) s1
  | _, _ => (s.sf F.MTR_STAT_CALDEF 0 1).sf F.MTR_STAT_CALDEF 1 1

/-- A governor's self-test: one that fails is DOWN. A governor without an image fails. -/
def State.govTested (s : State) (gb pass : Bool) : State :=
  let ok := pass && (SMap.find? s.sec.loaded 1).isSome
  (s.setGl gb { s.gl gb with selfTest := ok }).setGovSt gb (if ok then 1 else 0)

/-- Step 3: the meters, the calibration, the governors' self-tests. -/
def State.startSupply (s : State) (t : StartTests) : State :=
  let s1 := (s.loadCalibration.govTested false t.govA).govTested true t.govB
  if !(s1.gl false).selfTest && !(s1.gl true).selfTest then s1.startFail .check else s1.stepDone 3

/-- Step 4: the rails on, VCORE at code 100, and the writes that the steward held (R560). -/
def State.startRails (s : State) : State :=
  let s1 := ({ s with boot := { s.boot with rails := true, heldWrites := [] } }.sf F.OST_OUT_VCORE 0 100).stepDone 4
  let r := s1.resp
  { s.boot.heldWrites.foldl (fun a w => a.writeAt (.steward w.2.2) w.1 4 w.2.1.toNat) s1 with resp := r }

/-- Step 5: the trail's check (R564), and the ports begin. -/
def State.startLinks (s : State) (t : StartTests) : State :=
  ({ s with boot := { s.boot with trailFailed := t.trail } }.leaveOffAll.ethNegotiate).stepDone 5

/-! ### Steps 6 to 8 -/

/-- A channel that trains fully in this start (R562): without valid saved settings, or after they failed, or because it was asked for. -/
def State.trainsFully (s : State) (t : StartTests) (q : Nat) : Bool :=
  !SMap.get (fun _ => false) s.boot.savedChannels q || t.savedFail.contains q || s.sec.fullTrain

/-- Step 6: every channel trains and checks; one that fails after full training is FAILED (R289, R562). -/
def State.startMemory (s : State) (t : StartTests) : State :=
  let full := (List.range 768).filter (fun q => s.trainsFully t q)
  let bad := full.filter (fun q => t.fullFail.contains q)
  let s1 := bad.foldl (fun a q => (a.sf F.MEM_CH_STAT_STATE q 2).raise 6 q .degraded) s
  let s2 := { s1 with
    boot := { s1.boot with trainedFull := (full.filter (fun q => !t.fullFail.contains q)).map (fun q => (q, true)) }
    sec := { s1.sec with fullTrain := false } }
  ((s2.sf F.IDT_BOOT_FULLTRAIN 0 (b2n (!full.isEmpty))).sf F.IDT_MEMCH_FULL 0 full.length).stepDone 6

/-- The channels that are FAILED. -/
def State.failedChannels (s : State) : Nat := ((List.range 768).filter s.channelFailed).length

/-- Step 7: every mapped line zero with clean ECC. -/
def State.startClear (s : State) : State :=
  let inDram (line : Nat) : Bool := decide (line * 64 < memEnd)
  let m := { s.mem with
    cells := s.mem.cells.filter (fun e => decide (memEnd ≤ e.1))
    poison := s.mem.poison.filter (fun e => !inDram e.1)
    latent := s.mem.latent.filter (fun e => !inDram e.1) }
  ({ s with mem := m }.sf F.IDT_MEMCH_FAILED 0 s.failedChannels).stepDone 7

/-- A sealed word in flash, or the reset value when none stands there that the running firmware applies (R566, R690). -/
def State.flashWord (s : State) (r : Reg) (i : Nat) : Nat :=
  let w := s.setting r i
  if s.sec.setFmt = s.runFormat ∧ s.legal r i w then w else r.rst i

/-- The start of step 8 (R566, R567): ΔPc, the wave size, and the first wave. ΔPc comes from the maker's model and is a free value of at
least 1 W. -/
def State.firstWave (s : State) : State :=
  let up := F.GOV_SLEW_UP.of (s.flashWord .GOV_SLEW 0)
  let dpc := max 1 (Config.openValue s.free)
  let per := if 32 * dpc ≤ up then 32 else max 1 (min 32 (up / dpc))
  let w := min 255 dpc * 2 ^ 24 + per * 2 ^ 16 + (31 + per) / per
  let s1 := s.take.wr .IDT_WAVE 0 w
  { s1 with boot := { s1.boot with cluster := per } }

/-- The next wave (R567). -/
def State.nextWave (s : State) : State :=
  { s with boot := { s.boot with cluster := min 32 (s.boot.cluster + s.f F.IDT_WAVE_PER) } }

/-- A tile's floor-plan code from the two maps and its test (R564, R569). -/
def State.mergedCode (s : State) (t : StartTests) (n : Nat) : Nat :=
  if Config.fusedBad n then 1
  else if SMap.get (fun _ => false) s.sec.fieldMap n then 2
  else if t.tileTwice.contains n || s.boot.trailFailed.contains n then 3
  else if t.tileOnce.contains n then 5
  else 0

/-- The end of step 8: the floor plan (R569, R571). -/
def State.mergePlan (s : State) (t : StartTests) : State :=
  let s1 := ((List.range 768).foldl (fun a n => a.setCode n (s.mergedCode t n)) s).countTiles
  let s2 := s1.wr .IDT_FP_GEN 0 ((s1.rr .IDT_FP_GEN + 2) % 2 ^ 32)
  if s2.f F.IDT_TILES_GOOD = 0 then s2.startFail .noResource else s2.stepDone 8

/-- Step 8: the first wave, then the tests once every cluster is up. -/
def State.startTiles (s : State) (t : StartTests) : State :=
  if s.boot.cluster = 0 then s.firstWave
  else if s.boot.cluster < 32 then s
  else s.mergePlan t

/-! ### Step 9 -/

/-- A core held in reset until the boot core's software starts it, or until the next start when its test failed twice (R572). -/
def State.heldCore (s : State) (c : Nat) (bad : Bool) : State :=
  let s1 := s.wr .RST_DOM_CORE c (putBits (s.rr .RST_DOM_CORE c) 3 0 5)
  if bad then s1.setStuck 2 c else s1

/-- Where the boot core starts. -/
def bootPc (n : Nat) : Nat := copyAddress Config.bootAddress n

/-- Step 9: the cores and the L3, and the boot image in memory, scanned (R572, R640). A copy that does not check keeps the step from
completing. -/
def State.startCores (s : State) (t : StartTests) : State :=
  let ok := (List.range 32).filter (fun c => !t.cores.contains c)
  if ok.isEmpty || !t.l3 then s.startFail .check
  else
    match SMap.find? s.sec.running 5 with
    | none => s
    | some x =>
      if !s.slotGood 5 (some x) then s
      else
        let r := s.copyAndScan (bootPc x.payload.length) x.payload
        if r.2 ≠ .ok then r.1
        else
          let s1 := (List.range 32).foldl (fun a c => a.heldCore c (t.cores.contains c)) (r.1.loadImage 5)
          (s1.wr .IDT_CORES 0 (ok.foldl (fun a c => a + 2 ^ c) 0)).stepDone 9

/-! ### Step 10 (R282, R366, R371, R570, R622, R673, R674, R690) -/

/-- Settings of another format are reset to defaults (R690). -/
def State.checkFormat (s : State) : State :=
  if s.sec.settings.isEmpty || s.sec.setFmt == s.runFormat then { s with sec := { s.sec with setFmt := s.runFormat } }
  else
    let old := s.sec.setFmt
    let s1 := { s with sec := { s.sec with settings := [], setFmt := s.runFormat } }
    (s1.sf F.SEC_STAT_SETRESET 0 1).audit { event := 0x0011, old := old, new := s.runFormat, detail := beBytes 4 old }

/-- One sealed setting applied. Calibration is sealed in step 3; FCL_CLS is judged by R622; another illegal value changes nothing. -/
def State.applySetting (s : State) (k : Nat) (v : BitVec 32) : State :=
  match Reg.at k with
  | none => s
  | some (r, i) =>
    let w := (sealedFields r).foldl (fun a f => putBits a f.hi f.lo (bits v.toNat f.hi f.lo)) (s.rr r i)
    if r = .MTR_CAL then s
    else if r = .FCL_CLS then
      let s1 := s.wr r i w
      { s1 with fcl := { s1.fcl with shadow := SMap.put s1.fcl.shadow i (BitVec.ofNat 32 w) } }
    else if s.legal r i w then s.wr r i w else s

/-- FCL_CLS of a line as it is sealed (R622). -/
def State.sealLine (s : State) (n : Nat) : State :=
  let w := s.rr .FCL_CLS n
  let i := bits w 31 30
  let r := bits w 29 28
  let p := bits w 27 26
  if (fclLine n).isSome ∧ !(decide (i ≤ r) && decide (r ≤ p) && s.legal .FCL_CLS n w) then
    let s1 := (s.wr .FCL_CLS n (Reg.rst .FCL_CLS n)).err .fcl .bounds
    { s1 with fcl := { s1.fcl with shadow := SMap.put s1.fcl.shadow n (BitVec.ofNat 32 (Reg.rst .FCL_CLS n)) } }
  else s

/-- A governor's response curve as it is sealed (R366): DF strictly increasing over its first NPTS points. -/
def risingCurve : List (Int × Int) → Bool
  | p :: q :: r => decide (p.1 < q.1) && risingCurve (q :: r)
  | _ => true

def State.sealCurve (s : State) (gb : Bool) : State :=
  if risingCurve (s.frCurve gb) then s
  else (s.setGov gb { s.gov gb with frBad := true }).wr .GOV_ERR (govIx gb) Status.bounds.code

/-- Region `i` as written: base, size and stack mask. -/
def State.rawRegion (s : State) (i : Nat) : Nat × Nat × Nat :=
  (s.f F.MEM_RGN_BASE_BASE i * 2 ^ 30, s.f F.MEM_RGN_SIZE_SIZE i * (3 * 2 ^ 20), s.f F.MEM_RGN_CTL_STACKS i)

/-- The rules of R280, and the equal sums of R282. -/
def State.regionsLegal (s : State) : Bool :=
  let rs := ((List.range 8).map s.rawRegion).filter (fun r => r.2.1 != 0)
  let one := rs.all fun r => [1, 2, 4, 8].contains (popCount 8 r.2.2) && decide (r.1 + r.2.1 ≤ memEnd)
  let apart := (List.range rs.length).all fun i => (List.range i).all fun j =>
    match rs[i]?, rs[j]? with
    | some a, some b => decide (a.1 + a.2.1 ≤ b.1) || decide (b.1 + b.2.1 ≤ a.1)
    | _, _ => true
  let rows (k : Nat) : Nat :=
    rs.foldl (fun n r => if bit r.2.2 k then n + regionRows (r.2.1 / (3 * 2 ^ 20)) r.2.2 else n) 0
  one && apart && (List.range 8).all (fun k => rows k == rows 0)

/-- The region table sealed (R282). -/
def State.sealRegions (s : State) : State :=
  let s1 := s.sf F.MEM_STATUS_SEALED 0 1
  if s.regionsLegal then s1 else (s1.sf F.MEM_STATUS_RGN_STAT 0 Status.bounds.code).raise 7 0 .bounds

/-- A tile that is TESTFAIL in two starts in a row joins the field map (R570). -/
def State.growFieldMap (s : State) : State :=
  let failed := (List.range 768).filter (fun n => s.codeOf n == 3)
  let s1 := failed.foldl (fun a n =>
    if SMap.get (fun _ => false) s.boot.failedBefore n then
      { a with sec := { a.sec with fieldMap := SMap.put a.sec.fieldMap n true } }.audit
        { event := 0x0013, object := n, old := 0, new := 1, detail := beBytes 2 n }
    else a) s
  { s1 with boot := { s1.boot with failedBefore := failed.map (fun n => (n, true)) } }

/-- A governor that passed its self-test claims, and its outputs begin as OST has them (R371, R376). -/
def State.firstClaim (s : State) (gb : Bool) : State :=
  if !(s.gl gb).selfTest then s
  else
    let s1 := (s.wr (claimReg gb) 0 (if gb then 1 else 2)).setGl gb { s.gl gb with valid := true, heartbeat := true }
    (s1.setGovSt gb 2).wr .GOV_ACT (govIx gb) (bits (s.rr .OST_OUT) 31 8 * 2 ^ 8 + s.f F.OST_OUT_GATED)

/-- The claims of R371: GOV-A starts active, or GOV-B when GOV-A failed. -/
def State.firstClaims (s : State) : State :=
  let s1 := (s.firstClaim true).firstClaim false
  let gb := !(s1.gl false).selfTest
  (s1.sf F.OST_STAT_ACTIVE 0 (b2n gb)).setGovSt gb 4

/-- The sealed settings applied, every RWS block sealed, and the settings measured (R674). -/
def State.sealAll (s : State) : State :=
  let s1 := s.checkFormat
  let s2 := s1.sec.settings.foldl (fun a e => a.applySetting e.1 e.2) s1
  let s3 := (List.range 32).foldl (fun a n => a.sealLine n) s2
  let s4 := ((((s3.sealCurve false).sealCurve true).sealRegions).settleChannel).ethRefresh
  s4.extendMeas 7 (sm3 (Config.settingsBytes s4.sec.settings))

/-- IDT_BOOT.STATUS at READY (R574). -/
def State.readyStatus (s : State) : Status :=
  if 720 ≤ s.f F.IDT_TILES_GOOD ∧ s.rr .IDT_CORES = 0xFFFFFFFF ∧ s.f F.IDT_MEMCH_FAILED = 0 ∧ s.f F.MTR_STAT_CALDEF 0 = 0 ∧
      s.f F.MTR_STAT_CALDEF 1 = 0 ∧ (s.gl false).selfTest ∧ (s.gl true).selfTest then .ok
  else .degraded

/-- The counters of the kinds activated since the last READY raised (R689). -/
def State.raiseCounters (s : State) : State :=
  let s1 := s.sec.raise.foldl (fun a k =>
    match SMap.find? a.sec.loaded k with
    | some m => a.raiseSvn k m
    | none => a) s
  { s1 with sec := { s1.sec with raise := [] } }

/-- The boot core: the lowest-numbered working core. -/
def State.lowestCore (s : State) : Option Nat := (List.range 32).find? (fun c => bit (s.rr .IDT_CORES) c)

/-- READY (R563, R574). -/
def State.declareReady (s : State) : State :=
  let s1 := (s.sf F.IDT_BOOT_READY 0 1).sf F.IDT_BOOT_STATUS 0 s.readyStatus.code
  let s2 := (s1.setPair .IDT_READY_T_LO .IDT_READY_T_HI 0 s1.now).announceAll 1
  let s3 := s2.send (.notice 1 0)
  let s4 := { s3 with
    fcl := { s3.fcl with windows := true }
    boot := { s3.boot with
      running := false, bootCore := s3.lowestCore, trainedFull := []
      savedChannels := s3.boot.trainedFull.foldl (fun (m : SMap Bool) (e : Nat × Bool) => SMap.put m e.1 true) s3.boot.savedChannels } }
  let pc := match SMap.find? s4.sec.running 5 with
    | some x => bootPc x.payload.length
    | none => 0
  let s5 := match s4.boot.bootCore with
    | some c => s4.startCore c pc
    | none => s4
  s5.raiseCounters

/-- Step 10. -/
def State.startReady (s : State) : State := ((s.sealAll.growFieldMap.firstClaims).stepDone 10).declareReady

/-! ### The rows -/

/-- The step after the last completed one, carried to its end with the results of its tests. -/
def State.startStep (s : State) (t : StartTests) : State :=
  match s.f F.IDT_BOOT_STEP with
  | 0 => s.startVaux
  | 1 => s.startImages
  | 2 => s.startSupply t
  | 3 => s.startRails
  | 4 => s.startLinks t
  | 5 => s.startMemory t
  | 6 => s.startClear
  | 7 => s.startTiles t
  | 8 => s.startCores t
  | 9 => s.startReady
  | _ => s

/-- The start sequence goes on by one step, unless it is paused. -/
def execStart (tests : StartTests) (s : State) : Host.Outcome State Fault Refusal :=
  .next (if s.boot.running && s.boot.paused.isEmpty then s.startStep tests else s)

/-- 1 ms after the wave before (R567). -/
def execInrushWave (s : State) : Host.Outcome State Fault Refusal :=
  .next (if s.boot.running && s.boot.paused.isEmpty && decide (s.f F.IDT_BOOT_STEP = 7) && decide (0 < s.boot.cluster) &&
    decide (s.boot.cluster < 32) then s.nextWave else s)

/-- Why a pause begins or ends. -/
def pauseCause (heat : Bool) : PauseCause := if heat then .heat else .supply

/-- A pause condition holds during steps 4 to 10 (R568). -/
def execStartPause (heat : Bool) (s : State) : Host.Outcome State Fault Refusal :=
  let c := pauseCause heat
  .next (if s.boot.running && decide (3 ≤ s.f F.IDT_BOOT_STEP) && !s.boot.paused.contains c then
    { s with boot := { s.boot with paused := c :: s.boot.paused } } else s)

/-- A resume condition holds: the sequence goes on when no cause is left (R568). -/
def execStartResume (heat : Bool) (s : State) : Host.Outcome State Fault Refusal :=
  .next { s with boot := { s.boot with paused := s.boot.paused.filter (fun c => decide (c ≠ pauseCause heat)) } }

/-- A step has run past twice its limit (R575). -/
def execStartStepTimeout (s : State) : Host.Outcome State Fault Refusal :=
  .next (if s.boot.running && s.boot.paused.isEmpty then s.startFail .timeout else s)

end Sys2Proof.Machine
end

