-- ==== Sys2Proof/Machine/Thermal.lean ====
section
/-! DEFINITION. The sensors, the thermal caps and the coolant timers (R544 to R555). Temperatures are in 1/16 °C. -/

namespace Sys2Proof.Machine

/-! ### Sensors (R544, R545) -/

def State.sensor (s : State) (j : Nat) : Sensor := SMap.get (fun _ => {}) s.thm.sensors j
def State.setSensor (s : State) (j : Nat) (x : Sensor) : State :=
  { s with thm := { s.thm with sensors := SMap.set (fun _ => {}) s.thm.sensors j x } }

/-- A sensor is failed. -/
def State.sensorFailed (s : State) (j : Nat) : Bool := bit (s.rr .THM_SFAIL (j / 32)) (j % 32)

/-- A bit of THM_EVENT set: 0 THROTTLE, 1 NOFLOW, 2 DISAGREE, 3 SENSFAIL. -/
def State.thmEvent (s : State) (b : Nat) : State := s.wr .THM_EVENT 0 (Nat.lor (s.rr .THM_EVENT) (2 ^ b))

/-- A sensor fails, and stays failed (R545). -/
def State.failSensor (s : State) (j : Nat) : State :=
  if s.sensorFailed j then s
  else ((s.wr .THM_SFAIL (j / 32) (Nat.lor (s.rr .THM_SFAIL (j / 32)) (2 ^ (j % 32)))).bump .THM_SENSFAIL).thmEvent 3

/-- What THM keeps of a sensor after a conversion, its companion then reading `other`. -/
def Sensor.next (x : Sensor) (code other : Int) (now : Nat) : Sensor :=
  if code = x.code then { x with lo := min x.lo other, hi := max x.hi other }
  else { x with code := code, since := now, lo := other, hi := other }

/-- One sensor converted: out of −20 °C to 150 °C, or unchanged for 1 s while its companion, if it has one, moved by 2 K, it fails. -/
def State.convert (s : State) (j : Nat) (code : Int) (other : Option Int) : State :=
  let x := (s.sensor j).next code (other.getD 0) s.now
  let stuck := other.isSome && decide (x.since + 1000000000 ≤ s.now) && decide (x.lo + 32 ≤ x.hi)
  let s1 := s.setSensor j x
  if decide (code < -320) || decide (2400 < code) || stuck then s1.failSensor j else s1

/-- The comparators on a sensor (R553): three conversions in a row at or above the limit, in whole °C, trip the package. -/
def State.compareTrip (s : State) (j : Nat) (code : Int) (limit : Nat) : State :=
  let x := s.sensor j
  if s.sensorFailed j then s.setSensor j { x with trips := 0 }
  else if code < (limit * 16 : Nat) then s.setSensor j { x with trips := 0 }
  else
    let s1 := s.setSensor j { x with trips := min 3 (x.trips + 1) }
    if 2 ≤ x.trips then s1.thermalTrip j else s1

/-! ### Pairs (R546, R547) -/

/-- The last codes of a pair. -/
def State.pairCodes (s : State) (p : Nat) : Int × Int :=
  (toSigned 16 (s.f F.THM_PAIR_S0 p), toSigned 16 (s.f F.THM_PAIR_S1 p))

/-- The reading of a pair by its own valid sensors. -/
def State.pairOwn (s : State) (p : Nat) : Option Int :=
  let c := s.pairCodes p
  match s.sensorFailed (2 * p), s.sensorFailed (2 * p + 1) with
  | false, false => some (max c.1 c.2)
  | true, false => some c.2
  | false, true => some c.1
  | true, true => none

/-- The highest of some readings. -/
def highest : List Int → Option Int
  | [] => none
  | x :: xs => some (xs.foldl max x)

/-- The reading of a pair (R546). -/
def State.pairReading (s : State) (p : Nat) : Int :=
  match s.pairOwn p with
  | some x => x
  | none =>
    match highest (((List.range 36).filter (· != p)).filterMap s.pairOwn) with
    | some x => x + 160
    | none => ((s.f F.THM_LIM_MAX * 16 : Nat) : Int)

/-- A pair has a failed sensor. -/
def State.pairDegraded (s : State) (p : Nat) : Bool := s.sensorFailed (2 * p) || s.sensorFailed (2 * p + 1)

/-- The disagreement of two valid sensors for 100 conversions in a row, counted once in each run. -/
def State.pairDiffer (s : State) (p : Nat) : State :=
  let c := s.pairCodes p
  let n := SMap.get (fun _ => 0) s.thm.differ p
  let apart := !s.pairDegraded p && decide (s.f F.THM_CFG_PAIRD * 16 < (c.1 - c.2).natAbs)
  let m := if apart then min 101 (n + 1) else 0
  let s1 := { s with thm := { s.thm with differ := SMap.set (fun _ => 0) s.thm.differ p m } }
  if n = 99 ∧ m = 100 then (s1.bump .THM_DISAGREE).thmEvent 2 else s1

/-- A conversion of a pair. THM raises its error line when the pair's last valid sensor fails (R546, R606). -/
def State.convertPair (s : State) (p : Nat) (c0 c1 : Int) : State :=
  let s1 := s.wr .THM_PAIR p (ofSigned 16 c1 * 2 ^ 16 + ofSigned 16 c0)
  let s2 := (s1.convert (2 * p) c0 (some c1)).convert (2 * p + 1) c1 (some c0)
  let s3 := if (s.pairOwn p).isSome ∧ (s2.pairOwn p).isNone then s2.raise 15 p .degraded else s2
  let lim := s.f F.THM_TRIP_DIE
  ((s3.pairDiffer p).compareTrip (2 * p) c0 lim).compareTrip (2 * p + 1) c1 lim

/-! ### Stacks -/

/-- The hottest die of some, by place and code. -/
def hottest : List (Nat × Int) → Option (Nat × Int)
  | [] => none
  | x :: xs => some (xs.foldl (fun a y => if a.2 < y.2 then y else a) x)

/-- A conversion of a stack's dies: with 3 or more failed its temperature is no less than 95 °C. With none valid no rule names the hottest. -/
def State.convertStack (s : State) (k : Nat) (dies : List Int) : State :=
  let cs := (List.range 17).map (fun d => (d, dies.getD d 0))
  let top := (highest (cs.map (·.2))).getD 0
  let j := fun d => 72 + 17 * k + d
  let s1 := cs.foldl (fun a c => a.convert (j c.1) c.2 (some top)) s
  let fails := (cs.filter (fun c => s1.sensorFailed (j c.1))).length
  let s2 := s1.sf F.THM_STK_FAILS k fails
  let s3 := match hottest (cs.filter (fun c => !s1.sensorFailed (j c.1))) with
    | some (d, t) => (s2.sf F.THM_STK_DIE k d).sf F.THM_STK_TEMP k (ofSigned 16 (if 3 ≤ fails then max t 1520 else t))
    | none => (s2.take.sf F.THM_STK_DIE k (Config.openValue s2.free % 17)).sf F.THM_STK_TEMP k 1520
  cs.foldl (fun a c => a.compareTrip (j c.1) c.2 (s.f F.THM_TRIP_STACK)) s3

/-- A conversion (R544 to R547, R553 to R555). -/
def execThmConversion (c : Conversion) (s : State) : Host.Outcome State Fault Refusal :=
  match c with
  | .pair p s0 s1 => .next (s.convertPair p s0 s1)
  | .stack k dies => .next (s.convertStack k dies)
  | .steward code =>
    .next (((s.sf F.THM_STEW_TEMP 0 (ofSigned 16 code)).convert 208 code none).compareTrip 208 code (s.f F.THM_TRIP_STEWARD))
  | .engine k code =>
    .next (((s.sf F.THM_OE_TEMP k (ofSigned 16 code)).convert (209 + k.val) code none).compareTrip (209 + k.val) code (s.f F.THM_TRIP_OE))

/-! ### The caps (R548) -/

/-- The pair with the hottest reading, and that reading, Th. -/
def State.hottestPair (s : State) : Nat × Int :=
  (hottest ((List.range 36).map (fun p => (p, s.pairReading p)))).getD (0, 0)

/-- CAP_DIE in W. -/
def State.capDie (s : State) (th : Int) : Nat :=
  let mx := s.f F.THM_LIM_MAX
  let lo := s.f F.THM_LIM_THROT
  (clampInt (s.rated * ((mx * 16 : Nat) - th) / (16 * ((mx : Int) - lo))) 0 s.rated).toNat

/-- CAP_COOL in W, cut to a whole watt (log 25): the flow against the nominal flow, and the inlet above 40 °C, while COOLANT is in force. -/
def State.capCool (s : State) : Nat :=
  match s.thm.coolant with
  | none => s.rated
  | some c =>
    if c.cflags.getLsbD 0 then 0
    else
      let nom := s.f F.THM_CFG_NOMFLOW * 100
      let warm := (clampInt (50000 - toSigned 32 (s.rr .THM_INLET)) 0 10000).toNat
      s.rated * min (s.rr .THM_FLOW) nom * warm / (nom * 10000)

/-- The coolest cluster of a partition with 4 IDLE tiles (THM_HINT), by heat index. -/
def State.hint (s : State) (n : Nat) : Nat :=
  let roomy := ((List.range 8).map (fun m => 8 * n + m)).filter (fun g =>
    decide (4 ≤ (((List.range 24).map (fun j => 24 * g + j)).filter (fun t => s.tileState t == .idle)).length))
  match roomy with
  | [] => 0xFF
  | g :: gs => gs.foldl (fun a b => if s.f F.THM_HEAT_HEAT b < s.f F.THM_HEAT_HEAT a then b else a) g

/-- Every 10 µs: the caps, Th and its status, the heat indices and the hints. -/
def execThmCapUpdate (s : State) : Host.Outcome State Fault Refusal :=
  let h := s.hottestPair
  let die := s.capDie h.2
  let s1 := (s.sf F.THM_STAT_TH 0 (ofSigned 16 h.2)).sf F.THM_STAT_STATUS 0
    (if s.pairDegraded h.1 then Status.degraded.code else Status.ok.code)
  let s2 := if die < s.rated ∧ s.rated ≤ s.f F.THM_CAP_CAP_DIE then s1.thmEvent 0 else s1
  let s3 := (s2.sf F.THM_CAP_CAP_DIE 0 die).sf F.THM_CAP_CAP_COOL 0 s.capCool
  let s4 := (List.range 32).foldl (fun a g => a.sf F.THM_HEAT_HEAT g (Config.heat s.free g).toNat) s3.take
  .next ((List.range 4).foldl (fun a n => a.wr .THM_HINT 0 (putBits (a.rr .THM_HINT) (8 * n + 7) (8 * n) (s4.hint n))) s4)

/-- MEAS_T passes its age limit (R551). -/
def execCoolantStale (s : State) : Host.Outcome State Fault Refusal :=
  if s.thm.coolant.isNone then .next s else .next (s.coolantExpired.sf F.THM_CAP_CAP_COOL 0 s.rated)

/-- NOFLOW seconds without a clearing message (R552). -/
def execNoflowTimeout (s : State) : Host.Outcome State Fault Refusal := .next (if s.thm.noflow then s.orderedShutdown 3 else s)

end Sys2Proof.Machine
end

