-- ==== Sys2Proof/Machine/Trust.lean ====
section
/-! DEFINITION. The messages and events of spec/21: sessions, attestation, settings, the journal, images and activation. -/

namespace Sys2Proof.Machine

/-! ### Sessions -/

/-- OPEN (R669, R670). -/
def execSessionOpen (peer : Nat) (msg : List Byte) (s : State) : Host.Outcome State Fault Refusal := .next (s.openMessage peer msg)

/-- CONFIRM (R669 to R671). -/
def execSessionConfirm (peer : Nat) (msg : List Byte) (s : State) : Host.Outcome State Fault Refusal := .next (s.confirmMessage peer msg)

/-- CLOSE (R671). -/
def execSessionClose (peer : Nat) (msg : List Byte) (s : State) : Host.Outcome State Fault Refusal :=
  .next (s.serve peer msg 0x13 44 (fun _ => []) fun a x => done (a.closeSession x))

/-- 600 s without an accepted message (R671). -/
def execSessionTimeout (peer : Nat) (s : State) : Host.Outcome State Fault Refusal := .next (s.closePeer peer)

/-! ### Requests -/

/-- ATTEST (R673, R675), inside a session or outside. -/
def execAttest (peer : Nat) (msg : List Byte) (s : State) : Host.Outcome State Fault Refusal :=
  if (s.sessionOf peer).isSome then
    .next (s.serve peer msg 0x20 76 (fun _ => []) fun a _ => (a, .ok, a.reportBody (slice msg 24 32)))
  else if !s.mgmtUp || !msgCrcOk msg || msgType msg != 0x20 then .next s
  else .next (s.attestOutside peer msg)

/-- SETTING (R673, R691). -/
def execSetting (peer : Nat) (msg : List Byte) (s : State) : Host.Outcome State Fault Refusal :=
  let addr := beAt msg 24 4
  .next (s.serve peer msg 0x21 52
    (fun x => registerRules sealedFields x.role addr ++ [(s.loaderMode, .denied), (s.maintBusy x, .busy)])
    fun a x => done (a.storeSetting x addr (beAt msg 28 4)))

/-- FULLTRAIN (R562, R673): full memory training at the next start. -/
def execFulltrain (peer : Nat) (msg : List Byte) (s : State) : Host.Outcome State Fault Refusal :=
  .next (s.serve peer msg 0x22 44
    (fun x => [(decide (x.role ≠ .installer) || s.loaderMode, .denied), (s.maintBusy x, .busy)])
    fun a x =>
      let b := a.takeLock x
      done ({ b with sec := { b.sec with fullTrain := true } }.audit { event := 0x0012, role := some x.role, actor := x.actor }))

/-- JOURNAL_READ (R677). -/
def execJournalRead (peer : Nat) (msg : List Byte) (s : State) : Host.Outcome State Fault Refusal :=
  let start := beAt msg 24 8
  let n := beAt msg 32 1
  let tail := s.pair .JNL_TAIL_LO .JNL_TAIL_HI
  .next (s.serve peer msg 0x23 53
    (fun x => [(decide (x.role ≠ .installer) || s.loaderMode, .denied), (n != 0 && decide (start < tail), .stale),
      (decide (32 < n) || (n != 0 && decide (s.pair .JNL_HEAD_LO .JNL_HEAD_HI < start + n)), .bounds)])
    fun a _ => (a, .ok, (slice a.journal.entries.reverse (start - tail) n).flatten))

/-- REGWRITE (R673). A write that starts an acceptance run is maintenance (R691). -/
def execRegwrite (peer : Nat) (msg : List Byte) (s : State) : Host.Outcome State Fault Refusal :=
  let addr := beAt msg 24 4
  let v := beAt msg 28 4
  let run := registerAt addr == some (.MTR_ACC_CTL, 0) && bit v 31
  .next (s.serve peer msg 0x24 52
    (fun x => registerRules liveFields x.role addr ++ [(s.loaderMode, .denied), (run && s.maintBusy x, .busy)])
    fun a x => a.liveWrite x addr v)

/-- FIELDCLR (R570, R667): a tile's entry leaves the field map. -/
def execFieldclr (peer : Nat) (msg : List Byte) (s : State) : Host.Outcome State Fault Refusal :=
  let t := beAt msg 24 2
  .next (s.serve peer msg 0x25 46
    (fun x => [(decide (x.role ≠ .maker) || s.loaderMode, .denied), (decide (767 < t), .bounds), (s.maintBusy x, .busy)])
    fun a x =>
      let b := a.takeLock x
      let old := SMap.get (fun _ => false) b.sec.fieldMap t
      done ({ b with sec := { b.sec with fieldMap := SMap.del b.sec.fieldMap t } }.audit
        { event := 0x0013, role := some x.role, actor := x.actor, object := t, old := b2n old, detail := beBytes 2 t }))

/-! ### Images -/

/-- IMAGE_BEGIN (R680). The loader takes STEWARD alone (R684). -/
def execImageBegin (peer : Nat) (msg : List Byte) (s : State) : Host.Outcome State Fault Refusal :=
  let m := slice msg 24 256
  .next (s.serve peer msg 0x30 300
    (fun x => [(!kindOpen x.role (manKind m) || (s.loaderMode && manKind m != 0), .denied), (s.maintBusy x, .busy)] ++ s.manifestRules m)
    fun a x => done (if manLength m = 0 then a else a.beginImage x m))

/-- IMAGE_CHUNK (R681). -/
def execImageChunk (peer : Nat) (msg : List Byte) (s : State) : Host.Outcome State Fault Refusal :=
  let off := beAt msg 24 4
  let n := beAt msg 28 2
  let got := s.received
  .next (s.serve peer msg 0x31 (52 + n)
    (fun x => [(decide (x.role = .operator), .denied), (s.stagingBusy x, .busy), (decide (4096 < n) || !zeros msg 30 2, .bounds),
      (n != 0 && decide (got.1 < off + n) && (decide (got.1 < off) || decide (got.2 < off + n)), .bounds)])
    fun a _ => done (if off + n ≤ got.1 ∨ n = 0 then a else a.takeChunk off (slice msg 32 n)))

/-- IMAGE_END (R682). -/
def execImageEnd (peer : Nat) (msg : List Byte) (s : State) : Host.Outcome State Fault Refusal :=
  .next (s.serve peer msg 0x32 44
    (fun x => [(decide (x.role = .operator), .denied), (s.stagingBusy x, .busy),
      (s.arriving.isNone || decide (s.received.1 < s.received.2), .bounds)])
    fun a x => a.finishImage x)

/-- ACTIVATE (R685, R686): the ANSWER tells that it was accepted, and SEC_STAT.ACT how it ended. -/
def execActivate (peer : Nat) (msg : List Byte) (s : State) : Host.Outcome State Fault Refusal :=
  let w := beAt msg 24 1
  let fl := beAt msg 25 1
  let m := s.mode s.activeB
  let govBusy := bit w 1 && (!s.qualified (!s.activeB) || m == 2 || m == 4)
  .next (s.serve peer msg 0x33 46
    (fun x => [(!(kindsOf w).all (kindOpen x.role) || (s.loaderMode && w != 1), .denied),
      (w == 0 || bit w 7 || !(kindsOf w).all s.staged || decide (1 < fl), .bounds), (s.maintBusy x || govBusy, .busy)])
    fun a x => done (a.startActivation x w (fl == 1)))

/-- ABORT (R682, R692). -/
def execImageAbort (peer : Nat) (msg : List Byte) (s : State) : Host.Outcome State Fault Refusal :=
  .next (s.serve peer msg 0x34 44
    (fun x => [(decide (x.role = .operator) || s.loaderMode, .denied), (s.stagingBusy x, .busy)])
    fun a x => done (a.abortImages x))

/-! ### Activation of GOV and of STEWARD (R687, R688) -/

/-- Step 4 of R687: the running slot is written, the counter raised, and the kinds left follow. -/
def State.finishGov (s : State) (a : Activation) : State :=
  match SMap.find? s.sec.staging 1 with
  | none => s
  | some x =>
    let s1 := s.writeRunning 1
    let s2 := { s1 with sec := { s1.sec with
      raise := s1.sec.raise.filter (· != 1), loaded := SMap.put s1.sec.loaded 1 x.manifest } }
    let b := { a with govStep := 0, hadA := false, hadB := false }
    ((s2.raiseSvn 1 x.manifest).setActivation b).activateFrom b b.kinds

/-- A reloaded governor is qualified: SWAP after step 1, the running slot after step 3. -/
def execGovActivationStep (s : State) : Host.Outcome State Fault Refusal :=
  match s.sec.activation with
  | none => .next s
  | some a =>
    if !s.qualified (!s.activeB) then .next s
    else if a.govStep = 1 then
      let t := s.ostCmdWrite 0x100
      .next (if t.ost.swapDue then { t with resp := s.resp }.setActivation { a with govStep := 2 } else s)
    else if a.govStep = 3 then .next (s.finishGov a)
    else .next s

/-- 30 s without qualification: the governors return to the running slot's image. -/
def execGovActivationTimeout (s : State) : Host.Outcome State Fault Refusal :=
  match s.sec.activation with
  | none => .next s
  | some a => .next (if (a.govStep = 1 ∨ a.govStep = 3) ∧ !s.qualified (!s.activeB) then s.failGov a else s)

/-- The steward restarts into the new firmware (R688): every session closes, the loader copies the image and measures it, and nothing else
of the package is touched. -/
def execStewardRestart (s : State) : Host.Outcome State Fault Refusal :=
  match s.sec.activation, SMap.find? s.sec.staging 0 with
  | some a, some x =>
    if !s.sec.restartDue then .next s
    else
      let s1 := s.sec.sessions.foldl (fun b y => b.closeSession y) s
      let s2 := s1.writeRunning 0
      let s3 := { s2 with sec := { s2.sec with shakes := [], sram := [], loaded := SMap.put s2.sec.loaded 0 x.manifest } }
      let s4 := (s3.extendMeas 0 (manDigest x.manifest)).wr .IDT_FW 0 (manVersion x.manifest)
      .next (s4.finishActivation a)
  | _, _ => .next s

end Sys2Proof.Machine
end

