-- ==== Sys2Proof/Machine/Dispatch.lean ====
section
/-! DEFINITION. The commands and their meanings: one arm per constructor of Instr, each one call of its meaning. -/

namespace Sys2Proof.Machine

def exec (i : Instr) (s : State) : Host.Outcome State Fault Refusal :=
  match i with
  | .registerWrite rq addr size value => Sys2Proof.Machine.execRegisterWrite rq addr size value s
  | .counterReadClear rq addr size => Sys2Proof.Machine.execCounterReadClear rq addr size s
  | .pairLowRead rq addr size => Sys2Proof.Machine.execPairLowRead rq addr size s
  | .pairLowWrite rq addr size value => Sys2Proof.Machine.execPairLowWrite rq addr size value s
  | .pairHighWrite rq addr size value => Sys2Proof.Machine.execPairHighWrite rq addr size value s
  | .tmbTodArm rq high => Sys2Proof.Machine.execTmbTodArm rq high s
  | .ppsEdge => Sys2Proof.Machine.execPpsEdge s
  | .ppsMiss => Sys2Proof.Machine.execPpsMiss s
  | .refclkLoss => Sys2Proof.Machine.execRefclkLoss s
  | .refclkRestore => Sys2Proof.Machine.execRefclkRestore s
  | .cvnOpen op x => Sys2Proof.Machine.execCvnOpen op x s
  | .cvnStart op => Sys2Proof.Machine.execCvnStart op s
  | .cvnPush op x => Sys2Proof.Machine.execCvnPush op x s
  | .cvnPause op => Sys2Proof.Machine.execCvnPause op s
  | .cvnAbort op => Sys2Proof.Machine.execCvnAbort op s
  | .cvnClose op => Sys2Proof.Machine.execCvnClose op s
  | .cvnStat op => Sys2Proof.Machine.execCvnStat op s
  | .cvnWait op => Sys2Proof.Machine.execCvnWait op s
  | .cvnWaitTimeout core => Sys2Proof.Machine.execCvnWaitTimeout core s
  | .cvnToll op => Sys2Proof.Machine.execCvnToll op s
  | .cvnCad op => Sys2Proof.Machine.execCvnCad op s
  | .stationLoadDone slot => Sys2Proof.Machine.execStationLoadDone slot s
  | .stationLoadFault slot => Sys2Proof.Machine.execStationLoadFault slot s
  | .abortDone slot => Sys2Proof.Machine.execAbortDone slot s
  | .seqAdmit slot timeout => Sys2Proof.Machine.execSeqAdmit slot timeout s
  | .cadenceRelease slot => Sys2Proof.Machine.execCadenceRelease slot s
  | .latePeriod slot => Sys2Proof.Machine.execLatePeriod slot s
  | .baleArrive tile => Sys2Proof.Machine.execBaleArrive tile s
  | .completionResume slot => Sys2Proof.Machine.execCompletionResume slot s
  | .cvnSlotRingRdWrite rq slot value => Sys2Proof.Machine.execCvnSlotRingRdWrite rq slot value s
  | .cvnSlotThreshWrite rq slot value => Sys2Proof.Machine.execCvnSlotThreshWrite rq slot value s
  | .foRegisterWrite rq tile offset value => Sys2Proof.Machine.execFoRegisterWrite rq tile offset value s
  | .scAdd tile op => Sys2Proof.Machine.execScAdd tile op s
  | .scSub tile op => Sys2Proof.Machine.execScSub tile op s
  | .scAnd tile op => Sys2Proof.Machine.execScAnd tile op s
  | .scOr tile op => Sys2Proof.Machine.execScOr tile op s
  | .scXor tile op => Sys2Proof.Machine.execScXor tile op s
  | .scSll tile op => Sys2Proof.Machine.execScSll tile op s
  | .scSrl tile op => Sys2Proof.Machine.execScSrl tile op s
  | .scSra tile op => Sys2Proof.Machine.execScSra tile op s
  | .scMul tile op => Sys2Proof.Machine.execScMul tile op s
  | .scMulh tile op => Sys2Proof.Machine.execScMulh tile op s
  | .scDiv tile op => Sys2Proof.Machine.execScDiv tile op s
  | .scRem tile op => Sys2Proof.Machine.execScRem tile op s
  | .scSlt tile op => Sys2Proof.Machine.execScSlt tile op s
  | .scSltu tile op => Sys2Proof.Machine.execScSltu tile op s
  | .scMin tile op => Sys2Proof.Machine.execScMin tile op s
  | .scMax tile op => Sys2Proof.Machine.execScMax tile op s
  | .scAddi tile op => Sys2Proof.Machine.execScAddi tile op s
  | .scAndi tile op => Sys2Proof.Machine.execScAndi tile op s
  | .scOri tile op => Sys2Proof.Machine.execScOri tile op s
  | .scXori tile op => Sys2Proof.Machine.execScXori tile op s
  | .scSlli tile op => Sys2Proof.Machine.execScSlli tile op s
  | .scSrli tile op => Sys2Proof.Machine.execScSrli tile op s
  | .scSrai tile op => Sys2Proof.Machine.execScSrai tile op s
  | .scSlti tile op => Sys2Proof.Machine.execScSlti tile op s
  | .scLi tile op => Sys2Proof.Machine.execScLi tile op s
  | .scLih tile op => Sys2Proof.Machine.execScLih tile op s
  | .scLd tile op => Sys2Proof.Machine.execScLd tile op s
  | .scSt tile op => Sys2Proof.Machine.execScSt tile op s
  | .scTr tile op => Sys2Proof.Machine.execScTr tile op s
  | .scTw tile op => Sys2Proof.Machine.execScTw tile op s
  | .ctBr tile op => Sys2Proof.Machine.execCtBr tile op s
  | .ctJal tile op => Sys2Proof.Machine.execCtJal tile op s
  | .ctJr tile op => Sys2Proof.Machine.execCtJr tile op s
  | .ctFence tile op => Sys2Proof.Machine.execCtFence tile op s
  | .ctNop tile op => Sys2Proof.Machine.execCtNop tile op s
  | .vAdd tile op => Sys2Proof.Machine.execVAdd tile op s
  | .vSub tile op => Sys2Proof.Machine.execVSub tile op s
  | .vMul tile op => Sys2Proof.Machine.execVMul tile op s
  | .vFma tile op => Sys2Proof.Machine.execVFma tile op s
  | .vMin tile op => Sys2Proof.Machine.execVMin tile op s
  | .vMax tile op => Sys2Proof.Machine.execVMax tile op s
  | .vAnd tile op => Sys2Proof.Machine.execVAnd tile op s
  | .vOr tile op => Sys2Proof.Machine.execVOr tile op s
  | .vXor tile op => Sys2Proof.Machine.execVXor tile op s
  | .vShl tile op => Sys2Proof.Machine.execVShl tile op s
  | .vCmp tile op => Sys2Proof.Machine.execVCmp tile op s
  | .vSel tile op => Sys2Proof.Machine.execVSel tile op s
  | .vCvt tile op => Sys2Proof.Machine.execVCvt tile op s
  | .vRed tile op => Sys2Proof.Machine.execVRed tile op s
  | .vSpec tile op => Sys2Proof.Machine.execVSpec tile op s
  | .vLd tile op => Sys2Proof.Machine.execVLd tile op s
  | .vSt tile op => Sys2Proof.Machine.execVSt tile op s
  | .vGath tile op => Sys2Proof.Machine.execVGath tile op s
  | .vScat tile op => Sys2Proof.Machine.execVScat tile op s
  | .vBcast tile op => Sys2Proof.Machine.execVBcast tile op s
  | .vGet tile op => Sys2Proof.Machine.execVGet tile op s
  | .vPut tile op => Sys2Proof.Machine.execVPut tile op s
  | .vPerm tile op => Sys2Proof.Machine.execVPerm tile op s
  | .pMov tile op => Sys2Proof.Machine.execPMov tile op s
  | .pGet tile op => Sys2Proof.Machine.execPGet tile op s
  | .pOp tile op => Sys2Proof.Machine.execPOp tile op s
  | .pCnt tile op => Sys2Proof.Machine.execPCnt tile op s
  | .mxMac tile op => Sys2Proof.Machine.execMxMac tile op s
  | .mxMacs tile op => Sys2Proof.Machine.execMxMacs tile op s
  | .mxDrain tile op => Sys2Proof.Machine.execMxDrain tile op s
  | .mxLoad tile op => Sys2Proof.Machine.execMxLoad tile op s
  | .mxZero tile op => Sys2Proof.Machine.execMxZero tile op s
  | .mxWait tile op => Sys2Proof.Machine.execMxWait tile op s
  | .mxOpComplete tile drainPath => Sys2Proof.Machine.execMxOpComplete tile drainPath s
  | .mvGet tile op => Sys2Proof.Machine.execMvGet tile op s
  | .mvPut tile op => Sys2Proof.Machine.execMvPut tile op s
  | .mvWait tile op => Sys2Proof.Machine.execMvWait tile op s
  | .mvPoll tile op => Sys2Proof.Machine.execMvPoll tile op s
  | .mvComplete tile tag timeout => Sys2Proof.Machine.execMvComplete tile tag timeout s
  | .wbPost tile op => Sys2Proof.Machine.execWbPost tile op s
  | .wbTake tile op => Sys2Proof.Machine.execWbTake tile op s
  | .wbGet tile op => Sys2Proof.Machine.execWbGet tile op s
  | .wbSet tile op => Sys2Proof.Machine.execWbSet tile op s
  | .wbSend tile op => Sys2Proof.Machine.execWbSend tile op s
  | .wbRetire tile op => Sys2Proof.Machine.execWbRetire tile op s
  | .wbCount tile op => Sys2Proof.Machine.execWbCount tile op s
  | .evWait tile op => Sys2Proof.Machine.execEvWait tile op s
  | .evClr tile op => Sys2Proof.Machine.execEvClr tile op s
  | .evNote tile op => Sys2Proof.Machine.execEvNote tile op s
  | .evTime tile op => Sys2Proof.Machine.execEvTime tile op s
  | .evTimer tile op => Sys2Proof.Machine.execEvTimer tile op s
  | .mwBurn tile op => Sys2Proof.Machine.execMwBurn tile op s
  | .tileWaitRelease tile => Sys2Proof.Machine.execTileWaitRelease tile s
  | .tileTimerFire tile => Sys2Proof.Machine.execTileTimerFire tile s
  | .tileNoteWrite rq tile value => Sys2Proof.Machine.execTileNoteWrite rq tile value s
  | .tileSeedHiWrite rq tile value => Sys2Proof.Machine.execTileSeedHiWrite rq tile value s
  | .coreWindowAccess rq addr size write flip => Sys2Proof.Machine.execCoreWindowAccess rq addr size write flip s
  | .patrolScrubLine line flip => Sys2Proof.Machine.execPatrolScrubLine line flip s
  | .channelFail channel => Sys2Proof.Machine.execChannelFail channel s
  | .stackBandUpdate stack => Sys2Proof.Machine.execStackBandUpdate stack s
  | .stackSelfrefWake stack => Sys2Proof.Machine.execStackSelfrefWake stack s
  | .meterSample mb icode vcode temp => Sys2Proof.Machine.execMeterSample mb icode vcode temp s
  | .meterReading mb => Sys2Proof.Machine.execMeterReading mb s
  | .meterSelfcheck mb refCode offsetNa => Sys2Proof.Machine.execMeterSelfcheck mb refCode offsetNa s
  | .meterWarmupEnd mb => Sys2Proof.Machine.execMeterWarmupEnd mb s
  | .meterSnapshot mb => Sys2Proof.Machine.execMeterSnapshot mb s
  | .mtrSnapSeqRead rq ch => Sys2Proof.Machine.execMtrSnapSeqRead rq ch s
  | .mtrPRead rq mb => Sys2Proof.Machine.execMtrPRead rq mb s
  | .elifeSave => Sys2Proof.Machine.execElifeSave s
  | .crossCheckWindow => Sys2Proof.Machine.execCrossCheckWindow s
  | .accRunStart rq value => Sys2Proof.Machine.execAccRunStart rq value s
  | .accRunBegin => Sys2Proof.Machine.execAccRunBegin s
  | .accRunEnd => Sys2Proof.Machine.execAccRunEnd s
  | .controlPeriod gb => Sys2Proof.Machine.execControlPeriod gb s
  | .floorRecompute => Sys2Proof.Machine.execFloorRecompute s
  | .partitionGateDone p => Sys2Proof.Machine.execPartitionGateDone p s
  | .budgetMessage peer msg => Sys2Proof.Machine.execBudgetMessage peer msg s
  | .gridMessage peer msg => Sys2Proof.Machine.execGridMessage peer msg s
  | .coolantMessage peer msg => Sys2Proof.Machine.execCoolantMessage peer msg s
  | .holdExpiry gb => Sys2Proof.Machine.execHoldExpiry gb s
  | .frStale gb => Sys2Proof.Machine.execFrStale gb s
  | .vcoreDroop gb => Sys2Proof.Machine.execVcoreDroop gb s
  | .droopResume gb => Sys2Proof.Machine.execDroopResume gb s
  | .supplyDip gb => Sys2Proof.Machine.execSupplyDip gb s
  | .dipRecover gb => Sys2Proof.Machine.execDipRecover gb s
  | .supplyLowShutdown gb => Sys2Proof.Machine.execSupplyLowShutdown gb s
  | .supplyHighShutdown gb => Sys2Proof.Machine.execSupplyHighShutdown gb s
  | .heartbeatStop gb => Sys2Proof.Machine.execHeartbeatStop gb s
  | .claimLapse gb => Sys2Proof.Machine.execClaimLapse gb s
  | .claimWrite gb => Sys2Proof.Machine.execClaimWrite gb s
  | .ostCommand gb out => Sys2Proof.Machine.execOstCommand gb out s
  | .switchOver => Sys2Proof.Machine.execSwitchOver s
  | .orphanEntry => Sys2Proof.Machine.execOrphanEntry s
  | .orphanTimeout => Sys2Proof.Machine.execOrphanTimeout s
  | .mirrorFrame gb frame => Sys2Proof.Machine.execMirrorFrame gb frame s
  | .mirrorLost gb => Sys2Proof.Machine.execMirrorLost gb s
  | .trajectoryFrame gb frame => Sys2Proof.Machine.execTrajectoryFrame gb frame s
  | .ostSwap rq => Sys2Proof.Machine.execOstSwap rq s
  | .ostResetA rq => Sys2Proof.Machine.execOstResetA rq s
  | .ostResetB rq => Sys2Proof.Machine.execOstResetB rq s
  | .govRestartDone gb pass => Sys2Proof.Machine.execGovRestartDone gb pass s
  | .lapsedGovReset gb => Sys2Proof.Machine.execLapsedGovReset gb s
  | .govRevert => Sys2Proof.Machine.execGovRevert s
  | .lightDetect port lanes => Sys2Proof.Machine.execLightDetect port lanes s
  | .trainDone port => Sys2Proof.Machine.execTrainDone port s
  | .linkCheckDone port errors peerPass => Sys2Proof.Machine.execLinkCheckDone port errors peerPass s
  | .certRx port msg => Sys2Proof.Machine.execCertRx port msg s
  | .helloTx port => Sys2Proof.Machine.execHelloTx port s
  | .helloRx port msg => Sys2Proof.Machine.execHelloRx port msg s
  | .helloTimeout port => Sys2Proof.Machine.execHelloTimeout port s
  | .rehelloStart port => Sys2Proof.Machine.execRehelloStart port s
  | .rehelloTimeout port => Sys2Proof.Machine.execRehelloTimeout port s
  | .lightLoss port lanes => Sys2Proof.Machine.execLightLoss port lanes s
  | .goodbyeRx port => Sys2Proof.Machine.execGoodbyeRx port s
  | .uncorrectableCodeword port => Sys2Proof.Machine.execUncorrectableCodeword port s
  | .resendRequest port seq => Sys2Proof.Machine.execResendRequest port seq s
  | .linkAck port seq => Sys2Proof.Machine.execLinkAck port seq s
  | .fptAdminDown rq port => Sys2Proof.Machine.execFptAdminDown rq port s
  | .adminDrainEnd port => Sys2Proof.Machine.execAdminDrainEnd port s
  | .fptAdminUp rq port => Sys2Proof.Machine.execFptAdminUp rq port s
  | .fptRetrain rq port => Sys2Proof.Machine.execFptRetrain rq port s
  | .fptMapWrite rq port value => Sys2Proof.Machine.execFptMapWrite rq port value s
  | .fptCoordWrite rq value => Sys2Proof.Machine.execFptCoordWrite rq value s
  | .fptMachineWrite rq value => Sys2Proof.Machine.execFptMachineWrite rq value s
  | .fptTwistWrite rq dim value => Sys2Proof.Machine.execFptTwistWrite rq dim value s
  | .laneAudit port errors bits uncorr peerPass => Sys2Proof.Machine.execLaneAudit port errors bits uncorr peerPass s
  | .widthRx port mask => Sys2Proof.Machine.execWidthRx port mask s
  | .takeoverRx port => Sys2Proof.Machine.execTakeoverRx port s
  | .takeoverAckRx port => Sys2Proof.Machine.execTakeoverAckRx port s
  | .takeoverTimeout port => Sys2Proof.Machine.execTakeoverTimeout port s
  | .sqProducerWrite q value => Sys2Proof.Machine.execSqProducerWrite q value s
  | .sqDescriptor q rnd escape => Sys2Proof.Machine.execSqDescriptor q rnd escape s
  | .frameRx port frame escape => Sys2Proof.Machine.execFrameRx port frame escape s
  | .cmapPeriod levels => Sys2Proof.Machine.execCmapPeriod levels s
  | .frtAvoidWrite rq value => Sys2Proof.Machine.execFrtAvoidWrite rq value s
  | .sqSliceWrite rq q value => Sys2Proof.Machine.execSqSliceWrite rq q value s
  | .sqEnable rq q => Sys2Proof.Machine.execSqEnable rq q s
  | .rqEnable rq q => Sys2Proof.Machine.execRqEnable rq q s
  | .mgEnable rq g => Sys2Proof.Machine.execMgEnable rq g s
  | .mgDisable rq g => Sys2Proof.Machine.execMgDisable rq g s
  | .musterEnter g line => Sys2Proof.Machine.execMusterEnter g line s
  | .musterReadyWord g word => Sys2Proof.Machine.execMusterReadyWord g word s
  | .musterDoneWord g word => Sys2Proof.Machine.execMusterDoneWord g word s
  | .musterAbortWord g word => Sys2Proof.Machine.execMusterAbortWord g word s
  | .musterArrive m => Sys2Proof.Machine.execMusterArrive m s
  | .musterGo m => Sys2Proof.Machine.execMusterGo m s
  | .musterReady m => Sys2Proof.Machine.execMusterReady m s
  | .musterGo2 m => Sys2Proof.Machine.execMusterGo2 m s
  | .musterDone m => Sys2Proof.Machine.execMusterDone m s
  | .musterDecide m => Sys2Proof.Machine.execMusterDecide m s
  | .musterAbortReq m => Sys2Proof.Machine.execMusterAbortReq m s
  | .musterQuery m => Sys2Proof.Machine.execMusterQuery m s
  | .leaderDeadline g => Sys2Proof.Machine.execLeaderDeadline g s
  | .musterQueryTimer g => Sys2Proof.Machine.execMusterQueryTimer g s
  | .musterGraceExpiry g => Sys2Proof.Machine.execMusterGraceExpiry g s
  | .musterNotice n => Sys2Proof.Machine.execMusterNotice n s
  | .icSourceChange cache => Sys2Proof.Machine.execIcSourceChange cache s
  | .icClaimRead rq bank => Sys2Proof.Machine.execIcClaimRead rq bank s
  | .icClaimWrite rq bank value => Sys2Proof.Machine.execIcClaimWrite rq bank value s
  | .icSvcWrite rq bank value => Sys2Proof.Machine.execIcSvcWrite rq bank value s
  | .machineExternalInterrupt core => Sys2Proof.Machine.execMachineExternalInterrupt core s
  | .moderationEnd core => Sys2Proof.Machine.execModerationEnd core s
  | .coreIdle core => Sys2Proof.Machine.execCoreIdle core s
  | .timerCompare core => Sys2Proof.Machine.execTimerCompare core s
  | .ethLinkUp port phy => Sys2Proof.Machine.execEthLinkUp port phy s
  | .ethLinkDown port rawLost => Sys2Proof.Machine.execEthLinkDown port rawLost s
  | .ethLacpMember port => Sys2Proof.Machine.execEthLacpMember port s
  | .ethLacpTimeout port => Sys2Proof.Machine.execEthLacpTimeout port s
  | .ethFrameRx port frame => Sys2Proof.Machine.execEthFrameRx port frame s
  | .ethHostExpire net entry => Sys2Proof.Machine.execEthHostExpire net entry s
  | .ethWorkProducer q recv value => Sys2Proof.Machine.execEthWorkProducer q recv value s
  | .ethWorkEntry q => Sys2Proof.Machine.execEthWorkEntry q s
  | .ethAckTimeout q => Sys2Proof.Machine.execEthAckTimeout q s
  | .ethNetFailover net => Sys2Proof.Machine.execEthNetFailover net s
  | .ethQpEnable rq q => Sys2Proof.Machine.execEthQpEnable rq q s
  | .ethQpDisable rq q => Sys2Proof.Machine.execEthQpDisable rq q s
  | .ethQpMigrate rq q => Sys2Proof.Machine.execEthQpMigrate rq q s
  | .ethAnnounce net => Sys2Proof.Machine.execEthAnnounce net s
  | .ethRetrain rq port => Sys2Proof.Machine.execEthRetrain rq port s
  | .thmConversion c => Sys2Proof.Machine.execThmConversion c s
  | .thmCapUpdate => Sys2Proof.Machine.execThmCapUpdate s
  | .coolantStale => Sys2Proof.Machine.execCoolantStale s
  | .noflowTimeout => Sys2Proof.Machine.execNoflowTimeout s
  | .pwrGoodAssert => Sys2Proof.Machine.execPwrGoodAssert s
  | .pwrGoodDeassert => Sys2Proof.Machine.execPwrGoodDeassert s
  | .pkgResetAssert => Sys2Proof.Machine.execPkgResetAssert s
  | .pkgResetRelease => Sys2Proof.Machine.execPkgResetRelease s
  | .inputPowerRise => Sys2Proof.Machine.execInputPowerRise s
  | .inputPowerLoss => Sys2Proof.Machine.execInputPowerLoss s
  | .start tests => Sys2Proof.Machine.execStart tests s
  | .inrushWave => Sys2Proof.Machine.execInrushWave s
  | .startPause heat => Sys2Proof.Machine.execStartPause heat s
  | .startResume heat => Sys2Proof.Machine.execStartResume heat s
  | .startStepTimeout => Sys2Proof.Machine.execStartStepTimeout s
  | .rstReset rq level index => Sys2Proof.Machine.execRstReset rq level index s
  | .rstHold rq level index => Sys2Proof.Machine.execRstHold rq level index s
  | .rstRelease rq level index => Sys2Proof.Machine.execRstRelease rq level index s
  | .drainEnd level index => Sys2Proof.Machine.execDrainEnd level index s
  | .salvageDone level index => Sys2Proof.Machine.execSalvageDone level index s
  | .domainResetDone level index => Sys2Proof.Machine.execDomainResetDone level index s
  | .domainTestDone level index passed failed => Sys2Proof.Machine.execDomainTestDone level index passed failed s
  | .tileStall tile => Sys2Proof.Machine.execTileStall tile s
  | .engineStall tile => Sys2Proof.Machine.execEngineStall tile s
  | .caravanStall slot => Sys2Proof.Machine.execCaravanStall slot s
  | .coreStall core => Sys2Proof.Machine.execCoreStall core s
  | .reqTimeout level index addr req => Sys2Proof.Machine.execReqTimeout level index addr req s
  | .stopFail tile => Sys2Proof.Machine.execStopFail tile s
  | .packageResetRampDone => Sys2Proof.Machine.execPackageResetRampDone s
  | .fclErrorEvent => Sys2Proof.Machine.execFclErrorEvent s
  | .fclWindowEnd line => Sys2Proof.Machine.execFclWindowEnd line s
  | .fclSelfCheck upset => Sys2Proof.Machine.execFclSelfCheck upset s
  | .fclSafeExit rq => Sys2Proof.Machine.execFclSafeExit rq s
  | .faultNPulseEnd => Sys2Proof.Machine.execFaultNPulseEnd s
  | .fclFaultnDriveWrite rq value => Sys2Proof.Machine.execFclFaultnDriveWrite rq value s
  | .cvuInit rq unit => Sys2Proof.Machine.execCvuInit rq unit s
  | .cvuScan rq unit init => Sys2Proof.Machine.execCvuScan rq unit init s
  | .cvuScanEnd unit noAnswer => Sys2Proof.Machine.execCvuScanEnd unit noAnswer s
  | .cvuFeed8 rq unit value => Sys2Proof.Machine.execCvuFeed8 rq unit value s
  | .cvuFeed16 rq unit value => Sys2Proof.Machine.execCvuFeed16 rq unit value s
  | .cvuFeed32 rq unit value => Sys2Proof.Machine.execCvuFeed32 rq unit value s
  | .cvuRunWrite rq unit high => Sys2Proof.Machine.execCvuRunWrite rq unit high s
  | .tallyPeriodic => Sys2Proof.Machine.execTallyPeriodic s
  | .tallyNow rq value => Sys2Proof.Machine.execTallyNow rq value s
  | .bwWindowEnd => Sys2Proof.Machine.execBwWindowEnd s
  | .outriderComplete tile fetch engine run poison conflict => Sys2Proof.Machine.execOutriderComplete tile fetch engine run poison conflict s
  | .prfOutEnable rq value => Sys2Proof.Machine.execPrfOutEnable rq value s
  | .sessionOpen peer msg => Sys2Proof.Machine.execSessionOpen peer msg s
  | .sessionConfirm peer msg => Sys2Proof.Machine.execSessionConfirm peer msg s
  | .sessionClose peer msg => Sys2Proof.Machine.execSessionClose peer msg s
  | .sessionTimeout peer => Sys2Proof.Machine.execSessionTimeout peer s
  | .attest peer msg => Sys2Proof.Machine.execAttest peer msg s
  | .setting peer msg => Sys2Proof.Machine.execSetting peer msg s
  | .fulltrain peer msg => Sys2Proof.Machine.execFulltrain peer msg s
  | .journalRead peer msg => Sys2Proof.Machine.execJournalRead peer msg s
  | .regwrite peer msg => Sys2Proof.Machine.execRegwrite peer msg s
  | .fieldclr peer msg => Sys2Proof.Machine.execFieldclr peer msg s
  | .imageBegin peer msg => Sys2Proof.Machine.execImageBegin peer msg s
  | .imageChunk peer msg => Sys2Proof.Machine.execImageChunk peer msg s
  | .imageEnd peer msg => Sys2Proof.Machine.execImageEnd peer msg s
  | .activate peer msg => Sys2Proof.Machine.execActivate peer msg s
  | .imageAbort peer msg => Sys2Proof.Machine.execImageAbort peer msg s
  | .govActivationStep => Sys2Proof.Machine.execGovActivationStep s
  | .govActivationTimeout => Sys2Proof.Machine.execGovActivationTimeout s
  | .stewardRestart => Sys2Proof.Machine.execStewardRestart s
  | .coreMemoryAccess core k addr size hit flip => Sys2Proof.Machine.execCoreMemoryAccess core k addr size hit flip s
  | .tmbStatusRead rq => Sys2Proof.Machine.execTmbStatusRead rq s
  | .pwwStateRead rq => Sys2Proof.Machine.execPwwStateRead rq s
  | .sendPayloadLeft tile => Sys2Proof.Machine.execSendPayloadLeft tile s
  | .fclOwnFault => Sys2Proof.Machine.execFclOwnFault s

end Sys2Proof.Machine
end

