-- ==== Sys2Proof/Safety.lean ====
section
/-! DEFINITION. What statements and claims say of a run: that a command completes, the canonical form of memory, and which parts of the state
a command leaves alone. -/

namespace Sys2Proof.Machine

/-- A command or a step completes: it answers a next state, no fault and no refusal. -/
def Completes (o : Host.Outcome State Fault Refusal) : Prop := ∃ t, o = .next t

/-- A command or a step answers a next state of which `P` holds. -/
def Gives (o : Host.Outcome State Fault Refusal) (P : State → Prop) : Prop := ∃ t, o = .next t ∧ P t

/-- Every register reads as it did, but those of the list. -/
def RegsKept (l : List (Reg × Nat)) (s t : State) : Prop :=
  ∀ (r : Reg) (i : Nat), (∀ p ∈ l, p.1.key p.2 ≠ r.key i) → t.rr r i = s.rr r i

/-- Memory in its canonical form: addresses rise, and no byte that is listed equals what an unlisted one reads as. -/
def Memory.wf (m : Memory) : Bool := SMap.wf (fun _ => 0#8) m.cells

/-- A run of `k` steps from a state has met no stop. -/
def RunsFor : Nat → State → Prop
  | 0, _ => True
  | k + 1, s => ∃ t, step s = .next t ∧ RunsFor k t

/-- The keys of the register file at which PRF keeps its counters (R36). -/
def prfKey (k : Nat) : Bool := decide (0x300000 ≤ k) && decide (k < 0x400000)

/-- Every register reads as it did, but those of the list and what PRF counts. -/
def RegsKeptPrf (l : List (Reg × Nat)) (s t : State) : Prop :=
  ∀ (r : Reg) (i : Nat), prfKey (r.key i) = false → (∀ p ∈ l, p.1.key p.2 ≠ r.key i) → t.rr r i = s.rr r i

/-- No line that `n` bytes from `a` touch is poisoned, holds an error or lies on a memory channel that has failed. -/
def CleanAt (s : State) (a n : Nat) : Prop :=
  ∀ b, a ≤ b → b < a + n →
    s.poisoned (b / 64) = false ∧ s.latentAt (b / 64) = none ∧ (b < memEnd → s.channelFailed (s.channelOf (b / 64 * 64)) = false)

/-- Only PRF has counted: every other register and all else is as it was. -/
def PrfOnly (s t : State) : Prop :=
  { t with regs := s.regs, prf := s.prf } = s ∧ ∀ (r : Reg) (i : Nat), prfKey (r.key i) = false → t.rr r i = s.rr r i

/-- Only tile `n` has changed, and what PRF counts: no other tile, no register of another block, no byte of memory. -/
def TileOnly (n : Nat) (s t : State) : Prop :=
  { t with regs := s.regs, prf := s.prf, tiles := s.tiles } = s ∧ (∀ u, u ≠ n → t.tile u = s.tile u) ∧
    ∀ (r : Reg) (i : Nat), prfKey (r.key i) = false → t.rr r i = s.rr r i

/-- Register g`k` of a tile as a word; g0 reads 0 (R150). -/
def Tile.greg (x : Tile) (k : BitVec 5) : BitVec 64 := BitVec.ofNat 64 (x.gr k)

/-- A Viroth instruction of tile `n` has ended: the program counter is at `pc`, and nothing else of the tile has changed. -/
def Ended (n : Nat) (s t : State) (pc : BitVec 16) : Prop :=
  TileOnly n s t ∧ t.tile n = { s.tile n with pc := pc, stalled := false }

/-- A Viroth instruction of tile `n` has ended with register g[a] written; g0 discards the value (R150). -/
def WroteG (n : Nat) (s t : State) (pc : BitVec 16) (a : BitVec 5) (v : BitVec 64) : Prop :=
  TileOnly n s t ∧ (t.tile n).pc = pc ∧ (∀ k, (t.tile n).greg k = if k = a ∧ k ≠ 0 then v else (s.tile n).greg k) ∧
    { t.tile n with g := (s.tile n).g, pc := (s.tile n).pc, stalled := (s.tile n).stalled } = s.tile n

/-- A tile that executes, with an instruction after the present one (R152, R160). -/
def Executes (s : State) (n : Fin 768) : Prop := s.issues n = true ∧ (s.tile n).pc.toNat < 0xFFF8

end Sys2Proof.Machine
end

