-- ==== Sys2Proof/Certificates/Slice0/Obligations.lean ====
section
/-! DEFINITION. The statements about the machine: each says what commands do, by the rules of the spec that it names, and what they leave
alone. The statements listed for proof stand at the end, each a conjunction of those before it. -/

namespace Sys2Proof.Machine

/-! ### Registers -/

/-- A requester with a way to the control blocks that may act now: an application core that runs, or the steward from step 4 of the start on
(R36, R37, R560). -/
def MayAct (s : State) : Requester → Prop
  | .core c => (s.core c).issues = true
  | .steward _ => 4 ≤ s.f F.IDT_BOOT_STEP
  | .tile _ => False

/-- The address at which a requester finds the control block register with offset `off` (R36, R37). -/
def regAddress (rq : Requester) (off : Nat) : Nat :=
  match rq with
  | .core _ => 0x1F000000000 + off
  | _ => 0x50000000 + off

/-- R12, R13: a write sets an RW field to the value written, clears the bits of W1C fields that are written 1, leaves RO and Reserved bits
alone and changes no other register; one that is not 32 bits wide or not 4-byte aligned is refused with BOUNDS and changes nothing. The
registers here are those of caravan slot `i`. -/
def RegisterWrite : Prop :=
  ∀ (s : State) (rq : Requester) (i : Fin 64) (v : BitVec 32), MayAct s rq →
    Gives (exec (.registerWrite rq (regAddress rq (0x1038 + 64 * i)) 4 v) s) (fun t =>
      { t with regs := s.regs, resp := s.resp } = s ∧ t.resp = ⟨.ok, 0⟩ ∧ RegsKept [(.CVN_SLOT_EVENT_EN, i)] s t ∧
        t.rr .CVN_SLOT_EVENT_EN i = s.rr .CVN_SLOT_EVENT_EN i / 64 * 64 + v.toNat % 64) ∧
    Gives (exec (.registerWrite rq (regAddress rq (0x1034 + 64 * i)) 4 v) s) (fun t =>
      { t with regs := s.regs, resp := s.resp } = s ∧ t.resp = ⟨.ok, 0⟩ ∧ RegsKept [(.CVN_SLOT_EVENT, i)] s t ∧
        t.rr .CVN_SLOT_EVENT i / 64 = s.rr .CVN_SLOT_EVENT i / 64 ∧
        ∀ k < 6, (t.rr .CVN_SLOT_EVENT i).testBit k = ((s.rr .CVN_SLOT_EVENT i).testBit k && !v.getLsbD k)) ∧
    Gives (exec (.registerWrite rq (regAddress rq (0x1000 + 64 * i)) 4 v) s) (fun t =>
      { t with resp := s.resp } = s ∧ t.resp = ⟨.ok, 0⟩) ∧
    ∀ off size : Nat, off < 0x1000 → size ≠ 4 ∨ off % 4 ≠ 0 →
      Gives (exec (.registerWrite rq (regAddress rq off) size v) s) (fun t => { t with resp := s.resp } = s ∧ t.resp = ⟨.bounds, 0⟩)

/-- R10, R12, R13: a read of an RC counter answers its value and leaves it zero; a read of the low word of PTIME answers it and captures the
high word for the requester alone, whose next read of the high word answers the captured value, whatever PTIME is by then; an access that is
not 32 bits wide or not aligned reads 0 with BOUNDS. -/
def RegisterRead : Prop :=
  ∀ (s : State) (rq : Requester) (i : Fin 64), MayAct s rq →
    (SMap.find? s.pairs.captured (pairKey rq (0x1024 + 64 * i)) = none →
      Gives (exec (.counterReadClear rq (regAddress rq (0x1024 + 64 * i)) 4) s) (fun t =>
        { t with regs := s.regs, resp := s.resp } = s ∧ RegsKept [(.CVN_SLOT_LATE, i)] s t ∧
          t.resp = ⟨.ok, BitVec.ofNat 64 (s.rr .CVN_SLOT_LATE i)⟩ ∧ t.rr .CVN_SLOT_LATE i = 0)) ∧
    (SMap.find? s.pairs.captured (pairKey rq 0xE00000) = none →
      Gives (exec (.pairLowRead rq (regAddress rq 0xE00000) 4) s) (fun t =>
        { t with pairs := s.pairs, resp := s.resp } = s ∧ t.pairs.held = s.pairs.held ∧
          t.resp = ⟨.ok, BitVec.ofNat 64 (s.tmb.ptime.toNat % 2 ^ 32)⟩ ∧
          (∀ k, SMap.find? t.pairs.captured k =
            if k = pairKey rq 0xE00004 then some (BitVec.ofNat 32 (s.tmb.ptime.toNat / 2 ^ 32)) else SMap.find? s.pairs.captured k))) ∧
    (∀ w, SMap.find? s.pairs.captured (pairKey rq 0xE00004) = some w →
      Gives (exec (.pairLowRead rq (regAddress rq 0xE00004) 4) s) (fun t =>
        { t with pairs := s.pairs, resp := s.resp } = s ∧ t.pairs.held = s.pairs.held ∧ t.resp = ⟨.ok, w.setWidth 64⟩ ∧
          (∀ k, SMap.find? t.pairs.captured k = if k = pairKey rq 0xE00004 then none else SMap.find? s.pairs.captured k))) ∧
    ∀ off size : Nat, off < 0x1000 → size ≠ 4 ∨ off % 4 ≠ 0 →
      Gives (exec (.counterReadClear rq (regAddress rq off) size) s) (fun t => { t with resp := s.resp } = s ∧ t.resp = ⟨.bounds, 0⟩) ∧
      Gives (exec (.pairLowRead rq (regAddress rq off) size) s) (fun t => { t with resp := s.resp } = s ∧ t.resp = ⟨.bounds, 0⟩)

/-- R11: the low word of a writable pair is held for its requester, in place of any it already holds, and changes no register; the high word
then sets the whole pair at once, and alone it sets the high word; the holds of other requesters stay. The pair is RST_PC. -/
def RegisterPairWrite : Prop :=
  ∀ (s : State) (rq : Requester) (v : BitVec 32), MayAct s rq →
    Gives (exec (.pairLowWrite rq (regAddress rq 0xA00004) 4 v) s) (fun t =>
      { t with pairs := s.pairs, resp := s.resp } = s ∧ t.resp = ⟨.ok, 0⟩ ∧ t.pairs.captured = s.pairs.captured ∧
        ∀ k, SMap.find? t.pairs.held k = if k = pairKey rq 0xA00004 then some v else SMap.find? s.pairs.held k) ∧
    Gives (exec (.pairHighWrite rq (regAddress rq 0xA00008) 4 v) s) (fun t =>
      { t with regs := s.regs, pairs := s.pairs, resp := s.resp } = s ∧ t.resp = ⟨.ok, 0⟩ ∧ t.pairs.captured = s.pairs.captured ∧
        RegsKept [(.RST_PC_LO, 0), (.RST_PC_HI, 0)] s t ∧ t.rr .RST_PC_HI = v.toNat ∧
        t.rr .RST_PC_LO = ((SMap.find? s.pairs.held (pairKey rq 0xA00004)).map (·.toNat)).getD (s.rr .RST_PC_LO) ∧
        ∀ k, SMap.find? t.pairs.held k = if k = pairKey rq 0xA00004 then none else SMap.find? s.pairs.held k)

/-- R16, R40: a sealed field (here MEM_RGN_SIZE, protected by the installer's role) takes the value that the installer writes before the
sealing; after it the write leaves the field as it was, is refused with DENIED, counts once in the block's SEAL_VIOLATION and reports that on
line 17 with INDEX 8. A write without the role that would change it is refused with DENIED, which the block's error register records. -/
def SealedField : Prop :=
  ∀ (s : State) (i : Fin 8) (v : BitVec 32), 4 ≤ s.f F.IDT_BOOT_STEP →
    (s.f F.IDT_BOOT_STEP < 10 →
      Gives (exec (.registerWrite (.steward (some .installer)) (0x50800104 + 16 * i) 4 v) s) (fun t =>
        t.rr .MEM_RGN_SIZE i = s.rr .MEM_RGN_SIZE i / 65536 * 65536 + v.toNat % 65536 ∧ t.resp = ⟨.ok, 0⟩ ∧
          { t with regs := s.regs, resp := s.resp, journal := s.journal } = s ∧
          RegsKept [(.MEM_RGN_SIZE, i), (.JNL_HEAD_LO, 0), (.JNL_HEAD_HI, 0), (.JNL_TAIL_LO, 0), (.JNL_TAIL_HI, 0), (.JNL_HASH, 0), (.JNL_HASH, 1), (.JNL_HASH, 2), (.JNL_HASH, 3),
            (.JNL_HASH, 4), (.JNL_HASH, 5), (.JNL_HASH, 6), (.JNL_HASH, 7)] s t)) ∧
    (10 ≤ s.f F.IDT_BOOT_STEP →
      Gives (exec (.registerWrite (.steward (some .installer)) (0x50800104 + 16 * i) 4 v) s) (fun t =>
        { t with regs := s.regs, resp := s.resp, events := s.events } = s ∧ RegsKept [(.MEM_SEAL_VIOLATION, 0)] s t ∧
          t.rr .MEM_SEAL_VIOLATION = min (s.rr .MEM_SEAL_VIOLATION + 1) 0xFFFFFFFF ∧ t.resp = ⟨.denied, 0⟩ ∧
          t.events = s.events ++ [⟨s.tmb.ptime.toNat, 17, 8, .denied⟩])) ∧
    (∀ ro, ro ≠ some .installer → v.toNat % 65536 ≠ s.rr .MEM_RGN_SIZE i % 65536 →
      Gives (exec (.registerWrite (.steward ro) (0x50800104 + 16 * i) 4 v) s) (fun t =>
        { t with regs := s.regs, resp := s.resp } = s ∧ RegsKept [(.MEM_ERR, 0)] s t ∧ t.rr .MEM_ERR = 8 ∧ t.resp = ⟨.denied, 0⟩))

/-! ### Time base -/

/-- R43: a time of day with its low word held is armed by the high word; one that is no whole second is refused with BOUNDS and leaves the
time base as it was. -/
def TimeOfDayArm : Prop :=
  ∀ (s : State) (ro : Option Role) (low high : BitVec 32), 4 ≤ s.f F.IDT_BOOT_STEP →
    SMap.find? s.pairs.held (pairKey (.steward ro) 0xE00010) = some low →
    ((high ++ low).toNat % 1000000000 = 0 →
      Gives (exec (.tmbTodArm (.steward ro) high) s) (fun t =>
        { t with regs := s.regs, pairs := s.pairs, resp := s.resp, tmb := s.tmb } = s ∧ t.resp = ⟨.ok, 0⟩ ∧
          RegsKept [(.TMB_TOD_LO, 0), (.TMB_TOD_HI, 0), (.TMB_STATUS, 0)] s t ∧ t.rr .TMB_TOD_LO = low.toNat ∧ t.rr .TMB_TOD_HI = high.toNat ∧
          t.f F.TMB_STATUS_TOD_ARMED = 1 ∧ t.f F.TMB_STATUS_TOD_SET = s.f F.TMB_STATUS_TOD_SET ∧
          t.f F.TMB_STATUS_TOD_LOW = s.f F.TMB_STATUS_TOD_LOW ∧ t.tmb = { s.tmb with armedAt := s.tmb.ptime } ∧
          SMap.find? t.pairs.held (pairKey (.steward ro) 0xE00010) = none)) ∧
    ((high ++ low).toNat % 1000000000 ≠ 0 →
      Gives (exec (.tmbTodArm (.steward ro) high) s) (fun t =>
        { t with regs := s.regs, pairs := s.pairs, resp := s.resp } = s ∧ t.resp = ⟨.bounds, 0⟩ ∧ RegsKept [(.TMB_ERR, 0)] s t ∧
          t.rr .TMB_ERR = 7))

/-- An edge of PPS that the time base takes: REFCLK present, and at least 0.9 s after the last accepted edge (R706, R715). -/
def PpsTaken (s : State) : Prop := s.tmb.refclk = true ∧ ∀ e, s.tmb.sinceEdge = some e → 900000000 ≤ e

/-- The time base after an accepted edge, but for its correction. -/
def Tmb.edge (x : Tmb) : Tmb := { x with sinceEdge := some 0, missed := 0 }

/-- R43, R44, R706, R715: what a PPS edge does. Without REFCLK, or less than 0.9 s after the last accepted edge, it is ignored. It applies a
time of day armed at least 1 ms before, unless that lies below PTIME, which runs on. Once a time of day has been applied it measures
TMB_OFFSET and corrects it: PTIME is never stepped backward, an offset of at most 1 µs or with PTIME ahead is slewed, and one of more than
1 µs with PTIME behind is one forward step, counted in TMB_STEPS. -/
def PpsEdge : Prop :=
  ∀ s : State,
    (¬PpsTaken s → Gives (exec .ppsEdge s) (fun t => t = s)) ∧
    (PpsTaken s → s.f F.TMB_STATUS_TOD_SET = 0 →
      (s.f F.TMB_STATUS_TOD_ARMED = 0 ∨ s.tmb.ptime.toNat < s.tmb.armedAt.toNat + 1000000 →
        Gives (exec .ppsEdge s) (fun t => t = { s with tmb := s.tmb.edge })) ∧
      (s.f F.TMB_STATUS_TOD_ARMED = 1 → s.tmb.armedAt.toNat + 1000000 ≤ s.tmb.ptime.toNat →
        (s.pair .TMB_TOD_LO .TMB_TOD_HI < s.tmb.ptime.toNat →
          Gives (exec .ppsEdge s) (fun t =>
            { t with regs := s.regs } = { s with tmb := s.tmb.edge } ∧ RegsKept [(.TMB_STATUS, 0)] s t ∧
              t.f F.TMB_STATUS_TOD_ARMED = 0 ∧ t.f F.TMB_STATUS_TOD_SET = 0 ∧ t.f F.TMB_STATUS_TOD_LOW = 1)) ∧
        (s.tmb.ptime.toNat ≤ s.pair .TMB_TOD_LO .TMB_TOD_HI →
          Gives (exec .ppsEdge s) (fun t =>
            t.tmb.ptime.toNat = s.pair .TMB_TOD_LO .TMB_TOD_HI ∧ t.f F.TMB_STATUS_TOD_ARMED = 0 ∧ t.f F.TMB_STATUS_TOD_SET = 1 ∧
              t.f F.TMB_STATUS_TOD_LOW = 0 ∧ t.rr .TMB_STEPS =
                (if s.tmb.ptime.toNat = s.pair .TMB_TOD_LO .TMB_TOD_HI then s.rr .TMB_STEPS else min (s.rr .TMB_STEPS + 1) 0xFFFFFFFF) ∧
              t.tmb.sinceEdge = some 0 ∧ t.mem = s.mem ∧ t.out = s.out ∧ t.resp = s.resp)))) ∧
    (PpsTaken s → s.f F.TMB_STATUS_TOD_SET = 1 → s.f F.TMB_STATUS_TOD_ARMED = 0 →
      ∀ (sec : Nat) (off : Int), sec % 1000000000 = 0 → (s.tmb.ptime.toNat : Int) = sec + off → -500000000 ≤ off → off < 500000000 →
        (-1000 ≤ off →
          Gives (exec .ppsEdge s) (fun t =>
            { t with regs := s.regs, tmb := s.tmb } = s ∧ RegsKept [(.TMB_OFFSET, 0)] s t ∧ t.rr .TMB_OFFSET = (BitVec.ofInt 32 off).toNat ∧
              { t.tmb with syncChanged := s.tmb.syncChanged } = { s.tmb.edge with slew := -off })) ∧
        (off < -1000 → sec < 2 ^ 64 →
          Gives (exec .ppsEdge s) (fun t =>
            t.tmb.ptime.toNat = sec ∧ t.tmb.slew = 0 ∧ t.tmb.sinceEdge = some 0 ∧ t.rr .TMB_OFFSET = (BitVec.ofInt 32 off).toNat ∧
              t.rr .TMB_STEPS = min (s.rr .TMB_STEPS + 1) 0xFFFFFFFF ∧ t.mem = s.mem ∧ t.out = s.out ∧ t.resp = s.resp)))

/-- R705, R715, R716: a missed edge is counted only while REFCLK is present and after a first accepted edge; the loss of REFCLK takes every
fabric port to OFF and every Ethernet port DOWN with UNREACHABLE, and makes SYNC FREE; its return lets the ports that may leave OFF go to
SEEK and those Ethernet ports that may be up negotiate. -/
def ReferenceClock : Prop :=
  ∀ s : State,
    (s.tmb.refclk = false → Gives (exec .ppsMiss s) (fun t => t = s)) ∧
    (s.tmb.sinceEdge = none → Gives (exec .ppsMiss s) (fun t => t = s)) ∧
    (∀ e, s.tmb.refclk = true → s.tmb.sinceEdge = some e →
      Gives (exec .ppsMiss s) (fun t =>
        { t with regs := s.regs, tmb := s.tmb } = s ∧ RegsKept [(.TMB_PPS_MISS, 0)] s t ∧
          t.rr .TMB_PPS_MISS = min (s.rr .TMB_PPS_MISS + 1) 0xFFFFFFFF ∧ t.tmb.missed = s.tmb.missed + 1 ∧ t.tmb.ptime = s.tmb.ptime ∧
          t.tmb.slew = s.tmb.slew ∧ t.tmb.armedAt = s.tmb.armedAt ∧ t.tmb.refclk = true)) ∧
    (s.tmb.refclk = true →
      Gives (exec .refclkLoss s) (fun t =>
        t.tmb.refclk = false ∧ t.tmb.ptime = s.tmb.ptime ∧ t.sync = 3 ∧ (∀ p < 20, t.f F.FPT_STAT_STATE p = 0) ∧
          (∀ k < 8, t.f F.ETH_PSTAT_STATE k = 0 ∧ t.f F.ETH_PSTAT_STATUS k = 13) ∧ t.mem.cells = s.mem.cells ∧ t.tiles = s.tiles)) ∧
    (s.tmb.refclk = false →
      Gives (exec .refclkRestore s) (fun t =>
        { t with regs := s.regs, tmb := s.tmb, ports := s.ports } = s ∧ { t.tmb with syncChanged := s.tmb.syncChanged } = { s.tmb with refclk := true } ∧
          (∀ p < 20, t.f F.FPT_STAT_STATE p =
            if s.f F.FPT_STAT_STATE p = 0 ∧ s.f F.FPT_CTL_ADMIN p = 1 ∧ s.f F.FPT_COORD_SET = 1 ∧ s.f F.FPT_MAP_ROLE p ≠ 0 ∧ s.boot.rails = true
            then 1 else s.f F.FPT_STAT_STATE p) ∧
          (∀ k < 8, t.f F.ETH_PSTAT_STATE k =
            if s.f F.ETH_PSTAT_STATE k = 0 ∧ s.boot.rails = true ∧ s.f F.ETH_NCTL_EN (k / 4) = 1 ∧ s.f F.ETH_PCTL_ADMIN k = 1
            then 1 else s.f F.ETH_PSTAT_STATE k)))

/-- What TMB_STATUS shows in SYNC (R45). -/
def syncShown (s : State) : Nat :=
  if s.tmb.refclk = false then 3
  else if s.f F.TMB_STATUS_TOD_SET = 0 then 0
  else
    match s.tmb.sinceEdge with
    | none => 2
    | some e => if e < 1500000000 ∧ -20 ≤ (BitVec.ofNat 32 (s.rr .TMB_OFFSET)).toInt ∧ (BitVec.ofNat 32 (s.rr .TMB_OFFSET)).toInt ≤ 20 then 1 else 2

/-- R45, R519: a read of TMB_STATUS shows SYNC and ends the assertion of source 36; a read of PWW_STATE shows bits 30 to 0 of the active
governor's GOV_STATE and, in bit 31, which governor that is, and ends the assertion of source 37. -/
def StatusReads : Prop :=
  ∀ (s : State) (rq : Requester), MayAct s rq →
    (SMap.find? s.pairs.captured (pairKey rq 0xE00008) = none →
      Gives (exec (.tmbStatusRead rq) s) (fun t =>
        { t with tmb := s.tmb, resp := s.resp } = s ∧ t.tmb = { s.tmb with syncChanged := false } ∧ t.resp.status = .ok ∧
          t.resp.value.toNat % 4 = syncShown s)) ∧
    (SMap.find? s.pairs.captured (pairKey rq 0x600000) = none →
      Gives (exec (.pwwStateRead rq) s) (fun t =>
        { t with ic := s.ic, resp := s.resp } = s ∧ t.ic.pwwChanged = false ∧ t.resp.status = .ok ∧
          t.resp.value.toNat = b2n s.activeB * 2 ^ 31 + s.rr .GOV_STATE (b2n s.activeB) % 2 ^ 31 ∧
          t.ic.pwwSeen = t.resp.value.setWidth 32))

/-! ### Caravans -/

/-- The core of a `cvn.` instruction may execute it (R118, R123, R494): it issues, the form is legal, the mode is not virtual, and user mode
has been enabled for it. `two` says that the form has rs2. -/
def MayCvn (s : State) (o : CvnOp) (two : Bool) : Prop :=
  (s.core o.core).issues = true ∧ o.funct3 = 0 ∧ (two = true ∨ o.rs2 = 0) ∧ (s.core o.core).mode ≠ .vs ∧ (s.core o.core).mode ≠ .vu ∧
    ((s.core o.core).mode = .u → (s.core o.core).ucvn = true)

/-- rs1 holds the handle of slot `i`, which is in use (R101, R102). -/
def NamesSlot (s : State) (o : CvnOp) (i : Fin 64) : Prop :=
  s.xreg o.core o.rs1.toNat = 64 * s.f F.CVN_SLOT_GEN i + i ∧ 0 < s.f F.CVN_SLOT_GEN i ∧ (s.slot i).state ≠ .free

/-- R117: the core's instruction is done: the status and the result fields are in rd, every other register of the core is as it was, and the
program counter is past the instruction. Counters of the core may have counted it. -/
def CvnDone (s t : State) (o : CvnOp) (st : Status) (fields : Nat) : Prop :=
  (∀ n < 32, t.xreg o.core n = if n = o.rd.toNat ∧ n ≠ 0 then st.code + fields else s.xreg o.core n) ∧
    (t.core o.core).pc = (s.core o.core).pc + 4 ∧ (t.core o.core).minstret = (s.core o.core).minstret + 1 ∧
    t.resp = ⟨st, BitVec.ofNat 64 (st.code + fields)⟩ ∧
    { t.core o.core with x := (s.core o.core).x, pc := (s.core o.core).pc, minstret := (s.core o.core).minstret
                         hpm := (s.core o.core).hpm, hpmEvent := (s.core o.core).hpmEvent } = s.core o.core

/-- Only core `c` has changed, of the cores. -/
def CoreOnly (s t : State) (c : Nat) : Prop := ∀ d, d ≠ c → t.core d = s.core d

/-- Only slot `i` has changed, of the slots. -/
def SlotOnly (s t : State) (i : Nat) : Prop := t.cvn.trail = s.cvn.trail ∧ ∀ j, j ≠ i → t.slot j = s.slot j

/-- R113, R114, R117, R130, R139: `cvn.stat`, `cvn.pause`, `cvn.start` of a paused caravan without a cadence, `cvn.toll` and `cvn.wait`: what each
does to its slot and answers in rd; the rest of the block is as it was. -/
def CaravanControl : Prop :=
  ∀ (s : State) (o : CvnOp) (i : Fin 64), NamesSlot s o i →
    let x := s.slot i
    (MayCvn s o false →
      Gives (exec (.cvnStat o) s) (fun t =>
        CvnDone s t o .ok (x.state.code * 2 ^ 8 + x.inflight.length * 2 ^ 16 + s.rr .CVN_SLOT_DONE i * 2 ^ 32) ∧ CoreOnly s t o.core ∧
          { t with cores := s.cores, resp := s.resp } = s) ∧
      (x.state = .running →
        Gives (exec (.cvnPause o) s) (fun t =>
          CvnDone s t o .ok 0 ∧ CoreOnly s t o.core ∧ t.slot i = { x with state := .paused } ∧ SlotOnly s t i ∧
            { t with cores := s.cores, resp := s.resp, cvn := s.cvn } = s)) ∧
      (x.state = .paused → s.f F.FCL_STAT_SAFE = 0 → x.cadence = none → x.cadenceNext = none →
        Gives (exec (.cvnStart o) s) (fun t =>
          CvnDone s t o .ok 0 ∧ CoreOnly s t o.core ∧ t.slot i = { x with state := .running } ∧ SlotOnly s t i ∧
            RegsKept [(.CVN_SLOT_DEBT, i)] s t ∧ t.rr .CVN_SLOT_DEBT i = 0 ∧
            { t with cores := s.cores, resp := s.resp, cvn := s.cvn, regs := s.regs } = s)) ∧
      (x.state = .ready → s.f F.FCL_STAT_SAFE = 0 → x.cadence = none → x.cadenceNext = none →
        Gives (exec (.cvnStart o) s) (fun t =>
          CvnDone s t o .ok 0 ∧ CoreOnly s t o.core ∧ t.slot i = { x with state := .running } ∧ SlotOnly s t i ∧
            (∀ n, t.tile n =
              if n ∈ x.stations.map (·.tile) then
                { st := .run, handle := (s.tile n).handle, station := (s.tile n).station, sink := (s.tile n).sink
                  gen := BitVec.ofNat 64 (s.pair .TILE_SEED_LO .TILE_SEED_HI n) }
              else s.tile n) ∧
            RegsKept ((.CVN_SLOT_DEBT, i.val) :: x.stations.flatMap (fun y =>
              [(.TILE_EXC, y.tile), (.TILE_FLAGS, y.tile), (.TILE_NOTE, y.tile), (.TILE_TIMER_LO, y.tile), (.TILE_TIMER_HI, y.tile)])) s t ∧
            { t with cores := s.cores, resp := s.resp, cvn := s.cvn, regs := s.regs, tiles := s.tiles } = s))) ∧
    (MayCvn s o true →
      (s.xreg o.core o.rs2.toNat ≤ s.f F.PWW_RATED_RATED → s.xreg o.core o.rs2.toNat < 2 ^ 16 →
        Gives (exec (.cvnToll o) s) (fun t =>
          CvnDone s t o .ok 0 ∧ CoreOnly s t o.core ∧ t.slot i = { x with tollNext := some (s.xreg o.core o.rs2.toNat) } ∧ SlotOnly s t i ∧
            { t with cores := s.cores, resp := s.resp, cvn := s.cvn } = s)) ∧
      (s.f F.PWW_RATED_RATED < s.xreg o.core o.rs2.toNat →
        Gives (exec (.cvnToll o) s) (fun t =>
          CvnDone s t o .bounds 0 ∧ CoreOnly s t o.core ∧ { t with cores := s.cores, resp := s.resp } = s)) ∧
      (x.state ≠ .faulted → s.xreg o.core o.rs2.toNat < 2 ^ 32 →
        (0 ≤ (BitVec.ofNat 32 (s.rr .CVN_SLOT_DONE i) - BitVec.ofNat 32 (s.xreg o.core o.rs2.toNat)).toInt →
          Gives (exec (.cvnWait o) s) (fun t =>
            CvnDone s t o .ok (s.rr .CVN_SLOT_DONE i * 2 ^ 32) ∧ CoreOnly s t o.core ∧ { t with cores := s.cores, resp := s.resp } = s)) ∧
        ((BitVec.ofNat 32 (s.rr .CVN_SLOT_DONE i) - BitVec.ofNat 32 (s.xreg o.core o.rs2.toNat)).toInt < 0 →
          Gives (exec (.cvnWait o) s) (fun t =>
            t.core o.core = { s.core o.core with
                wait := some ⟨o.rd, i, BitVec.ofNat 32 (s.xreg o.core o.rs2.toNat), s.tmb.ptime.toNat⟩ } ∧
              CoreOnly s t o.core ∧ { t with cores := s.cores } = s))) ∧
      (x.state = .faulted → s.xreg o.core o.rs2.toNat < 2 ^ 32 →
        Gives (exec (.cvnWait o) s) (fun t =>
          CvnDone s t o .fenced 0 ∧ CoreOnly s t o.core ∧ { t with cores := s.cores, resp := s.resp } = s)))

/-- R130: after 1 ms a `cvn.wait` that stalls its core ends with TIMEOUT and the completion count. -/
def CaravanWaitTimeout : Prop :=
  ∀ (s : State) (c : Fin 32) (w : CvnWait), (s.core c).wait = some w →
    Gives (exec (.cvnWaitTimeout c) s) (fun t =>
      (∀ n < 32, t.xreg c n = if n = w.rd.toNat ∧ n ≠ 0 then 4 + s.rr .CVN_SLOT_DONE w.slot * 2 ^ 32 else s.xreg c n) ∧
        (t.core c).wait = none ∧ (t.core c).pc = (s.core c).pc + 4 ∧ CoreOnly s t c ∧ { t with cores := s.cores, resp := s.resp } = s)

/-- R143, R144: `cvn.cad` with a legal word sets or removes the cadence of a caravan in READY or PAUSED at its next start; with BATCH 0 it does
nothing; with an illegal field it is refused with BOUNDS. -/
def CaravanCadence : Prop :=
  ∀ (s : State) (o : CvnOp) (i : Fin 64), NamesSlot s o i → MayCvn s o true → (s.slot i).state = .ready ∨ (s.slot i).state = .paused →
    let w := BitVec.ofNat 64 (s.xreg o.core o.rs2.toNat)
    let period := (w.extractLsb' 0 32).toNat
    let batch := (w.extractLsb' 32 16).toNat
    let catchup := (w.extractLsb' 48 8).toNat
    let legal := w.extractLsb' 56 7 = 0 ∧ catchup ≤ 128 ∧ batch ≤ 1024 ∧ 10000 ≤ period
    (w.msb = true → legal → 0 < batch →
      Gives (exec (.cvnCad o) s) (fun t =>
        CvnDone s t o .ok 0 ∧ CoreOnly s t o.core ∧ t.slot i = { s.slot i with cadenceNext := some (some ⟨period, batch, catchup⟩) } ∧
          SlotOnly s t i ∧ { t with cores := s.cores, resp := s.resp, cvn := s.cvn } = s)) ∧
    (w.msb = false →
      Gives (exec (.cvnCad o) s) (fun t =>
        CvnDone s t o .ok 0 ∧ CoreOnly s t o.core ∧ t.slot i = { s.slot i with cadenceNext := some none } ∧
          SlotOnly s t i ∧ { t with cores := s.cores, resp := s.resp, cvn := s.cvn } = s)) ∧
    (w.msb = true → legal → batch = 0 →
      Gives (exec (.cvnCad o) s) (fun t =>
        CvnDone s t o .ok 0 ∧ CoreOnly s t o.core ∧ { t with cores := s.cores, resp := s.resp } = s)) ∧
    (w.msb = true → ¬legal →
      Gives (exec (.cvnCad o) s) (fun t =>
        CvnDone s t o .bounds 0 ∧ CoreOnly s t o.core ∧ { t with cores := s.cores, resp := s.resp } = s))

/-- R114, R115, R131, R164: `cvn.abort` stops the stations, removes the caravan's bales from the trail and drops its queue; `cvn.close` of a
caravan in READY or FAULTED, or in PAUSED with none in flight, counts the queued sequences as aborted, answers CVN_SLOT_ABORTED, releases the
tiles and frees the slot; a core that waits on the slot then ends its wait with BAD_HANDLE. -/
def CaravanEnd : Prop :=
  ∀ (s : State) (o : CvnOp) (i : Fin 64), NamesSlot s o i → MayCvn s o false →
    let x := s.slot i
    let tiles := x.stations.map (·.tile)
    let aborted := min (s.rr .CVN_SLOT_ABORTED i + x.unadmitted) 0xFFFFFFFF
    (x.state = .running ∨ x.state = .paused →
      Gives (exec (.cvnAbort o) s) (fun t =>
        CvnDone s t o .ok 0 ∧ CoreOnly s t o.core ∧
          t.slot i = { x with state := .aborting, queue := [], dropped := x.unadmitted, waiting := [], relOpen := [] } ∧
          (∀ j, j ≠ i.val → t.slot j = s.slot j) ∧
          t.cvn.trail = s.cvn.trail.filter (fun b => b.wb.handle ≠ BitVec.ofNat 16 (64 * s.f F.CVN_SLOT_GEN i + i)) ∧
          (∀ n, n ∉ tiles → t.tile n = s.tile n) ∧ (∀ n ∈ tiles, (t.tile n).st = .stopped ∨ t.tile n = s.tile n ∧ (s.tile n).st = .fault) ∧
          { t with cores := s.cores, resp := s.resp, cvn := s.cvn, tiles := s.tiles, prf := s.prf } = s)) ∧
    (x.state = .ready ∨ x.state = .faulted ∨ x.state = .paused ∧ x.inflight = [] →
      Gives (exec (.cvnClose o) s) (fun t =>
        CvnDone s t o .ok (aborted * 2 ^ 32) ∧ t.slot i = {} ∧ SlotOnly s t i ∧ RegsKept [(.CVN_SLOT_ABORTED, i)] s t ∧
          t.rr .CVN_SLOT_ABORTED i = aborted ∧ (∀ n, n ∉ tiles → t.tile n = s.tile n) ∧
          (∀ n ∈ tiles, (t.tile n).st = .idle ∧ (t.tile n).handle = 0 ∧ (t.tile n).g = (s.tile n).g ∧ (t.tile n).v = (s.tile n).v) ∧
          (∀ d : Fin 32, d ≠ o.core → (∀ w, (s.core d).wait = some w → w.slot ≠ i.val) → t.core d = s.core d) ∧
          (∀ (d : Fin 32) (w : CvnWait), (s.core d).wait = some w → w.slot = i.val →
            (t.core d).wait = none ∧ t.xreg d w.rd.toNat = if w.rd = 0 then 0 else 1) ∧
          { t with cores := s.cores, resp := s.resp, cvn := s.cvn, tiles := s.tiles, regs := s.regs } = s))

/-- The refusals of R114's second table: the states in which an instruction is refused, and its status. -/
def caravanRefusals (o : CvnOp) : List (Instr × List SlotState × Status) :=
  [ (.cvnStart o, [.loading, .aborting], .busy), (.cvnStart o, [.faulted], .fenced), (.cvnPause o, [.faulted], .fenced),
    (.cvnAbort o, [.faulted], .fenced), (.cvnPause o, [.loading, .ready, .aborting], .busy), (.cvnAbort o, [.loading, .aborting], .busy),
    (.cvnClose o, [.loading, .running, .aborting], .busy) ]

/-- The instructions of a caravan with a handle in rs1 and no push record. -/
def handleRows (o : CvnOp) : List Instr :=
  [.cvnStart o, .cvnPause o, .cvnAbort o, .cvnClose o, .cvnStat o, .cvnWait o, .cvnToll o, .cvnCad o]

/-- R101, R102, R114, R119, R123: an instruction on a free slot, a handle of generation 0 or another generation, or in a state that does not
admit it changes nothing but its result, which is the status that the rules name; in a virtual mode or in a user mode that has not been given
the instructions the core takes an exception instead. -/
def CaravanRefused : Prop :=
  ∀ (s : State) (o : CvnOp),
    (∀ i : Fin 64, NamesSlot s o i → MayCvn s o false → (s.f F.FCL_STAT_SAFE = 0) → ∀ p ∈ caravanRefusals o, (s.slot i).state ∈ p.2.1 →
      Gives (exec p.1 s) (fun t => CvnDone s t o p.2.2 0 ∧ CoreOnly s t o.core ∧ { t with cores := s.cores, resp := s.resp } = s)) ∧
    (MayCvn s o false → ∀ c ∈ handleRows o, ∀ (g : Nat) (i : Fin 64), s.xreg o.core o.rs1.toNat = 64 * g + i → g < 1024 →
      (g = 0 ∨ (s.slot i).state = .free →
        Gives (exec c s) (fun t => CvnDone s t o .badHandle 0 ∧ CoreOnly s t o.core ∧ { t with cores := s.cores, resp := s.resp } = s)) ∧
      (0 < g → (s.slot i).state ≠ .free → g ≠ s.f F.CVN_SLOT_GEN i →
        Gives (exec c s) (fun t => CvnDone s t o .stale 0 ∧ CoreOnly s t o.core ∧ { t with cores := s.cores, resp := s.resp } = s))) ∧
    ((s.core o.core).issues = true → o.funct3 = 0 → o.rs2 = 0 → ∀ c ∈ handleRows o,
      ((s.core o.core).mode = .vs ∨ (s.core o.core).mode = .vu →
        Gives (exec c s) (fun t => CoreOnly s t o.core ∧ { t with cores := s.cores } = s ∧ ∃ w, t.core o.core = (s.core o.core).exception 22 w)) ∧
      ((s.core o.core).mode = .u → (s.core o.core).ucvn = false →
        Gives (exec c s) (fun t => CoreOnly s t o.core ∧ { t with cores := s.cores } = s ∧ ∃ w, t.core o.core = (s.core o.core).exception 2 w)))

/-- `n` bytes that a core reads at a virtual address, whose page translates to `ppn`, lie in one page, in memory, and hold no error (R120). -/
def CoreReads (s : State) (va ppn n : Nat) : Prop :=
  va % 4096 + n ≤ 4096 ∧ ppn * 4096 + va % 4096 + n ≤ 0x8000000000 ∧ CleanAt s (ppn * 4096 + va % 4096) n

/-- R100, R109, R110, R112, R121: `cvn.open` of a descriptor that no condition refuses allocates the lowest free slot `i`, gives it the next
generation, answers its handle in rd[31:16], takes the station tiles and starts loading; a descriptor with no station is answered with the
null handle and allocates nothing. -/
def CaravanOpen : Prop :=
  ∀ (s : State) (o : CvnOp) (ppn : Nat), MayCvn s o false →
    let va := s.xreg o.core o.rs1.toNat
    let h := readHeader (s.bytes (ppn * 4096 + va % 4096) 64)
    let sts := (List.range h.stations).map (fun k => readStation (s.bytes (h.table + 32 * k) 32))
    CoreReads s va ppn 64 →
      (h.stations = 0 →
        Gives (exec (.cvnOpen o (.page ppn)) s) (fun t =>
          CvnDone s t o .ok 0 ∧ CoreOnly s t o.core ∧ RegsKeptPrf [] s t ∧ { t with cores := s.cores, resp := s.resp, regs := s.regs } = s)) ∧
      (∀ i : Fin 64, 0 < h.stations → h.stations ≤ 768 → h.table % 32 = 0 → h.table + 32 * h.stations ≤ 0x8000000000 →
        CleanAt s h.table (32 * h.stations) → s.openStatus h sts false = .ok → s.metering.acc = none →
        (s.slot i).state = .free → (∀ j < i.val, (s.slot j).state ≠ .free) →
        let g := if s.f F.CVN_SLOT_GEN i = 1023 then 1 else s.f F.CVN_SLOT_GEN i + 1
        let tiles := sts.map (fun p => p.1.tile)
        Gives (exec (.cvnOpen o (.page ppn)) s) (fun t =>
          CvnDone s t o .ok ((64 * g + i) * 2 ^ 16) ∧ CoreOnly s t o.core ∧ t.f F.CVN_SLOT_GEN i = g ∧ (t.slot i).state = .loading ∧
            (t.slot i).stations = sts.map (·.1) ∧ (t.slot i).queue = [] ∧ (t.slot i).inflight = [] ∧ (t.slot i).nextSeq = 0 ∧ SlotOnly s t i ∧
            t.rr .CVN_SLOT_DONE i = 0 ∧ t.rr .CVN_SLOT_ABORTED i = 0 ∧ t.rr .CVN_SLOT_EVENT i = 0 ∧ t.rr .CVN_SLOT_THRESH i = h.thresh ∧
            t.rr .CVN_SLOT_EVENT_EN i = (if h.irqCore = 0xFF then 0 else 0x3F) ∧
            (∀ n, n ∉ tiles → t.tile n = s.tile n) ∧ (∀ n ∈ tiles, (t.tile n).st = .loading ∧ (t.tile n).handle = BitVec.ofNat 16 (64 * g + i)) ∧
            { t with cores := s.cores, resp := s.resp, regs := s.regs, cvn := s.cvn, tiles := s.tiles, prf := s.prf } = s))

/-- R124, R125, R126: `cvn.push` queues its record and answers the id of its first sequence; with LENGTH or COUNT zero it queues nothing and
uses no id. -/
def CaravanPush : Prop :=
  ∀ (s : State) (o : CvnOp) (ppn : Nat) (i : Fin 64), MayCvn s o true → NamesSlot s o i → s.f F.FCL_STAT_SAFE = 0 →
    (s.slot i).state ≠ .faulted → (s.slot i).state ≠ .aborting →
    let va := s.xreg o.core o.rs2.toNat
    let b := s.bytes (ppn * 4096 + va % 4096) 48
    let src := leNat (b.take 8)
    let length := leNat ((b.drop 8).take 4)
    let stride := leNat ((b.drop 12).take 4)
    let count := leNat ((b.drop 16).take 2)
    CoreReads s va ppn 48 →
      (length = 0 ∨ count = 0 →
        Gives (exec (.cvnPush o (.page ppn)) s) (fun t =>
          CvnDone s t o .ok ((s.slot i).nextSeq * 2 ^ 16) ∧ CoreOnly s t o.core ∧ RegsKeptPrf [] s t ∧
            { t with cores := s.cores, resp := s.resp, regs := s.regs } = s)) ∧
      (0 < length → length ≤ 16384 → 0 < count → src + (count - 1) * stride + length ≤ 0x8000000000 → leNat ((b.drop 36).take 12) = 0 →
        (s.slot i).queue.length < 16 →
        Gives (exec (.cvnPush o (.page ppn)) s) (fun t =>
          CvnDone s t o .ok ((s.slot i).nextSeq * 2 ^ 16) ∧ CoreOnly s t o.core ∧ RegsKeptPrf [] s t ∧ SlotOnly s t i ∧
            t.slot i = { s.slot i with
              nextSeq := ((s.slot i).nextSeq + count) % 65536
              queue := (s.slot i).queue ++ [⟨src, length, stride, count, BitVec.ofNat 16 (leNat ((b.drop 18).take 2)),
                BitVec.ofNat 64 (leNat ((b.drop 20).take 8)), BitVec.ofNat 64 (leNat ((b.drop 28).take 8)), (s.slot i).nextSeq, 0⟩] } ∧
            { t with cores := s.cores, resp := s.resp, regs := s.regs, cvn := s.cvn } = s))

/-- A program that can be loaded: its tile open, and its image free of errors, in memory (R111, R114). -/
def Loads (s : State) (x : Station) : Prop :=
  s.tileFenced x.tile = false ∧ x.codeLen ≤ 65536 ∧ x.codeAddr + x.codeLen ≤ 0x8000000000 ∧ CleanAt s x.codeAddr x.codeLen

/-- R111, R114, R115, R136: when the last program is loaded the caravan is READY, LOADED is raised, and each instruction memory holds the bytes
of its image, no other byte having changed; a fenced station tile faults the loading caravan with FENCED; an abort whose stations have stopped
ends in READY with the dropped sequences counted. -/
def CaravanLifeCycle : Prop :=
  ∀ (s : State) (i : Fin 64),
    let x := s.slot i
    (x.state = .loading → (x.stations.map (·.tile)).Nodup → (∀ y ∈ x.stations, y.tile < 768 ∧ Loads s y) →
      Gives (exec (.stationLoadDone i) s) (fun t =>
        t.slot i = { x with state := .ready } ∧ SlotOnly s t i ∧ RegsKeptPrf [(.CVN_SLOT_EVENT, i)] s t ∧
          t.rr .CVN_SLOT_EVENT i = s.rr .CVN_SLOT_EVENT i ||| 4 ∧
          (∀ n, t.tile n = if n ∈ x.stations.map (·.tile) then { s.tile n with st := .stopped } else s.tile n) ∧
          (∀ y ∈ x.stations, ∀ k, k < y.codeLen → t.byte (0x10000080000 + y.tile * 0x100000 + k) = s.byte (y.codeAddr + k)) ∧
          (∀ a, (∀ y ∈ x.stations, a < 0x10000080000 + y.tile * 0x100000 ∨ 0x10000080000 + y.tile * 0x100000 + y.codeLen ≤ a) →
            t.byte a = s.byte a) ∧
          { t with cvn := s.cvn, regs := s.regs, tiles := s.tiles, mem := s.mem } = s)) ∧
    (∀ (k : Fin 768) (y : Station), x.state = .loading → x.stations[k.val]? = some y → s.tileFenced y.tile = true →
      (∀ j < k.val, ∀ z, x.stations[j]? = some z → s.tileFenced z.tile = false ∧ z.codeLen = 0) → (∀ c, (s.core c).wait = none) →
      Gives (exec (.stationLoadFault i) s) (fun t =>
        (t.slot i).state = .faulted ∧ (t.slot i).stations = x.stations ∧ SlotOnly s t i ∧ t.rr .CVN_SLOT_ERR i = k * 2 ^ 16 + 3 ∧
          t.rr .CVN_SLOT_EVENT i = s.rr .CVN_SLOT_EVENT i ||| 16 ∧ RegsKept [(.CVN_SLOT_EVENT, i), (.CVN_SLOT_ERR, i)] s t ∧
          { t with cvn := s.cvn, regs := s.regs, tiles := s.tiles } = s)) ∧
    (x.state = .aborting → (∀ y ∈ x.stations, (s.tile y.tile).quiet = true) →
      Gives (exec (.abortDone i) s) (fun t =>
        t.slot i = { x with state := .ready, inflight := [], dropped := 0 } ∧ SlotOnly s t i ∧
          RegsKept [(.CVN_SLOT_EVENT, i), (.CVN_SLOT_ABORTED, i)] s t ∧ t.rr .CVN_SLOT_EVENT i = s.rr .CVN_SLOT_EVENT i ||| 8 ∧
          t.rr .CVN_SLOT_ABORTED i = min (s.rr .CVN_SLOT_ABORTED i + (x.inflight.length + x.dropped)) 0xFFFFFFFF ∧
          { t with cvn := s.cvn, regs := s.regs } = s))

/-- The completion record of a sequence lies at the ring's write index, the two counts have gone up by one, and only the record's bytes have
changed in memory (R132, R133, R135). -/
def Completed (s t : State) (i seq : Nat) (st : Status) (flags : BitVec 8) (length : BitVec 32) : Prop :=
  let a := (s.slot i).ringBase + 16 * (s.rr .CVN_SLOT_RING_WR i % 2 ^ (s.slot i).ringOrder)
  t.bytes a 16 = leBytes 2 seq ++ [BitVec.ofNat 8 st.code, flags] ++ leBytes 4 length.toNat ++ leBytes 8 s.tmb.ptime.toNat ∧
    (∀ b, b < a ∨ a + 16 ≤ b → t.byte b = s.byte b) ∧
    t.rr .CVN_SLOT_RING_WR i = (s.rr .CVN_SLOT_RING_WR i + 1) % 2 ^ 32 ∧ t.rr .CVN_SLOT_DONE i = (s.rr .CVN_SLOT_DONE i + 1) % 2 ^ 32 ∧
    (t.slot i).inflight = (s.slot i).inflight.erase seq

/-- The ring of slot `i` has room, and its next record lies in memory that holds no error (R134). -/
def RingReady (s : State) (i : Nat) : Prop :=
  (s.rr .CVN_SLOT_RING_WR i + 2 ^ 32 - s.rr .CVN_SLOT_RING_RD i) % 2 ^ 32 < 2 ^ (s.slot i).ringOrder ∧ (s.slot i).ringBase % 16 = 0 ∧
    CleanAt s ((s.slot i).ringBase + 16 * (s.rr .CVN_SLOT_RING_WR i % 2 ^ (s.slot i).ringOrder)) 16

/-- R127, R128: the controller admits the next queued sequence of a RUNNING caravan with fewer than 1,024 in flight: one entry bale with the
payload read at that moment; a payload whose read times out completes the sequence with TIMEOUT and admits no bale. -/
def Admission : Prop :=
  ∀ (s : State) (i : Fin 64) (q : PushRec) (rest : List PushRec) (e : Station) (more : List Station),
    let x := s.slot i
    let addr := q.src + q.admitted * q.stride
    let seq := (q.firstSeq + q.admitted) % 65536
    let queue := if q.count ≤ q.admitted + 1 then rest else { q with admitted := q.admitted + 1 } :: rest
    s.admissionStopped = false → x.state = .running → x.cadence = none → x.inflight.length < 1024 → x.queue = q :: rest →
      x.stations = e :: more →
      (addr + q.length ≤ 0x8000000000 → CleanAt s addr q.length →
        Gives (exec (.seqAdmit i false) s) (fun t =>
          t.slot i = { x with queue := queue, inflight := x.inflight ++ [seq] } ∧ (∀ j, j ≠ i.val → t.slot j = s.slot j) ∧
            t.cvn.trail = s.cvn.trail ++ [⟨e.tile,
              { handle := BitVec.ofNat 16 (64 * s.f F.CVN_SLOT_GEN i + i), seq := BitVec.ofNat 16 seq, route := q.route, hops := 0
                flags := 1, length := BitVec.ofNat 32 q.length, data0 := q.data0, data1 := q.data1, origin := 0xFFFF },
              s.bytes addr q.length⟩] ∧
            RegsKeptPrf [] s t ∧ { t with cvn := s.cvn, regs := s.regs } = s)) ∧
      (x.waiting = [] → seq ∉ x.inflight → RingReady s i →
        Gives (exec (.seqAdmit i true) s) (fun t =>
          Completed s t i seq .timeout 0 0 ∧ (t.slot i).queue = queue ∧ SlotOnly s t i ∧
            RegsKeptPrf [(.CVN_SLOT_RING_WR, i), (.CVN_SLOT_DONE, i), (.CVN_SLOT_EVENT, i)] s t ∧
            { t with cvn := s.cvn, regs := s.regs, mem := s.mem, cores := s.cores, resp := s.resp } = s))

/-- R134, R136: when the ring has room, a waiting completion of the controller's own is written and no longer waits. -/
def CompletionResume : Prop :=
  ∀ (s : State) (i : Fin 64) (c : Completion) (rest : List Completion), (s.slot i).waiting = c :: rest → c.sink = none → RingReady s i →
    Gives (exec (.completionResume i) s) (fun t =>
      Completed s t i c.seq c.status c.flags c.length ∧ (t.slot i).waiting = rest ∧ SlotOnly s t i ∧
        (0 < s.rr .CVN_SLOT_THRESH i → s.rr .CVN_SLOT_THRESH i ≤ (s.slot i).sinceDone + 1 →
          (t.rr .CVN_SLOT_EVENT i).testBit 0 = true ∧ (t.slot i).sinceDone = 0) ∧
        ((s.slot i).inflight.erase c.seq = [] → (s.slot i).queue = [] → (s.slot i).state = .running ∨ (s.slot i).state = .paused →
          (t.rr .CVN_SLOT_EVENT i).testBit 1 = true) ∧
        RegsKeptPrf [(.CVN_SLOT_RING_WR, i), (.CVN_SLOT_DONE, i), (.CVN_SLOT_EVENT, i)] s t ∧
        { t with cvn := s.cvn, regs := s.regs, mem := s.mem, cores := s.cores, resp := s.resp } = s)

/-- R145, R146, R147, R148: a release whose time has come, with nothing queued: the debt is shown, the next release is scheduled a period later
less the part of the debt that CATCHUP allows, and the release counts as short; a period that is late is counted and raises LATE. -/
def CadenceRelease : Prop :=
  ∀ (s : State) (i : Fin 64) (c : Cadence),
    let x := s.slot i
    let now := max s.tmb.ptime.toNat x.sched
    let debt := now - (x.t0 + x.release * c.period)
    (x.cadence = some c → x.cadenceNext = none → s.admissionStopped = false → x.state = .running → x.relOpen = [] → x.queue = [] → 0 < c.batch →
      Gives (exec (.cadenceRelease i) s) (fun t =>
        t.slot i = { x with
          release := x.release + 1, sched := now + c.period - min debt (c.catchup * c.period / 256), relLate := false } ∧ SlotOnly s t i ∧
          RegsKept [(.CVN_SLOT_DEBT, i), (.CVN_SLOT_SHORT, i)] s t ∧ t.rr .CVN_SLOT_DEBT i = min debt 0xFFFFFFFF ∧
          t.rr .CVN_SLOT_SHORT i = min (s.rr .CVN_SLOT_SHORT i + 1) 0xFFFFFFFF ∧ { t with cvn := s.cvn, regs := s.regs } = s)) ∧
    (x.cadence = some c → x.relOpen ≠ [] → x.relLate = false →
      Gives (exec (.latePeriod i) s) (fun t =>
        t.slot i = { x with relLate := true } ∧ SlotOnly s t i ∧ RegsKept [(.CVN_SLOT_LATE, i), (.CVN_SLOT_EVENT, i)] s t ∧
          t.rr .CVN_SLOT_LATE i = min (s.rr .CVN_SLOT_LATE i + 1) 0xFFFFFFFF ∧ t.rr .CVN_SLOT_EVENT i = s.rr .CVN_SLOT_EVENT i ||| 32 ∧
          { t with cvn := s.cvn, regs := s.regs } = s))

/-- R104, R108, R197: the trail delivers its first bale for a tile: a stale one is discarded and counted; one over the hop limit is discarded
and counted; otherwise it is written into the head buffer when it fits, or waits in the inbox, with HOPS one higher unless it is an entry
bale. -/
def BaleArrive : Prop :=
  ∀ (s : State) (n : Fin 768) (b : Bale) (rest : List Bale), s.cvn.trail = b :: rest → b.dest = n.val →
    let x := s.tile n
    let i := b.wb.handle.toNat % 64
    let hops := if b.wb.origin = 0xFFFF then b.wb.hops.toNat else b.wb.hops.toNat + 1
    let b' : Bale := { b with wb := { b.wb with hops := BitVec.ofNat 8 hops } }
    (x.handle ≠ b.wb.handle →
      Gives (exec (.baleArrive n) s) (fun t =>
        t.rr .CVN_STALE_BALES = min (s.rr .CVN_STALE_BALES + 1) 0xFFFFFFFF ∧ RegsKeptPrf [(.CVN_STALE_BALES, 0)] s t ∧
          t.cvn = { s.cvn with trail := rest } ∧ { t with cvn := s.cvn, regs := s.regs } = s)) ∧
    (x.handle = b.wb.handle → (s.slot i).hopMax < hops → b.wb.seq.toNat ∉ (s.slot i).inflight →
      Gives (exec (.baleArrive n) s) (fun t =>
        t.rr .CVN_SLOT_HOPDROP i = min (s.rr .CVN_SLOT_HOPDROP i + 1) 0xFFFFFFFF ∧ RegsKeptPrf [(.CVN_SLOT_HOPDROP, i)] s t ∧
          t.cvn = { s.cvn with trail := rest } ∧ { t with cvn := s.cvn, regs := s.regs } = s)) ∧
    (x.handle = b.wb.handle → hops ≤ (s.slot i).hopMax →
      (x.posted = [] ∨ x.inbox ≠ [] ∧ (∀ p ∈ x.posted, p.bale ≠ none) →
        Gives (exec (.baleArrive n) s) (fun t =>
          t.tile n = { x with inbox := x.inbox ++ [b'] } ∧ TileOnly n { s with cvn := { s.cvn with trail := rest } } t ∧ t.mem = s.mem)) ∧
      (∀ p more, x.posted = p :: more → p.bale = none → x.inbox = [] → b.payload.length ≤ p.cap → (b.wb.flags &&& 8) = 0 → p.addr % 64 = 0 →
        p.addr + p.cap ≤ 0x80000 → CleanAt s (0x10000000000 + n * 0x100000 + p.addr) p.cap →
        Gives (exec (.baleArrive n) s) (fun t =>
          t.tile n = { x with posted := { p with bale := some b'.wb } :: more, inbox := [] } ∧
            t.bytes (0x10000000000 + n * 0x100000 + p.addr) b.payload.length = b.payload ∧
            (∀ a, a < 0x10000000000 + n * 0x100000 + p.addr ∨ 0x10000000000 + n * 0x100000 + p.addr + b.payload.length ≤ a → t.byte a = s.byte a) ∧
            TileOnly n { s with cvn := { s.cvn with trail := rest } } { t with mem := s.mem })))

/-- R18, R134, R136, R276: writes of CVN_SLOT_RING_RD, CVN_SLOT_THRESH and the fan-out registers. -/
def CaravanRegisters : Prop :=
  ∀ (s : State) (rq : Requester) (i : Fin 64) (n : Fin 768) (v : BitVec 32), MayAct s rq →
    let room := (s.rr .CVN_SLOT_RING_WR i + 2 ^ 32 - v.toNat) % 2 ^ 32
    (s.slot i).ringOrder ≤ 16 →
    (room ≤ 2 ^ (s.slot i).ringOrder →
      Gives (exec (.cvnSlotRingRdWrite rq i v) s) (fun t =>
        t.rr .CVN_SLOT_RING_RD i = v.toNat ∧ t.resp = ⟨.ok, 0⟩ ∧ RegsKept [(.CVN_SLOT_RING_RD, i)] s t ∧
          { t with regs := s.regs, resp := s.resp } = s)) ∧
    (2 ^ (s.slot i).ringOrder < room →
      Gives (exec (.cvnSlotRingRdWrite rq i v) s) (fun t =>
        t.resp = ⟨.bounds, 0⟩ ∧ t.rr .CVN_ERR = 7 ∧ RegsKept [(.CVN_ERR, 0)] s t ∧ { t with regs := s.regs, resp := s.resp } = s)) ∧
    Gives (exec (.cvnSlotThreshWrite rq i v) s) (fun t =>
      t.rr .CVN_SLOT_THRESH i = v.toNat ∧ t.resp = ⟨.ok, 0⟩ ∧ RegsKept [(.CVN_SLOT_THRESH, i)] s t ∧
        t.slot i = { s.slot i with sinceDone := 0 } ∧ SlotOnly s t i ∧ { t with regs := s.regs, resp := s.resp, cvn := s.cvn } = s) ∧
    ((s.tile n).handle = 0 →
      Gives (exec (.foRegisterWrite rq n 4 v) s) (fun t =>
        t.resp = ⟨.badHandle, 0⟩ ∧ t.rr .CVN_ERR = 1 ∧ RegsKept [(.CVN_ERR, 0)] s t ∧ { t with regs := s.regs, resp := s.resp } = s)) ∧
    ((s.tile n).handle ≠ 0 → (s.tile n).handle.toNat % 64 = i →
      (∀ w : Fin 4, (s.slot i).state = .ready ∨ (s.slot i).state = .running ∨ (s.slot i).state = .paused →
        Gives (exec (.foRegisterWrite rq n (4 + 4 * w) v) s) (fun t =>
          t.rr .FO_CAP (4 * n + w) = v.toNat ∧ t.resp = ⟨.ok, 0⟩ ∧ RegsKept [(.FO_CAP, 4 * n + w)] s t ∧
            { t with regs := s.regs, resp := s.resp } = s)) ∧
      ((s.slot i).state = .running → s.foCtlLegal n v.toNat = true →
        Gives (exec (.foRegisterWrite rq n 0 v) s) (fun t =>
          t.resp = ⟨.busy, 0⟩ ∧ t.rr .CVN_ERR = 9 ∧ RegsKept [(.CVN_ERR, 0)] s t ∧ { t with regs := s.regs, resp := s.resp } = s)) ∧
      ((s.slot i).state = .ready ∨ (s.slot i).state = .paused → s.foCtlLegal n v.toNat = true →
        Gives (exec (.foRegisterWrite rq n 0 v) s) (fun t =>
          RegsKept [(.FO_CTL, n)] s t ∧ t.resp = ⟨.ok, 0⟩ ∧ t.f F.FO_CTL_CAP_EN n = v.toNat % 2 ^ 8 ∧ t.f F.FO_CTL_BYP n = v.toNat / 2 ^ 12 % 16 ∧
            t.f F.FO_CTL_EXIT n = v.toNat / 2 ^ 16 % 16 ∧ t.f F.FO_CTL_PSHIFT n = v.toNat / 2 ^ 24 % 16 ∧
            { t with regs := s.regs, resp := s.resp } = s)))

/-- The address g[B] + IMM of an instruction of tile `n` (R168). -/
def operandAddress (s : State) (n : Nat) (o : VOp) : Nat := ((s.tile n).greg o.b + o.fn.signExtend 64).toNat

/-- Where tile `n`'s scratchpad byte `a` lies (R35). -/
def spadByte (n a : Nat) : Nat := 0x10000000000 + n * 0x100000 + a

/-- R156, R165, R168, R169, R188: `sc.ld` reads 1, 2, 4 or 8 bytes of scratchpad, zero-extended or sign-extended as D says; `sc.st` writes that
many low bytes of g[C] and no other byte. The address is a multiple of the width, the range lies in the scratchpad, no queued matrix operation
meets it, and the lines hold no error. -/
def ScalarMemory : Prop :=
  ∀ (s : State) (t : Fin 768) (o : VOp), Executes s t → o.pr = 0 → o.pm = 0 →
    let x := s.tile t
    let a := operandAddress s t o
    let n := 2 ^ (o.d.toNat % 4)
    a % n = 0 → a + n ≤ 0x80000 → CleanAt s (spadByte t a) n →
    (o.c = 0 → o.d.toNat ≤ 6 → x.conflict [(a, n)] [] = false →
      Gives (exec (.scLd t o) s) (fun s' =>
        WroteG t s s' (x.pc + 8) o.a
          (if o.d.toNat < 4 then BitVec.ofNat 64 (leNat (s.bytes (spadByte t a) n))
            else BitVec.ofInt 64 (BitVec.ofNat (8 * n) (leNat (s.bytes (spadByte t a) n))).toInt))) ∧
    (o.a = 0 → o.d.toNat ≤ 3 → x.conflict [] [(a, n)] = false →
      Gives (exec (.scSt t o) s) (fun s' =>
        Ended t s { s' with mem := s.mem } (x.pc + 8) ∧ leNat (s'.bytes (spadByte t a) n) = (x.greg o.c).toNat % 2 ^ (8 * n) ∧
          ∀ b, b < spadByte t a ∨ spadByte t a + n ≤ b → s'.byte b = s.byte b))

/-- R10, R13, R170, R200: `sc.tr` reads a register of the tile itself with all that a read does (here TILE_NOTE, and TILE_ECC, which a read
clears), and `sc.tw` writes one (here TILE_NOTE, whose every write sets the NOTE event, and TILE_TIMER_LO, which is held for the tile). -/
def TileRegisters : Prop :=
  ∀ (s : State) (t : Fin 768) (o : VOp), Executes s t → o.pr = 0 → o.pm = 0 → o.d = 0 →
    let x := s.tile t
    (o.c = 0 → operandAddress s t o = 0x28 →
      SMap.find? s.pairs.captured (pairKey (.tile t) (0x100000C0028 + t * 0x100000)) = none →
      Gives (exec (.scTr t o) s) (fun s' => WroteG t s { s' with resp := s.resp } (x.pc + 8) o.a (BitVec.ofNat 64 (s.rr .TILE_NOTE t)))) ∧
    (o.c = 0 → operandAddress s t o = 0x54 →
      SMap.find? s.pairs.captured (pairKey (.tile t) (0x100000C0054 + t * 0x100000)) = none →
      Gives (exec (.scTr t o) s) (fun s' =>
        (s'.tile t).greg o.a = (if o.a = 0 then 0 else BitVec.ofNat 64 (s.rr .TILE_ECC t)) ∧ s'.rr .TILE_ECC t = 0 ∧
          RegsKeptPrf [(.TILE_ECC, t)] s s' ∧ { s' with regs := s.regs, resp := s.resp, tiles := s.tiles, prf := s.prf } = s ∧
          { s'.tile t with g := x.g } = { x with pc := x.pc + 8, stalled := false })) ∧
    (o.a = 0 → operandAddress s t o = 0x28 →
      Gives (exec (.scTw t o) s) (fun s' =>
        s'.rr .TILE_NOTE t = (x.greg o.c).toNat % 2 ^ 32 ∧ RegsKeptPrf [(.TILE_NOTE, t)] s s' ∧
          s'.tile t = { x with pc := x.pc + 8, stalled := false, latched := x.latched ||| 0x20 } ∧ (∀ u, u ≠ t.val → s'.tile u = s.tile u) ∧
          { s' with regs := s.regs, resp := s.resp, tiles := s.tiles, prf := s.prf } = s)) ∧
    (o.a = 0 → operandAddress s t o = 0x2C →
      Gives (exec (.scTw t o) s) (fun s' =>
        (∀ k, SMap.find? s'.pairs.held k =
          if k = pairKey (.tile t) (0x100000C002C + t * 0x100000) then some ((x.greg o.c).setWidth 32) else SMap.find? s.pairs.held k) ∧
          s'.pairs.captured = s.pairs.captured ∧ Ended t s { s' with resp := s.resp, pairs := s.pairs } (x.pc + 8)))

/-- R160, R163: what an exception of tile `n` leaves: the record, the tile in FAULT with its registers as they were, its running caravan `i`
faulted with CHECK at the tile's station, and no byte of memory written. -/
def Trapped (s t : State) (n i : Nat) (cause : Nat) (st : Status) (addr : Nat) : Prop :=
  t.rr .TILE_EXC n = (s.tile n).pc.toNat * 2 ^ 16 + st.code * 2 ^ 8 + cause ∧ t.pair .TILE_EXC_ADDR_LO .TILE_EXC_ADDR_HI n = addr % 2 ^ 64 ∧
    (t.tile n).st = .fault ∧ (t.tile n).pc = (s.tile n).pc ∧ (t.tile n).g = (s.tile n).g ∧ (t.tile n).v = (s.tile n).v ∧
    (∀ b, t.byte b = s.byte b) ∧ (t.slot i).state = .faulted ∧ (∀ j, j ≠ i → t.slot j = s.slot j) ∧
    t.rr .CVN_SLOT_ERR i = ((s.tile n).station * 2 ^ 16 + Status.check.code) % 2 ^ 32 ∧
    t.rr .CVN_SLOT_EVENT i = Nat.lor (s.rr .CVN_SLOT_EVENT i) 16 ∧
    (∀ y ∈ (s.slot i).stations, (t.tile y.tile).st = .stopped ∨ (t.tile y.tile).st = .fault)

/-! ### Viroth: scalar and control instructions -/

/-- Class 0x0 (R166, R167): each instruction with the 64-bit result that the rules give it. -/
def scalarRegRows (t : Fin 768) (o : VOp) : List (Instr × (BitVec 64 → BitVec 64 → BitVec 64)) :=
  [ (.scAdd t o, fun x y => x + y), (.scSub t o, fun x y => x - y), (.scAnd t o, fun x y => x &&& y), (.scOr t o, fun x y => x ||| y),
    (.scXor t o, fun x y => x ^^^ y), (.scSll t o, fun x y => x <<< (y.toNat % 64)), (.scSrl t o, fun x y => x >>> (y.toNat % 64)),
    (.scSra t o, fun x y => x.sshiftRight (y.toNat % 64)), (.scMul t o, fun x y => x * y),
    (.scMulh t o, fun x y => BitVec.ofInt 64 (x.toInt * y.toInt / 2 ^ 64)),
    (.scDiv t o, fun x y => if y = 0 then 0xFFFFFFFFFFFFFFFF else BitVec.ofInt 64 (x.toInt.tdiv y.toInt)),
    (.scRem t o, fun x y => if y = 0 then x else BitVec.ofInt 64 (x.toInt.tmod y.toInt)),
    (.scSlt t o, fun x y => if x.toInt < y.toInt then 1 else 0), (.scSltu t o, fun x y => if x.toNat < y.toNat then 1 else 0),
    (.scMin t o, fun x y => if x.toInt ≤ y.toInt then x else y), (.scMax t o, fun x y => if x.toInt ≤ y.toInt then y else x) ]

/-- R166, R167: on a tile that executes, each class 0x0 instruction with its unused fields zero writes its result to g[A], moves the
program counter to the next instruction, and changes nothing else. -/
def ScalarRegister : Prop :=
  ∀ (s : State) (t : Fin 768) (o : VOp), Executes s t → o.d = 0 → o.pr = 0 → o.pm = 0 → o.fn = 0 →
    ∀ p ∈ scalarRegRows t o, ∃ s', exec p.1 s = .next s' ∧
      WroteG t s s' ((s.tile t).pc + 8) o.a (p.2 ((s.tile t).greg o.b) ((s.tile t).greg o.c))

/-- Class 0x1 (R168): each instruction that computes g[A] from g[B] and IMM. -/
def scalarImmRows (t : Fin 768) (o : VOp) : List (Instr × (BitVec 64 → BitVec 64 → BitVec 64)) :=
  [ (.scAddi t o, fun x y => x + y), (.scAndi t o, fun x y => x &&& y), (.scOri t o, fun x y => x ||| y),
    (.scXori t o, fun x y => x ^^^ y), (.scSlti t o, fun x y => if x.toInt < y.toInt then 1 else 0) ]

/-- Class 0x1 (R168): the shifts by IMM[5:0]. -/
def scalarShiftRows (t : Fin 768) (o : VOp) : List (Instr × (BitVec 64 → Nat → BitVec 64)) :=
  [ (.scSlli t o, fun x n => x <<< n), (.scSrli t o, fun x n => x >>> n), (.scSrai t o, fun x n => x.sshiftRight n) ]

/-- R168: IMM is sign-extended; `sc.lih` takes it unsigned, and `sc.li` does not use B; a shift with IMM above 63 is no legal form. -/
def ScalarImmediate : Prop :=
  ∀ (s : State) (t : Fin 768) (o : VOp), Executes s t → o.c = 0 → o.d = 0 → o.pr = 0 → o.pm = 0 →
    (∀ p ∈ scalarImmRows t o, ∃ s', exec p.1 s = .next s' ∧
      WroteG t s s' ((s.tile t).pc + 8) o.a (p.2 ((s.tile t).greg o.b) (o.fn.signExtend 64))) ∧
    (o.fn.toNat < 64 → ∀ p ∈ scalarShiftRows t o, ∃ s', exec p.1 s = .next s' ∧
      WroteG t s s' ((s.tile t).pc + 8) o.a (p.2 ((s.tile t).greg o.b) o.fn.toNat)) ∧
    (o.b = 0 → ∃ s', exec (.scLi t o) s = .next s' ∧ WroteG t s s' ((s.tile t).pc + 8) o.a (o.fn.signExtend 64)) ∧
    (o.b = 0 → ∃ s', exec (.scLih t o) s = .next s' ∧
      WroteG t s s' ((s.tile t).pc + 8) o.a (o.fn ++ ((s.tile t).greg o.a).setWidth 32))

/-- The condition that D of `ct.br` names (R172). -/
def branchTaken (d : Nat) (x y : BitVec 64) : Prop :=
  (d = 0 ∧ x = y) ∨ (d = 1 ∧ x ≠ y) ∨ (d = 2 ∧ x.toInt < y.toInt) ∨ (d = 3 ∧ y.toInt ≤ x.toInt) ∨ (d = 4 ∧ x.toNat < y.toNat) ∨
    (d = 5 ∧ y.toNat ≤ x.toNat)

/-- R171, R172, R190: where each control instruction goes and what it writes. `ct.jal` and `ct.jr` write the address of the next
instruction to g[A]; `ct.fence` is done at once when nothing is under way, and else the tile waits; a condition code above 5 is ILLEGAL. -/
def Control : Prop :=
  ∀ (s : State) (t : Fin 768) (o : VOp), Executes s t → o.pr = 0 → o.pm = 0 →
    let x := s.tile t
    let next := x.pc + 8
    let target := (x.pc.toNat : Int) + o.fn.toInt * 8
    (o.a = 0 → o.d.toNat ≤ 5 → ¬branchTaken o.d.toNat (x.greg o.b) (x.greg o.c) →
      ∃ s', exec (.ctBr t o) s = .next s' ∧ Ended t s s' next) ∧
    (o.a = 0 → o.d.toNat ≤ 5 → branchTaken o.d.toNat (x.greg o.b) (x.greg o.c) → 0 ≤ target → target ≤ 0xFFF8 → target % 8 = 0 →
      ∃ s', exec (.ctBr t o) s = .next s' ∧ Ended t s s' (BitVec.ofInt 16 target)) ∧
    (o.b = 0 → o.c = 0 → o.d = 0 → 0 ≤ target → target ≤ 0xFFF8 → target % 8 = 0 →
      ∃ s', exec (.ctJal t o) s = .next s' ∧ WroteG t s s' (BitVec.ofInt 16 target) o.a (BitVec.ofNat 64 (x.pc.toNat + 8))) ∧
    (o.c = 0 → o.d = 0 → (x.greg o.b + o.fn.signExtend 64).toNat % 8 = 0 → (x.greg o.b + o.fn.signExtend 64).toNat ≤ 0xFFF8 →
      ∃ s', exec (.ctJr t o) s = .next s' ∧
        WroteG t s s' ((x.greg o.b + o.fn.signExtend 64).setWidth 16) o.a (BitVec.ofNat 64 (x.pc.toNat + 8))) ∧
    (o.a = 0 → o.b = 0 → o.c = 0 → o.d = 0 → o.fn = 0 →
      (∃ s', exec (.ctNop t o) s = .next s' ∧ Ended t s s' next) ∧
      (x.mxq = [] → x.moving = false → x.sending = none → x.st = .run →
        ∃ s', exec (.ctFence t o) s = .next s' ∧ Ended t s s' next) ∧
      (x.mxq ≠ [] → ∃ s', exec (.ctFence t o) s = .next s' ∧ TileOnly t s s' ∧
        s'.tile t = { x with st := .wait, waiting := some .fence, stalled := false })) ∧
    (∀ i : Fin 64, s.slotOfTile t = some i.val → (s.slot i).state = .running → o.a = 0 → 5 < o.d.toNat →
      Gives (exec (.ctBr t o) s) (fun u => Trapped s u t i 1 .bounds (virothWord 2 0 o).toNat))

/-- R159 to R163: the tile of a station of a running caravan takes an exception. A class 0x0 instruction with an unused field that is not zero is
ILLEGAL, and the word is recorded; one with nothing behind it at 0xFFF8 raises FETCH; `sc.ld` raises ILLEGAL for a width that D does not name,
whatever its address, else MISALIGN, else RANGE. No register and no byte of memory is written. -/
def TileExceptions : Prop :=
  ∀ (s : State) (t : Fin 768) (i : Fin 64) (o : VOp), s.issues t = true → s.slotOfTile t = some i.val → (s.slot i).state = .running →
    let unused := o.d ≠ 0 ∨ o.pr ≠ 0 ∨ o.pm ≠ 0 ∨ o.fn ≠ 0
    let fits := (s.tile t).pc.toNat < 0xFFF8
    (unused → Gives (exec (.scAdd t o) s) (fun u => Trapped s u t i 1 .bounds (virothWord 0 0 o).toNat)) ∧
    (unused → Gives (exec (.scMax t o) s) (fun u => Trapped s u t i 1 .bounds (virothWord 0 15 o).toNat)) ∧
    (¬unused → ¬fits → Gives (exec (.scAdd t o) s) (fun u => Trapped s u t i 2 .bounds 0x10000)) ∧
    (let a := operandAddress s t o
     let n := 2 ^ (o.d.toNat % 4)
     o.c = 0 → o.pr = 0 → o.pm = 0 →
       (6 < o.d.toNat → Gives (exec (.scLd t o) s) (fun u => Trapped s u t i 1 .bounds (virothWord 1 10 o).toNat)) ∧
       (o.d.toNat ≤ 6 → fits → a % n ≠ 0 → Gives (exec (.scLd t o) s) (fun u => Trapped s u t i 3 .bounds a)) ∧
       (o.d.toNat ≤ 6 → fits → a % n = 0 → 0x80000 < a + n → Gives (exec (.scLd t o) s) (fun u => Trapped s u t i 4 .bounds a)))

/-- Bits of FN (R173). -/
def fnField (o : VOp) (lo n : Nat) : Nat := (o.fn.extractLsb' lo n).toNat

/-- Lane `l` of an instruction's predicate (R150): p0 has every lane active. -/
def laneOn (x : Tile) (o : VOp) (l : Nat) : Bool := (x.pr o.pr.toNat).testBit l

/-- A vector instruction of tile `n` has written v[A] (R165, R173, R226): active lanes take `f`, the others 0 under PM = 1 and keep their value
under PM = 0; the flags of the active lanes join TILE_FLAGS; v[A] is poisoned by a poisoned source, or when a lane of a poisoned v[A] is kept.
`gen` is what the stochastic generator holds. -/
def WroteV (n : Nat) (s t : State) (o : VOp) (src : Bool) (gen : BitVec 64) (f : Nat → Rounded) : Prop :=
  let x := s.tile n
  let y := t.tile n
  (∀ l < 64, y.lane o.a l = if laneOn x o l then (f l).code % 2 ^ 32 else if o.pm = 1 then 0 else x.lane o.a l) ∧
    (∀ k, k ≠ o.a → (y.vp k = x.vp k ∧ ∀ l < 64, y.lane k l = x.lane k l)) ∧
    y.vp o.a = (src || (x.vp o.a && o.pm == 0 && (List.range 64).any (fun l => !laneOn x o l))) ∧
    { y with v := x.v, vpois := x.vpois } = { x with pc := x.pc + 8, stalled := false, gen := gen } ∧
    t.rr .TILE_FLAGS n = s.rr .TILE_FLAGS n ||| ((List.range 64).filter (laneOn x o)).foldl (fun a l => a ||| (f l).flags) 0 ∧
    RegsKeptPrf [(.TILE_FLAGS, n)] s t ∧ (∀ u, u ≠ n → t.tile u = s.tile u) ∧
    { t with regs := s.regs, prf := s.prf, tiles := s.tiles } = s

/-- A row of class 0x3: its OPC, whether it uses C and D, whether RM = 1 draws values, and what its FN and registers must hold besides the
common fields (R173, R174). -/
structure VecRow where
  row : Instr
  opc : Nat
  useC : Bool
  useD : Bool
  draws : Bool
  legal : Bool

/-- The class 0x3 instructions that write each lane of v[A] from the same lane of their sources (R174). -/
def vecRows (t : Fin 768) (o : VOp) : List VecRow :=
  let ty := fnField o 28 4
  let plain := fnField o 24 1 == 0 && fnField o 20 4 == 0 && fnField o 16 4 == 0
  let zs := fnField o 20 4 == 0 && fnField o 16 4 == 0
  let fmt (n : Nat) : Bool := [0x0, 0x1, 0x2, 0x4, 0x8, 0x9, 0xC, 0xD].contains n
  [ ⟨.vAdd t o, 0, true, false, ty == 0, plain⟩, ⟨.vSub t o, 1, true, false, ty == 0, plain⟩, ⟨.vMul t o, 2, true, false, ty == 0, zs⟩,
    ⟨.vFma t o, 3, true, true, ty == 0, zs⟩, ⟨.vMin t o, 4, true, false, false, plain⟩, ⟨.vMax t o, 5, true, false, false, plain⟩,
    ⟨.vAnd t o, 6, true, false, false, plain && ty != 0⟩, ⟨.vOr t o, 7, true, false, false, plain && ty != 0⟩,
    ⟨.vXor t o, 8, true, false, false, plain && ty != 0⟩,
    ⟨.vShl t o, 9, true, false, false, fnField o 24 1 == 0 && fnField o 20 4 < 2 && fnField o 16 4 == 0 && ty != 0⟩,
    ⟨.vCvt t o, 0xC, false, false, true, fnField o 24 1 == 0 && ty == 0 && fmt (fnField o 20 4) && fmt (fnField o 16 4)⟩,
    ⟨.vSpec t o, 0xE, false, false, false, fnField o 24 1 == 0 && ty == 0 && fnField o 20 4 < 5 && fnField o 26 2 == 0 && fnField o 16 4 == 0⟩ ]

/-- R165, R173, R174, R219, R223, R224, R225, R226: what each lane-wise class 0x3 instruction does to its tile. With RM = 1 an instruction
that rounds takes lane `l`'s value from the tile's generator, which then has moved on by 16 words. The value of one lane is `lane3`, whose integer
cases `VectorIntegerLanes` states from the rules. -/
def VectorLanes : Prop :=
  ∀ (s : State) (t : Fin 768) (o : VOp), Executes s t →
    fnField o 28 4 ≤ 2 → fnField o 26 2 ≤ 1 → (fnField o 25 1 = 1 → fnField o 28 4 ≠ 0) → fnField o 0 16 = 0 →
    ∀ r ∈ vecRows t o, r.legal = true → (r.useC = true ∨ o.c = 0) → (r.useD = true ∨ o.d = 0) →
      let x := s.tile t
      let stoch := r.draws && fnField o 26 2 == 1
      let rm (l : Nat) : Rm := if stoch then .sr (genValue x.gen.toNat l) else .rne
      Gives (exec r.row s) (WroteV t s · o (x.vp o.b || (r.useC && x.vp o.c) || (r.useD && x.vp o.d))
        (if stoch then x.gen + BitVec.ofNat 64 (16 * 0x9E3779B97F4A7C15) else x.gen) (fun l =>
          lane3 r.opc (fnField o 28 4) (rm l) (fnField o 25 1 == 1) (fnField o 24 1 == 1) (fnField o 20 4) (fnField o 16 4)
            (x.lane o.b l) (x.lane o.c l) (x.lane o.d l)))

/-- R174, R247: one lane of the integer operations: without SAT the low 32 bits of the exact result, with SAT the nearest value that the type
holds, and OF when that is not the exact result. TYPE 1 is INT32, TYPE 2 UINT32. -/
def VectorIntegerLanes : Prop :=
  ∀ (x y z : BitVec 32) (rm : Rm) (zs : Bool) (fmt : Nat),
    (∀ ty ∈ [1, 2], ∀ p ∈ [(0, x + y), (1, x - y), (2, x * y), (3, x * y + z), (6, x &&& y), (7, x ||| y), (8, x ^^^ y)],
      lane3 p.1 ty rm false zs 0 fmt x.toNat y.toNat z.toNat = ⟨p.2.toNat, 0⟩) ∧
    (∀ ty ∈ [1, 2], lane3 9 ty rm false zs 0 fmt x.toNat y.toNat z.toNat = ⟨(x <<< (y.toNat % 32)).toNat, 0⟩) ∧
    lane3 9 1 rm false zs 1 fmt x.toNat y.toNat z.toNat = ⟨(x.sshiftRight (y.toNat % 32)).toNat, 0⟩ ∧
    lane3 9 2 rm false zs 1 fmt x.toNat y.toNat z.toNat = ⟨(x >>> (y.toNat % 32)).toNat, 0⟩ ∧
    lane3 4 1 rm false zs 0 fmt x.toNat y.toNat z.toNat = ⟨(if x.toInt ≤ y.toInt then x else y).toNat, 0⟩ ∧
    lane3 5 1 rm false zs 0 fmt x.toNat y.toNat z.toNat = ⟨(if x.toInt ≤ y.toInt then y else x).toNat, 0⟩ ∧
    lane3 4 2 rm false zs 0 fmt x.toNat y.toNat z.toNat = ⟨min x.toNat y.toNat, 0⟩ ∧
    lane3 5 2 rm false zs 0 fmt x.toNat y.toNat z.toNat = ⟨max x.toNat y.toNat, 0⟩ ∧
    (∀ p ∈ [(0, x.toInt + y.toInt), (1, x.toInt - y.toInt), (2, x.toInt * y.toInt), (3, x.toInt * y.toInt + z.toInt)],
      lane3 p.1 1 rm true zs 0 fmt x.toNat y.toNat z.toNat =
        ⟨(BitVec.ofInt 32 (max (-0x80000000) (min 0x7FFFFFFF p.2))).toNat, if p.2 < -0x80000000 ∨ 0x7FFFFFFF < p.2 then 4 else 0⟩) ∧
    (∀ p ∈ [(0, (x.toNat : Int) + y.toNat), (1, (x.toNat : Int) - y.toNat), (2, (x.toNat : Int) * y.toNat),
        (3, (x.toNat : Int) * y.toNat + z.toNat)],
      lane3 p.1 2 rm true zs 0 fmt x.toNat y.toNat z.toNat =
        ⟨(max 0 (min 0xFFFFFFFF p.2)).toNat, if p.2 < 0 ∨ 0xFFFFFFFF < p.2 then 4 else 0⟩)

/-- Register p`k` of tile `n` written, or discarded by p0, and the instruction done; no other register of the tile has changed (R150). -/
def WroteP (n : Nat) (s t : State) (k : Nat) (v : Nat) : Prop :=
  TileOnly n s t ∧ (∀ j < 8, (t.tile n).pr j = if j = k ∧ j ≠ 0 then v else (s.tile n).pr j) ∧
    { t.tile n with p := (s.tile n).p } = { s.tile n with pc := (s.tile n).pc + 8, stalled := false }

/-- R174, R175, R246: `v.cmp` writes p[A], with inactive bits 0; `v.sel` chooses between B and C by p[D]; `v.red` reduces the active lanes of
v[B] in the fixed order into lane 0 of v[A] and writes the other lanes 0. -/
def VectorSelect : Prop :=
  ∀ (s : State) (t : Fin 768) (o : VOp), Executes s t →
    fnField o 28 4 ≤ 2 → fnField o 26 2 ≤ 1 → (fnField o 25 1 = 1 → fnField o 28 4 ≠ 0) → fnField o 24 1 = 0 → fnField o 0 20 = 0 →
    let x := s.tile t
    let ty := fnField o 28 4
    let sub := fnField o 20 4
    (o.d = 0 → o.a.toNat ≤ 7 → sub ≤ 4 → (sub = 4 → ty = 0) → x.vp o.b = false → x.vp o.c = false →
      Gives (exec (.vCmp t o) s) (fun s' =>
        WroteP t s s' o.a.toNat
          (((List.range 64).filter (fun l => laneOn x o l && cmpLane ty sub (x.lane o.b l) (x.lane o.c l))).map (2 ^ ·)).sum)) ∧
    (o.d.toNat ≤ 7 → sub = 0 →
      Gives (exec (.vSel t o) s) (WroteV t s · o (x.vp o.b || x.vp o.c) x.gen (fun l =>
        ⟨if (x.pr o.d.toNat).testBit l then x.lane o.b l else x.lane o.c l, 0⟩))) ∧
    (o.c = 0 → o.d = 0 → sub ≤ 2 → fnField o 26 2 = 0 →
      let r := reduce ty sub ((List.range 64).map (fun l => if laneOn x o l then x.lane o.b l else redIdentity ty sub))
      Gives (exec (.vRed t o) s) (fun s' =>
        (∀ l < 64, (s'.tile t).lane o.a l = if l = 0 then r.1 % 2 ^ 32 else 0) ∧ (s'.tile t).vp o.a = x.vp o.b ∧
          (∀ k, k ≠ o.a → ((s'.tile t).vp k = x.vp k ∧ ∀ l < 64, (s'.tile t).lane k l = x.lane k l)) ∧
          s'.rr .TILE_FLAGS t = s.rr .TILE_FLAGS t ||| r.2 ∧ RegsKeptPrf [(.TILE_FLAGS, t)] s s' ∧
          { s'.tile t with v := x.v, vpois := x.vpois } = { x with pc := x.pc + 8, stalled := false } ∧
          (∀ u, u ≠ t.val → s'.tile u = s.tile u) ∧ { s' with regs := s.regs, prf := s.prf, tiles := s.tiles } = s))

/-- R177: `v.bcast`, `v.perm`, `v.put`, `v.get` and the predicate instructions. -/
def VectorMoves : Prop :=
  ∀ (s : State) (t : Fin 768) (o : VOp), Executes s t →
    let x := s.tile t
    (o.c = 0 → o.d = 0 → o.fn = 0 →
      Gives (exec (.vBcast t o) s) (WroteV t s · o false x.gen (fun _ => ⟨(x.greg o.b).toNat, 0⟩))) ∧
    (o.d = 0 → o.fn = 0 →
      Gives (exec (.vPerm t o) s) (WroteV t s · o (x.vp o.b || x.vp o.c) x.gen (fun l => ⟨x.lane o.b (x.lane o.c l % 64), 0⟩))) ∧
    (o.c = 0 → o.d = 0 → o.pr = 0 → o.pm = 0 →
      (o.fn.toNat < 64 → x.vp o.b = false →
        Gives (exec (.vGet t o) s) (fun s' => WroteG t s s' (x.pc + 8) o.a (BitVec.ofNat 64 (x.lane o.b o.fn.toNat)))) ∧
      (o.fn.toNat < 64 →
        Gives (exec (.vPut t o) s) (fun s' =>
          TileOnly t s s' ∧ { s'.tile t with v := x.v } = { x with pc := x.pc + 8, stalled := false } ∧
            ∀ k, ∀ l < 64, (s'.tile t).lane k l =
              if k = o.a ∧ l = o.fn.toNat then (x.greg o.b).toNat % 2 ^ 32 else x.lane k l)) ∧
      (o.fn = 0 → o.a.toNat ≤ 7 → Gives (exec (.pMov t o) s) (fun s' => WroteP t s s' o.a.toNat (x.greg o.b).toNat)) ∧
      (o.fn = 0 → o.b.toNat ≤ 7 →
        Gives (exec (.pGet t o) s) (fun s' => WroteG t s s' (x.pc + 8) o.a (BitVec.ofNat 64 (x.pr o.b.toNat)))) ∧
      (o.fn = 0 → o.b.toNat ≤ 7 →
        Gives (exec (.pCnt t o) s) (fun s' =>
          WroteG t s s' (x.pc + 8) o.a (BitVec.ofNat 64 ((List.range 64).filter (x.pr o.b.toNat).testBit).length)))) ∧
    (o.d = 0 → o.pr = 0 → o.pm = 0 → o.a.toNat ≤ 7 → o.b.toNat ≤ 7 → o.c.toNat ≤ 7 → o.fn.toNat ≤ 3 →
      let p := BitVec.ofNat 64 (x.pr o.b.toNat)
      let q := BitVec.ofNat 64 (x.pr o.c.toNat)
      Gives (exec (.pOp t o) s) (fun s' =>
        WroteP t s s' o.a.toNat
          (if o.fn = 0 then p &&& q else if o.fn = 1 then p ||| q else if o.fn = 2 then p ^^^ q else p &&& ~~~q).toNat))

/-- The address of lane `l` of `v.gath` and `v.scat` (R177, R178). -/
def laneAddress (x : Tile) (o : VOp) (l : Nat) : Nat := (x.greg o.b + BitVec.ofNat 64 (x.lane o.c l)).toNat

/-- The active lanes of an instruction with the 4 bytes each reaches. -/
def activeRanges (x : Tile) (o : VOp) (f : Nat → Nat) : List (Nat × Nat) := ((List.range 64).filter (laneOn x o)).map (fun l => (f l, 4))

/-- R177, R178, R188: the vector loads fill active lanes from scratchpad, the vector stores write active lanes and no other byte; where two
active lanes of `v.scat` name one address, the higher lane's value stands. The lines hold no error and no matrix operation meets them. -/
def VectorMemory : Prop :=
  ∀ (s : State) (t : Fin 768) (o : VOp), Executes s t →
    let x := s.tile t
    let a := operandAddress s t o
    let at4 (l : Nat) : Nat := a + 4 * l
    let word (b : Nat) : Nat := leNat (s.bytes (spadByte t b) 4)
    (o.d = 0 → o.c = 0 → a % 64 = 0 → a + 256 ≤ 0x80000 → CleanAt s (spadByte t a) 256 → x.conflict (activeRanges x o at4) [] = false →
      Gives (exec (.vLd t o) s) (WroteV t s · o false x.gen (fun l => ⟨word (at4 l), 0⟩))) ∧
    (o.d = 0 → o.fn = 0 → (∀ l < 64, laneOn x o l = true →
        laneAddress x o l % 4 = 0 ∧ laneAddress x o l + 4 ≤ 0x80000 ∧ CleanAt s (spadByte t (laneAddress x o l)) 4) →
      x.conflict (activeRanges x o (laneAddress x o)) [] = false →
      Gives (exec (.vGath t o) s) (WroteV t s · o false x.gen (fun l => ⟨word (laneAddress x o l), 0⟩))) ∧
    (o.a = 0 → o.d = 0 → a % 64 = 0 → a + 256 ≤ 0x80000 → CleanAt s (spadByte t a) 256 → x.vp o.c = false →
      x.conflict [] (activeRanges x o at4) = false →
      Gives (exec (.vSt t o) s) (fun s' =>
        Ended t s { s' with mem := s.mem } (x.pc + 8) ∧
          (∀ l < 64, leNat (s'.bytes (spadByte t (at4 l)) 4) = if laneOn x o l then x.lane o.c l else word (at4 l)) ∧
          ∀ b, b < spadByte t a ∨ spadByte t a + 256 ≤ b → s'.byte b = s.byte b)) ∧
    (o.a = 0 → o.fn = 0 → (∀ l < 64, laneOn x o l = true →
        laneAddress x o l % 4 = 0 ∧ laneAddress x o l + 4 ≤ 0x80000 ∧ CleanAt s (spadByte t (laneAddress x o l)) 4) →
      x.vp o.d = false → x.conflict [] (activeRanges x o (laneAddress x o)) = false →
      Gives (exec (.vScat t o) s) (fun s' =>
        Ended t s { s' with mem := s.mem } (x.pc + 8) ∧
          (∀ l < 64, laneOn x o l = true → (∀ k < 64, l < k → laneOn x o k = true → laneAddress x o k ≠ laneAddress x o l) →
            leNat (s'.bytes (spadByte t (laneAddress x o l)) 4) = x.lane o.d l) ∧
          ∀ b, (∀ l < 64, laneOn x o l = true → b < spadByte t (laneAddress x o l) ∨ spadByte t (laneAddress x o l) + 4 ≤ b) →
            s'.byte b = s.byte b))

/-- A matrix operation queued by tile `n`, its instruction done (R182). -/
def Queued (n : Nat) (s t : State) (op : MxOp) : Prop :=
  TileOnly n s t ∧
    t.tile n = { s.tile n with pc := (s.tile n).pc + 8, stalled := false, mxq := (s.tile n).mxq ++ [op] }

/-- R179, R181, R182, R183, R184, R186, R188, R190, R225: when its checks pass, its queue has room and the scoreboard does not hold it, each
matrix instruction queues its operation; with K = 0 `mx.mac` and `mx.macs` do nothing; with a full queue or a conflict the instruction waits at
issue; `mx.wait` ends at once when nothing is queued on its accumulator and else blocks the tile. -/
def MatrixIssue : Prop :=
  ∀ (s : State) (t : Fin 768) (o : VOp), Executes s t → o.pr = 0 → o.pm = 0 →
    let x := s.tile t
    let fmt := fnField o 28 4
    let clr := fnField o 27 1 == 1
    let fam : AccMode := if fmt = 8 ∨ fmt = 9 then .fp else .xa
    let a := (x.greg o.b).toNat
    let b := (x.greg o.c).toNat
    let k := (x.greg o.d).toNat
    let len := panelBytes fmt k
    let free := x.mxq.length < 4
    let fits := a + len ≤ 0x80000 ∧ b + len ≤ 0x80000 ∧ (fmt ∈ [3, 5, 6] → k % 32 = 0) ∧
      (clr = true ∨ x.modeAfter (o.a == 1) = .none ∨ x.modeAfter (o.a == 1) = fam)
    (o.a.toNat ≤ 1 → fmt ∈ [0, 1, 2, 3, 4, 5, 6, 8, 9] →
      (fnField o 0 27 = 0 →
        (k = 0 → Gives (exec (.mxMac t o) s) (fun s' => Ended t s s' (x.pc + 8))) ∧
        (0 < k → fits →
          (free → x.conflict [(a, len), (b, len)] [] = false →
            Gives (exec (.mxMac t o) s) (fun s' => Queued t s s' (.mac (o.a == 1) a b k (BitVec.ofNat 4 fmt) clr))) ∧
          (¬free ∨ x.conflict [(a, len), (b, len)] [] = true →
            Gives (exec (.mxMac t o) s) (fun s' => TileOnly t s s' ∧ s'.tile t = { x with stalled := true })))) ∧
      (fnField o 0 20 = 0 → fnField o 25 2 ≠ 0 →
        let kind := fnField o 25 2
        let m := (x.greg (BitVec.ofNat 5 (fnField o 20 5))).toNat
        (k = 0 → Gives (exec (.mxMacs t o) s) (fun s' => Ended t s s' (x.pc + 8))) ∧
        (0 < k → fits → (if kind = 3 then k % 64 = 0 else k % 4 = 0) → m % (if kind = 1 then 32 else if kind = 2 then 16 else 8) = 0 →
          m + metaBytes kind k ≤ 0x80000 → free → x.conflict [(a, len), (b, len), (m, metaBytes kind k)] [] = false →
          Gives (exec (.mxMacs t o) s) (fun s' =>
            Queued t s s' (.macs (o.a == 1) a b k (BitVec.ofNat 4 fmt) clr (BitVec.ofNat 2 kind) m))))) ∧
    (o.b.toNat ≤ 1 → o.c = 0 → o.d = 0 → fnField o 0 25 = 0 → fnField o 26 2 ≤ 1 → fmt ∈ [0, 1, 2, 3, 5, 6, 8, 9, 0xC, 0xD, 0xF] →
      (x.greg o.a).toNat + drainBytes fmt ≤ 0x80000 → free → x.conflict [] [((x.greg o.a).toNat, drainBytes fmt)] = false →
      let draws := fnField o 26 2 == 1 && fmt != 0xF
      Gives (exec (.mxDrain t o) s) (fun s' =>
        TileOnly t s s' ∧ s'.tile t = { x with
          pc := x.pc + 8, stalled := false, gen := if draws then x.gen + BitVec.ofNat 64 (1024 * 0x9E3779B97F4A7C15) else x.gen
          mxq := x.mxq ++ [.drain (o.b == 1) (x.greg o.a).toNat (BitVec.ofNat 4 fmt) draws (fnField o 25 1 == 1) x.gen] })) ∧
    (o.a.toNat ≤ 1 → o.c = 0 → o.d = 0 →
      (fnField o 25 7 = 0 → fnField o 0 24 = 0 → a + 49152 ≤ 0x80000 → free → x.conflict [(a, 49152)] [] = false →
        Gives (exec (.mxLoad t o) s) (fun s' => Queued t s s' (.load (o.a == 1) a (fnField o 24 1 == 1)))) ∧
      (o.b = 0 → o.fn = 0 → free → Gives (exec (.mxZero t o) s) (fun s' => Queued t s s' (.zero (o.a == 1)))) ∧
      (o.b = 0 → o.fn = 0 → (∀ p ∈ x.mxq, p.acc ≠ (o.a == 1)) →
        x.st = .run → Gives (exec (.mxWait t o) s) (fun s' => Ended t s s' (x.pc + 8))) ∧
      (o.b = 0 → o.fn = 0 → (∃ p ∈ x.mxq, p.acc = (o.a == 1)) →
        Gives (exec (.mxWait t o) s) (fun s' =>
          TileOnly t s s' ∧ s'.tile t = { x with st := .wait, waiting := some (.matrix (o.a == 1)), stalled := false })))

/-- Cell (`i`, `j`) of accumulator `a` as a signed number in units of 2^-56 (R232). -/
def cellInt (x : Tile) (a : Bool) (i j : Nat) : Int := (BitVec.ofNat 96 (x.cell a i j)).toInt

/-- The signed byte at scratchpad address `b` of tile `n`. -/
def spadInt8 (s : State) (n b : Nat) : Int := (s.byte (spadByte n b)).toInt

/-- The exact sum that `mx.mac` of INT8 panels adds to a cell (R182). -/
def int8Sum (s : State) (n a b i j : Nat) : Nat → Int
  | 0 => 0
  | k + 1 => int8Sum s n a b i j k + spadInt8 s n (a + 64 * k + i) * spadInt8 s n (b + 64 * k + j)

/-- R182, R183, R184, R187, R232, R233, R235: what an operation does on its engine. `mx.mac` of INT8 panels adds the exact inner products to
the cells of its accumulator when no cell leaves the range of XA96; `mx.zero` clears; `mx.drain` to RAW writes each cell as 12 bytes in row
order; `mx.load` is its inverse in XA mode. -/
def MatrixCompute : Prop :=
  ∀ (s : State) (t : Fin 768) (acc : Bool) (rest : List MxOp),
    let x := s.tile t
    (∀ (a b k : Nat) (clr : Bool), x.mxq = .mac acc a b k 0 clr :: rest → a + 64 * k ≤ 0x80000 → b + 64 * k ≤ 0x80000 →
      CleanAt s (spadByte t a) (64 * k) → CleanAt s (spadByte t b) (64 * k) →
      (∀ i < 64, ∀ j < 64, -2 ^ 95 ≤ (if clr then 0 else cellInt x acc i j) + 2 ^ 56 * int8Sum s t a b i j k ∧
        (if clr then 0 else cellInt x acc i j) + 2 ^ 56 * int8Sum s t a b i j k < 2 ^ 95) →
      Gives (exec (.mxOpComplete t false) s) (fun s' =>
        TileOnly t s s' ∧
          (∀ i < 64, ∀ j < 64, cellInt (s'.tile t) acc i j = (if clr then 0 else cellInt x acc i j) + 2 ^ 56 * int8Sum s t a b i j k ∧
            (s'.tile t).cell (!acc) i j = x.cell (!acc) i j) ∧
          (s'.tile t).mode acc = .xa ∧ (s'.tile t).accPois acc = (!clr && x.accPois acc) ∧
          { s'.tile t with acc := x.acc, mode0 := x.mode0, mode1 := x.mode1, pois0 := x.pois0, pois1 := x.pois1 } = { x with mxq := rest } ∧
          (s'.tile t).mode (!acc) = x.mode (!acc) ∧ (s'.tile t).accPois (!acc) = x.accPois (!acc))) ∧
    (x.mxq = .zero acc :: rest →
      Gives (exec (.mxOpComplete t true) s) (fun s' =>
        TileOnly t s s' ∧
          (∀ i < 64, ∀ j < 64, (s'.tile t).cell acc i j = 0 ∧ (s'.tile t).cell (!acc) i j = x.cell (!acc) i j) ∧
          { s'.tile t with acc := x.acc } = { (x.setMode acc .none).setAccPois acc false with mxq := rest })) ∧
    (∀ (d : Nat) (clr : Bool) (g : BitVec 64), x.mxq = .drain acc d 0xF false clr g :: rest → x.mode acc ≠ .none → x.accPois acc = false →
      d + 49152 ≤ 0x80000 → CleanAt s (spadByte t d) 49152 →
      Gives (exec (.mxOpComplete t true) s) (fun s' =>
        TileOnly t s { s' with mem := s.mem } ∧
          (∀ i < 64, ∀ j < 64, leNat (s'.bytes (spadByte t d + 12 * (64 * i + j)) 12) = x.cell acc i j ∧
            (s'.tile t).cell acc i j = (if clr then 0 else x.cell acc i j) ∧ (s'.tile t).cell (!acc) i j = x.cell (!acc) i j) ∧
          (∀ b, b < spadByte t d ∨ spadByte t d + 49152 ≤ b → s'.byte b = s.byte b) ∧
          { s'.tile t with acc := x.acc } = { (if clr then (x.setMode acc .none).setAccPois acc false else x) with mxq := rest })) ∧
    (∀ (d : Nat), x.mxq = .load acc d false :: rest → d + 49152 ≤ 0x80000 → CleanAt s (spadByte t d) 49152 →
      Gives (exec (.mxOpComplete t true) s) (fun s' =>
        TileOnly t s s' ∧
          (∀ i < 64, ∀ j < 64, (s'.tile t).cell acc i j = leNat (s.bytes (spadByte t d + 12 * (64 * i + j)) 12) ∧
            (s'.tile t).cell (!acc) i j = x.cell (!acc) i j) ∧
          { s'.tile t with acc := x.acc } = { (x.setMode acc .xa).setAccPois acc false with mxq := rest }))

/-- R191, R192, R193, R200: a movement takes its tag; `mv.poll` and `mv.wait` answer its status and free it; a movement between the scratchpad
and memory whose lines hold no error copies exactly its bytes, ends with OK and sets the MV event; one whose range passes the scratchpad's end
or that of memory copies nothing and ends with BOUNDS. -/
def Movements : Prop :=
  ∀ (s : State) (t : Fin 768) (o : VOp),
    let x := s.tile t
    let k := o.fn.toNat
    (Executes s t → o.pr = 0 → o.pm = 0 → k < 16 →
      (o.a = 0 → x.tag k = .free →
        (x.conflict [] [((x.greg o.b).toNat, (x.greg o.d).toNat)] = false →
          Gives (exec (.mvGet t o) s) (fun s' =>
            TileOnly t s s' ∧ { s'.tile t with tags := x.tags } = { x with pc := x.pc + 8, stalled := false } ∧
              ∀ j, (s'.tile t).tag j =
                if j = k then .busy ⟨false, (x.greg o.b).toNat, (x.greg o.c).toNat, (x.greg o.d).toNat⟩ else x.tag j)) ∧
        (x.conflict [((x.greg o.b).toNat, (x.greg o.d).toNat)] [] = false →
          Gives (exec (.mvPut t o) s) (fun s' =>
            TileOnly t s s' ∧ { s'.tile t with tags := x.tags } = { x with pc := x.pc + 8, stalled := false } ∧
              ∀ j, (s'.tile t).tag j =
                if j = k then .busy ⟨true, (x.greg o.b).toNat, (x.greg o.c).toNat, (x.greg o.d).toNat⟩ else x.tag j))) ∧
      (o.b = 0 → o.c = 0 → o.d = 0 →
        (∀ m, x.tag k = .busy m →
          Gives (exec (.mvPoll t o) s) (fun s' => WroteG t s s' (x.pc + 8) o.a 9) ∧
          Gives (exec (.mvWait t o) s) (fun s' =>
            TileOnly t s s' ∧ s'.tile t = { x with st := .wait, waiting := some (.move o.a (BitVec.ofNat 4 k)), stalled := false })) ∧
        (∀ st, x.tag k = .done st →
          Gives (exec (.mvPoll t o) s) (fun s' =>
            TileOnly t s s' ∧ (s'.tile t).greg o.a = (if o.a = 0 then 0 else BitVec.ofNat 64 st.code) ∧
              (∀ j, (s'.tile t).tag j = if j = k then .free else x.tag j) ∧ (s'.tile t).pc = x.pc + 8) ∧
          Gives (exec (.mvWait t o) s) (fun s' =>
            TileOnly t s s' ∧ (s'.tile t).greg o.a = (if o.a = 0 then 0 else BitVec.ofNat 64 st.code) ∧
              (∀ j, (s'.tile t).tag j = if j = k then .free else x.tag j) ∧ (s'.tile t).pc = x.pc + 8 ∧ (s'.tile t).st = .run)))) ∧
    (∀ (tag : BitVec 4) (m : Movement), x.tag tag.toNat = .busy m → s.tileFence t = false → x.retiring = false →
      (0 < m.len → m.spad + m.len ≤ 0x80000 → m.remote + m.len ≤ 0x8000000000 →
        CleanAt s (spadByte t m.spad) m.len → CleanAt s m.remote m.len →
        Gives (exec (.mvComplete t tag false) s) (fun s' =>
          let dst := if m.put then m.remote else spadByte t m.spad
          let src := if m.put then spadByte t m.spad else m.remote
          s'.bytes dst m.len = s.bytes src m.len ∧ (∀ b, b < dst ∨ dst + m.len ≤ b → s'.byte b = s.byte b) ∧
            (∀ j, (s'.tile t).tag j = if j = tag.toNat then .done .ok else x.tag j) ∧
            { s'.tile t with tags := x.tags } = { x with latched := x.latched ||| 8 } ∧ (∀ u, u ≠ t.val → s'.tile u = s.tile u) ∧
            RegsKeptPrf [] s s' ∧ { s' with regs := s.regs, prf := s.prf, tiles := s.tiles, mem := s.mem } = s)) ∧
      (0 < m.len → (0x80000 < m.spad + m.len ∨ 0x8000000000 < m.remote + m.len) → m.remote < 0x8000000000 →
        Gives (exec (.mvComplete t tag false) s) (fun s' =>
          (∀ j, (s'.tile t).tag j = if j = tag.toNat then .done .bounds else x.tag j) ∧
            { s'.tile t with tags := x.tags } = { x with latched := x.latched ||| 8 } ∧ TileOnly t s s')) ∧
      (m.len = 0 →
        Gives (exec (.mvComplete t tag false) s) (fun s' =>
          (∀ j, (s'.tile t).tag j = if j = tag.toNat then .done .ok else x.tag j) ∧
            { s'.tile t with tags := x.tags } = { x with latched := x.latched ||| 8 } ∧ TileOnly t s s')))

/-- What `wb.get` reads by field code (R105, R196). -/
def waybillFields (w : Waybill) : List (Nat × BitVec 64) :=
  [ (0, w.handle.setWidth 64), (1, w.seq.setWidth 64), (2, w.route.setWidth 64), (3, w.hops.setWidth 64), (4, w.flags.setWidth 64),
    (5, w.length.setWidth 64), (6, w.origin.setWidth 64), (8, w.data0), (9, w.data1) ]

/-- What `wb.set` makes of the waybill register (R196, R107). -/
def waybillSets (w : Waybill) (v : BitVec 64) : List (Nat × Waybill) :=
  [ (1, { w with seq := v.setWidth 16 }), (2, { w with route := v.setWidth 16 }),
    (4, { w with flags := (v.setWidth 8 &&& 15) ||| (w.flags &&& 8) }), (8, { w with data0 := v }), (9, { w with data1 := v }) ]

/-- R107, R195, R196, R197, R198: the waybill instructions with no fan-out: `wb.post` appends a buffer, and one of capacity 0 posts nothing;
`wb.take` of a filled head buffer loads the waybill register and answers the buffer's address, and with nothing arrived blocks the tile;
`wb.get` and `wb.set` reach the fields; `wb.count` answers TILE_INBOX; `wb.send` to a named successor holds the bale until its payload has left,
and then it is in the trail and the instruction is done. -/
def WaybillPort : Prop :=
  ∀ (s : State) (t : Fin 768) (o : VOp),
    let x := s.tile t
    (Executes s t → o.pr = 0 → o.pm = 0 →
      (o.a = 0 → o.d = 0 → o.fn = 0 →
        (x.greg o.c = 0 → Gives (exec (.wbPost t o) s) (fun s' => Ended t s s' (x.pc + 8))) ∧
        (0 < (x.greg o.c).toNat → (x.greg o.b).toNat + (x.greg o.c).toNat ≤ 0x80000 → x.posted.length < 4 → x.inbox = [] →
          Gives (exec (.wbPost t o) s) (fun s' =>
            TileOnly t s s' ∧ s'.tile t = { x with
              pc := x.pc + 8, stalled := false, posted := x.posted ++ [⟨(x.greg o.b).toNat, (x.greg o.c).toNat, none⟩] }))) ∧
      (o.b = 0 → o.c = 0 → o.d = 0 → o.fn = 0 →
        (∀ p w more, x.posted = p :: more → p.bale = some w → x.inbox = [] → x.st = .run →
          Gives (exec (.wbTake t o) s) (fun s' =>
            TileOnly t s s' ∧ (∀ k, (s'.tile t).greg k = if k = o.a ∧ k ≠ 0 then BitVec.ofNat 64 p.addr else x.greg k) ∧
              { s'.tile t with g := x.g } = { x with pc := x.pc + 8, stalled := false, wb := w, valid := true, posted := more })) ∧
        (x.posted = [] ∨ (∃ p ∈ x.posted.head?, p.bale = none) ∧ x.inbox = [] →
          Gives (exec (.wbTake t o) s) (fun s' =>
            TileOnly t s s' ∧ s'.tile t = { x with st := .wait, waiting := some (.take o.a), stalled := false })) ∧
        Gives (exec (.wbCount t o) s) (fun s' => WroteG t s s' (x.pc + 8) o.a (BitVec.ofNat 64 (s.tileShow .TILE_INBOX t)))) ∧
      (x.valid = true →
        (o.b = 0 → o.c = 0 → o.d = 0 → ∀ p ∈ waybillFields x.wb, o.fn.toNat = p.1 →
          Gives (exec (.wbGet t o) s) (fun s' => WroteG t s s' (x.pc + 8) o.a p.2)) ∧
        (o.a = 0 → o.c = 0 → o.d = 0 → ∀ p ∈ waybillSets x.wb (x.greg o.b), o.fn.toNat = p.1 →
          Gives (exec (.wbSet t o) s) (fun s' =>
            TileOnly t s s' ∧ s'.tile t = { x with pc := x.pc + 8, stalled := false, wb := p.2 })) ∧
        (o.a = 0 → o.d = 0 → o.fn.toNat < 8 → s.next t o.fn.toNat ≠ 0xFFFF → (x.greg o.c).toNat ≤ 16384 →
          (x.greg o.b).toNat + (x.greg o.c).toNat ≤ 0x80000 → CleanAt s (spadByte t (x.greg o.b).toNat) (x.greg o.c).toNat →
          x.conflict [((x.greg o.b).toNat, (x.greg o.c).toNat)] [] = false →
          Gives (exec (.wbSend t o) s) (fun s' =>
            RegsKeptPrf [(.FO_SENT, 8 * t + o.fn.toNat)] s s' ∧
              s'.rr .FO_SENT (8 * t + o.fn.toNat) = min (s.rr .FO_SENT (8 * t + o.fn.toNat) + 1) 0xFFFFFFFF ∧
              s'.tile t = { x with sending := some ⟨s.next t o.fn.toNat,
                { x.wb with length := (x.greg o.c).setWidth 32, origin := BitVec.ofNat 16 t },
                s.bytes (spadByte t (x.greg o.b).toNat) (x.greg o.c).toNat⟩ } ∧
              (∀ u, u ≠ t.val → s'.tile u = s.tile u) ∧ { s' with regs := s.regs, prf := s.prf, tiles := s.tiles } = s)))) ∧
    (∀ b, x.sending = some b →
      Gives (exec (.sendPayloadLeft t) s) (fun s' =>
        s'.tile t = { x with sending := none, pc := BitVec.ofNat 16 (x.pc.toNat + 8), stalled := false } ∧
          s'.cvn = { s.cvn with trail := s.cvn.trail ++ [b] } ∧ TileOnly t s { s' with cvn := s.cvn }))

/-- R199, R274, R275: `wb.retire` at a sink ends with the register no longer VALID. A bale without END, or whose sequence is not in flight, is
released with no record; one with END whose sequence is in flight completes it, with POISON or OK and the bale's FLAGS and LENGTH. It waits for
the tile's earlier movements. -/
def WaybillRetire : Prop :=
  ∀ (s : State) (t : Fin 768) (o : VOp) (i : Fin 64), Executes s t → o = { a := 0, b := 0, c := 0, d := 0, pr := 0, pm := 0, fn := 0 } →
    let x := s.tile t
    let y := s.slot i
    x.valid = true → x.sink = true → x.handle ≠ 0 → x.handle.toNat % 64 = i →
    (x.moving = true →
      Gives (exec (.wbRetire t o) s) (fun s' => TileOnly t s s' ∧ s'.tile t = { x with retiring := true })) ∧
    (x.moving = false → (x.wb.flags.getLsbD 0 = false ∨ x.wb.seq.toNat ∉ y.inflight) →
      Gives (exec (.wbRetire t o) s) (fun s' =>
        TileOnly t s s' ∧ s'.tile t = { x with valid := false, retiring := false, pc := x.pc + 8, stalled := false })) ∧
    (x.moving = false → x.wb.flags.getLsbD 0 = true → x.wb.seq.toNat ∈ y.inflight → y.waiting = [] → RingReady s i →
      Gives (exec (.wbRetire t o) s) (fun s' =>
        Completed s s' i x.wb.seq.toNat (if x.wb.flags.getLsbD 3 then .poison else .ok) x.wb.flags x.wb.length ∧
          s'.tile t = { x with valid := false, retiring := false, pc := x.pc + 8, stalled := false } ∧
          (∀ u, u ≠ t.val → s'.tile u = s.tile u) ∧ RegsKeptPrf [(.CVN_SLOT_RING_WR, i), (.CVN_SLOT_DONE, i), (.CVN_SLOT_EVENT, i)] s s'))

/-- R200, R201, R202, R203, R223: the event instructions, makeweight, and what reaches a tile from outside its program. -/
def TileEvents : Prop :=
  ∀ (s : State) (t : Fin 768) (o : VOp),
    let x := s.tile t
    (Executes s t → o.pr = 0 → o.pm = 0 →
      (o.b = 0 → o.c = 0 → o.d = 0 → o.fn.toNat < 64 →
        (o.fn = 0 ∨ Nat.land x.events o.fn.toNat ≠ 0 ∧ x.st = .run →
          Gives (exec (.evWait t o) s) (fun s' => WroteG t s s' (x.pc + 8) o.a (BitVec.ofNat 64 (Nat.land x.events o.fn.toNat)))) ∧
        (o.fn ≠ 0 → Nat.land x.events o.fn.toNat = 0 →
          Gives (exec (.evWait t o) s) (fun s' =>
            TileOnly t s s' ∧ s'.tile t = { x with st := .wait, waiting := some (.event o.a (o.fn.setWidth 6)), stalled := false })) ∧
        (o.a = 0 →
          Gives (exec (.evClr t o) s) (fun s' =>
            TileOnly t s s' ∧ s'.tile t = { x with pc := x.pc + 8, stalled := false, latched := x.latched &&& ~~~(o.fn.setWidth 6) })) ∧
        (o.fn = 0 → Gives (exec (.evTime t o) s) (fun s' => WroteG t s s' (x.pc + 8) o.a s.tmb.ptime))) ∧
      (o.a = 0 → o.c = 0 → o.d = 0 → o.fn = 0 →
        Gives (exec (.evTimer t o) s) (fun s' =>
          s'.pair .TILE_TIMER_LO .TILE_TIMER_HI t = (x.greg o.b).toNat ∧ RegsKeptPrf [(.TILE_TIMER_LO, t), (.TILE_TIMER_HI, t)] s s' ∧
            s'.tile t = { x with pc := x.pc + 8, stalled := false, latched :=
              (if x.greg o.b ≠ 0 ∧ (x.greg o.b).toNat ≤ s.tmb.ptime.toNat then x.latched ||| 16 else x.latched) } ∧
            (∀ u, u ≠ t.val → s'.tile u = s.tile u) ∧ { s' with regs := s.regs, prf := s.prf, tiles := s.tiles } = s)) ∧
      (o.a = 0 → o.d = 0 → o.fn = 0 → ∀ n : Fin 768, n ≠ t → (x.greg o.b).toNat = n → s.working n = true → x.handle ≠ 0 →
        (s.tile n).handle = x.handle →
        Gives (exec (.evNote t o) s) (fun s' =>
          s'.rr .TILE_NOTE n = (x.greg o.c).toNat % 2 ^ 32 ∧ RegsKeptPrf [(.TILE_NOTE, n)] s s' ∧
            s'.tile n = { s.tile n with latched := (s.tile n).latched ||| 32 } ∧ s'.tile t = { x with pc := x.pc + 8, stalled := false } ∧
            (∀ u, u ≠ t.val → u ≠ n.val → s'.tile u = s.tile u) ∧ { s' with regs := s.regs, prf := s.prf, tiles := s.tiles } = s)) ∧
      (o.a = 0 → o.d = 0 → o.fn = 0 → x.handle = 0 ∨ 768 ≤ (x.greg o.b).toNat →
        Gives (exec (.evNote t o) s) (fun s' =>
          s'.rr .TILE_NOTEDROP t = min (s.rr .TILE_NOTEDROP t + 1) 0xFFFFFFFF ∧ RegsKeptPrf [(.TILE_NOTEDROP, t)] s s' ∧
            s'.tile t = { x with pc := x.pc + 8, stalled := false } ∧ (∀ u, u ≠ t.val → s'.tile u = s.tile u))) ∧
      (x.st = .makeweight → o.a = 0 → o.c = 0 → o.d = 0 → o.fn.toNat < 48 → Gives (exec (.mwBurn t o) s) (fun s' => Ended t s s' (x.pc + 8)))) ∧
    (∀ (a : BitVec 5) (m : BitVec 6), x.st = .wait → x.waiting = some (.event a m) → Nat.land x.events m.toNat ≠ 0 →
      Gives (exec (.tileWaitRelease t) s) (fun s' =>
        TileOnly t s s' ∧ (∀ k, (s'.tile t).greg k = if k = a ∧ k ≠ 0 then BitVec.ofNat 64 (Nat.land x.events m.toNat) else x.greg k) ∧
          { s'.tile t with g := x.g } =
            { x with st := .run, waiting := none, pc := BitVec.ofNat 16 (x.pc.toNat + 8), stalled := false })) ∧
    (x.st ≠ .wait → Gives (exec (.tileWaitRelease t) s) (fun s' => s' = s)) ∧
    (s.pair .TILE_TIMER_LO .TILE_TIMER_HI t ≠ 0 →
      Gives (exec (.tileTimerFire t) s) (fun s' => s'.tile t = { x with latched := x.latched ||| 16 } ∧ TileOnly t s s' ∧ s'.regs = s.regs)) ∧
    (∀ (ro : Option Role) (v : BitVec 32), s.tileFenced t = false →
      Gives (exec (.tileNoteWrite (.steward ro) t v) s) (fun s' =>
        s'.rr .TILE_NOTE t = v.toNat ∧ RegsKept [(.TILE_NOTE, t)] s s' ∧ s'.tile t = { x with latched := x.latched ||| 32 } ∧
          s'.resp = ⟨.ok, 0⟩ ∧ (∀ u, u ≠ t.val → s'.tile u = s.tile u) ∧
          { s' with regs := s.regs, resp := s.resp, tiles := s.tiles } = s) ∧
      Gives (exec (.tileSeedHiWrite (.steward ro) t v) s) (fun s' =>
        s'.rr .TILE_SEED_HI t = v.toNat ∧ RegsKept [(.TILE_SEED_LO, t), (.TILE_SEED_HI, t)] s s' ∧
          s'.tile t = { x with gen := BitVec.ofNat 64 (s'.pair .TILE_SEED_LO .TILE_SEED_HI t) } ∧ s'.resp = ⟨.ok, 0⟩ ∧
          (SMap.find? s.pairs.held (pairKey (.steward ro) (0x100000C001C + t * 0x100000)) = none → s'.rr .TILE_SEED_LO t = s.rr .TILE_SEED_LO t) ∧
          (∀ u, u ≠ t.val → s'.tile u = s.tile u) ∧
          { s' with regs := s.regs, resp := s.resp, tiles := s.tiles, pairs := s.pairs } = s))

/-! ### Memory -/

/-- A place that the cores and the steward reach as a tile window or a depot. -/
def Place.window : Place → Bool
  | .spad _ _ | .imem _ _ | .depot _ _ => true
  | _ => false

/-- The core, where a core asks, has counted an access to a window, and the events of the list (R652); nothing else of any core changed but
what `f` does to it. -/
def CoreCounts (s t : State) (rq : Requester) (f : Core → Core) : Prop :=
  match rq with
  | .core c => t.core c = f ((s.core c).event 9) ∧ ∀ d, d ≠ c.val → t.core d = s.core d
  | _ => t.cores = s.cores

/-- R29, R39, R157, R294, R298: an access of a core or of the steward to a tile window or a depot. A clean line is read or written byte for
byte; an access that is not naturally aligned ends with BOUNDS, one behind a fence with FENCED, and a store to the instruction memory of a
tile that runs with BUSY; the core whose access is refused takes an access fault. -/
def WindowAccess : Prop :=
  ∀ (s : State) (rq : Requester) (addr size : Nat) (write : Option (BitVec 64)), s.accessIdle rq = false →
    ((placeOf addr).window = true → natural addr size = true →
      (s.windowStatus addr write.isSome = .ok → CleanAt s addr size →
        Gives (exec (.coreWindowAccess rq addr size write none) s) (fun t =>
          { t with cores := s.cores, mem := s.mem, resp := s.resp } = s ∧ CoreCounts s t rq id ∧
            (write = none → t.mem = s.mem ∧ t.resp = ⟨.ok, BitVec.ofNat 64 (leNat (s.bytes addr size))⟩) ∧
            (∀ v, write = some v →
              t.bytes addr size = leBytes size v.toNat ∧ (∀ b, b < addr ∨ addr + size ≤ b → t.byte b = s.byte b) ∧
                (∀ l, t.poisoned l = s.poisoned l ∧ t.latentAt l = s.latentAt l) ∧ t.resp = ⟨.ok, 0⟩))) ∧
      (s.placeFenced (placeOf addr) = true →
        Gives (exec (.coreWindowAccess rq addr size write none) s) (fun t =>
          { t with cores := s.cores, resp := s.resp } = s ∧ t.resp = ⟨.fenced, 0⟩ ∧
            CoreCounts s t rq fun k => (k.event 10).exception (if write.isSome then 7 else 5) addr)) ∧
      (∀ t o v, placeOf addr = .imem t o → write = some v → s.tileFenced t = false →
        (s.tile t).st = .run ∨ (s.tile t).st = .wait ∨ (s.tile t).st = .makeweight →
        Gives (exec (.coreWindowAccess rq addr size write none) s) (fun s' =>
          { s' with cores := s.cores, resp := s.resp } = s ∧ s'.resp = ⟨.busy, 0⟩ ∧ CoreCounts s s' rq id))) ∧
    ((placeOf addr).window = true ∧ natural addr size = false ∨ placeOf addr = .unmapped →
      Gives (exec (.coreWindowAccess rq addr size write none) s) (fun t =>
        { t with cores := s.cores, resp := s.resp } = s ∧ t.resp = ⟨.bounds, 0⟩ ∧
          CoreCounts s t rq fun k => (k.event 10).exception (if write.isSome then 7 else 5) addr))

/-- Memory is as it was but for bytes `addr` to `addr + size`, and only PRF has counted. -/
def StoredOnly (s t : State) (addr size : Nat) : Prop :=
  (∀ b, b < addr ∨ addr + size ≤ b → t.byte b = s.byte b) ∧ (∀ l, t.poisoned l = s.poisoned l ∧ t.latentAt l = s.latentAt l) ∧
    RegsKeptPrf [] s t ∧ { t with regs := s.regs, prf := s.prf, mem := s.mem, resp := s.resp } = s

/-- R23, R35, R287, R289: an access of a core to memory. Clean lines are read and written byte for byte; past the end of memory, or where
nothing lies, the core takes the access fault of its kind and the access ends with BOUNDS; a store to a failed channel that the caches do not
hold ends with POISON and changes no byte. A store that hits in the caches is not checked. -/
def CoreMemory : Prop :=
  ∀ (s : State) (c : Fin 32) (k : MemAccess) (addr size : Nat), (s.core c).issues = true →
    let code := match k with | .fetch => 1 | .load => 5 | .store _ => 7
    let hurt := (s.core c).exception code addr
    (addr < 0x8000000000 → addr + size ≤ 0x8000000000 →
      (0 < size → CleanAt s addr size →
        (∀ v, k = .store v →
          Gives (exec (.coreMemoryAccess c k addr size false none) s) (fun t =>
            t.bytes addr size = leBytes size v.toNat ∧ StoredOnly s t addr size ∧ t.resp = ⟨.ok, 0⟩)) ∧
        (k = .load ∨ k = .fetch →
          Gives (exec (.coreMemoryAccess c k addr size false none) s) (fun t =>
            t.mem = s.mem ∧ StoredOnly s t addr 0 ∧ t.resp = ⟨.ok, BitVec.ofNat 64 (leNat (s.bytes addr size))⟩))) ∧
      (∀ v, k = .store v →
        Gives (exec (.coreMemoryAccess c k addr size true none) s) (fun t =>
          t.bytes addr size = leBytes size v.toNat ∧ StoredOnly s t addr size ∧ t.resp = ⟨.ok, 0⟩)) ∧
      (∀ v, k = .store v → s.touchesFailed addr (linesOf addr size) = true →
        Gives (exec (.coreMemoryAccess c k addr size false none) s) (fun t => t = (s.setCore c hurt).answer .poison 0))) ∧
    (0x8000000000 ≤ addr ∧ placeOf addr = .unmapped ∨ addr < 0x8000000000 ∧ 0x8000000000 < addr + size →
      ∀ hit, Gives (exec (.coreMemoryAccess c k addr size hit none) s) (fun t => t = (s.setCore c hurt).answer .bounds 0))

/-- R284, R285, R287, R288, R289: the scrubber reads a line when it is enabled and marks it read. A correctable error is corrected, counted at
the channel and put on line 4; an uncorrectable one poisons the line, is counted, logged while the log is free and put on line 5. A channel
that stops answering fails, with line 6. -/
def MemoryUpkeep : Prop :=
  ∀ s : State,
    (∀ line : Fin 8589934592, ∀ flip,
      let q := s.channelOf (line * 64)
      (s.f F.MEM_SCRUB_EN = 0 → Gives (exec (.patrolScrubLine line flip) s) (fun t => t = s)) ∧
      (s.f F.MEM_SCRUB_EN = 1 → s.mem.scrubbed.length + 1 < 2 ^ 33 → s.poisoned line = false → s.channelFailed q = false →
        s.latentAt line = none →
        Gives (exec (.patrolScrubLine line flip) s) (fun t =>
          SMap.get (fun _ => false) t.mem.scrubbed line = true ∧ t.latentAt line = none ∧ t.mem.cells = s.mem.cells ∧
            { t with regs := s.regs, prf := s.prf, mem := s.mem, events := s.events } = s ∧
            (flip = none → t.poisoned line = false ∧ RegsKeptPrf [] s t ∧ t.events = s.events) ∧
            (flip = some .correctable → t.poisoned line = false ∧ RegsKeptPrf [(.MEM_CH_CE, q)] s t ∧
              t.rr .MEM_CH_CE q = min (s.rr .MEM_CH_CE q + 1) 0xFFFFFFFF ∧ t.events = s.events ++ [⟨s.now, 4, q, .check⟩]) ∧
            (flip = some .uncorrectable → t.poisoned line = true ∧ t.rr .MEM_CH_UE q = min (s.rr .MEM_CH_UE q + 1) 0xFFFFFFFF ∧
              t.events = s.events ++ [⟨s.now, 5, q, .poison⟩] ∧
              RegsKeptPrf [(.MEM_CH_UE, q), (.MEM_ERRLOG_LO, 0), (.MEM_ERRLOG_HI, 0), (.MEM_ERRLOG_INFO, 0)] s t ∧
              t.f F.MEM_ERRLOG_INFO_VALID = 1 ∧
              (s.f F.MEM_ERRLOG_INFO_VALID = 0 → t.pair .MEM_ERRLOG_LO .MEM_ERRLOG_HI = line * 64) ∧
              (s.f F.MEM_ERRLOG_INFO_VALID = 1 → t.pair .MEM_ERRLOG_LO .MEM_ERRLOG_HI = s.pair .MEM_ERRLOG_LO .MEM_ERRLOG_HI ∧
                t.f F.MEM_ERRLOG_INFO_OVER = 1))))) ∧
    (∀ q : Fin 768, s.f F.MEM_CH_STAT_STATE q ≠ 2 →
      Gives (exec (.channelFail q) s) (fun t =>
        t.f F.MEM_CH_STAT_STATE q = 2 ∧ RegsKept [(.MEM_CH_STAT, q)] s t ∧
          { t with regs := s.regs } = { s with events := s.events ++ [⟨s.now, 6, q, .degraded⟩] }))

/-- R290, R293: a stack's band follows its temperature, up at the lower edges 85, 95 and 105 °C and down 3 K below them; an access wakes a
stack from self-refresh, with those of its channels that were in it. -/
def StackBands : Prop :=
  ∀ (s : State) (k : Fin 8),
    Gives (exec (.stackBandUpdate k) s) (fun t =>
      let b := s.f F.MEM_STK_BAND k
      let b' := t.f F.MEM_STK_BAND k
      let temp := (BitVec.ofNat 16 (s.f F.THM_STK_TEMP k)).toInt
      { t with regs := s.regs } = s ∧ RegsKept [(.MEM_STK, k)] s t ∧ t.f F.MEM_STK_SELFREF k = s.f F.MEM_STK_SELFREF k ∧ b' ≤ 3 ∧
        ∀ j : Fin 4, 0 < j.val → (b < j → (16 * (75 + 10 * (j : Int)) ≤ temp ↔ j ≤ b')) ∧
          (j ≤ b → b' ≤ b → (16 * (75 + 10 * (j : Int)) - 48 ≤ temp ↔ j ≤ b'))) ∧
    (s.f F.MEM_STK_SELFREF k = 0 → Gives (exec (.stackSelfrefWake k) s) (fun t => t = s)) ∧
    (s.f F.MEM_STK_SELFREF k = 1 →
      Gives (exec (.stackSelfrefWake k) s) (fun t =>
        { t with regs := s.regs } = s ∧ t.f F.MEM_STK_SELFREF k = 0 ∧ t.f F.MEM_STK_BAND k = s.f F.MEM_STK_BAND k ∧
          RegsKept ((.MEM_STK, k.val) :: (List.range 96).map fun c => (.MEM_CH_STAT, 96 * k + c)) s t ∧
          ∀ c < 96, t.f F.MEM_CH_STAT_STATE (96 * k + c) =
            if s.f F.MEM_CH_STAT_STATE (96 * k + c) = 1 then 0 else s.f F.MEM_CH_STAT_STATE (96 * k + c)))

/-! ### Metering -/

/-- The journal has taken `n` entries more, when it has room for them (R676, R677). -/
def Logged (s t : State) (n : Nat) : Prop :=
  s.journal.entries.length + n ≤ 98304 → t.journal.entries.length = s.journal.entries.length + n ∧ t.journal.entries.drop n = s.journal.entries

/-- The registers that show the journal. -/
def journalRegs : List (Reg × Nat) :=
  [(.JNL_HEAD_LO, 0), (.JNL_HEAD_HI, 0), (.JNL_TAIL_LO, 0), (.JNL_TAIL_HI, 0), (.JNL_LOST, 0)] ++
    (List.range 8).flatMap fun k => [(.JNL_HASH, k), (.JNL_TAILHASH, k)]

/-- A signed number of mW, mV or mA as its 32-bit register holds it. -/
def reg32 (x : Int) : Nat := (BitVec.ofInt 32 x).toNat

/-- The registers of a channel that a reading writes (R300, R305, R318). -/
def readingRegs (i : Nat) : List (Reg × Nat) :=
  [(.MTR_P, i), (.MTR_V, i), (.MTR_I, i), (.MTR_STAT, i), (.MTR_TS_LO, i), (.MTR_TS_HI, i), (.MTR_NSAMP, i), (.MTR_RSTAT, i)] ++
    (List.range 6).map fun k => (.MTR_RAIL, 6 * i + k)

/-- R299, R300, R301, R302, R306, R309: a sample of a channel that has not failed adds its energy, below 1 µJ kept, to both energy counters,
and a negative one adds none and is counted; a reading gives the means of its samples, cut, and stamps them with the end of the interval; a
whole second latches the snapshot and its status; 60 s after PWR_GOOD the channel leaves WARMUP. -/
def MeterReadings : Prop :=
  ∀ (s : State) (mb : Bool),
    let i := chIx mb
    let m := s.meter mb
    (∀ ic vc temp : BitVec 24, s.f F.MTR_STAT_STATE i ≠ 3 →
      let cur := Config.sampleCurrent ic.toNat (s.rr .MTR_CAL (6 * i)) (s.rr .MTR_CAL (6 * i + 1)) (s.rr .MTR_CAL (6 * i + 4)) temp.toNat
      let vol := Config.sampleVoltage vc.toNat (s.rr .MTR_CAL (6 * i + 2)) (s.rr .MTR_CAL (6 * i + 3))
      let p : Int := vol * cur
      let e := m.frac + p.toNat
      Gives (exec (.meterSample mb ic vc temp) s) (fun t =>
        t.pair .MTR_E_LO .MTR_E_HI i = (s.pair .MTR_E_LO .MTR_E_HI i + e / 10 ^ 15) % 2 ^ 64 ∧
          t.pair .MTR_ELIFE_LO .MTR_ELIFE_HI i = (s.pair .MTR_ELIFE_LO .MTR_ELIFE_HI i + e / 10 ^ 15) % 2 ^ 64 ∧
          t.rr .MTR_NEG i = (if p < 0 then min (s.rr .MTR_NEG i + 1) 0xFFFFFFFF else s.rr .MTR_NEG i) ∧
          t.meter mb = { m with
            frac := e % 10 ^ 15, sumP := m.sumP + p, sumV := m.sumV + vol, sumI := m.sumI + cur, n := m.n + 1
            winE := m.winE + p.toNat, winN := m.winN + 1 } ∧
          t.meter (!mb) = s.meter (!mb) ∧ t.metering.acc = s.metering.acc ∧ t.metering.disagree = s.metering.disagree ∧
          { t with regs := s.regs, metering := s.metering } = s ∧
          RegsKept [(.MTR_E_LO, i), (.MTR_E_HI, i), (.MTR_ELIFE_LO, i), (.MTR_ELIFE_HI, i), (.MTR_NEG, i)] s t)) ∧
    (∀ ic vc temp, s.f F.MTR_STAT_STATE i = 3 → Gives (exec (.meterSample mb ic vc temp) s) (fun t => t = s)) ∧
    Gives (exec (.meterReading mb) s) (fun t =>
      (m.n ≠ 0 →
        t.rr .MTR_P i = reg32 (m.sumP.tdiv (m.n * 1000000000)) ∧ t.rr .MTR_V i = reg32 (m.sumV.tdiv m.n) ∧
          t.rr .MTR_I i = reg32 (m.sumI.tdiv m.n) ∧
          t.f F.MTR_STAT_VRANGE i = if m.sumV.tdiv m.n < 44000000 ∨ 60000000 < m.sumV.tdiv m.n then 1 else 0) ∧
        (m.n = 0 → t.rr .MTR_P i = s.rr .MTR_P i ∧ t.rr .MTR_V i = s.rr .MTR_V i ∧ t.rr .MTR_I i = s.rr .MTR_I i) ∧
        t.pair .MTR_TS_LO .MTR_TS_HI i = s.now / 10000 * 10000 ∧ t.rr .MTR_NSAMP i = m.n % 16 * 16 ∧
        (s.f F.MTR_STAT_STATE i = 3 → t.rr .MTR_RSTAT i = Status.check.code) ∧
        (t.meter mb).n = 0 ∧ (t.meter mb).sumP = 0 ∧ (t.meter mb).sumV = 0 ∧ (t.meter mb).sumI = 0 ∧ (t.meter mb).winR = m.winR + 1 ∧
        (t.meter mb).winE = m.winE ∧ (t.meter mb).frac = m.frac ∧ t.meter (!mb) = s.meter (!mb) ∧
        { t with regs := s.regs, metering := s.metering, free := s.free } = s ∧ RegsKept (readingRegs i) s t) ∧
    Gives (exec (.meterSnapshot mb) s) (fun t =>
      t.pair .MTR_SNAP_E_LO .MTR_SNAP_E_HI i = s.pair .MTR_E_LO .MTR_E_HI i ∧
        t.pair .MTR_SNAP_T_LO .MTR_SNAP_T_HI i = s.now / 1000000000 * 1000000000 ∧
        t.rr .MTR_SNAP_SEQ i = (s.rr .MTR_SNAP_SEQ i + 1) % 2 ^ 32 ∧
        t.rr .MTR_SNAP_STAT i = (if s.f F.MTR_STAT_STATE i = 3 then Status.check else m.worst).code ∧
        t.meter mb = { m with worst := .ok } ∧ t.meter (!mb) = s.meter (!mb) ∧
        { t with regs := s.regs, metering := s.metering } = s ∧
        RegsKept [(.MTR_SNAP_E_LO, i), (.MTR_SNAP_E_HI, i), (.MTR_SNAP_T_LO, i), (.MTR_SNAP_T_HI, i), (.MTR_SNAP_SEQ, i),
          (.MTR_SNAP_STAT, i)] s t) ∧
    Gives (exec (.meterWarmupEnd mb) s) (fun t =>
      t.f F.MTR_STAT_STATE i = (if s.f F.MTR_STAT_STATE i = 0 then 1 else s.f F.MTR_STAT_STATE i) ∧ { t with regs := s.regs } = s ∧
        RegsKept [(.MTR_STAT, i)] s t ∧ (s.f F.MTR_STAT_STATE i ≠ 0 → t = s)) ∧
    Gives (exec .elifeSave s) (fun t =>
      (t.meter mb).savedElife = BitVec.ofNat 64 (s.pair .MTR_ELIFE_LO .MTR_ELIFE_HI i) ∧ (t.meter mb).savedAt = s.tmb.ptime ∧
        { t.meter mb with savedElife := m.savedElife, savedAt := m.savedAt } = m ∧ { t with metering := s.metering } = s)

/-- What the registers of a list read as is kept for a requester's next read of each (R310, R311). -/
def Captured (s t : State) (rq : Requester) (l : List (Reg × Nat)) (v : Reg × Nat → Nat) : Prop :=
  (∀ p ∈ l, SMap.find? t.pairs.captured (pairKey rq (p.1.key p.2)) = some (BitVec.ofNat 32 (v p))) ∧
    { t with pairs := s.pairs, resp := s.resp } = s ∧ t.pairs.held = s.pairs.held

/-- R303, R310, R311, R313, R314: a self-check of a channel passes or makes the channel FAILED, which goes to line 12 and takes the settlement
to the other channel when that has not failed; a read of a snapshot's number or of a power captures the rest of the same snapshot or reading. -/
def MeterChannels : Prop :=
  ∀ (s : State) (mb : Bool),
    let i := chIx mb
    (∀ ref off : Nat,
      let r := s.rr .MTR_CAL (6 * i + 5)
      let good := 20000 * max (ref - r) (r - ref) ≤ r ∨ r = 0
      (good ∧ off ≤ 20000 → Gives (exec (.meterSelfcheck mb ref off) s) (fun t => t = s)) ∧
      (¬(good ∧ off ≤ 20000) → s.f F.MTR_STAT_STATE i ≠ 3 →
        Gives (exec (.meterSelfcheck mb ref off) s) (fun t =>
          t.f F.MTR_STAT_STATE i = 3 ∧ t.events = s.events ++ [⟨s.now, 12, i, .degraded⟩] ∧
            t.f F.MTR_SETTLE_ACTIVE =
              (if s.f F.MTR_STAT_STATE (1 - i) ≠ 3 ∧ s.f F.MTR_SETTLE_ACTIVE = i then 1 - i else s.f F.MTR_SETTLE_ACTIVE) ∧
            Logged s t (if s.f F.MTR_STAT_STATE (1 - i) = 3 ∨ s.f F.MTR_SETTLE_ACTIVE = i then 1 else 0) ∧
            { t with regs := s.regs, events := s.events, journal := s.journal } = s ∧
            RegsKept ([(.MTR_STAT, i), (.MTR_SETTLE, 0), (.OST_STAT, 0)] ++ journalRegs) s t))) ∧
    (∀ ro, 4 ≤ s.f F.IDT_BOOT_STEP →
      let rq := Requester.steward ro
      Gives (exec (.mtrSnapSeqRead rq (some mb)) s) (fun t =>
        Captured s t rq [(.MTR_SNAP_E_LO, i), (.MTR_SNAP_E_HI, i), (.MTR_SNAP_T_LO, i), (.MTR_SNAP_T_HI, i), (.MTR_SNAP_STAT, i)]
            (fun p => s.rr p.1 p.2) ∧ t.resp = ⟨.ok, BitVec.ofNat 64 (s.rr .MTR_SNAP_SEQ i)⟩) ∧
      Gives (exec (.mtrPRead rq mb) s) (fun t =>
        Captured s t rq [(.MTR_V, i), (.MTR_I, i), (.MTR_TS_LO, i), (.MTR_TS_HI, i), (.MTR_NSAMP, i)] (fun p => s.rr p.1 p.2) ∧
          t.resp = ⟨.ok, BitVec.ofNat 64 (s.rr .MTR_P i)⟩)) ∧
    (∀ rq, MayAct s rq →
      (s.f F.MTR_SETTLE_ACTIVE = i → s.f F.MTR_STAT_STATE 0 ≠ 3 ∨ s.f F.MTR_STAT_STATE 1 ≠ 3 →
        Gives (exec (.mtrSnapSeqRead rq none) s) (fun t =>
          Captured s t rq [(.PWW_SNAP_E_LO, 0), (.PWW_SNAP_E_HI, 0), (.PWW_SNAP_T_LO, 0), (.PWW_SNAP_T_HI, 0), (.PWW_SNAP_STAT, 0)]
              (fun p => s.rr (match p.1 with
                | .PWW_SNAP_E_LO => .MTR_SNAP_E_LO | .PWW_SNAP_E_HI => .MTR_SNAP_E_HI | .PWW_SNAP_T_LO => .MTR_SNAP_T_LO
                | .PWW_SNAP_T_HI => .MTR_SNAP_T_HI | _ => .MTR_SNAP_STAT) i) ∧
            t.resp = ⟨.ok, BitVec.ofNat 64 (s.rr .MTR_SNAP_SEQ i)⟩)))

/-- R315, R316, R317, R319, R320, R321: the end of the 100 ms window. The energies of both channels are compared by the bound of R315; a
third disagreement in a row marks both channels and goes to line 12, agreement clears the marks; the gain of a channel that has too few
samples or that is not OK stands, and any other moves a quarter of the way and stays within its bounds. -/
def CrossCheck : Prop :=
  ∀ s : State, s.f F.MTR_STAT_STATE 0 ≠ 3 → s.f F.MTR_STAT_STATE 1 ≠ 3 → s.ost.rep = none →
    let ea := s.metering.ma.winE
    let eb := s.metering.mb.winE
    let far := 20 * (ea + eb) + 4 * s.f F.PWW_RATED_RATED * 10 ^ 17 < max (ea - eb) (eb - ea) * 100000
    Gives (exec .crossCheckWindow s) (fun t =>
      t.metering.disagree = (if far then s.metering.disagree + 1 else 0) ∧ t.metering.acc = s.metering.acc ∧
        { t with regs := s.regs, metering := s.metering, gova := s.gova, govb := s.govb, cvn := s.cvn, events := s.events } = s ∧
        t.cvn.trail = s.cvn.trail ∧ (t.gov false).winJ = 0 ∧ (t.gov true).winJ = 0 ∧
        ∀ mb, let i := chIx mb
          t.rr .MTR_XDIFF i = (if far then min (s.rr .MTR_XDIFF i + 1) 0xFFFFFFFF else s.rr .MTR_XDIFF i) ∧
          t.f F.MTR_STAT_XDIFF i = (if far then (if s.metering.disagree = 2 then 1 else s.f F.MTR_STAT_XDIFF i) else 0) ∧
          (t.meter mb).winE = 0 ∧ (t.meter mb).winN = 0 ∧ (t.meter mb).winEst = 0 ∧
          ((s.meter mb).winN < 99900 → t.f F.MTR_ESTK_K i = s.f F.MTR_ESTK_K i ∧ t.rr .MTR_ESTJUMP i = s.rr .MTR_ESTJUMP i) ∧
          (t.f F.MTR_ESTK_K i ≠ s.f F.MTR_ESTK_K i → 0x3000 ≤ t.f F.MTR_ESTK_K i ∧ t.f F.MTR_ESTK_K i ≤ 0x5000))

/-- R323, R324, R325, R691: an acceptance run is taken only from the installer, with no caravan open, no run and no maintenance going on, and
within the budget; it begins at a whole second, and its end latches both energies of the run, in the journal also. -/
def AcceptanceRuns : Prop :=
  ∀ (s : State) (v : BitVec 32) (ro : Option Role), 4 ≤ s.f F.IDT_BOOT_STEP →
    let level := (v.extractLsb' 24 7).toNat
    let dur := (v.extractLsb' 8 16).toNat
    let idle := (∀ p ∈ s.cvn.slots, p.2.state = .free) ∧ s.metering.acc = none ∧ s.f F.SEC_STAT_LOCK = 0xFF
    let fits := 0 < level ∧ level ≤ 100 ∧ 0 < dur ∧ ((level * s.rated * 10 : Nat) : Int) ≤ s.budget s.activeB
    (ro = some .installer → idle → fits → s.sec.sessions.any (fun x => x.role == .installer) = false →
      Gives (exec (.accRunStart (.steward ro) v) s) (fun t =>
        t.metering = { s.metering with acc := some ⟨level, dur, none⟩ } ∧ t.resp = ⟨.ok, 0⟩ ∧ t.f F.MTR_ACC_CTL_START = 1 ∧
          t.f F.MTR_ACC_CTL_STATUS = 0 ∧ t.f F.MTR_ACC_CTL_LEVEL = level ∧ t.f F.MTR_ACC_CTL_DURATION = dur ∧
          { t with regs := s.regs, resp := s.resp, metering := s.metering, journal := s.journal } = s ∧
          RegsKept ((.MTR_ACC_CTL, 0) :: journalRegs) s t)) ∧
    (ro ≠ some .installer →
      Gives (exec (.accRunStart (.steward ro) v) s) (fun t =>
        t.metering = s.metering ∧ t.resp = ⟨.denied, 0⟩ ∧ t.f F.MTR_ACC_CTL_STATUS = Status.denied.code)) ∧
    (ro = some .installer → idle → ¬fits →
      Gives (exec (.accRunStart (.steward ro) v) s) (fun t =>
        t.metering = s.metering ∧ t.resp = ⟨.bounds, 0⟩ ∧ t.f F.MTR_ACC_CTL_STATUS = Status.bounds.code)) ∧
    (ro = some .installer → fits → s.metering.acc ≠ none →
      Gives (exec (.accRunStart (.steward ro) v) s) (fun t =>
        t.metering = s.metering ∧ t.resp = ⟨.busy, 0⟩ ∧ t.f F.MTR_ACC_CTL_STATUS = Status.busy.code)) ∧
    (∀ r, s.metering.acc = some r →
      let ea := s.pair .MTR_E_LO .MTR_E_HI 0
      let eb := s.pair .MTR_E_LO .MTR_E_HI 1
      (r.begun = none →
        Gives (exec .accRunBegin s) (fun t =>
          t = { s with metering := { s.metering with
            acc := some { r with begun := some (s.now / 1000000000, BitVec.ofNat 64 ea, BitVec.ofNat 64 eb) } } })) ∧
      (∀ b a0 b0, r.begun = some (b, a0, b0) →
        Gives (exec .accRunEnd s) (fun t =>
          t.metering = { s.metering with acc := none } ∧ t.f F.MTR_ACC_CTL_START = 0 ∧ t.f F.MTR_ACC_CTL_STATUS = 0 ∧
            t.pair .MTR_ACC_EA_LO .MTR_ACC_EA_HI = (BitVec.ofNat 64 ea - a0).toNat ∧
            t.pair .MTR_ACC_EB_LO .MTR_ACC_EB_HI = (BitVec.ofNat 64 eb - b0).toNat ∧
            Logged s t 1 ∧ { t with regs := s.regs, metering := s.metering, journal := s.journal } = s ∧
            RegsKept ([(.MTR_ACC_CTL, 0), (.MTR_ACC_EA_LO, 0), (.MTR_ACC_EA_HI, 0), (.MTR_ACC_EB_LO, 0), (.MTR_ACC_EB_HI, 0)] ++
              journalRegs) s t)))

/-! ### The governors -/

/-- Nothing but the governors, what they show, the tiles, the meters and the caravans has changed: no byte of memory, no core, no journal. -/
def GovernorsOnly (s t : State) : Prop :=
  { t with
    regs := s.regs, free := s.free, gova := s.gova, govb := s.govb, metering := s.metering, cvn := s.cvn, tiles := s.tiles, ost := s.ost } = s

/-- R326, R327, R338: a control period of a governor that runs, by the law of R327: the budget bounded by the floor and the limits, the slew,
the integral with its limit, the demand; a governor that does not run, or is in SHUTDOWN, does nothing. -/
def ControlPeriod : Prop :=
  ∀ (s : State) (gb : Bool),
    let i := govIx gb
    let g := s.gov gb
    (s.govSt gb < 2 ∨ s.mode gb = 4 → Gives (exec (.controlPeriod gb) s) (fun t => t = s)) ∧
    (2 ≤ s.govSt gb → s.mode gb ≠ 4 →
      let b := s.budget gb
      let lo : Int := s.rr .PWW_FLOOR
      let top : Int := min (min (s.rated * 1000) (s.thermalCap * 1000)) (Config.pHigh s.free)
      let hi := max lo (if s.mode gb = 2 then min top (s.f F.GOV_DIP_LEVEL i * s.rated * 10) else top)
      let target := max (min (max (min b hi) lo) (g.tPrev + s.slewUp gb)) (g.tPrev - s.slewDn gb)
      let p : Int := if s.f F.MTR_STAT_STATE i = 3 then Config.pEst s.free else (BitVec.ofNat 32 (s.rr .MTR_P i)).toInt
      let lim : Int := s.f F.GOV_LAW_IMAX i * s.rated * 256 / 10
      let integ := max (min (g.integ + s.f F.GOV_LAW_KI i * (target - p)) lim) (-lim)
      Gives (exec (.controlPeriod gb) s) (fun t =>
        (t.gov gb).tPrev = target ∧ (t.gov gb).integ = integ ∧ t.rr .GOV_TARGET i = reg32 target ∧
          t.rr .GOV_DEMAND i = reg32 ((256 * target + s.f F.GOV_LAW_KP i * (target - p) + integ).tdiv 256) ∧
          (t.gov gb).winT = g.winT + target ∧ (t.gov gb).winJ = g.winJ + 1 ∧ (t.gov gb).points = g.points ∧ t.gov (!gb) = s.gov (!gb) ∧
          t.rr .GOV_SEQ i = s.rr .GOV_SEQ i ∧ GovernorsOnly s t ∧
          (s.activeB ≠ gb → t.rr .OST_OUT = s.rr .OST_OUT ∧ t.tiles = s.tiles ∧ t.cvn = s.cvn)))

/-- The three datagrams of the management link that go to both governors. -/
def governorMessages (peer : Nat) (m : List Byte) : List (Instr × Nat) :=
  [(.budgetMessage peer m, 1), (.gridMessage peer m, 2), (.coolantMessage peer m, 3)]

/-- R330 to R341, R344, R358, R550: a datagram goes to both governors. One whose CRC is wrong is counted and dropped; one that R336 refuses is
counted, changes nothing else of a governor and is answered by the active one with an ACK; an accepted one gives the governor its sequence
number, and a BUDGET with points its trajectory, a GRID its frequency, a COOLANT the values in force. -/
def GovernorMessages : Prop :=
  ∀ (s : State) (peer : Nat) (m : List Byte), ∀ c ∈ governorMessages peer m, s.receives false = true → s.receives true = true →
    (msgCrcOk m = false →
      Gives (exec c.1 s) (fun t =>
        { t with regs := s.regs } = s ∧ RegsKept [(.GOV_CRC, 0), (.GOV_CRC, 1)] s t ∧
          ∀ gb, t.rr .GOV_CRC (govIx gb) = min (s.rr .GOV_CRC (govIx gb) + 1) 0xFFFFFFFF)) ∧
    (msgCrcOk m = true →
      Gives (exec c.1 s) (fun t =>
        t.out.length = s.out.length + 1 ∧ t.mem = s.mem ∧ t.cores = s.cores ∧ t.tiles = s.tiles ∧ t.cvn = s.cvn ∧ t.free = s.free ∧
          ∀ gb, let i := govIx gb
            let st := s.msgStatus gb peer m
            (st ≠ .ok → t.gov gb = s.gov gb ∧ t.rr .GOV_SEQ i = s.rr .GOV_SEQ i ∧ t.f F.GOV_STATE_LAST i = st.code ∧
              t.rr .GOV_STALE i = (if st = .stale then min (s.rr .GOV_STALE i + 1) 0xFFFFFFFF else s.rr .GOV_STALE i) ∧
              t.rr .GOV_REFUSED i = (if st = .stale then s.rr .GOV_REFUSED i else min (s.rr .GOV_REFUSED i + 1) 0xFFFFFFFF)) ∧
            (st = .ok → t.rr .GOV_SEQ i = msgSeq m ∧ (t.gov gb).accepted = true ∧ t.rr .GOV_STALE i = s.rr .GOV_STALE i ∧
              t.rr .GOV_REFUSED i = s.rr .GOV_REFUSED i ∧ (t.gov gb).tPrev = (s.gov gb).tPrev ∧
              (msgType m = 1 → beAt m 24 1 ≠ 0 →
                (t.gov gb).points = budgetPoints m ∧ (t.gov gb).effT = nextPeriod s.now ∧ (t.gov gb).effP = (s.gov gb).tPrev ∧
                  (t.gov gb).fixv = beAt m 26 1 ∧ (t.gov gb).slewUp = beAt m 28 2 ∧ (t.gov gb).slewDn = beAt m 30 2 ∧
                  (t.gov gb).follow = true) ∧
              (msgType m = 1 → beAt m 24 1 = 0 → (t.gov gb).points = (s.gov gb).points) ∧
              (msgType m = 2 → (t.gov gb).grid = some (beAt m 24 4, beAt m 28 8)) ∧
              (msgType m = 3 → gb = s.activeB → s.now ≤ beAt m 40 8 + s.f F.THM_CFG_CAGE * 100000000 →
                t.rr .THM_INLET = beAt m 24 4 ∧ t.rr .THM_FLOW = beAt m 28 4 ∧ t.rr .THM_DP = beAt m 32 4 ∧
                  t.thm.coolant = some ⟨BitVec.ofNat 8 (beAt m 36 1), beAt m 40 8⟩))))

/-- R341, R345, R348, R349, R359, R362, R364, R365: what happens to a governor outside its control period: the floor is computed anew, a
gating ends, a hold expires, GRID data goes stale, a droop pauses and lets go the VCORE step, a dip sets DIP and its end the mode before, and
a supply outside its limits shuts the package down. -/
def GovernorEvents : Prop :=
  ∀ (s : State) (gb : Bool),
    let i := govIx gb
    let g := s.gov gb
    Gives (exec .floorRecompute s) (fun t =>
      t.rr .PWW_FLOOR < 2 ^ 32 ∧ { t with regs := s.regs } = { s with free := s.free + 1 } ∧ RegsKept [(.PWW_FLOOR, 0)] s t) ∧
    (∀ (p : Fin 4) (on : Bool), (s.gov s.activeB).gating = some (p.val, on) →
      Gives (exec (.partitionGateDone p) s) (fun t =>
        (∀ q : Fin 4, (t.rr .OST_OUT).testBit q = if q = p then on else (s.rr .OST_OUT).testBit q) ∧
          t.f F.OST_OUT_VCORE = s.f F.OST_OUT_VCORE ∧ t.f F.OST_OUT_PACE = s.f F.OST_OUT_PACE ∧ t.f F.OST_OUT_SOAK = s.f F.OST_OUT_SOAK ∧
          t.gov s.activeB = { s.gov s.activeB with gating := none } ∧ t.gov (!s.activeB) = s.gov (!s.activeB) ∧
          { t with regs := s.regs, gova := s.gova, govb := s.govb } = s ∧ RegsKept [(.OST_OUT, 0), (.GOV_ACT, govIx s.activeB)] s t)) ∧
    (g.holdOn = true → g.follow = true →
      Gives (exec (.holdExpiry gb) s) (fun t =>
        t.rr .GOV_HOLDEXP i = min (s.rr .GOV_HOLDEXP i + 1) 0xFFFFFFFF ∧ (t.gov gb) = { g with follow := false, holdAge := 0 } ∧
          t.mode gb = (if s.mode gb = 1 then 0 else s.mode gb) ∧ t.gov (!gb) = s.gov (!gb) ∧
          { t with regs := s.regs, gova := s.gova, govb := s.govb } = s ∧ RegsKept [(.GOV_HOLDEXP, i), (.GOV_STATE, i)] s t)) ∧
    (g.holdOn = false ∨ g.follow = false → Gives (exec (.holdExpiry gb) s) (fun t => t = s)) ∧
    (g.grid ≠ none → g.frStaleCounted = false →
      Gives (exec (.frStale gb) s) (fun t =>
        t.rr .GOV_FRSTALE i = min (s.rr .GOV_FRSTALE i + 1) 0xFFFFFFFF ∧ t.gov gb = { g with frOffset := 0, frStaleCounted := true } ∧
          t.gov (!gb) = s.gov (!gb) ∧ { t with regs := s.regs, gova := s.gova, govb := s.govb } = s ∧ RegsKept [(.GOV_FRSTALE, i)] s t)) ∧
    Gives (exec (.vcoreDroop gb) s) (fun t =>
      t.rr .GOV_DROOP i = min (s.rr .GOV_DROOP i + 1) 0xFFFFFFFF ∧ t.gov gb = { g with droop := true } ∧ t.gov (!gb) = s.gov (!gb) ∧
        { t with regs := s.regs, gova := s.gova, govb := s.govb } = s ∧ RegsKept [(.GOV_DROOP, i)] s t) ∧
    Gives (exec (.droopResume gb) s) (fun t => t = s.setGov gb { g with droop := false }) ∧
    (s.mode gb ≠ 2 → s.mode gb ≠ 4 → s.metering.acc = none →
      Gives (exec (.supplyDip gb) s) (fun t =>
        t.rr .GOV_DIPS i = min (s.rr .GOV_DIPS i + 1) 0xFFFFFFFF ∧ t.mode gb = 2 ∧
          { t with regs := s.regs } = { s with events := s.events ++ [⟨s.now, 16, 0, .degraded⟩] } ∧
          RegsKept [(.GOV_DIPS, i), (.GOV_STATE, i)] s t)) ∧
    (s.mode gb = 2 →
      Gives (exec (.dipRecover gb) s) (fun t =>
        t.mode gb = (if g.follow = true ∧ s.f F.FCL_STAT_SAFE ≠ 1 then 1 else 0) ∧ { t with regs := s.regs } = s ∧
          RegsKept [(.GOV_STATE, i)] s t)) ∧
    (s.mode gb ≠ 2 → Gives (exec (.dipRecover gb) s) (fun t => t = s)) ∧
    (∀ c ∈ [Instr.supplyLowShutdown gb, .supplyHighShutdown gb],
      (s.activeB = gb → s.f F.OST_STAT_SHUTDOWN = 0 → s.thm.tripped = false → s.boot.vaux = true →
        Gives (exec c s) (fun t =>
          t.f F.OST_STAT_SHUTDOWN = 1 ∧ t.mode false = 4 ∧ t.mode true = 4 ∧ t.boot.vaux = false ∧ t.boot.rails = false ∧
            t.boot.running = false ∧ t.tiles = [] ∧ t.cores = [] ∧ t.mem = {} ∧ t.metering.acc = none)) ∧
      (s.activeB ≠ gb → s.f F.IDT_BOOT_READY = 1 →
        Gives (exec c s) (fun t => t.mode gb = 4 ∧ { t with regs := s.regs } = s ∧ RegsKept [(.GOV_STATE, i)] s t)))

/-! ### The governor pair -/

/-- The registers that OST writes at a switch-over. -/
def switchRegs : List (Reg × Nat) :=
  [(.OST_CLAIM_A, 0), (.OST_CLAIM_B, 0), (.OST_STAT, 0), (.OST_OUT, 0), (.OST_LASTSW_LO, 0), (.OST_LASTSW_HI, 0), (.OST_LASTSW_INFO, 0),
    (.OST_SWITCHES, 0), (.OST_CMD, 0)]

/-- Governor `gb` has taken control through a cause of R373: its claim is one above the higher claim before. -/
def TookControl (s t : State) (gb : Bool) (cause : Nat) : Prop :=
  t.rr (claimReg gb) = max (s.rr .OST_CLAIM_A) (s.rr .OST_CLAIM_B) + 1 ∧ t.rr (claimReg (!gb)) = s.rr (claimReg (!gb)) ∧
    t.f F.OST_STAT_ACTIVE = chIx gb ∧ t.govSt gb = 4 ∧ (t.gl gb).valid = true ∧ t.f F.OST_LASTSW_INFO_CAUSE = cause ∧
    t.f F.OST_LASTSW_INFO_TO_B = chIx gb ∧ t.f F.OST_LASTSW_INFO_HOLD ≤ 48 ∧ t.pair .OST_LASTSW_LO .OST_LASTSW_HI = s.now ∧
    t.rr .OST_SWITCHES = min (s.rr .OST_SWITCHES + 1) 0xFFFFFFFF ∧ t.f F.OST_OUT_HOLD = 0 ∧ t.f F.OST_STAT_ORPHAN = 0 ∧
    t.f F.OST_OUT_VCORE = s.f F.OST_OUT_VCORE ∧ t.f F.OST_OUT_PACE = s.f F.OST_OUT_PACE ∧ t.f F.OST_OUT_GATED = s.f F.OST_OUT_GATED ∧
    { t with regs := s.regs, ost := s.ost, free := s.free } = s ∧ RegsKept switchRegs s t

/-- R367 to R371, R373 to R377, R385, R386, R387: a claim lapses when its heartbeat has stopped, its governor is DOWN and the outputs of an
active one are held; a qualified standby takes control when the active governor's claim has lapsed, its meter has failed or a swap was asked
for, in that order, and GOV-A takes it back after its time; only the holder of the higher valid claim commands the outputs, and any other
command is counted; without a valid claim the package is ORPHAN, its outputs held, and after 10 ms it shuts down. No governor activation
runs here. -/
def ControlOfOutputs : Prop :=
  ∀ (s : State) (gb : Bool), s.sec.activation = none → max (s.rr .OST_CLAIM_A) (s.rr .OST_CLAIM_B) + 1 < 2 ^ 32 →
    let act := s.activeB
    let due : Option Nat :=
      if (s.gl act).valid = false then some 1
      else if s.f F.MTR_STAT_STATE (chIx act) = 3 ∧ s.f F.MTR_STAT_STATE (chIx (!act)) ≠ 3 then some 2
      else if s.ost.swapDue = true then some 3 else none
    Gives (exec (.heartbeatStop gb) s) (fun t => t = s.setGl gb { s.gl gb with heartbeat := false }) ∧
    ((s.gl gb).valid = true → (s.gl gb).heartbeat = false →
      Gives (exec (.claimLapse gb) s) (fun t =>
        (t.gl gb) = { s.gl gb with valid := false, qualRun := 0 } ∧ t.gl (!gb) = s.gl (!gb) ∧ t.govSt gb = 0 ∧
          t.govSt (!gb) = s.govSt (!gb) ∧
          t.f F.OST_OUT_HOLD = (if act = gb ∧ s.f F.OST_STAT_SHUTDOWN ≠ 1 then 1 else s.f F.OST_OUT_HOLD) ∧
          { t with regs := s.regs, ost := s.ost } = s ∧ RegsKept [(.OST_STAT, 0), (.OST_OUT, 0)] s t)) ∧
    ((s.gl gb).valid = false ∨ (s.gl gb).heartbeat = true → Gives (exec (.claimLapse gb) s) (fun t => t = s)) ∧
    (s.f F.OST_STAT_SHUTDOWN ≠ 1 → s.qualified (!act) = true → ∀ c, due = some c →
      Gives (exec .switchOver s) (fun t => TookControl s t (!act) c) ∧
      (s.f F.OST_STAT_ORPHAN ≠ 1 → Gives (exec (.claimWrite (!act)) s) (fun t => TookControl s t (!act) c))) ∧
    (s.f F.OST_STAT_SHUTDOWN = 1 ∨ s.qualified (!act) = false ∨ due = none →
      Gives (exec .switchOver s) (fun t => t = s) ∧
      (s.f F.OST_STAT_ORPHAN ≠ 1 → Gives (exec (.claimWrite (!act)) s) (fun t => t = s))) ∧
    (s.f F.OST_STAT_ORPHAN ≠ 1 → Gives (exec (.claimWrite act) s) (fun t => t = s)) ∧
    (s.f F.OST_STAT_ORPHAN = 1 → s.f F.OST_STAT_SHUTDOWN ≠ 1 → s.qualified gb = true →
      Gives (exec (.claimWrite gb) s) (fun t => TookControl s t gb 1)) ∧
    (act = true → s.f F.OST_STAT_SHUTDOWN ≠ 1 → s.qualified false = true → s.f F.OST_CFG_REVERT * 100000 ≤ s.ost.a.qualRun →
      s.mode true ∈ [0, 1, 3] → due ≠ some 1 → due ≠ some 2 → Gives (exec .govRevert s) (fun t => TookControl s t false 4)) ∧
    (act = false ∨ s.mode true = 2 ∨ s.mode true = 4 ∨ s.ost.a.qualRun < s.f F.OST_CFG_REVERT * 100000 →
      Gives (exec .govRevert s) (fun t => t = s)) ∧
    (∀ out : BitVec 32, (out.extractLsb' 16 8).toNat ≤ 140 →
      (s.holder = some gb →
        Gives (exec (.ostCommand gb out) s) (fun t =>
          t.f F.OST_OUT_SOAK = (out.extractLsb' 24 8).toNat ∧ t.f F.OST_OUT_VCORE = (out.extractLsb' 16 8).toNat ∧
            t.f F.OST_OUT_PACE = (out.extractLsb' 8 8).toNat ∧ t.f F.OST_OUT_GATED = (out.extractLsb' 0 4).toNat ∧
            t.f F.OST_OUT_HOLD = 0 ∧ { t with regs := s.regs } = s ∧ RegsKept [(.OST_OUT, 0)] s t)) ∧
      (s.holder ≠ some gb →
        Gives (exec (.ostCommand gb out) s) (fun t =>
          t.rr .OST_IGNORED = min (s.rr .OST_IGNORED + 1) 0xFFFFFFFF ∧ { t with regs := s.regs } = s ∧ RegsKept [(.OST_IGNORED, 0)] s t))) ∧
    (s.ost.a.valid = false → s.ost.b.valid = false → s.f F.OST_STAT_SHUTDOWN ≠ 1 → s.f F.OST_STAT_ORPHAN ≠ 1 → s.f F.IDT_BOOT_READY = 1 →
      Gives (exec .orphanEntry s) (fun t =>
        t.f F.OST_STAT_ORPHAN = 1 ∧ t.f F.OST_OUT_HOLD = 1 ∧ t.rr .OST_ORPHAN = min (s.rr .OST_ORPHAN + 1) 0xFFFFFFFF ∧
          { t with regs := s.regs } = { s with events := s.events ++ [⟨s.now, 13, chIx act, .unreachable⟩] } ∧
          RegsKept [(.OST_STAT, 0), (.OST_OUT, 0), (.OST_ORPHAN, 0)] s t)) ∧
    (s.ost.a.valid = true ∨ s.ost.b.valid = true → Gives (exec .orphanEntry s) (fun t => t = s)) ∧
    (s.f F.OST_STAT_ORPHAN = 1 → s.f F.OST_STAT_SHUTDOWN = 0 → s.thm.tripped = false → s.boot.vaux = true →
      Gives (exec .orphanTimeout s) (fun t => t.f F.OST_STAT_SHUTDOWN = 1 ∧ t.boot.vaux = false ∧ t.boot.rails = false)) ∧
    (s.f F.OST_STAT_ORPHAN ≠ 1 → Gives (exec .orphanTimeout s) (fun t => t = s))

/-- A frame of R378 that its length and CRC hold good. -/
def goodFrame (f : List Byte) : Prop := f.length = 64 ∧ leAt f 60 4 = crc32c (f.take 60)

/-- R378, R379, R380: mirror frames. A bad frame is counted and breaks the run of good ones; frame numbers left out are counted; 100 good
frames in a row make the mirror current, and 4 periods without one end it. A standby takes over the values of a frame sent by the active
governor. A trajectory frame gives the standby the points of the active governor's BUDGET. -/
def Mirror : Prop :=
  ∀ (s : State) (gb : Bool) (fr : List Byte),
    let l := s.gl gb
    let i := govIx gb
    (2 ≤ s.govSt gb →
      (¬goodFrame fr →
        Gives (exec (.mirrorFrame gb fr) s) (fun t =>
          t.rr .OST_MCRC = min (s.rr .OST_MCRC + 1) 0xFFFFFFFF ∧ t.gl gb = { l with goodRun := 0 } ∧ t.gl (!gb) = s.gl (!gb) ∧
            { t with regs := s.regs, ost := s.ost } = s ∧ RegsKept [(.OST_MCRC, 0)] s t)) ∧
      (goodFrame fr →
        Gives (exec (.mirrorFrame gb fr) s) (fun t =>
          let gap := match l.lastSeq with
            | some p => (leAt fr 0 4 + 2 ^ 32 - p.toNat - 1) % 2 ^ 32
            | none => 0
          (t.gl gb).lastSeq = some (BitVec.ofNat 32 (leAt fr 0 4)) ∧ t.rr .OST_MGAP = min (s.rr .OST_MGAP + gap) 0xFFFFFFFF ∧
            (t.gl gb).goodRun = (if gap = 0 then l.goodRun + 1 else 1) ∧
            ((t.gl gb).mirror = true ↔ l.mirror = true ∨ 100 ≤ (t.gl gb).goodRun) ∧
            t.gl (!gb) = s.gl (!gb) ∧ t.rr .OST_MCRC = s.rr .OST_MCRC ∧ t.rr .OST_CLAIM_A = s.rr .OST_CLAIM_A ∧
            t.rr .OST_CLAIM_B = s.rr .OST_CLAIM_B ∧ t.rr .OST_OUT = s.rr .OST_OUT ∧ GovernorsOnly s { t with events := s.events } ∧
            t.tiles = s.tiles ∧
            (s.activeB = gb → t.gov gb = s.gov gb) ∧
            (s.activeB ≠ gb → (leAt fr 13 1).testBit 4 = false →
              (t.gov gb).tPrev = (BitVec.ofNat 32 (leAt fr 16 4)).toInt ∧ t.rr .GOV_SEQ i = leAt fr 32 4 ∧
                t.f F.GOV_ALIVE_ALIVE i = leAt fr 36 2 ∧ t.pair .GOV_SHORT_OVER_LO .GOV_SHORT_OVER_HI i = leAt fr 40 8 ∧
                t.pair .GOV_SHORT_UNDER_LO .GOV_SHORT_UNDER_HI i = leAt fr 48 8 ∧
                (t.gov gb).holdAge = (2000 - min (leAt fr 38 2) 2000) * 1000000)))) ∧
    (s.govSt gb < 2 → Gives (exec (.mirrorFrame gb fr) s) (fun t => t = s) ∧ Gives (exec (.trajectoryFrame gb fr) s) (fun t => t = s)) ∧
    Gives (exec (.mirrorLost gb) s) (fun t =>
      t.gl gb = { l with mirror := false, goodRun := 0 } ∧ t.gl (!gb) = s.gl (!gb) ∧
        t.govSt gb = (if s.govSt gb = 3 then 2 else s.govSt gb) ∧ { t with regs := s.regs, ost := s.ost } = s ∧
        RegsKept [(.OST_STAT, 0)] s t) ∧
    (2 ≤ s.govSt gb → s.activeB ≠ gb → 16 ≤ fr.length → leAt fr (fr.length - 4) 4 = crc32c (fr.take (fr.length - 4)) →
      let m := List.replicate 24 0#8 ++ (fr.drop 4).take (fr.length - 8)
      m.length = 32 + 12 * beAt m 24 1 →
      Gives (exec (.trajectoryFrame gb fr) s) (fun t =>
        t.gov gb = { s.gov gb with
          points := budgetPoints m, effT := nextPeriod s.now, effP := (s.gov gb).tPrev, bflags := BitVec.ofNat 8 (beAt m 25 1)
          fixv := beAt m 26 1, slewUp := beAt m 28 2, slewDn := beAt m 30 2 } ∧
          (t.gl gb) = { l with trajOk := true } ∧ t.gov (!gb) = s.gov (!gb) ∧ RegsKept [(.OST_STAT, 0)] s t ∧
          { t with regs := s.regs, ost := s.ost, gova := s.gova, govb := s.govb } = s))

/-- R381, R382: the standby compares its own frame of a period with that of the active governor: a disagreement is counted, a hundred in a
row are marked in OST_STAT and go to line 13, and one agreement ends the run and the mark. -/
def MirrorComparison : Prop :=
  ∀ (s : State) (gb : Bool) (fr : List Byte), 2 ≤ s.govSt gb → s.activeB ≠ gb → goodFrame fr →
    let l := s.gl gb
    l.frame.length = 64 → leAt l.frame 4 8 = leAt fr 4 8 → crc32c (s.gov gb).trajBytes = leAt fr 56 4 →
    leAt l.frame 56 4 = leAt fr 56 4 → leAt l.frame 12 1 = leAt fr 12 1 →
    let dt := ((BitVec.ofNat 32 (leAt l.frame 16 4)).toInt - (BitVec.ofNat 32 (leAt fr 16 4)).toInt).natAbs
    let dd := ((BitVec.ofNat 32 (leAt l.frame 20 4)).toInt - (BitVec.ofNat 32 (leAt fr 20 4)).toInt).natAbs
    (s.rated < 2 * dt ∨ 5 * s.rated < dd →
      Gives (exec (.mirrorFrame gb fr) s) (fun t =>
        t.rr .OST_DISAGREE = min (s.rr .OST_DISAGREE + 1) 0xFFFFFFFF ∧ (t.gl gb).agreeRun = 0 ∧
          t.ost.disagreeRun = s.ost.disagreeRun + 1 ∧
          t.f F.OST_STAT_DISAGREE = (if s.ost.disagreeRun = 99 then 1 else s.f F.OST_STAT_DISAGREE) ∧
          t.events = (if s.ost.disagreeRun = 99 then s.events ++ [⟨s.now, 13, govIx gb, .mismatch⟩] else s.events))) ∧
    (2 * dt ≤ s.rated → dd ≤ 5 * s.rated →
      Gives (exec (.mirrorFrame gb fr) s) (fun t =>
        t.rr .OST_DISAGREE = s.rr .OST_DISAGREE ∧ (t.gl gb).agreeRun = l.agreeRun + 1 ∧ t.ost.disagreeRun = 0 ∧
          t.f F.OST_STAT_DISAGREE = 0 ∧ t.events = s.events))

/-- What a governor's reset leaves (R383): STARTING, claim 0, its stored trajectory and its shown registers at reset. -/
def WasReset (s t : State) (gb : Bool) : Prop :=
  t.govSt gb = 1 ∧ t.govSt (!gb) = s.govSt (!gb) ∧ t.rr (claimReg gb) = 0 ∧ t.rr (claimReg (!gb)) = s.rr (claimReg (!gb)) ∧
    t.gov gb = { frBad := (s.gov gb).frBad } ∧ t.gov (!gb) = s.gov (!gb) ∧ (t.gl gb).valid = false ∧ (t.gl gb).mirror = false ∧
    t.gl (!gb) = s.gl (!gb) ∧ t.mode gb = 0 ∧ t.mode (!gb) = s.mode (!gb) ∧ t.rr .GOV_SEQ (govIx gb) = 0 ∧
    t.rr .GOV_SEQ (govIx (!gb)) = s.rr .GOV_SEQ (govIx (!gb)) ∧ t.rr .GOV_LAW (govIx gb) = s.rr .GOV_LAW (govIx gb) ∧
    t.rr .GOV_SLEW (govIx gb) = s.rr .GOV_SLEW (govIx gb) ∧ t.rr .OST_OUT = s.rr .OST_OUT ∧ t.mem = s.mem ∧ t.tiles = s.tiles

/-- R372, R383, R384, R385: the commands of OST_CMD. A swap needs a qualified standby and an active governor that is not in DIP or SHUTDOWN,
and the active governor is not reset; a reset governor that has restarted is UNQUALIFIED with its self-test's outcome; the steward resets a
governor that is DOWN, three times in 60 s, and then leaves it. -/
def GovernorResets : Prop :=
  ∀ (s : State) (ro : Option Role) (gb : Bool), 4 ≤ s.f F.IDT_BOOT_STEP →
    let act := s.activeB
    let reset := if gb then Instr.ostResetB (.steward ro) else .ostResetA (.steward ro)
    (s.qualified (!act) = true → s.mode act ≠ 2 → s.mode act ≠ 4 →
      Gives (exec (.ostSwap (.steward ro)) s) (fun t =>
        t.ost = { s.ost with swapDue := true } ∧ t.f F.OST_CMD_SWAP = 1 ∧ t.f F.OST_CMD_STATUS = 0 ∧ t.resp = ⟨.ok, 0⟩ ∧
          { t with regs := s.regs, resp := s.resp, ost := s.ost, journal := s.journal } = s)) ∧
    (s.qualified (!act) = false ∨ s.mode act = 2 ∨ s.mode act = 4 →
      Gives (exec (.ostSwap (.steward ro)) s) (fun t =>
        t.ost = s.ost ∧ t.f F.OST_CMD_STATUS = Status.busy.code ∧ t.resp = ⟨.busy, 0⟩)) ∧
    (act = gb → s.govSt gb = 4 →
      Gives (exec reset s) (fun t =>
        t.ost = s.ost ∧ t.gova = s.gova ∧ t.govb = s.govb ∧ t.f F.OST_CMD_STATUS = Status.busy.code ∧ t.resp = ⟨.busy, 0⟩)) ∧
    (act ≠ gb ∨ s.govSt gb ≠ 4 →
      Gives (exec reset s) (fun t => WasReset s t gb ∧ t.f F.OST_CMD_STATUS = 0 ∧ t.resp = ⟨.ok, 0⟩)) ∧
    (∀ pass, s.govSt gb = 1 → s.f F.IDT_BOOT_READY = 1 →
      Gives (exec (.govRestartDone gb pass) s) (fun t =>
        t.gl gb = { s.gl gb with selfTest := pass, heartbeat := true } ∧ t.govSt gb = 2 ∧ t.govSt (!gb) = s.govSt (!gb) ∧
          t.gl (!gb) = s.gl (!gb) ∧ { t with regs := s.regs, ost := s.ost } = s ∧ RegsKept [(.OST_STAT, 0)] s t)) ∧
    (∀ pass, s.govSt gb ≠ 1 → Gives (exec (.govRestartDone gb pass) s) (fun t => t = s)) ∧
    (s.govSt gb = 0 → act ≠ gb → (s.gl gb).leftDown = false →
      let recent := (s.gl gb).restarts.filter fun t => decide (s.now < t + 60000000000)
      (recent.length < 3 →
        Gives (exec (.lapsedGovReset gb) s) (fun t => WasReset s t gb ∧ (t.gl gb).restarts = s.now :: recent)) ∧
      (3 ≤ recent.length →
        Gives (exec (.lapsedGovReset gb) s) (fun t =>
          t.gl gb = { s.gl gb with restarts := recent, leftDown := true } ∧ t.gl (!gb) = s.gl (!gb) ∧
            { t with ost := s.ost } = { s with events := s.events ++ [⟨s.now, 13, govIx gb, .unreachable⟩] }))) ∧
    (s.govSt gb ≠ 0 ∨ act = gb ∨ (s.gl gb).leftDown = true → Gives (exec (.lapsedGovReset gb) s) (fun t => t = s))

/-! ### Fabric ports -/

/-- Port `p` is in a state of R395. -/
def PortIn (s : State) (p : Nat) (st : PortState) : Prop := s.f F.FPT_STAT_STATE p = st.code

/-- Only the ports have changed, what they show, what was sent and the count of free values. -/
def PortsOnly (s t : State) : Prop :=
  { t with regs := s.regs, ports := s.ports, out := s.out, free := s.free, events := s.events } = s

/-- The registers of port `p`, and those that show who carries and guards each dimension. -/
def portRegs (p : Nat) : List (Reg × Nat) :=
  [(.FPT_CTL, p), (.FPT_STAT, p), (.FPT_LANE_ST, p), (.FPT_PEER_SERIAL_LO, p), (.FPT_PEER_SERIAL_HI, p), (.FPT_PEER_COORD, p),
    (.FPT_PEER_FW, p), (.FPT_PEER_PROTO, p), (.FPT_HELLO_T_LO, p), (.FPT_HELLO_T_HI, p), (.FPT_EVENT, p), (.FPT_TRAINS, p),
    (.FPT_STALEHELLO, p), (.FPT_HELLOFAIL, p), (.FPT_DEPARTS, p), (.FPT_UNCORR, p), (.FPT_REPLAY, p), (.FPT_LWIN_LO, p), (.FPT_LWIN_HI, p)] ++
    (List.range 8).map (fun l => (.FPT_LERR, 8 * p + l)) ++ (List.range 18).map (fun d => (.FPT_DIM, d))

/-- The effect of a command on port `p` alone: no other port, nothing but the port's registers. -/
def OnePort (s t : State) (p : Nat) : Prop :=
  PortsOnly s t ∧ RegsKept (portRegs p) s t ∧ ∀ q, q ≠ p → t.port q = s.port q

/-- R395, R396, R399, R400: the way of a port from light to HELLO. Light on two lanes or more of a port in SEEK starts its training; training
done leads to the check; a check in which two lanes or more pass both ways leads to HELLO with the lowest 8, 4 or 2 of them, and one that
fails to a full training, and after the third such in a row to FAILED. -/
def LinkTraining : Prop :=
  ∀ (s : State) (p : Fin 20),
    (∀ lanes : BitVec 8,
      Gives (exec (.lightDetect p lanes) s) (fun t =>
        OnePort s t p ∧ t.f F.FPT_LANE_ST_SIGNAL p = lanes.toNat ∧
          (PortIn s p .seek → 2 ≤ popCount 8 lanes.toNat →
            PortIn t p .train ∧ ((t.port p).fullTrain = true ↔ (s.port p).saved = none ∨ s.f F.FPT_CTL_RETRAIN p = 1) ∧
              t.f F.FPT_CTL_RETRAIN p = 0) ∧
          (¬(PortIn s p .seek ∧ 2 ≤ popCount 8 lanes.toNat) → t.port p = s.port p ∧ t.rr .FPT_STAT p = s.rr .FPT_STAT p))) ∧
    (PortIn s p .train → Gives (exec (.trainDone p) s) (fun t => OnePort s t p ∧ PortIn t p .check ∧ t.port p = s.port p)) ∧
    (¬PortIn s p .train → Gives (exec (.trainDone p) s) (fun t => t = s)) ∧
    (PortIn s p .check → ∀ (errors : List Nat) (peer : BitVec 8),
      let pass := lanesWithin errors 112000000000 (s.f F.FPT_THRESH_CHECK_EXP)
      let ok := 2 ≤ popCount 8 pass ∧ 2 ≤ popCount 8 peer.toNat
      Gives (exec (.linkCheckDone p errors peer) s) (fun t =>
        OnePort s t p ∧ t.f F.FPT_LANE_ST_FAILMASK p = 0xFF - pass ∧
          (∀ l < 8, t.rr .FPT_LERR (8 * p + l) = min (errors.getD l 0) 0xFFFFFFFF) ∧ t.pair .FPT_LWIN_LO .FPT_LWIN_HI p = 112000000000 ∧
          t.rr .FPT_TRAINS p = (if (s.port p).fullTrain = true then min (s.rr .FPT_TRAINS p + 1) 0xFFFFFFFF else s.rr .FPT_TRAINS p) ∧
          (ok → PortIn t p .hello ∧ t.f F.FPT_STAT_RXMASK p = chooseLanes pass ∧ t.f F.FPT_STAT_TXMASK p = chooseLanes peer.toNat ∧
            t.out.length = s.out.length + 1 ∧ (t.port p).fails = 0 ∧ t.events = s.events) ∧
          (¬ok → (s.port p).fullTrain = false → PortIn t p .train ∧ (t.port p).fullTrain = true ∧ t.events = s.events) ∧
          (¬ok → (s.port p).fullTrain = true → (s.port p).fails < 2 →
            PortIn t p .train ∧ (t.port p).fails = (s.port p).fails + 1 ∧ t.events = s.events) ∧
          (¬ok → (s.port p).fullTrain = true → 2 ≤ (s.port p).fails →
            PortIn t p .failed ∧ t.f F.FPT_STAT_REASON p = 9 ∧ t.f F.FPT_EVENT_FAIL p = 1 ∧
              t.events = s.events ++ [⟨s.now, 14, p, .unreachable⟩]))) ∧
    (¬PortIn s p .check → ∀ errors peer, Gives (exec (.linkCheckDone p errors peer) s) (fun t => t = s))

/-- A port in whose states messages of the exchange are taken: HELLO, UP, STANDBY and QUARANTINE. -/
def InExchange (s : State) (p : Nat) : Prop := PortIn s p .hello ∨ PortIn s p .up ∨ PortIn s p .standby ∨ PortIn s p .quarantine

/-- R402 to R408: the hello exchange. CERT is kept; a HELLO carries the port's own NONCE and the last one of the neighbour; a HELLO of the
wrong form, or that echoes another NONCE, is counted as stale; one that echoes none gives the neighbour's NONCE; one that fails the rules of
R406 sends a port that is in HELLO to QUARANTINE with its status; one that passes shows the neighbour. No valid hello within its time leads
to SEEK; a re-hello takes a new NONCE and the third miss in a row leads to SEEK. -/
def HelloExchange : Prop :=
  ∀ (s : State) (p : Fin 20), s.mst.inbox = [] →
    let x := s.port p
    (∀ m : List Byte,
      (linkOk m 2 = true → InExchange s p → Gives (exec (.certRx p m) s) (fun t => t = s.setPort p { x with cert := m.drop 8 })) ∧
      (linkOk m 2 = false →
        Gives (exec (.certRx p m) s) (fun t =>
          t.rr .FPT_STALEHELLO p = min (s.rr .FPT_STALEHELLO p + 1) 0xFFFFFFFF ∧ OnePort s t p ∧ t.port p = x)) ∧
      (InExchange s p →
        let echo := beAt m 40 8
        let formed := linkOk m 1 = true ∧ m.length = 152 ∧ (echo = 0 ∨ echo = x.nonce.toNat)
        (¬formed →
          Gives (exec (.helloRx p m) s) (fun t =>
            t.rr .FPT_STALEHELLO p = min (s.rr .FPT_STALEHELLO p + 1) 0xFFFFFFFF ∧ OnePort s t p ∧ t.port p = x)) ∧
        (formed → echo = 0 →
          Gives (exec (.helloRx p m) s) (fun t =>
            OnePort s t p ∧ (t.port p).peerNonce = BitVec.ofNat 64 (beAt m 32 8) ∧ t.rr .FPT_STAT p = s.rr .FPT_STAT p ∧
              t.f F.FPT_PEER_COORD_COORD p = beAt m 20 4 % 2 ^ 18 ∧ t.f F.FPT_PEER_COORD_PORT p = beAt m 24 1 % 32 ∧
              t.f F.FPT_PEER_COORD_DIM p = beAt m 25 1 % 32)) ∧
        (formed → echo ≠ 0 → PortIn s p .hello → s.helloStatus p m ≠ .ok →
          Gives (exec (.helloRx p m) s) (fun t =>
            PortIn t p .quarantine ∧ t.f F.FPT_STAT_STATUS p = (s.helloStatus p m).code ∧
              t.f F.FPT_STAT_REASON p = (if s.helloStatus p m = .denied then 8 else 7) ∧ t.f F.FPT_EVENT_QUAR p = 1 ∧
              t.rr .FPT_HELLOFAIL p = min (s.rr .FPT_HELLOFAIL p + 1) 0xFFFFFFFF ∧
              t.events = s.events ++ [⟨s.now, 14, p, s.helloStatus p m⟩])) ∧
        (formed → echo ≠ 0 → s.helloStatus p m = .ok →
          Gives (exec (.helloRx p m) s) (fun t =>
            t.pair .FPT_PEER_SERIAL_LO .FPT_PEER_SERIAL_HI p = beAt m 8 8 ∧ t.rr .FPT_PEER_FW p = beAt m 28 4 ∧
              t.pair .FPT_HELLO_T_LO .FPT_HELLO_T_HI p = s.now ∧ (t.port p).gotEcho = true ∧
              (t.port p).peer = some ⟨BitVec.ofNat 64 (beAt m 8 8), beAt m 20 4 % 2 ^ 18, beAt m 25 1, beAt m 26 1⟩ ∧
              (PortIn s p .hello → x.peerNonce = BitVec.ofNat 64 (beAt m 32 8) → x.sentEcho = true → s.f F.FPT_MAP_ROLE p = 1 →
                s.f F.FPT_DIM_CARRY (s.f F.FPT_MAP_DIM p) = 31 → s.f F.FPT_MAP_DIM p < 18 →
                PortIn t p .up ∧ t.f F.FPT_DIM_CARRY (s.f F.FPT_MAP_DIM p) = p ∧ t.f F.FPT_EVENT_ARRIVE p = 1))))) ∧
    (InExchange s p → x.sentEcho = true ∨ x.peerNonce = 0 → x.gotEcho = false →
      Gives (exec (.helloTx p) s) (fun t => t.out = .link p (s.helloBody p ++ fitBytes 64 (Config.sm2Sign (s.helloBody p))) :: s.out ∧
        { t with out := s.out } = s)) ∧
    (¬InExchange s p → Gives (exec (.helloTx p) s) (fun t => t = s)) ∧
    (PortIn s p .hello →
      Gives (exec (.helloTimeout p) s) (fun t =>
        PortIn t p .seek ∧ t.rr .FPT_HELLOFAIL p = min (s.rr .FPT_HELLOFAIL p + 1) 0xFFFFFFFF ∧ OnePort s t p)) ∧
    (¬PortIn s p .hello → Gives (exec (.helloTimeout p) s) (fun t => t = s)) ∧
    (PortIn s p .up ∨ PortIn s p .standby ∨ PortIn s p .quarantine →
      Gives (exec (.rehelloStart p) s) (fun t =>
        t = { s.setPort p { x with nonce := Config.nonce s.free, sentEcho := false, gotEcho := false, rehello := true } with free := s.free + 1 }) ∧
      (x.rehello = true → x.misses < 2 ∨ PortIn s p .quarantine →
        Gives (exec (.rehelloTimeout p) s) (fun t =>
          t = { s.setPort p { x with nonce := Config.nonce s.free, sentEcho := false, gotEcho := false, misses := x.misses + 1 } with
            free := s.free + 1 }))) ∧
    (PortIn s p .up → x.rehello = true → 2 ≤ x.misses →
      Gives (exec (.rehelloTimeout p) s) (fun t => PortIn t p .seek ∧ t.f F.FPT_STAT_REASON p = 6)) ∧
    (x.rehello = false → Gives (exec (.rehelloTimeout p) s) (fun t => t = s))

/-- What a port that has left UP leaves behind (R398, R417): the reason, the event and the count, and no dimension that it carries. -/
def Departed (s t : State) (p : Nat) (reason : Nat) : Prop :=
  t.f F.FPT_STAT_REASON p = reason ∧ t.f F.FPT_EVENT_DEPART p = 1 ∧ t.rr .FPT_DEPARTS p = min (s.rr .FPT_DEPARTS p + 1) 0xFFFFFFFF ∧
    ∀ d < 18, t.f F.FPT_DIM_CARRY d ≠ p

/-- R389, R391, R392, R396, R397, R398, R411 to R415: what happens to a port that is linked and holds no frames: the loss of all its light or
a GOODBYE takes an UP port to SEEK, the loss of a part to a new training; codewords in error, resends and acknowledgements of its replay
buffer; audits and widths; the takeover of a dimension by a port in STANDBY. -/
def LinkUpkeep : Prop :=
  ∀ (s : State) (p : Fin 20), s.mst.inbox = [] →
    let x := s.port p
    let rx := s.f F.FPT_STAT_RXMASK p
    let idle := x.replay = [] ∧ x.heldBack = []
    (∀ lanes : BitVec 8,
      (PortIn s p .up → idle → rx ≠ 0 → Nat.land rx lanes.toNat = rx →
        Gives (exec (.lightLoss p lanes) s) (fun t =>
          PortIn t p .seek ∧ Departed s t p 3 ∧ t.f F.FPT_LANE_ST_SIGNAL p = Nat.land (s.f F.FPT_LANE_ST_SIGNAL p) (0xFF - lanes.toNat))) ∧
      (PortIn s p .up → idle → Nat.land rx lanes.toNat ≠ 0 → Nat.land rx lanes.toNat ≠ rx →
        Gives (exec (.lightLoss p lanes) s) (fun t => PortIn t p .train ∧ Departed s t p 3)) ∧
      (Nat.land rx lanes.toNat = 0 →
        Gives (exec (.lightLoss p lanes) s) (fun t =>
          t.f F.FPT_LANE_ST_SIGNAL p = Nat.land (s.f F.FPT_LANE_ST_SIGNAL p) (0xFF - lanes.toNat) ∧ { t with regs := s.regs } = s ∧
            RegsKept [(.FPT_LANE_ST, p)] s t))) ∧
    (PortIn s p .up → idle → Gives (exec (.goodbyeRx p) s) (fun t => PortIn t p .seek ∧ Departed s t p 2 ∧ t.events = s.events)) ∧
    (¬PortIn s p .up → ¬PortIn s p .standby → ¬PortIn s p .quarantine → Gives (exec (.goodbyeRx p) s) (fun t => t = s)) ∧
    Gives (exec (.uncorrectableCodeword p) s) (fun t =>
      t.rr .FPT_UNCORR p = min (s.rr .FPT_UNCORR p + 1) 0xFFFFFFFF ∧ OnePort s t p ∧
        (PortIn s p .up → t.out = .resend p x.rxSeq :: s.out ∧ t.port p = { x with asking := true }) ∧
        (¬PortIn s p .up → t.out = s.out ∧ t.port p = x)) ∧
    (∀ (seq : BitVec 32) (body : List Byte) (rest : List (BitVec 32 × List Byte)),
      PortIn s p .up → x.replay = (seq, body) :: rest →
      (x.resends < 8 → rest = [] →
        Gives (exec (.resendRequest p seq) s) (fun t =>
          t.port p = { x with resends := x.resends + 1 } ∧ t.out = .fabric p body :: s.out ∧
            t.rr .FPT_REPLAY p = min (s.rr .FPT_REPLAY p + 1) 0xFFFFFFFF ∧ PortIn t p .up)) ∧
      (x.heldBack = [] → x.widthPend = none → x.draining = false →
        Gives (exec (.linkAck p seq) s) (fun t => t = s.setPort p { x with replay := rest, resends := 0 }))) ∧
    (∀ seq, (∀ f ∈ x.replay, f.1 ≠ seq) →
      Gives (exec (.resendRequest p seq) s) (fun t => t = s) ∧ Gives (exec (.linkAck p seq) s) (fun t => t = s)) ∧
    (∀ (errors : List Nat) (bits uncorr : Nat) (peer : BitVec 8), PortIn s p .up → s.f F.FPT_AUDIT_PERIOD ≠ 0 →
      let tx := s.f F.FPT_STAT_TXMASK p
      let bad := Nat.land rx (0xFF - lanesWithin errors bits (s.f F.FPT_THRESH_AUDIT_EXP))
      (uncorr ≤ s.f F.FPT_AUDIT_UNCORR_MAX → bad = 0 → rx ≠ 0 → tx ≠ 0 → Nat.land tx peer.toNat = tx →
        Gives (exec (.laneAudit p errors bits uncorr peer) s) (fun t =>
          OnePort s t p ∧ PortIn t p .up ∧ t.f F.FPT_STAT_RXMASK p = rx ∧ t.f F.FPT_STAT_TXMASK p = tx ∧ t.out = s.out ∧
            t.f F.FPT_STAT_STATUS p = (if rx = 0xFF ∧ tx = 0xFF then 0 else Status.degraded.code) ∧
            ∀ l < 8, t.rr .FPT_LERR (8 * p + l) = min (errors.getD l 0) 0xFFFFFFFF)) ∧
      (s.f F.FPT_AUDIT_UNCORR_MAX < uncorr → idle →
        Gives (exec (.laneAudit p errors bits uncorr peer) s) (fun t => PortIn t p .train ∧ Departed s t p 4))) ∧
    (∀ mask : BitVec 8, PortIn s p .up → 2 ≤ popCount 8 mask.toNat → x.resends = 0 →
      Gives (exec (.widthRx p mask) s) (fun t =>
        OnePort s t p ∧ PortIn t p .up ∧ t.f F.FPT_STAT_TXMASK p = chooseLanes mask.toNat ∧ t.f F.FPT_STAT_RXMASK p = rx ∧
          (t.port p).widthPend = none)) ∧
    (∀ mask : BitVec 8, ¬PortIn s p .up ∨ popCount 8 mask.toNat < 2 → Gives (exec (.widthRx p mask) s) (fun t => t = s)) ∧
    (PortIn s p .standby → s.f F.FPT_MAP_DIM p < 18 →
      (Gives (exec (.takeoverRx p) s) (fun t =>
        PortIn t p .up ∧ t.f F.FPT_DIM_CARRY (s.f F.FPT_MAP_DIM p) = p ∧ t.f F.FPT_EVENT_TAKEOVER p = 1 ∧ (t.port p).takeover = false)) ∧
      (x.takeover = true →
        Gives (exec (.takeoverAckRx p) s) (fun t =>
          PortIn t p .up ∧ t.f F.FPT_DIM_CARRY (s.f F.FPT_MAP_DIM p) = p ∧ t.f F.FPT_EVENT_TAKEOVER p = 1 ∧ (t.port p).takeover = false))) ∧
    (¬PortIn s p .standby →
      Gives (exec (.takeoverRx p) s) (fun t => t = s) ∧ Gives (exec (.takeoverAckRx p) s) (fun t => t = s)) ∧
    Gives (exec (.takeoverTimeout p) s) (fun t => t = s.setPort p { x with takeover := false })

/-- R395, R396, R409, R410, R416: the registers of the ports, as the installer writes them. ADMIN 0 takes a port that holds no frame to OFF
and ADMIN 1 lets it go to SEEK when nothing else keeps it OFF; RETRAIN starts a full training; a map entry that is no role, no dimension or a
second primary is refused, and a legal one lets the port leave OFF; the coordinate and the machine number are taken only while every port is
OFF, and a twist mask only when it is crossed for its dimension. -/
def LinkRegisters : Prop :=
  ∀ (s : State) (p : Fin 20) (v : BitVec 32), 4 ≤ s.f F.IDT_BOOT_STEP → s.mst.inbox = [] →
    let rq := Requester.steward (some .installer)
    let x := s.port p
    let ready := s.f F.FPT_COORD_SET = 1 ∧ s.tmb.refclk = true ∧ s.boot.rails = true
    let off := ∀ q < 20, PortIn s q .off
    let role := (v.extractLsb' 8 2).toNat
    let dim := (v.extractLsb' 0 5).toNat
    let legal := role ≠ 3 ∧ dim < 18 ∧ (role = 1 → ∀ q : Nat, q < 20 → q ≠ p.val → ¬(s.f F.FPT_MAP_ROLE q = 1 ∧ s.f F.FPT_MAP_DIM q = dim))
    (s.f F.FPT_CTL_ADMIN p = 1 → s.f F.FPT_CTL_RETRAIN p = 0 → x.replay = [] → x.heldBack = [] →
      Gives (exec (.fptAdminDown rq p) s) (fun t => PortIn t p .off ∧ t.f F.FPT_CTL_ADMIN p = 0 ∧ t.resp = ⟨.ok, 0⟩)) ∧
    (s.f F.FPT_CTL_ADMIN p = 0 → s.f F.FPT_CTL_RETRAIN p = 0 → PortIn s p .off → ready → s.f F.FPT_MAP_ROLE p ≠ 0 →
      Gives (exec (.fptAdminUp rq p) s) (fun t => PortIn t p .seek ∧ t.f F.FPT_CTL_ADMIN p = 1 ∧ t.resp = ⟨.ok, 0⟩)) ∧
    (x.draining = true → x.replay = [] → x.heldBack = [] → x.toSeek = false →
      Gives (exec (.adminDrainEnd p) s) (fun t => PortIn t p .off ∧ (t.port p).draining = false)) ∧
    (x.draining = false → Gives (exec (.adminDrainEnd p) s) (fun t => t = s)) ∧
    (PortIn s p .up → x.replay = [] → x.heldBack = [] →
      Gives (exec (.fptRetrain rq p) s) (fun t => PortIn t p .train ∧ (t.port p).fullTrain = true ∧ Departed s t p 0 ∧ t.resp = ⟨.ok, 0⟩)) ∧
    (PortIn s p .off → legal → ready → s.f F.FPT_CTL_ADMIN p = 1 → role ≠ 0 →
      s.f F.FPT_MAP_ROLE p ≠ role ∨ s.f F.FPT_MAP_DIM p ≠ dim →
      Gives (exec (.fptMapWrite rq p v) s) (fun t => PortIn t p .seek ∧ t.f F.FPT_MAP_ROLE p = role ∧ t.f F.FPT_MAP_DIM p = dim ∧ t.resp = ⟨.ok, 0⟩)) ∧
    (¬legal → Gives (exec (.fptMapWrite rq p v) s) (fun t => t.rr .FPT_MAP p = s.rr .FPT_MAP p ∧ t.rr .FPT_STAT p = s.rr .FPT_STAT p ∧
      t.resp = ⟨.bounds, 0⟩ ∧ t.rr .FPT_ERR p = Status.bounds.code)) ∧
    (off →
      Gives (exec (.fptCoordWrite rq v) s) (fun t =>
        t.f F.FPT_COORD_COORD = v.toNat % 2 ^ 18 ∧ t.f F.FPT_COORD_SET = 1 ∧ t.resp = ⟨.ok, 0⟩) ∧
      Gives (exec (.fptMachineWrite rq v) s) (fun t => t.rr .FPT_MACHINE = v.toNat ∧ t.resp = ⟨.ok, 0⟩)) ∧
    (¬PortIn s p .off →
      Gives (exec (.fptCoordWrite rq v) s) (fun t => t.rr .FPT_COORD = s.rr .FPT_COORD ∧ t.resp = ⟨.busy, 0⟩ ∧ t.rr .FPT_GERR = 9) ∧
      Gives (exec (.fptMachineWrite rq v) s) (fun t => t.rr .FPT_MACHINE = s.rr .FPT_MACHINE ∧ t.resp = ⟨.busy, 0⟩ ∧ t.rr .FPT_GERR = 9)) ∧
    (∀ d : Fin 18, off →
      let crossed := ∀ b < 18, v.getLsbD b = true → b % 2 = 0 ∧ b + 1 < d
      (crossed → Gives (exec (.fptTwistWrite rq d v) s) (fun t => t.f F.FPT_TWIST_E d = v.toNat % 2 ^ 18 ∧ t.resp = ⟨.ok, 0⟩)) ∧
      (¬crossed → Gives (exec (.fptTwistWrite rq d v) s) (fun t => t.rr .FPT_TWIST d = s.rr .FPT_TWIST d ∧ t.resp = ⟨.bounds, 0⟩)))

/-! ### The fabric router -/

/-- Receive queue `f.rq` takes frame `f`: it is enabled, not behind a fence, its slots are large enough, and its ring has room by the
consumer word in memory (R429). -/
def QueueTakes (s : State) (f : Frame) : Prop :=
  let q := f.rq
  q < 64 ∧ s.f F.RQ_CTL_EN q = 1 ∧ s.placeFenced (placeOf (s.pair .RQ_RING_LO .RQ_RING_HI q)) = false ∧
    f.len ≤ capOf (s.f F.RQ_CTL_SLOT q) ∧
    (s.rr .RQ_COUNT q + 2 ^ 32 - leNat (s.bytes (s.pair .RQ_CONSA_LO .RQ_CONSA_HI q) 4)) % 2 ^ 32 ≠ 2 ^ s.f F.RQ_CTL_ORDER q

/-- R424 to R428: send queues. A write to a producer word gives the queue its index, unless that lies more than a ring ahead, which is
refused. A descriptor is taken from the ring while the index is ahead: one that R424 refuses is counted, and one that names this package is
delivered to its receive queue; either way its done count goes up, in memory also. A queue that is not enabled, or has nothing to take, does
nothing. -/
def SendQueues : Prop :=
  ∀ (s : State) (q : Fin 64), s.mst.inbox = [] →
    let word := s.pair .SQ_PRODA_LO .SQ_PRODA_HI q
    (∀ v : BitVec 32, s.placeFenced (placeOf word) = false → CleanAt s word 4 → s.f F.SQ_CTL_EN q = 1 →
      let ahead := (v.toNat + 2 ^ 32 - s.rr .SQ_CONS q) % 2 ^ 32
      (ahead ≤ 2 ^ s.f F.SQ_CTL_ORDER q →
        Gives (exec (.sqProducerWrite q (some v)) s) (fun t =>
          t.prod q = v.toNat ∧ (∀ r, r ≠ q.val → t.prod r = s.prod r) ∧ t.bytes word 4 = leBytes 4 v.toNat ∧
            (∀ a, a < word ∨ word + 4 ≤ a → t.byte a = s.byte a) ∧ RegsKeptPrf [] s t ∧
            { t with regs := s.regs, prf := s.prf, mem := s.mem, frt := s.frt } = s)) ∧
      (2 ^ s.f F.SQ_CTL_ORDER q < ahead →
        Gives (exec (.sqProducerWrite q (some v)) s) (fun t =>
          t.prod q = s.prod q ∧ t.rr .FRT_ERR = Status.bounds.code ∧ RegsKeptPrf [(.FRT_ERR, 0)] s t))) ∧
    (s.placeFenced (placeOf word) = true → ∀ v, Gives (exec (.sqProducerWrite q v) s) (fun t => t = s)) ∧
    (s.f F.SQ_CTL_EN q = 0 ∨ s.prod q = s.rr .SQ_CONS q ∨ s.f F.FCL_STAT_SAFE = 1 →
      ∀ rnd esc, Gives (exec (.sqDescriptor q rnd esc) s) (fun t => t = s)) ∧
    (s.f F.SQ_CTL_EN q = 1 → s.prod q ≠ s.rr .SQ_CONS q → s.f F.FCL_STAT_SAFE = 0 → ∀ (rnd : BitVec 18) (esc : Bool),
      let a := s.pair .SQ_RING_LO .SQ_RING_HI q + s.rr .SQ_CONS q % 2 ^ s.f F.SQ_CTL_ORDER q * 48
      let done := s.pair .SQ_DONEA_LO .SQ_DONEA_HI q
      let d := s.bytes a 48
      let f : Frame := { rq := leAt d 9 1, len := leAt d 10 2 }
      s.placeFenced (placeOf a) = false → CleanAt s a 48 →
      (s.descStatus q d ≠ .ok →
        Gives (exec (.sqDescriptor q rnd esc) s) (fun t =>
          t.rr .SQ_CONS q = (s.rr .SQ_CONS q + 1) % 2 ^ 32 ∧ t.rr .SQ_DONE q = (s.rr .SQ_DONE q + 1) % 2 ^ 32 ∧
            t.rr .SQ_REFUSED q = min (s.rr .SQ_REFUSED q + 1) 0xFFFFFFFF ∧
            (done + 4 ≤ a + 32 ∨ a + 33 ≤ done → t.byte (a + 32) = BitVec.ofNat 8 (s.descStatus q d).code) ∧
            (s.placeFenced (placeOf done) = false → CleanAt s done 4 → t.bytes done 4 = leBytes 4 ((s.rr .SQ_DONE q + 1) % 2 ^ 32)) ∧
            (∀ b, b ≠ a + 32 → b < done ∨ done + 4 ≤ b → t.byte b = s.byte b) ∧ t.out = s.out ∧ t.ports = s.ports)) ∧
      (s.descStatus q d = .ok → leAt d 0 4 = s.own → leAt d 4 4 = 0 → leAt d 8 1 ≠ 0 → QueueTakes s f →
        Gives (exec (.sqDescriptor q rnd esc) s) (fun t =>
          t.rr .SQ_CONS q = (s.rr .SQ_CONS q + 1) % 2 ^ 32 ∧ t.rr .SQ_DONE q = (s.rr .SQ_DONE q + 1) % 2 ^ 32 ∧
            t.rr .SQ_REFUSED q = s.rr .SQ_REFUSED q ∧ t.rr .RQ_COUNT f.rq = (s.rr .RQ_COUNT f.rq + 1) % 2 ^ 32 ∧
            t.f F.RQ_CTL_PEND f.rq = 1 ∧ t.out = s.out ∧ t.ports = s.ports)) ∧
      (s.descStatus q d = .ok → leAt d 0 4 ≠ s.own → leAt d 4 4 = 0 → leAt d 8 1 = 1 → ∀ dim,
        s.minimalDim { cls := 1, dst := leAt d 0 4, slice := s.f F.SQ_SLICE_MASK q } esc = some dim →
        let p := s.f F.FPT_DIM_CARRY dim
        (s.port p).draining = false → (s.port p).heldBack = [] → (s.port p).held + 64 + leAt d 10 2 ≤ 2 ^ 20 →
        Gives (exec (.sqDescriptor q rnd esc) s) (fun t =>
          t.rr .SQ_CONS q = (s.rr .SQ_CONS q + 1) % 2 ^ 32 ∧ t.rr .SQ_DONE q = (s.rr .SQ_DONE q + 1) % 2 ^ 32 ∧
            t.rr .SQ_REFUSED q = s.rr .SQ_REFUSED q ∧ t.out.length = s.out.length + 1 ∧
            (t.port p).replay.length = (s.port p).replay.length + 1 ∧ (∀ r, r ≠ p → t.port r = s.port r))))

/-- R389, R390, R420, R421, R428, R429, R438, R442: a frame that comes in. A port that is not UP takes none; a header in error is counted and
put on line 18; a source outside the slice is counted; a frame for this package goes into its receive queue, header and payload, and one for
another goes out toward it with one hop more. -/
def FramesIn : Prop :=
  ∀ (s : State) (p : Fin 20) (bs : List Byte) (esc : Bool), s.mst.inbox = [] →
    let f := frameOf bs
    let up := PortIn s p .up
    (¬up → Gives (exec (.frameRx p bs esc) s) (fun t => t = s)) ∧
    (up → frameOk bs = false →
      Gives (exec (.frameRx p bs esc) s) (fun t =>
        t.rr .FRT_HCRC = min (s.rr .FRT_HCRC + 1) 0xFFFFFFFF ∧ t.events = s.events ++ [⟨s.now, 18, 0, .check⟩] ∧ t.mem = s.mem ∧
          t.out = s.out ∧ t.port p = { s.port p with rxSeq := (s.port p).rxSeq + 1, asking := false } ∧
          RegsKeptPrf [(.FRT_HCRC, 0)] s t)) ∧
    (up → frameOk bs = true → sameSlice f.slice f.src s.own = false →
      Gives (exec (.frameRx p bs esc) s) (fun t =>
        t.rr .FRT_SLICEVIOL = min (s.rr .FRT_SLICEVIOL + 1) 0xFFFFFFFF ∧ t.mem = s.mem ∧ t.out = s.out ∧
          RegsKeptPrf [(.FRT_SLICEVIOL, 0)] s t)) ∧
    (up → frameOk bs = true → sameSlice f.slice f.src s.own = true → f.payload.length = f.len → f.len ≠ 0 → f.pcrc = crc32c f.payload →
      f.flags.getLsbD 0 = false → f.flags.getLsbD 4 = false → f.dst = s.own → f.cls ≤ 1 → f.sq ≠ 0xFE → QueueTakes s f →
      Gives (exec (.frameRx p bs esc) s) (fun t =>
        let a := s.pair .RQ_RING_LO .RQ_RING_HI f.rq + s.rr .RQ_COUNT f.rq % 2 ^ s.f F.RQ_CTL_ORDER f.rq * (64 + capOf (s.f F.RQ_CTL_SLOT f.rq))
        let word := s.pair .RQ_COUNTA_LO .RQ_COUNTA_HI f.rq
        t.rr .RQ_COUNT f.rq = (s.rr .RQ_COUNT f.rq + 1) % 2 ^ 32 ∧ t.f F.RQ_CTL_PEND f.rq = 1 ∧ t.out = s.out ∧
          (∀ b, b < a ∨ a + 64 + f.len ≤ b → b < word ∨ word + 4 ≤ b → t.byte b = s.byte b) ∧
          (CleanAt s a (64 + f.len) → word + 4 ≤ a ∨ a + 64 + f.len ≤ word →
            t.bytes a (64 + f.len) = f.header ++ f.payload))) ∧
    (up → frameOk bs = true → sameSlice f.slice f.src s.own = true → f.flags.getLsbD 0 = false → f.dst ≠ s.own → f.cls ≤ 1 → f.hops < 48 →
      ∀ dim, s.minimalDim f esc = some dim →
      let r := s.f F.FPT_DIM_CARRY dim
      (s.port r).draining = false → (s.port r).heldBack = [] → (s.port r).held + 64 + f.payload.length ≤ 2 ^ 20 →
      Gives (exec (.frameRx p bs esc) s) (fun t =>
        t.out = .fabric r { f with hops := f.hops + 1 }.bytes :: s.out ∧ t.mem = s.mem ∧
          (t.port r).replay = (s.port r).replay ++ [((s.port r).txSeq, { f with hops := f.hops + 1 }.bytes)] ∧
          (t.port r).txSeq = (s.port r).txSeq + 1 ∧ RegsKeptPrf [] s t))

/-- R440, R448, R449, R450, R452, R453: what the router shows and is told. A congestion period gives each port its level, and a port that is
not UP reads 0xFF; the installer's FRT_AVOID is taken as written; a slice is refused while its queue is enabled, or when it is not closed;
enabling a send queue clears its counts, and enabling a receive queue its count. -/
def RouterRegisters : Prop :=
  ∀ (s : State) (q : Fin 64) (v : BitVec 32), 4 ≤ s.f F.IDT_BOOT_STEP →
    let inst := Requester.steward (some .installer)
    let oper := Requester.steward (some .operator)
    let closed := closedSlice (s.f F.FRT_STAT_TOPO) (v.toNat % 2 ^ 18) s.own
    (∀ levels : List (BitVec 8), s.f F.FRT_CMAP_CTL_EN = 0 →
      Gives (exec (.cmapPeriod levels) s) (fun t =>
        (∀ p < 20, ((t.rr .FRT_CMAP (p / 4)) / 2 ^ (8 * (p % 4))) % 256 =
          if s.f F.FPT_STAT_STATE p = 5 then (levels.getD p 0).toNat else 0xFF) ∧
          RegsKept ((List.range 5).map fun w => (.FRT_CMAP, w)) s t ∧ { t with regs := s.regs } = s)) ∧
    Gives (exec (.frtAvoidWrite inst v) s) (fun t =>
      t.rr .FRT_AVOID % 2 ^ 20 = v.toNat % 2 ^ 20 ∧ t.resp = ⟨.ok, 0⟩ ∧ RegsKept ((.FRT_AVOID, 0) :: journalRegs) s t ∧
        { t with regs := s.regs, resp := s.resp, journal := s.journal } = s) ∧
    ((s.f F.SQ_CTL_EN q = 0 → closed = true →
        Gives (exec (.sqSliceWrite oper q v) s) (fun t =>
          t.f F.SQ_SLICE_MASK q = v.toNat % 2 ^ 18 ∧ t.resp = ⟨.ok, 0⟩ ∧ RegsKept ((.SQ_SLICE, q.val) :: journalRegs) s t)) ∧
      (closed = false →
        Gives (exec (.sqSliceWrite oper q v) s) (fun t => t.rr .SQ_SLICE q = s.rr .SQ_SLICE q ∧ t.resp = ⟨.bounds, 0⟩)) ∧
      (s.f F.SQ_CTL_EN q = 1 → closed = true →
        Gives (exec (.sqSliceWrite oper q v) s) (fun t => t.rr .SQ_SLICE q = s.rr .SQ_SLICE q ∧ t.resp = ⟨.busy, 0⟩))) ∧
    (∀ ro, 4 ≤ s.f F.SQ_CTL_ORDER q → s.f F.SQ_CTL_ORDER q ≤ 12 →
      Gives (exec (.sqEnable (.steward ro) q) s) (fun t =>
        t.f F.SQ_CTL_EN q = 1 ∧ t.f F.SQ_CTL_ORDER q = s.f F.SQ_CTL_ORDER q ∧ t.f F.SQ_CTL_CLASSMAX q = s.f F.SQ_CTL_CLASSMAX q ∧
          (s.f F.SQ_CTL_EN q = 0 → t.rr .SQ_CONS q = 0 ∧ t.rr .SQ_DONE q = 0 ∧ t.prod q = 0) ∧
          (s.f F.SQ_CTL_EN q = 1 → t.rr .SQ_CONS q = s.rr .SQ_CONS q ∧ t.rr .SQ_DONE q = s.rr .SQ_DONE q ∧ t.prod q = s.prod q) ∧
          t.resp = ⟨.ok, 0⟩)) ∧
    (∀ ro, 4 ≤ s.f F.RQ_CTL_ORDER q → s.f F.RQ_CTL_ORDER q ≤ 15 → s.f F.RQ_CTL_SLOT q ≠ 3 → s.f F.RQ_CTL_IRQ_CORE q < 32 ∨ s.f F.RQ_CTL_IRQ_CORE q = 0xFF →
      Gives (exec (.rqEnable (.steward ro) q) s) (fun t =>
        t.f F.RQ_CTL_EN q = 1 ∧ t.f F.RQ_CTL_ORDER q = s.f F.RQ_CTL_ORDER q ∧ t.f F.RQ_CTL_PEND q = s.f F.RQ_CTL_PEND q ∧
          t.rr .RQ_COUNT q = (if s.f F.RQ_CTL_EN q = 1 then s.rr .RQ_COUNT q else 0) ∧ t.resp = ⟨.ok, 0⟩))

/-! ### Musters -/

/-- Slot `i` is enabled and its control area is in memory that can be read and written. -/
def SlotReady (s : State) (i : Nat) : Prop :=
  s.f F.MG_CTL_EN i = 1 ∧ s.mgLine i % 64 = 0 ∧ inStore (s.mgLine i) 128 = true ∧ s.placeFenced (placeOf (s.mgLine i)) = false ∧
    s.placeFenced (placeOf (s.mgLine i + 64)) = false ∧ CleanAt s (s.mgLine i) 128 ∧ s.mst.inbox = []

/-- Nothing that MST holds or has read asks for an act of slot `i`, and it has sent nothing for the instance. -/
def SlotQuiet (s : State) (i : Nat) : Prop :=
  (s.mg i).held = [] ∧ (s.mg i).abort ≠ s.iseq i ∧ (s.mgOpen i = false → (s.mg i).enter ≠ s.iseq i) ∧ (s.mg i).done ≠ s.iseq i ∧ (s.mg i).ready ≠ s.iseq i

/-- Slot `i` is that of a group of this package alone. -/
def Alone (s : State) (i : Nat) : Prop := s.f F.MG_MASK_VALUE i = 0 ∧ s.f F.MG_LEADER_VALUE i = s.own ∧ s.f F.MG_TREE_CHILDREN i = 0

/-- The word of line 0 at offset `o` as it stands in memory. -/
def lineWord (s : State) (i o : Nat) : Nat := leNat (s.bytes (s.mgLine i + o) 4)

/-- The open instance of slot `i` has ended with an outcome: its number, PHASE and counters (R467, R479). -/
def MusterEnded (s t : State) (i outcome : Nat) : Prop :=
  t.rr .MG_SEQ i = s.iseq i ∧ t.f F.MG_STAT_PHASE i = 6 ∧ t.f F.MG_STAT_OUTCOME i = outcome ∧ (t.mg i).held = [] ∧
    t.rr .MG_COMMITS i = (if outcome = 0 then min (s.rr .MG_COMMITS i + 1) 0xFFFFFFFF else s.rr .MG_COMMITS i) ∧
    t.rr .MG_ABORTS i = (if outcome = 0 then s.rr .MG_ABORTS i else min (s.rr .MG_ABORTS i + 1) 0xFFFFFFFF)

/-- R455, R456, R492: the operator enables a slot when R455 lets it, which clears its counts, and is told why not otherwise; disabling one
with no instance open changes its EN, and an instance open at a leader of a group of one ends with MUSTER_ABORT. -/
def MusterSlots : Prop :=
  ∀ (s : State) (g : Fin 64), 4 ≤ s.f F.IDT_BOOT_STEP → s.mst.inbox = [] →
    let i := g.val
    let rq := Requester.steward (some .operator)
    let legal := (s.f F.MG_CTL_IRQ_CORE i < 32 ∨ s.f F.MG_CTL_IRQ_CORE i = 0xFF) ∧ s.f F.MG_CTL_GRACE i ≠ 0
    legal →
    (s.f F.MG_CTL_EN i = 0 → s.mgStatus i = .ok →
      Gives (exec (.mgEnable rq g) s) (fun t =>
        t.f F.MG_CTL_EN i = 1 ∧ t.rr .MG_SEQ i = 0 ∧ t.f F.MG_STAT_PHASE i = 0 ∧ t.f F.MG_STAT_BROKEN i = 0 ∧ t.mg i = {} ∧
          (∀ j, j ≠ i → t.mg j = s.mg j) ∧ t.resp = ⟨.ok, 0⟩ ∧ RegsKept ([(.MG_CTL, i), (.MG_SEQ, i), (.MG_STAT, i), (.MG_TREE, i)] ++ journalRegs) s t ∧
          { t with regs := s.regs, mst := s.mst, resp := s.resp, journal := s.journal } = s)) ∧
    (s.f F.MG_CTL_EN i = 0 → s.mgStatus i ≠ .ok →
      Gives (exec (.mgEnable rq g) s) (fun t =>
        t.f F.MG_CTL_EN i = 0 ∧ t.resp = ⟨s.mgStatus i, 0⟩ ∧ t.rr .MST_ERR = (s.mgStatus i).code ∧ RegsKept [(.MST_ERR, 0)] s t ∧
          { t with regs := s.regs, resp := s.resp } = s)) ∧
    (s.mgOpen i = false →
      Gives (exec (.mgDisable rq g) s) (fun t =>
        t.f F.MG_CTL_EN i = 0 ∧ t.mst = s.mst ∧ t.resp = ⟨.ok, 0⟩ ∧ RegsKept ((.MG_CTL, i) :: journalRegs) s t)) ∧
    (s.f F.MG_CTL_EN i = 1 → s.mgOpen i = true → Alone s i → (s.mg i).held = [] →
      Gives (exec (.mgDisable rq g) s) (fun t =>
        t.f F.MG_CTL_EN i = 0 ∧ MusterEnded s t i Status.musterAbort.code ∧ t.resp = ⟨.ok, 0⟩))

/-- R459 to R464, R467, R472, R479: the words of line 0. An ENTER of the next instance with a legal descriptor opens it, with its hash, and
waits for the children; in a group of one the instance is at GO at once, DONE commits it within its deadline and ABORT ends it with
MUSTER_ABORT; READY takes a counted one on to GO2. -/
def MusterWords : Prop :=
  ∀ (s : State) (g : Fin 64), let i := g.val
    SlotReady s i → (s.mg i).held = [] →
    (∀ line : List Byte, line.length = 64 → s.mgOpen i = false → s.f F.MG_STAT_BROKEN i = 0 → leAt line 0 4 = s.iseq i →
      leAt line 12 4 ≠ s.iseq i → leAt line 8 4 ≠ s.iseq i → leAt line 4 4 ≠ s.iseq i → s.descLegal i line = true → leAt line 24 4 ≠ 0 →
      (s.f F.MG_MASK_VALUE i ≠ 0 → s.anyPortUp = true → s.children i ≠ [] →
        Gives (exec (.musterEnter g (some line)) s) (fun t =>
          t.f F.MG_STAT_PHASE i = 1 ∧ t.rr .MG_FAULT i = 0 ∧
            t.mgHash i = beNat ((sm3 (s.descRecord i line)).take 8) ∧ t.rr .MG_SEQ i = s.rr .MG_SEQ i ∧
            t.bytes (s.mgLine i) 64 = line ∧ t.out = s.out ∧ t.f F.MG_CTL_PEND i = 1)) ∧
      (Alone s i →
        Gives (exec (.musterEnter g (some line)) s) (fun t =>
          t.f F.MG_STAT_PHASE i = 2 ∧ t.mgHash i = beNat ((sm3 (s.descRecord i line)).take 8) ∧ (t.mg i).deadline = leAt line 32 8 ∧
            ((t.mg i).counted = true ↔ leAt line 19 1 = 1) ∧ t.rr .MG_SEQ i = s.rr .MG_SEQ i))) ∧
    (Alone s i → (s.mg i).abort ≠ s.iseq i → lineWord s i 12 ≠ s.iseq i →
      (s.f F.MG_STAT_PHASE i = 2 → (s.mg i).counted = true → lineWord s i 8 ≠ s.iseq i →
        Gives (exec (.musterReadyWord g (some (BitVec.ofNat 32 (s.iseq i)))) s) (fun t =>
          t.f F.MG_STAT_PHASE i = 4 ∧ t.rr .MG_SEQ i = s.rr .MG_SEQ i)) ∧
      (s.f F.MG_STAT_PHASE i = 2 → (s.mg i).counted = false → lineWord s i 0 ≠ nextIseq (s.iseq i) → s.now ≤ (s.mg i).deadline →
        Gives (exec (.musterDoneWord g (some (BitVec.ofNat 32 (s.iseq i)))) s) (fun t => MusterEnded s t i 0)) ∧
      (s.mgOpen i = true → s.mgOpen i = true → lineWord s i 0 ≠ nextIseq (s.iseq i) →
        Gives (exec (.musterAbortWord g (some (BitVec.ofNat 32 (s.iseq i)))) s) (fun t =>
          MusterEnded s t i Status.musterAbort.code)))

/-- The eight control frames with their KIND (R466). -/
def musterFrames (m : MusterMsg) : List (Instr × Nat) :=
  [(.musterArrive m, 1), (.musterGo m, 2), (.musterReady m, 3), (.musterGo2 m, 4), (.musterDone m, 5), (.musterDecide m, 6),
    (.musterAbortReq m, 7), (.musterQuery m, 8)]

/-- R466, R467, R470, R471, R475, R477, R478: control frames. One for no group here is counted at MST_NOGROUP; one for an instance that is
neither the open one nor the next is a stray; one from a child, or one from the leader, that does not apply yet is held; a DECIDE ends a
member's open instance with its status, and an ABORT_REQ or a decided QUERY acts at the leader. -/
def MusterFrames : Prop :=
  ∀ (s : State) (m : MusterMsg) (i : Nat), s.mst.inbox = [] →
    let x := s.mg i
    let known := m.iseq = s.iseq i ∨ s.mgOpen i = true ∧ m.iseq = nextIseq (s.iseq i)
    let lead := s.f F.MG_LEADER_VALUE i = s.own
    (s.groupSlot m.group = none → ∀ c ∈ musterFrames m,
      Gives (exec c.1 s) (fun t => t.rr .MST_NOGROUP = min (s.rr .MST_NOGROUP + 1) 0xFFFFFFFF ∧ t.mst.slots = s.mst.slots)) ∧
    (s.groupSlot m.group = some i →
      (¬known → (s.mg i).decision = none → ∀ c ∈ musterFrames m,
        Gives (exec c.1 s) (fun t =>
          t.rr .MST_STRAY = min (s.rr .MST_STRAY + 1) 0xFFFFFFFF ∧ { t with regs := s.regs } = s ∧ RegsKept [(.MST_STRAY, 0)] s t)) ∧
      (s.mgOpen i = false → m.iseq = s.iseq i → SlotQuiet s i →
        (m.src ∈ s.children i →
          Gives (exec (.musterArrive m) s) (fun t =>
            (t.mg i).held = [⟨1, m⟩] ∧ (lead → x.arrDeadline = none → (t.mg i).arrDeadline = some m.deadline) ∧ t.regs = s.regs) ∧
          (∀ c ∈ [(Instr.musterReady m, 3), (.musterDone m, 5)],
            Gives (exec c.1 s) (fun t => t = s.setMg i { x with held := [⟨c.2, m⟩] }))) ∧
        (¬lead → ∀ c ∈ [(Instr.musterGo m, 2), (.musterGo2 m, 4)],
          Gives (exec c.1 s) (fun t => t = s.setMg i { x with held := [⟨c.2, m⟩] }))) ∧
      (s.mgOpen i = true → m.iseq = s.iseq i → SlotReady s i → SlotQuiet s i → lineWord s i 0 ≠ nextIseq (s.iseq i) →
        (¬lead → m.status < 256 →
          Gives (exec (.musterDecide m) s) (fun t => MusterEnded s t i m.status)) ∧
        (Alone s i → 0 < m.status → m.status < 256 →
          Gives (exec (.musterAbortReq m) s) (fun t =>
            MusterEnded s t i m.status ∧ (t.mg i).decision = some (s.iseq i, m.status, m.fault)))) ∧
      (lead → ∀ st fault, x.decision = some (m.iseq, st, fault) → m.src ≠ s.own → ∀ dim,
        s.minimalDim { cls := 0, dst := m.src, slice := s.f F.MG_MASK_VALUE i } false = some dim →
        let p := s.f F.FPT_DIM_CARRY dim
        (s.port p).draining = false → (s.port p).heldBack = [] → (s.port p).held + 104 ≤ 2 ^ 20 →
        Gives (exec (.musterQuery m) s) (fun t =>
          t.out.length = s.out.length + 1 ∧ t.mst = s.mst ∧ t.frt.tokens = s.frt.tokens - 104 ∧
            (t.port p).replay.length = (s.port p).replay.length + 1)) ∧
      (lead → known → x.decision = none → Gives (exec (.musterQuery m) s) (fun t => t = s)))

/-- R467, R472, R474, R475: what time and the router bring to a slot. The leader's deadline ends the instance with TIMEOUT; a member asks the
leader once; DEADLINE and GRACE past, the instance ends with UNREACHABLE and the slot is BROKEN; a notice for the DECIDE of a leader breaks the
slot too. Where there is nothing to end, nothing happens. -/
def MusterTimers : Prop :=
  ∀ (s : State) (g : Fin 64), let i := g.val
    let x := s.mg i
    let lead := s.f F.MG_LEADER_VALUE i = s.own
    SlotReady s i →
    (Alone s i → s.mgOpen i = true → SlotQuiet s i → lineWord s i 0 ≠ nextIseq (s.iseq i) →
      Gives (exec (.leaderDeadline g) s) (fun t => MusterEnded s t i Status.timeout.code)) ∧
    (¬lead ∨ s.mgOpen i = false ∧ x.arrDeadline = none → Gives (exec (.leaderDeadline g) s) (fun t => t = s)) ∧
    (¬lead → s.mgOpen i = true → x.queried = false → ∀ dim,
      s.minimalDim { cls := 0, dst := s.f F.MG_LEADER_VALUE i, slice := s.f F.MG_MASK_VALUE i } false = some dim →
      let p := s.f F.FPT_DIM_CARRY dim
      (s.port p).draining = false → (s.port p).heldBack = [] → (s.port p).held + 104 ≤ 2 ^ 20 →
      Gives (exec (.musterQueryTimer g) s) (fun t =>
        t.mg i = { x with queried := true } ∧ t.out.length = s.out.length + 1 ∧
          (t.port p).replay.length = (s.port p).replay.length + 1)) ∧
    (lead ∨ s.mgOpen i = false ∨ x.queried = true → Gives (exec (.musterQueryTimer g) s) (fun t => t = s)) ∧
    (s.mgOpen i = true → x.held = [] →
      Gives (exec (.musterGraceExpiry g) s) (fun t => MusterEnded s t i Status.unreachable.code ∧ t.f F.MG_STAT_BROKEN i = 1)) ∧
    (s.mgOpen i = false → Gives (exec (.musterGraceExpiry g) s) (fun t => t = s)) ∧
    (∀ n : MusterNotice, (∀ j < 64, j ≠ i → s.f F.MG_CTL_EN j = 0) → SlotQuiet s i →
      (lead → s.mgOpen i = false → n.mask ≠ 0 → x.decision.map (·.1) = some n.seq → n.dst < 2 ^ 18 →
        Gives (exec (.musterNotice n) s) (fun t =>
          t.f F.MG_STAT_BROKEN i = 1 ∧ t.f F.MG_FAULT_STATUS i = Status.unreachable.code ∧ t.f F.MG_FAULT_COORD i = n.dst ∧
            { t with regs := s.regs } = s)) ∧
      (lead → n.mask = 0 → s.mgOpen i = false → Gives (exec (.musterNotice n) s) (fun t => t = s)))

/-! ### Interrupts -/

/-- A core with no interrupt that it could take and that would wake it. -/
def Calm (k : Core) : Prop := k.seie = false ∧ k.meie = false ∧ k.mtie = false ∧ k.stie = false

/-- R498, R503 to R519: the interrupt controller and the cores. A change of a source, with a cache error where one is named, evaluates every
core's SEIP and MEIP anew; a core that claims gets the lowest source pending for it, and one that completes names the source it serves; any
other core or number is refused; a core takes its machine external interrupt at the vector of its source or at its trap vector; a moderation
window ends; a core goes idle; a compare value is reached. -/
def Interrupts : Prop :=
  ∀ (s : State) (c : Fin 32),
    let k := s.core c
    (∀ cache : Option (Fin 32 × Ecc),
      Gives (exec (.icSourceChange cache) s) (fun t =>
        (cache = none → RegsKept ((List.range 32).map fun d => (.IC_MODDLY, d)) s t) ∧
          (cache = none → (t.core c).seip = s.seip c ∧ (t.core c).meip = s.meip c ∧ t.events = s.events) ∧
          (∀ d, cache = some (d, .correctable) → t.f F.IC_STAT_CE d = 1 ∧ t.events = s.events ++ [⟨s.now, 8, d, .check⟩]) ∧
          (∀ d, cache = some (d, .uncorrectable) → t.f F.IC_STAT_UE d = 1 ∧ t.events = s.events ++ [⟨s.now, 9, d, .poison⟩]) ∧
          t.mem = s.mem ∧ t.out = s.out ∧ (t.core c).appSvc = k.appSvc ∧ (t.core c).svcSvc = k.svcSvc)) ∧
    (k.issues = true →
      (∀ n, k.appSvc = 0 → s.offered c false = some n →
        Gives (exec (.icClaimRead (.core c) c) s) (fun t =>
          (t.core c).appSvc = n ∧ t.resp = ⟨.ok, BitVec.ofNat 64 n⟩ ∧ (t.core c).seip = false ∧ (∀ d, d ≠ c.val → t.core d = s.core d) ∧
            t.mem = s.mem)) ∧
      (k.appSvc ≠ 0 ∨ s.offered c false = none →
        Gives (exec (.icClaimRead (.core c) c) s) (fun t => { t with resp := s.resp } = s ∧ t.resp = ⟨.ok, 0⟩)) ∧
      (∀ d : Fin 32, d ≠ c → ∀ v,
        Gives (exec (.icClaimRead (.core c) d) s) (fun t => { t with resp := s.resp } = s ∧ t.resp = ⟨.ok, 0⟩) ∧
        ∀ e ∈ [Instr.icClaimWrite (.core c) d v, .icSvcWrite (.core c) d v],
          Gives (exec e s) (fun t =>
            t.cores = s.cores ∧ t.rr .IC_ERR = Status.denied.code ∧ t.resp = ⟨.denied, 0⟩ ∧ RegsKept [(.IC_ERR, 0)] s t)) ∧
      (∀ v : BitVec 32,
        (k.appSvc ≠ 0 → v.toNat % 1024 = k.appSvc →
          Gives (exec (.icClaimWrite (.core c) c v) s) (fun t => (t.core c).appSvc = 0 ∧ t.resp = ⟨.ok, 0⟩ ∧ t.mem = s.mem)) ∧
        (k.appSvc = 0 ∨ v.toNat % 1024 ≠ k.appSvc →
          Gives (exec (.icClaimWrite (.core c) c v) s) (fun t =>
            t.cores = s.cores ∧ t.rr .IC_ERR = Status.bounds.code ∧ t.resp = ⟨.bounds, 0⟩ ∧ RegsKept [(.IC_ERR, 0)] s t)) ∧
        (k.svcSvc ≠ 0 → v.toNat % 1024 = k.svcSvc →
          Gives (exec (.icSvcWrite (.core c) c v) s) (fun t =>
            (t.core c).svcSvc = 0 ∧ (t.core c).msrc = 0 ∧ t.resp = ⟨.ok, 0⟩ ∧ t.mem = s.mem)) ∧
        (k.svcSvc = 0 ∨ v.toNat % 1024 ≠ k.svcSvc →
          Gives (exec (.icSvcWrite (.core c) c v) s) (fun t =>
            t.cores = s.cores ∧ t.rr .IC_ERR = Status.bounds.code ∧ t.resp = ⟨.bounds, 0⟩ ∧ RegsKept [(.IC_ERR, 0)] s t)))) ∧
    (∀ n, k.on = true → k.wait = none → k.meie = true → k.mode ≠ .m ∨ k.mie = true → k.svcSvc = 0 → s.offered c true = some n →
      let base := s.pair .IC_VBASE_LO .IC_VBASE_HI c
      Gives (exec (.machineExternalInterrupt c) s) (fun t =>
        let x := t.core c
        x.svcSvc = n ∧ x.msrc = n ∧ x.mepc = k.pc ∧ x.mcause = BitVec.ofNat 64 (2 ^ 63 + 11) ∧ x.mode = .m ∧ x.mie = false ∧
          x.mpie = k.mie ∧ x.mpp = k.mode.pp ∧ x.wfi = false ∧ x.meip = false ∧
          (base = 0 ∨ base ≠ 0 ∧ 0x8000000000 < base + 8 * n + 8 →
            x.pc = BitVec.ofNat 64 (k.mtvec.toNat / 4 * 4 + if k.mtvec.toNat % 4 = 1 then 44 else 0) ∧
              t.f F.IC_STAT_VFAIL c = (if base = 0 then s.f F.IC_STAT_VFAIL c else 1)) ∧
          (base ≠ 0 → base + 8 * n + 8 ≤ 0x8000000000 → CleanAt s (base + 8 * n) 8 → leNat (s.bytes (base + 8 * n) 8) % 4 = 0 →
            x.pc = BitVec.ofNat 64 (leNat (s.bytes (base + 8 * n) 8)) ∧ t.f F.IC_STAT_VFAIL c = s.f F.IC_STAT_VFAIL c) ∧
          (∀ d, d ≠ c.val → t.core d = s.core d) ∧ t.mem.cells = s.mem.cells)) ∧
    (k.on = false ∨ s.offered c true = none ∨ k.meie = false →
      Gives (exec (.machineExternalInterrupt c) s) (fun t => t = s)) ∧
    (Calm k → k.on = true →
      Gives (exec (.moderationEnd c) s) (fun t =>
        (t.core c).window = false ∧ (t.core c).held = false ∧ (∀ d, d ≠ c.val → t.core d = s.core d) ∧ t.regs = s.regs) ∧
      (k.wait = none → k.wfi = false →
        Gives (exec (.coreIdle c) s) (fun t =>
          (t.core c).wfi = true ∧ (t.core c).pc = k.pc + 4 ∧ (t.core c).window = false ∧ (∀ d, d ≠ c.val → t.core d = s.core d) ∧
            t.regs = s.regs)) ∧
      Gives (exec (.timerCompare c) s) (fun t =>
        t = s.setCore c { k with
          mtip := decide (s.pair .IC_MTIMECMP_LO .IC_MTIMECMP_HI c ≤ s.now), stip := decide (k.stimecmp.toNat ≤ s.now)
          vstip := decide (k.vstimecmp.toNat ≤ s.now) })) ∧
    (k.on = false → Gives (exec (.coreIdle c) s) (fun t => t = s)) ∧
    (k.on = true → k.wait = none → k.mode = .u → k.mtie = true → k.meip = false → s.pair .IC_MTIMECMP_LO .IC_MTIMECMP_HI c ≤ s.now →
      Gives (exec (.timerCompare c) s) (fun t =>
        (t.core c).mcause = BitVec.ofNat 64 (2 ^ 63 + 7) ∧ (t.core c).mepc = k.pc ∧ (t.core c).mode = .m ∧ (t.core c).mpp = 0))

/-! ### The Ethernet block -/

/-- Of the whole package only registers, what is sent, the Ethernet block's own state, memory and PRF's counts differ. -/
def EthOnly (s t : State) : Prop := { t with regs := s.regs, eth := s.eth, out := s.out, prf := s.prf, mem := s.mem } = s

/-- Port `k` may be up (R521): the rails on, REFCLK present, its network enabled and ADMIN 1. -/
def EthMay (s : State) (k : Nat) : Prop :=
  s.boot.rails = true ∧ s.tmb.refclk = true ∧ s.f F.ETH_NCTL_EN (k / 4) = 1 ∧ s.f F.ETH_PCTL_ADMIN k = 1

/-- R520, R521, R527, R528, R540: the ports. A port comes up with the PHY that the ends agree on, or stays DOWN with MISMATCH; it goes DOWN with
UNREACHABLE; LACP makes it a MEMBER and its loss takes that away; the first member of a network, and each interval, sends an announcement; RETRAIN
begins negotiation anew, and waits while the port may not be up. -/
def EthLinks : Prop :=
  ∀ (s : State) (k : Fin 8),
    let n := k.val / 4
    let up := s.f F.ETH_PSTAT_STATE k = 2
    let member := s.f F.ETH_PSTAT_LACP k = 2
    let others := ∃ j < 4, s.f F.ETH_PSTAT_LACP (4 * n + j) = 2
    let told := s.f F.ETH_ANN_EN = 1 ∧ s.f F.ETH_NCTL_EN n = 1
    let ports := [(Reg.ETH_PSTAT, k.val), (Reg.ETH_EVENT, k.val)]
    (∀ phy, ¬EthMay s k ∨ up → Gives (exec (.ethLinkUp k phy) s) (fun t => t = s)) ∧
    (∀ phy : Fin 5, EthMay s k → ¬up →
      Gives (exec (.ethLinkUp k phy) s) (fun t =>
        t.f F.ETH_PSTAT_PHY k = phy.val ∧
          (if phy.val = 0 then t.f F.ETH_PSTAT_STATE k = 0 ∧ t.f F.ETH_PSTAT_STATUS k = Status.mismatch.code ∧ t.f F.ETH_PSTAT_LACP k = 0
          else t.f F.ETH_PSTAT_STATE k = 2 ∧ t.f F.ETH_PSTAT_STATUS k = Status.ok.code ∧ t.f F.ETH_PSTAT_LACP k = 1 ∧
            t.rr .ETH_EVENT k = Nat.lor (s.rr .ETH_EVENT k) 1) ∧
          RegsKept ports s t ∧ { t with regs := s.regs, eth := s.eth } = s)) ∧
    (∀ lost, Gives (exec (.ethLinkDown k lost) s) (fun t =>
      t.f F.ETH_PSTAT_STATE k = 0 ∧ t.f F.ETH_PSTAT_PHY k = 0 ∧ t.f F.ETH_PSTAT_LACP k = 0 ∧
        t.f F.ETH_PSTAT_STATUS k = Status.unreachable.code ∧
        t.rr .ETH_EVENT k = Nat.lor (Nat.lor (s.rr .ETH_EVENT k) (if member then 4 else 0)) (if up then 2 else 0) ∧
        t.rr .ETH_RAWLOST n = min (s.rr .ETH_RAWLOST n + lost) 0xFFFFFFFF ∧ RegsKept ((.ETH_RAWLOST, n) :: ports) s t ∧
        { t with regs := s.regs, eth := s.eth } = s)) ∧
    (¬up ∨ member → Gives (exec (.ethLacpMember k) s) (fun t => t = s)) ∧
    (up → ¬member →
      Gives (exec (.ethLacpMember k) s) (fun t =>
        t.f F.ETH_PSTAT_LACP k = 2 ∧ t.f F.ETH_PSTAT_STATE k = 2 ∧ t.rr .ETH_EVENT k = Nat.lor (s.rr .ETH_EVENT k) 4 ∧ RegsKept ports s t ∧
          (told ∧ ¬others → t.out.length = s.out.length + 1) ∧ (¬told ∨ others → t.out = s.out) ∧
          { t with regs := s.regs, eth := s.eth, out := s.out } = s)) ∧
    Gives (exec (.ethLacpTimeout k) s) (fun t =>
      t.f F.ETH_PSTAT_LACP k = (if member then 1 else s.f F.ETH_PSTAT_LACP k) ∧ t.f F.ETH_PSTAT_STATE k = s.f F.ETH_PSTAT_STATE k ∧
        t.rr .ETH_EVENT k = (if member then Nat.lor (s.rr .ETH_EVENT k) 4 else s.rr .ETH_EVENT k) ∧ RegsKept ports s t ∧
        { t with regs := s.regs } = s) ∧
    (4 ≤ s.f F.IDT_BOOT_STEP →
      Gives (exec (.ethRetrain (.steward (some .installer)) k) s) (fun t =>
        t.f F.ETH_PCTL_ADMIN k = s.f F.ETH_PCTL_ADMIN k ∧
          (EthMay s k → t.f F.ETH_PSTAT_STATE k = 1 ∧ t.f F.ETH_PCTL_RETRAIN k = 0 ∧ t.f F.ETH_PSTAT_LACP k = 0) ∧
          (¬EthMay s k → t.f F.ETH_PSTAT_STATE k = s.f F.ETH_PSTAT_STATE k ∧ t.f F.ETH_PCTL_RETRAIN k = 1) ∧ t.resp = ⟨.ok, 0⟩ ∧
          RegsKept ((.ETH_PCTL, k.val) :: ports ++ journalRegs) s t)) ∧
    (∀ net : Fin 2,
      let some' := ∃ j < 4, s.f F.ETH_PSTAT_LACP (4 * net.val + j) = 2
      let sends := s.f F.ETH_ANN_EN = 1 ∧ s.f F.ETH_NCTL_EN net = 1 ∧ some'
      (¬sends → Gives (exec (.ethAnnounce net) s) (fun t => t = s)) ∧
      (sends → Gives (exec (.ethAnnounce net) s) (fun t =>
        ∃ m, t.out = .udp net m :: s.out ∧ m.length = 44 ∧ m.take 4 = [0x4A, 0x41, 0x01, 0x01] ∧
          beAt m 8 8 = s.pair .IDT_SERIAL_LO .IDT_SERIAL_HI ∧ beAt m 21 1 = net.val ∧ beAt m 22 2 = s.f F.ETH_ANN_INTERVAL ∧
          { t with eth := s.eth, out := s.out } = s)))

/-- The receive entry of queue `q` that the next message takes, and where its data go. -/
def recvEntry (s : State) (q : Nat) : Nat := (s.qp q).ctx.rring + (s.qp q).rdone % 2 ^ (s.qp q).ctx.rorder * 32
def recvAddress (s : State) (q : Nat) : Nat := leNat (s.bytes (recvEntry s q) 8)

/-- Queue `q` has a receive entry free that holds `len` bytes, everything it concerns lies in clean memory, and apart. -/
def RecvReady (s : State) (q len : Nat) : Prop :=
  let a := recvEntry s q
  let d := recvAddress s q
  let w := (s.qp q).ctx.rdonea
  (s.qp q).enabled = true ∧ (s.qp q).rprod ≠ (s.qp q).rdone ∧ len ≤ leNat (s.bytes (a + 8) 4) ∧ a + 32 ≤ memEnd ∧ d + len ≤ memEnd ∧
    w + 4 ≤ memEnd ∧ CleanAt s a 32 ∧ CleanAt s d len ∧ CleanAt s w 4 ∧ s.placeFenced (placeOf d) = false ∧
    (a + 32 ≤ d ∨ d + len ≤ a) ∧ (a + 32 ≤ w ∨ w + 4 ≤ a) ∧ (d + len ≤ w ∨ w + 4 ≤ d)

/-- R536: message `data` stands in the receive entry that was free: BYTES, no IMM, STATUS OK, FLAGS, the time stamp; and the receive done word is
one more. No other byte of memory has changed. -/
def Received (s t : State) (q : Nat) (data : List Byte) : Prop :=
  let a := recvEntry s q
  let d := recvAddress s q
  let w := (s.qp q).ctx.rdonea
  let done := ((s.qp q).rdone + 1) % 2 ^ 32
  t.bytes d data.length = data ∧
    t.bytes (a + 12) 20 = leBytes 4 data.length ++ leBytes 4 0 ++ [0#8, if s.locked then 0#8 else 4#8, 0#8, 0#8] ++
      leBytes 8 s.tmb.ptime.toNat ∧
    t.bytes w 4 = leBytes 4 done ∧ (t.qp q).rdone = done ∧
    ∀ b, (b < d ∨ d + data.length ≤ b) → (b < a + 12 ∨ a + 32 ≤ b) → (b < w ∨ w + 4 ≤ b) → t.byte b = s.byte b

/-- R522 to R525, R534, R536, R541: frames received. A port that is not UP takes none; a frame of a wrong length, a bad FCS or the wrong tag is
counted and dropped; PFC and PAUSE pause priorities; a full buffer sends XOFF; a question to an own address is answered and goes no further; a
host enters the table; other frames go to the network's raw queue, or are counted when it is not enabled; an RDMA write in sequence is placed in
the window and acknowledged, with a wrong key refused. -/
def EthFrames : Prop :=
  ∀ (s : State) (k : Fin 8) (fr : EthRx),
    let n := k.val / 4
    let up := s.f F.ETH_PSTAT_STATE k = 2
    let mask := s.f F.ETH_NCTL_PFCMASK n
    let tagged := if s.f F.ETH_NCTL_VID n = 0 then fr.vid = none else fr.vid = some (s.f F.ETH_NCTL_VID n)
    let good := up ∧ 64 ≤ fr.len ∧ fr.len ≤ 9216 ∧ fr.fcsOk = true
    let quiet := fr.buffered < 1048576 ∧ (s.ethPort k).xoff = 0
    let pausedUntil (t : State) (p : Nat) := SMap.get (fun _ => 0) (t.ethPort k).paused p
    let rx (l : List (Reg × Nat)) (t : State) :=
      t.rr .ETH_RXFRM k = min (s.rr .ETH_RXFRM k + 1) 0xFFFFFFFF ∧ RegsKeptPrf ((.ETH_RXFRM, k.val) :: l) s t ∧ EthOnly s t
    let same (t : State) := t.mem = s.mem ∧ t.out = s.out
    (¬up → Gives (exec (.ethFrameRx k fr) s) (fun t => t = s)) ∧
    (up → fr.len < 64 ∨ 9216 < fr.len →
      Gives (exec (.ethFrameRx k fr) s) (fun t =>
        rx [(.ETH_RXDROP, k.val)] t ∧ t.rr .ETH_RXDROP k = min (s.rr .ETH_RXDROP k + 1) 0xFFFFFFFF ∧ same t ∧ t.eth = s.eth)) ∧
    (up → 64 ≤ fr.len → fr.len ≤ 9216 → fr.fcsOk = false →
      Gives (exec (.ethFrameRx k fr) s) (fun t =>
        rx [(.ETH_FCS, k.val)] t ∧ t.rr .ETH_FCS k = min (s.rr .ETH_FCS k + 1) 0xFFFFFFFF ∧ same t ∧ t.eth = s.eth)) ∧
    (∀ frame, fr.body = .other frame → good → ¬tagged ∨ fr.sumOk = false →
      Gives (exec (.ethFrameRx k fr) s) (fun t =>
        rx [(.ETH_RXDROP, k.val)] t ∧ t.rr .ETH_RXDROP k = min (s.rr .ETH_RXDROP k + 1) 0xFFFFFFFF ∧ same t ∧ t.eth = s.eth)) ∧
    (∀ classes quanta, fr.body = .pfc classes quanta → good → quiet →
      Gives (exec (.ethFrameRx k fr) s) (fun t =>
        rx [(.ETH_PFCRX, k.val)] t ∧ t.rr .ETH_PFCRX k = min (s.rr .ETH_PFCRX k + 1) 0xFFFFFFFF ∧ same t ∧
          ∀ p < 8, pausedUntil t p =
            if mask.testBit p = true ∧ classes.getLsbD p = true then (if quanta = 0 then 0 else s.tmb.ptime.toNat + (quanta * 512 + 99) / 100)
            else pausedUntil s p)) ∧
    (∀ quanta, fr.body = .pause quanta → good → quiet →
      Gives (exec (.ethFrameRx k fr) s) (fun t =>
        rx [(.ETH_PFCRX, k.val)] t ∧ same t ∧
          ∀ p < 8, pausedUntil t p =
            if mask = 0 then (if quanta = 0 then 0 else s.tmb.ptime.toNat + (quanta * 512 + 99) / 100) else pausedUntil s p)) ∧
    (fr.body = .lacp → good → mask.testBit fr.prio = true → 1572864 ≤ fr.buffered → (s.ethPort k).xoff.getLsbD fr.prio = false →
      Gives (exec (.ethFrameRx k fr) s) (fun t =>
        rx [(.ETH_PFCTX, k.val)] t ∧ t.out = .pfc k (1#8 <<< fr.prio.val) true :: s.out ∧
          (t.ethPort k).xoff = (s.ethPort k).xoff ||| (1#8 <<< fr.prio.val) ∧ t.mem = s.mem)) ∧
    (fr.body = .lacp → good → mask.testBit fr.prio = true → fr.buffered < 1048576 → (s.ethPort k).xoff.getLsbD fr.prio = true →
      Gives (exec (.ethFrameRx k fr) s) (fun t =>
        rx [(.ETH_PFCTX, k.val)] t ∧ t.out = .pfc k (1#8 <<< fr.prio.val) false :: s.out ∧
          (t.ethPort k).xoff = (s.ethPort k).xoff &&& ~~~(1#8 <<< fr.prio.val) ∧ t.mem = s.mem)) ∧
    (∀ v6 addr frame, fr.body = .ask v6 addr frame → good → quiet → tagged → fr.sumOk = true →
      addr = (if v6 then s.ip6 n else s.ip4 n) → (∃ b ∈ addr, b ≠ 0) →
      Gives (exec (.ethFrameRx k fr) s) (fun t =>
        rx [(.ETH_TXFRM, k.val)] t ∧ t.rr .ETH_TXFRM k = min (s.rr .ETH_TXFRM k + 1) 0xFFFFFFFF ∧ t.out = .ethAnswer k frame :: s.out ∧
          t.mem = s.mem ∧ t.eth = s.eth)) ∧
    (∀ frame, fr.body = .other frame → good → quiet → tagged → fr.sumOk = true →
      ((s.qp n).enabled = false →
        Gives (exec (.ethFrameRx k fr) s) (fun t =>
          rx [(.ETH_RAWLOST, n)] t ∧ t.rr .ETH_RAWLOST n = min (s.rr .ETH_RAWLOST n + 1) 0xFFFFFFFF ∧ same t ∧ t.eth = s.eth)) ∧
      (RecvReady s n frame.length →
        Gives (exec (.ethFrameRx k fr) s) (fun t =>
          rx [] t ∧ Received s t n frame ∧ t.out = s.out ∧ ∀ q, q ≠ n → t.qp q = s.qp q))) ∧
    (∀ msg frame, fr.body = .announce msg frame → good → quiet → tagged → fr.sumOk = true → (s.qp n).enabled = false →
      let table := s.pair .ETH_HTAB_LO .ETH_HTAB_HI n
      let serial := beAt msg 8 8
      44 ≤ msg.length → beAt msg 0 2 = 0x4A41 → beAt msg 2 1 = 1 → beAt msg 3 1 = 2 → serial ≠ 0 → table ≠ 0 → table + 8192 ≤ memEnd →
      CleanAt s table 8192 → (∀ i < 256, leNat (s.bytes (table + 32 * i) 8) ≠ serial) → ∀ i < 256, leNat (s.bytes (table + 32 * i) 8) = 0 →
      (∀ j < i, leNat (s.bytes (table + 32 * j) 8) ≠ 0) →
      Gives (exec (.ethFrameRx k fr) s) (fun t =>
        t.bytes (table + 32 * i) 32 = leBytes 8 serial ++ (msg.drop 28).take 16 ++ leBytes 8 s.tmb.ptime.toNat ∧
          t.rr .ETH_HOSTS n = s.rr .ETH_HOSTS n + 1 ∧ t.rr .ETH_EVENT (4 * n) = Nat.lor (s.rr .ETH_EVENT (4 * n)) 8 ∧
          (∀ a, a < table + 32 * i ∨ table + 32 * i + 32 ≤ a → t.byte a = s.byte a) ∧
          rx [(.ETH_HOSTS, n), (.ETH_EVENT, 4 * n), (.ETH_RAWLOST, n)] t)) ∧
    (∀ p raddr rkey data, fr.body = .rdma p → p.op = .write raddr rkey none data → good → quiet → tagged → fr.sumOk = true → 2 ≤ p.qp → p.qp < 4096 →
      let x := s.qp p.qp
      let last := (p.psn + psns x.ctx.mtu data.length - 1) % 2 ^ 24
      let a := x.ctx.wbase + raddr
      x.enabled = true → x.err = false → p.psn % 2 ^ 24 = x.epsn → ∀ port, s.txPort (x.path p.qp) (Config.flowHashQp p.qp) = some port →
      (x.ctx.rwrite = true → rkey = x.ctx.rkey → raddr + data.length ≤ x.ctx.wlen → a + data.length ≤ memEnd → CleanAt s a data.length →
        Gives (exec (.ethFrameRx k fr) s) (fun t =>
          t.bytes a data.length = data ∧ (∀ b, b < a ∨ a + data.length ≤ b → t.byte b = s.byte b) ∧
            t.qp p.qp = { x with epsn := (last + 1) % 2 ^ 24 } ∧
            t.out = .rdma port x.ctx.dqpn x.addr ⟨x.ctx.dqpn, last, .ack⟩ :: s.out)) ∧
      (x.ctx.rwrite = false ∨ rkey ≠ x.ctx.rkey →
        Gives (exec (.ethFrameRx k fr) s) (fun t =>
          t.mem = s.mem ∧ t.out = .rdma port x.ctx.dqpn x.addr ⟨x.ctx.dqpn, last, .nak .denied⟩ :: s.out))) ∧
    (∀ (net : Fin 2) (e : Fin 256),
      let table := s.pair .ETH_HTAB_LO .ETH_HTAB_HI net
      let a := table + 32 * e.val
      (table = 0 ∨ leNat (s.bytes a 8) = 0 → Gives (exec (.ethHostExpire net e) s) (fun t => t = s)) ∧
      (table ≠ 0 → leNat (s.bytes a 8) ≠ 0 → a + 32 ≤ memEnd → CleanAt s a 32 → 0 < s.rr .ETH_HOSTS net →
        Gives (exec (.ethHostExpire net e) s) (fun t =>
          leNat (t.bytes a 8) = 0 ∧ (∀ b, b < a ∨ a + 32 ≤ b → t.byte b = s.byte b) ∧ t.rr .ETH_HOSTS net = s.rr .ETH_HOSTS net - 1 ∧
            t.rr .ETH_EVENT (4 * net.val) = Nat.lor (s.rr .ETH_EVENT (4 * net.val)) 16 ∧
            RegsKeptPrf [(.ETH_HOSTS, net.val), (.ETH_EVENT, 4 * net.val)] s t ∧ EthOnly s t)))

/-- Work entry `idx` of queue `q`, its only one outstanding, has ended with status `st` (R533, R535): STATUS in the entry, the done word one
more, and no other byte of memory changed; a status other than OK puts the queue in error and sets QP_ERR. -/
def EntryEnded (s t : State) (q idx : Nat) (st : Status) : Prop :=
  let x := s.qp q
  let a := x.ctx.ring + idx % 2 ^ x.ctx.order * 32 + 1
  let w := x.ctx.donea
  let done := (x.done + 1) % 2 ^ 32
  t.byte a = BitVec.ofNat 8 st.code ∧ t.bytes w 4 = leBytes 4 done ∧ (t.qp q).done = done ∧ (t.qp q).outst = [] ∧
    (∀ b, b ≠ a → (b < w ∨ w + 4 ≤ b) → t.byte b = s.byte b) ∧
    (t.qp q).err = (x.err || decide (st ≠ .ok)) ∧
    t.rr .ETH_EVENT (4 * x.path q) = (if st = .ok then s.rr .ETH_EVENT (4 * x.path q) else Nat.lor (s.rr .ETH_EVENT (4 * x.path q)) 64)

/-- The entry and the done word of queue `q` lie in clean memory, and apart. -/
def EntryReady (s : State) (q idx : Nat) : Prop :=
  let a := (s.qp q).ctx.ring + idx % 2 ^ (s.qp q).ctx.order * 32
  let w := (s.qp q).ctx.donea
  a + 32 ≤ memEnd ∧ w + 4 ≤ memEnd ∧ CleanAt s a 32 ∧ CleanAt s w 4 ∧ (a + 32 ≤ w ∨ w + 4 ≤ a)

/-- R529 to R535: queues. A producer word gives a queue its index; a queue that is not enabled
or has nothing posted does nothing. -/
def EthQueues : Prop :=
  ∀ (s : State) (q : Fin 4096),
    let x := s.qp q
    (∀ recv v, x.enabled = false → Gives (exec (.ethWorkProducer q recv v) s) (fun t => t = s)) ∧
    (∀ (recv : Bool) (v : BitVec 32), x.enabled = true →
      let a := if recv then x.ctx.rproda else x.ctx.proda
      let ahead := (v.toNat + 2 ^ 32 - (if recv then x.rdone else x.taken)) % 2 ^ 32
      let fits := ahead ≤ 2 ^ (if recv then x.ctx.rorder else x.ctx.order)
      a + 4 ≤ memEnd → CleanAt s a 4 →
      Gives (exec (.ethWorkProducer q recv (some v)) s) (fun t =>
        t.bytes a 4 = leBytes 4 v.toNat ∧ (∀ b, b < a ∨ a + 4 ≤ b → t.byte b = s.byte b) ∧
          t.qp q = (if ¬fits then x else if recv then { x with rprod := v.toNat } else { x with prod := v.toNat }) ∧
          (∀ r, r ≠ q.val → t.qp r = s.qp r) ∧ RegsKeptPrf [] s t ∧ EthOnly s t)) ∧
    (x.enabled = false ∨ x.prod = x.taken → Gives (exec (.ethWorkEntry q) s) (fun t => t = s))

/-- R532 to R535, R537: a work entry taken in order is refused, completed or sent. -/
def EthWork : Prop :=
  ∀ (s : State) (q : Fin 4096),
    let x := s.qp q
    let entry := x.ctx.ring + x.taken % 2 ^ x.ctx.order * 32
    let e := s.bytes entry 32
    (x.enabled = true → x.prod ≠ x.taken → x.outst = [] → EntryReady s q x.taken →
      let took (t : State) := (t.qp q).taken = (x.taken + 1) % 2 ^ 32
      (x.err = true → Gives (exec (.ethWorkEntry q) s) (fun t => EntryEnded s t q x.taken .fenced ∧ took t ∧ t.out = s.out)) ∧
      (x.err = false → (∀ j < 4, s.f F.ETH_PSTAT_LACP (4 * x.path q + j) ≠ 2) → Gives (exec (.ethWorkEntry q) s) (fun t => t = s)) ∧
      (2 ≤ q.val → x.err = false → ∀ port, s.txPort (x.path q) (Config.flowHashQp q) = some port → s.paused port = false →
        let op := leNat (e.take 1)
        let len := leNat ((e.drop 4).take 4)
        let laddr := leNat ((e.drop 8).take 8)
        (4 < op ∨ len ≠ 0 ∧ s.placeFenced (placeOf laddr) = false ∧ (2 ^ 31 < len ∨ 2 ^ 48 < laddr) →
          Gives (exec (.ethWorkEntry q) s) (fun t => EntryEnded s t q x.taken .bounds ∧ took t ∧ t.out = s.out)) ∧
        (op ≤ 4 → len = 0 → Gives (exec (.ethWorkEntry q) s) (fun t => EntryEnded s t q x.taken .ok ∧ took t ∧ t.out = s.out)) ∧
        (op ≤ 4 → len ≠ 0 → s.placeFenced (placeOf laddr) = true →
          Gives (exec (.ethWorkEntry q) s) (fun t => EntryEnded s t q x.taken .fenced ∧ took t ∧ t.out = s.out)) ∧
        (op = 0 → len ≠ 0 → len ≤ 2 ^ 31 → laddr + len ≤ memEnd → CleanAt s laddr len → s.placeFenced (placeOf laddr) = false →
          Gives (exec (.ethWorkEntry q) s) (fun t =>
            t.out = .rdma port x.ctx.dqpn x.addr ⟨x.ctx.dqpn, x.spsn % 2 ^ 24, .send none (s.bytes laddr len)⟩ :: s.out ∧ took t ∧
              (t.qp q).spsn = (x.spsn + psns x.ctx.mtu len) % 2 ^ 24 ∧
              (t.qp q).outst = [⟨x.taken, x.spsn, psns x.ctx.mtu len, some (.send none (s.bytes laddr len)), laddr, len, none⟩] ∧
              (∀ b, t.byte b = s.byte b)))) ∧
      (q.val < 2 → x.err = false → ∀ port, s.txPort q (Config.flowHash e) = some port → s.paused port = false →
        let op := leNat (e.take 1)
        let len := leNat ((e.drop 4).take 4)
        let laddr := leNat ((e.drop 8).take 8)
        (op ≠ 0x10 → len ≠ 0 → Gives (exec (.ethWorkEntry q) s) (fun t => EntryEnded s t q x.taken .bounds ∧ took t ∧ t.out = s.out)) ∧
        (op = 0x10 → s.placeFenced (placeOf laddr) = false → len < 60 ∨ 9212 < len →
          Gives (exec (.ethWorkEntry q) s) (fun t => EntryEnded s t q x.taken .bounds ∧ took t ∧ t.out = s.out)) ∧
        (op = 0x10 → s.placeFenced (placeOf laddr) = false → 60 ≤ len → len ≤ 9212 → laddr + len ≤ memEnd → CleanAt s laddr len →
          s.f F.ETH_NCTL_VID q = 0 →
          Gives (exec (.ethWorkEntry q) s) (fun t =>
            (∃ fcs, fcs.length = 4 ∧ t.out = .eth port (s.bytes laddr len ++ fcs) :: s.out) ∧ took t ∧
              t.byte (entry + 1) = BitVec.ofNat 8 Status.ok.code ∧ t.bytes (entry + 16) 8 = leBytes 8 s.tmb.ptime.toNat ∧
              t.bytes x.ctx.donea 4 = leBytes 4 ((x.done + 1) % 2 ^ 32) ∧
              t.rr .ETH_TXFRM port = min (s.rr .ETH_TXFRM port + 1) 0xFFFFFFFF))))

/-- R534, R538, R539: without an acknowledgement an entry is sent again, then the queue pair migrates, and where it cannot the entry ends with
UNREACHABLE; a network without a member migrates every queue pair that may. -/
def EthFailover : Prop :=
  ∀ (s : State) (q : Fin 4096),
    let x := s.qp q
    (x.outst = [] → Gives (exec (.ethAckTimeout q) s) (fun t => t = s)) ∧
    (∀ w m, x.outst = [w] → w.fin = none → w.op = some m →
      let other := 1 - x.path q
      let alt := x.ctx.alt = true ∧ x.onAlt = false ∧ ∃ j < 4, s.f F.ETH_PSTAT_LACP (4 * other + j) = 2
      (x.retries < x.ctx.retry → ∀ port, s.txPort (x.path q) (Config.flowHashQp q) = some port →
        Gives (exec (.ethAckTimeout q) s) (fun t =>
          t.qp q = { x with retries := x.retries + 1 } ∧ t.out = .rdma port x.ctx.dqpn x.addr ⟨x.ctx.dqpn, w.psn % 2 ^ 24, m⟩ :: s.out ∧
            t.mem = s.mem)) ∧
      (x.ctx.retry ≤ x.retries → alt →
        Gives (exec (.ethAckTimeout q) s) (fun t =>
          t.qp q = { x with onAlt := true, retries := 0 } ∧ t.out.length = s.out.length + 1 ∧
            t.rr .ETH_EVENT (4 * x.path q) = Nat.lor (s.rr .ETH_EVENT (4 * x.path q)) 32 ∧
            t.rr .ETH_MIGR (x.path q) = min (s.rr .ETH_MIGR (x.path q) + 1) 0xFFFFFFFF ∧ t.mem = s.mem)) ∧
      (x.ctx.retry ≤ x.retries → ¬alt → EntryReady s q w.idx →
        Gives (exec (.ethAckTimeout q) s) (fun t => EntryEnded s t q w.idx .unreachable ∧ t.out = s.out))) ∧
    (∀ net : Fin 2,
      let lost := ∀ j < 4, s.f F.ETH_PSTAT_LACP (4 * net.val + j) ≠ 2
      (¬lost → Gives (exec (.ethNetFailover net) s) (fun t => t = s)) ∧
      (lost → (s.eth.qps.map (·.1)).Nodup →
        Gives (exec (.ethNetFailover net) s) (fun t =>
          (x.path q = net.val ∧ 2 ≤ q.val ∧ x.enabled = true ∧ x.ctx.alt = true ∧ x.onAlt = false ∧
              (∃ j < 4, s.f F.ETH_PSTAT_LACP (4 * (1 - net.val) + j) = 2) →
            t.qp q = { x with onAlt := true, retries := 0 }) ∧
            (x.path q ≠ net.val ∨ q.val < 2 ∨ x.enabled = false → t.qp q = x))))

/-- R530, R531, R538: ENABLE reads and checks a context, DISABLE ends what is outstanding with FENCED and drops the connection, MIGRATE goes back to
the home network. -/
def EthQueueCommands : Prop :=
  ∀ (s : State) (q : Fin 4096),
    let x := s.qp q
    (4 ≤ s.f F.IDT_BOOT_STEP → ∀ ro,
      let rq := Requester.steward ro
      let table := s.pair .ETH_QPT_LO .ETH_QPT_HI + 128 * q.val
      let c := ctxOf (s.bytes table 128)
      let fenced := s.placeFenced (placeOf c.ring) = true ∨ s.placeFenced (placeOf c.rring) = true ∨
        2 ≤ q.val ∧ s.placeFenced (placeOf c.wbase) = true
      let told (st : Status) (t : State) := t.f F.ETH_QPCMD_STATUS = st.code ∧ t.resp = ⟨.ok, 0⟩ ∧ t.mem = s.mem ∧ ∀ r, r ≠ q.val → t.qp r = s.qp r
      (table + 128 ≤ memEnd → CleanAt s table 128 →
        (x.enabled = true → ¬fenced → ctxLegal q (s.bytes table 128) = true →
          Gives (exec (.ethQpEnable rq q) s) (fun t => told .busy t ∧ t.qp q = x)) ∧
        (fenced → Gives (exec (.ethQpEnable rq q) s) (fun t => told .fenced t ∧ t.qp q = x)) ∧
        (¬fenced → ctxLegal q (s.bytes table 128) = false →
          Gives (exec (.ethQpEnable rq q) s) (fun t => told .bounds t ∧ t.qp q = x)) ∧
        (x.enabled = false → ¬fenced → ctxLegal q (s.bytes table 128) = true →
          Gives (exec (.ethQpEnable rq q) s) (fun t =>
            told .ok t ∧ (t.qp q).enabled = true ∧ (t.qp q).ctx = c ∧ (t.qp q).taken = 0 ∧ (t.qp q).done = 0 ∧ (t.qp q).err = false ∧
              (t.qp q).outst = [] ∧ (t.qp q).spsn = leNat (s.bytes (table + 92) 4) % 2 ^ 24 ∧
              (t.qp q).epsn = leNat (s.bytes (table + 96) 4) % 2 ^ 24))) ∧
      (x.outst = [] → x.prod = x.taken → Gives (exec (.ethQpDisable rq q) s) (fun t => told .ok t ∧ (t.qp q).enabled = false)) ∧
      (∀ w, x.enabled = true → x.outst = [w] → x.prod = x.taken → EntryReady s q w.idx →
        let a := x.ctx.ring + w.idx % 2 ^ x.ctx.order * 32 + 1
        Gives (exec (.ethQpDisable rq q) s) (fun t =>
          (t.qp q).enabled = false ∧ t.byte a = BitVec.ofNat 8 Status.fenced.code ∧
            t.bytes x.ctx.donea 4 = leBytes 4 ((x.done + 1) % 2 ^ 32))) ∧
      (q.val < 2 → Gives (exec (.ethQpMigrate rq q) s) (fun t => told .bounds t ∧ t.qp q = x)) ∧
      (2 ≤ q.val →
        let home := ∃ j < 4, s.f F.ETH_PSTAT_LACP (4 * b2n x.ctx.net + j) = 2
        (¬home → Gives (exec (.ethQpMigrate rq q) s) (fun t => told .unreachable t ∧ t.qp q = x)) ∧
        (home → x.enabled = true → x.onAlt = true →
          Gives (exec (.ethQpMigrate rq q) s) (fun t => told .ok t ∧ t.qp q = { x with onAlt := false, retries := 0 })) ∧
        (home → x.enabled = false ∨ x.onAlt = false →
          Gives (exec (.ethQpMigrate rq q) s) (fun t => told .ok t ∧ t.qp q = x ∧ t.out = s.out))))

/-! ### Cooling, temperature, supply and pins -/

/-- R365: an ordered shutdown has been carried out: SHUTDOWN latched and both governors in it, FAULT_N pulsed, the lifetime energy saved, an entry
in the journal, every rail off and with it the tiles, the cores, the memory and the sessions. -/
def ShutDown (s t : State) : Prop :=
  t.f F.OST_STAT_SHUTDOWN = 1 ∧ t.mode false = 4 ∧ t.mode true = 4 ∧ t.f F.FCL_FAULTN_PULSE = 1 ∧ t.f F.FCL_FAULTN_PIN = 1 ∧
    t.rr .FCL_PULSES = min (s.rr .FCL_PULSES + 1) 0xFFFFFFFF ∧
    (∀ mb, (t.meter mb).savedElife.toNat = s.pair .MTR_ELIFE_LO .MTR_ELIFE_HI (chIx mb) ∧ (t.meter mb).savedAt = s.tmb.ptime) ∧
    (s.firmwareUp = true → Logged s t 1) ∧ t.boot.rails = false ∧ t.boot.vaux = false ∧ t.mem = {} ∧ t.tiles = [] ∧ t.cores = [] ∧
    t.sec.sessions = []

/-- A shutdown may begin (R365, R555): none is in progress, no trip stands, the steward is alive. -/
def MayShut (s : State) : Prop := s.f F.OST_STAT_SHUTDOWN = 0 ∧ s.thm.tripped = false ∧ s.boot.vaux = true

/-- R545, R553: the sensor `j` reads `code` and, by its companion, is not stuck: it fails outside −20 °C to 150 °C, and a sensor that has not
failed trips the package at its third conversion in a row at or above its limit. -/
def SensorRead (s t : State) (j : Nat) (code : Int) (limit : Nat) : Prop :=
  let bad := code < -320 ∨ 2400 < code
  let w (x : State) := (x.rr .THM_SFAIL (j / 32)).testBit (j % 32)
  (t.sensor j).code = code ∧ (bad → w t = true) ∧ (¬bad → w t = w s) ∧
    (¬bad → w s = false → (limit * 16 : Nat) ≤ code → (t.sensor j).trips = min 3 ((s.sensor j).trips + 1)) ∧
    (bad ∨ w s = true ∨ code < (limit * 16 : Nat) → (t.sensor j).trips = 0)

/-- R544 to R547, R553, R554: a conversion gives each of its sensors its reading, in the register that shows it; the package trips on the third
reading in a row at or above the limit of a valid sensor, and the rails go off. -/
def Conversions : Prop :=
  ∀ (s : State) (c0 c1 : Int), s.thm.tripped = false → s.boot.vaux = true →
    let calm (j : Nat) := s.tmb.ptime.toNat < (s.sensor j).since + 1000000000
    let failed (j : Nat) := (s.rr .THM_SFAIL (j / 32)).testBit (j % 32)
    let trips (j : Nat) (c : Int) (l : Nat) := ¬(c < -320) ∧ ¬(2400 < c) ∧ failed j = false ∧ (l * 16 : Nat) ≤ c ∧ 2 ≤ (s.sensor j).trips
    (∀ k : Fin 4,
      let j := 209 + k.val
      let l := s.f F.THM_TRIP_OE
      (¬trips j c0 l → Gives (exec (.thmConversion (.engine k c0)) s) (fun t =>
        t.f F.THM_OE_TEMP k = (BitVec.ofInt 16 c0).toNat ∧ SensorRead s t j c0 l ∧ t.thm.tripped = false ∧
          RegsKept [(.THM_OE, k.val), (.THM_SFAIL, j / 32), (.THM_SENSFAIL, 0), (.THM_EVENT, 0)] s t ∧
          { t with regs := s.regs, thm := s.thm } = s)) ∧
      (trips j c0 l → Gives (exec (.thmConversion (.engine k c0)) s) (fun t =>
        t.thm.tripped = true ∧ t.f F.THM_STAT_TRIPSRC = j ∧ t.boot.rails = false ∧ t.boot.vaux = true ∧ t.tiles = [] ∧ t.mem = {} ∧
          (s.firmwareUp = true → s.metering.acc = none → Logged s t 1) ∧
          ∀ mb, (t.meter mb).savedElife.toNat = s.pair .MTR_ELIFE_LO .MTR_ELIFE_HI (chIx mb)))) ∧
    (let l := s.f F.THM_TRIP_STEWARD
     (¬trips 208 c0 l → Gives (exec (.thmConversion (.steward c0)) s) (fun t =>
        t.f F.THM_STEW_TEMP = (BitVec.ofInt 16 c0).toNat ∧ SensorRead s t 208 c0 l ∧ t.thm.tripped = false ∧
          RegsKept [(.THM_STEW, 0), (.THM_SFAIL, 6), (.THM_SENSFAIL, 0), (.THM_EVENT, 0)] s t ∧ { t with regs := s.regs, thm := s.thm } = s)) ∧
      (trips 208 c0 l → Gives (exec (.thmConversion (.steward c0)) s) (fun t =>
        t.thm.tripped = true ∧ t.f F.THM_STAT_TRIPSRC = 208 ∧ t.boot.rails = false ∧ t.boot.vaux = false ∧ t.journal = s.journal ∧
          t.metering = s.metering))) ∧
    (∀ p : Fin 36,
      let j := 2 * p.val
      let l := s.f F.THM_TRIP_DIE
      calm j → calm (j + 1) → ¬trips j c0 l → ¬trips (j + 1) c1 l →
        Gives (exec (.thmConversion (.pair p c0 c1)) s) (fun t =>
          t.f F.THM_PAIR_S0 p = (BitVec.ofInt 16 c0).toNat ∧ t.f F.THM_PAIR_S1 p = (BitVec.ofInt 16 c1).toNat ∧ SensorRead s t j c0 l ∧
            SensorRead s t (j + 1) c1 l ∧ t.thm.tripped = false ∧
            (s.events ≠ t.events ↔ (failed j = false ∨ failed (j + 1) = false) ∧ (c0 < -320 ∨ 2400 < c0 ∨ failed j = true) ∧
              (c1 < -320 ∨ 2400 < c1 ∨ failed (j + 1) = true)) ∧
            RegsKept [(.THM_PAIR, p.val), (.THM_SFAIL, j / 32), (.THM_SENSFAIL, 0), (.THM_DISAGREE, 0), (.THM_EVENT, 0)] s t ∧
            { t with regs := s.regs, thm := s.thm, events := s.events } = s)) ∧
    (∀ (k : Fin 8) (dies : List Int), dies.length = 17 → (∀ d < 17, calm (72 + 17 * k.val + d) ∧ failed (72 + 17 * k.val + d) = false) →
      (∀ c ∈ dies, -320 ≤ c ∧ c < (s.f F.THM_TRIP_STACK * 16 : Nat) ∧ c ≤ 2400) →
      Gives (exec (.thmConversion (.stack k dies)) s) (fun t =>
        t.f F.THM_STK_FAILS k = 0 ∧ (∃ c ∈ dies, t.f F.THM_STK_TEMP k = (BitVec.ofInt 16 c).toNat ∧ (∀ d ∈ dies, d ≤ c) ∧
          dies.getD (t.f F.THM_STK_DIE k) 0 = c) ∧ (∀ d < 17, (t.sensor (72 + 17 * k.val + d)).code = dies.getD d 0) ∧
          t.thm.tripped = false ∧ RegsKept [(.THM_STK, k.val)] s t ∧ { t with regs := s.regs, thm := s.thm } = s))

/-- R548, R550 to R552, THM_STAT: the caps, from the hottest pair while every pair's sensors are valid, and from the coolant; a COOLANT message
that has aged out leaves the die temperatures alone to govern; the no-flow timer's end shuts the package down. -/
def ThermalCaps : Prop :=
  ∀ (s : State),
    let code (p : Nat) (f : Fld) : Int := (BitVec.ofNat 16 (s.f f p)).toInt
    let mx := s.f F.THM_LIM_MAX
    let lo := s.f F.THM_LIM_THROT
    let rated := s.f F.PWW_RATED_RATED
    let nom := s.f F.THM_CFG_NOMFLOW * 100
    (s.rr .THM_SFAIL 0 = 0 → s.rr .THM_SFAIL 1 = 0 → s.rr .THM_SFAIL 2 = 0 → lo < mx → 0 < nom → rated < 2 ^ 16 →
      Gives (exec .thmCapUpdate s) (fun t =>
        let th : Int := (BitVec.ofNat 16 (t.f F.THM_STAT_TH)).toInt
        let die : Int := ((rated : Int) * ((mx * 16 : Nat) - th)) / (16 * ((mx : Int) - lo))
        (∀ p < 36, code p F.THM_PAIR_S0 ≤ th ∧ code p F.THM_PAIR_S1 ≤ th) ∧
          (∃ p < 36, code p F.THM_PAIR_S0 = th ∨ code p F.THM_PAIR_S1 = th) ∧ t.f F.THM_STAT_STATUS = Status.ok.code ∧
          (t.f F.THM_CAP_CAP_DIE : Int) = max 0 (min (rated : Int) die) ∧
          (s.thm.coolant = none → t.f F.THM_CAP_CAP_COOL = rated) ∧
          (∀ c, s.thm.coolant = some c →
            let warm : Int := 50000 - (BitVec.ofNat 32 (s.rr .THM_INLET)).toInt
            (c.cflags.getLsbD 0 = true → t.f F.THM_CAP_CAP_COOL = 0) ∧
            (c.cflags.getLsbD 0 = false →
              t.f F.THM_CAP_CAP_COOL = rated * min (s.rr .THM_FLOW) nom * (max 0 (min 10000 warm)).toNat / (nom * 10000))) ∧
          t.f F.THM_STAT_TRIPSRC = s.f F.THM_STAT_TRIPSRC ∧
          RegsKept ([(.THM_STAT, 0), (.THM_CAP, 0), (.THM_EVENT, 0), (.THM_HINT, 0)] ++ (List.range 32).map fun g => (.THM_HEAT, g)) s t ∧
          { t with regs := s.regs, free := s.free } = s)) ∧
    (s.thm.coolant = none → Gives (exec .coolantStale s) (fun t => t = s)) ∧
    (s.thm.coolant ≠ none →
      Gives (exec .coolantStale s) (fun t =>
        t.thm.coolant = none ∧ t.rr .THM_INLET = 0 ∧ t.rr .THM_FLOW = 0 ∧ t.rr .THM_DP = 0 ∧
          t.rr .THM_CSTALE = min (s.rr .THM_CSTALE + 1) 0xFFFFFFFF ∧ t.f F.THM_CAP_CAP_COOL = s.f F.PWW_RATED_RATED ∧
          t.f F.THM_CAP_CAP_DIE = s.f F.THM_CAP_CAP_DIE ∧
          RegsKept [(.THM_INLET, 0), (.THM_FLOW, 0), (.THM_DP, 0), (.THM_CSTALE, 0), (.THM_CAP, 0)] s t ∧
          { t with regs := s.regs, thm := s.thm } = s)) ∧
    (s.thm.noflow = false → Gives (exec .noflowTimeout s) (fun t => t = s)) ∧
    (s.thm.noflow = true → MayShut s → s.metering.acc = none → Gives (exec .noflowTimeout s) (fun t => ShutDown s t))

/-- A start has begun (R557): the sequence runs from its reference event with nothing completed; the compute die is off, and what the package
keeps in flash, the journal among it, is kept. -/
def StartBegun (s t : State) : Prop :=
  t.boot.running = true ∧ t.boot.elapsed = 0 ∧ t.f F.IDT_BOOT_STEP = 0 ∧ t.f F.IDT_BOOT_READY = 0 ∧ t.boot.rails = false ∧ t.boot.vaux = false ∧
    t.tiles = [] ∧ t.mem = {} ∧ t.journal = s.journal ∧ t.pending = s.pending ∧ t.sec.running = s.sec.running ∧
    t.sec.settings = s.sec.settings ∧ t.f F.THM_STAT_TRIPSRC = s.f F.THM_STAT_TRIPSRC ∧ t.f F.OST_STAT_SHUTDOWN = 0

/-- R312, R365, R555, R557, R602, R684, R696, R699, R701, R703, R713: the supply and the pins. The input, PWR_GOOD and PKG_RESET_N each take the
level their event says; a start begins when all three call for it and no trip stands; either pin taken away shuts the package down, and so does
the loss of the input, which saves nothing and leaves a gap in the energy. -/
def Power : Prop :=
  ∀ (s : State),
    (s.boot.powered = true → Gives (exec .inputPowerRise s) (fun t => t = s)) ∧
    (s.boot.powered = false → Gives (exec .inputPowerRise s) (fun t =>
      t.boot.powered = true ∧ t.boot.inrush = true ∧ { t with boot := s.boot } = s)) ∧
    (s.boot.pwrGood = true → Gives (exec .pwrGoodAssert s) (fun t => t = s)) ∧
    (s.boot.pwrGood = false → s.boot.powered = true → s.boot.resetReleased = true → s.thm.tripped = false →
      Gives (exec .pwrGoodAssert s) (fun t => t.boot.pwrGood = true ∧ StartBegun s t)) ∧
    (s.boot.pwrGood = false → s.boot.powered = false ∨ s.boot.resetReleased = false ∨ s.thm.tripped = true →
      Gives (exec .pwrGoodAssert s) (fun t => t.boot.pwrGood = true ∧ { t with boot := s.boot } = s ∧ t.boot.running = s.boot.running)) ∧
    (s.boot.resetReleased = true → Gives (exec .pkgResetRelease s) (fun t => t = s)) ∧
    (s.boot.resetReleased = false → s.boot.powered = true → s.boot.pwrGood = true → s.thm.tripped = false →
      Gives (exec .pkgResetRelease s) (fun t => t.boot.resetReleased = true ∧ StartBegun s t)) ∧
    (s.boot.resetReleased = false → s.boot.powered = false ∨ s.boot.pwrGood = false ∨ s.thm.tripped = true →
      Gives (exec .pkgResetRelease s) (fun t =>
        t.boot.resetReleased = true ∧ { t with boot := s.boot } = s ∧ t.boot.running = s.boot.running)) ∧
    Gives (exec .pwrGoodDeassert s) (fun t =>
      t.boot.pwrGood = false ∧ t.thm.tripped = false ∧ t.boot.vaux = false ∧ t.rst.pkgReset = none ∧
        (s.boot.vaux = true → t.boot.rails = false ∧ t.boot.running = false) ∧
        (MayShut s → s.metering.acc = none → ShutDown s t)) ∧
    Gives (exec .pkgResetAssert s) (fun t =>
      t.boot.resetReleased = false ∧ t.thm.tripped = s.thm.tripped ∧ (MayShut s → s.metering.acc = none → ShutDown s t) ∧
        (¬MayShut s → { t with boot := s.boot } = s)) ∧
    Gives (exec .inputPowerLoss s) (fun t =>
      t.boot.powered = false ∧ t.boot.rails = false ∧ t.boot.vaux = false ∧ t.boot.running = false ∧ t.thm.tripped = false ∧
        t.f F.FCL_FAULTN_PIN = 0 ∧ t.f F.FCL_FAULTN_PULSE = 0 ∧ t.journal = s.journal ∧ t.tiles = [] ∧ t.mem = {} ∧
        (s.boot.vaux = true → ∀ mb : Bool, t.f F.MTR_STAT_GAP (chIx mb) = 1 ∧
          t.pair .MTR_GAP_T_LO .MTR_GAP_T_HI (chIx mb) = (s.meter mb).savedAt.toNat ∧
          t.pair .MTR_ELIFE_LO .MTR_ELIFE_HI (chIx mb) = (s.meter mb).savedElife.toNat))

/-! ### The start sequence -/

/-- R575, R576: a start has stopped with status `st`. TIMEOUT and CHECK are retried once; otherwise, and the second time, it stands: FAILED with
its status, FAULT_N pulsed, the rails off. -/
def StartStopped (s t : State) (st : Status) : Prop :=
  let again := (st = .timeout ∨ st = .check) ∧ s.boot.retried = false
  (again → t.boot.running = true ∧ t.boot.retried = true ∧ t.boot.elapsed = 0 ∧ t.f F.IDT_BOOT_STEP = 0 ∧ t.boot.rails = false ∧
      t.boot.vaux = false ∧ t.f F.FCL_FAULTN_PULSE = 1) ∧
    (¬again → t.boot.running = false ∧ t.f F.IDT_BOOT_FAILED = 1 ∧ t.f F.IDT_BOOT_STATUS = st.code ∧ t.f F.FCL_FAULTN_PULSE = 1 ∧
      t.f F.FCL_FAULTN_PIN = 1 ∧ t.boot.rails = false ∧ t.tiles = [] ∧ t.f F.IDT_BOOT_READY = s.f F.IDT_BOOT_READY)

/-- R561: step `k` has completed; IDT_BOOT.STEP says so, and IDT_STEPT when. -/
def StepEnded (s t : State) (k : Nat) : Prop :=
  t.f F.IDT_BOOT_STEP = k ∧ t.rr .IDT_STEPT (k - 1) = s.boot.elapsed / 1000000 ∧ t.f F.IDT_BOOT_READY = s.f F.IDT_BOOT_READY ∧
    t.f F.IDT_BOOT_FAILED = s.f F.IDT_BOOT_FAILED

/-- R557 to R576: the start sequence goes on by a step at a time, unless it is paused. VAUX comes up; the images are verified; the governors are
tested, and the start stops when both fail; the rails come up; the memory channels train, and one that fails is FAILED; the memory is cleared;
the tiles come up in waves and the floor plan is made; the cores are tested, and the start stops when none works; then READY. -/
def StartSequence : Prop :=
  ∀ (s : State) (x : StartTests),
    let k := s.f F.IDT_BOOT_STEP
    let goes := s.boot.running = true ∧ s.boot.paused = []
    (¬goes ∨ 10 ≤ k → Gives (exec (.start x) s) (fun t => t = s)) ∧
    (goes → k = 0 →
      Gives (exec (.start x) s) (fun t =>
        StepEnded s t 1 ∧ t.boot.vaux = true ∧ RegsKept [(.IDT_BOOT, 0), (.IDT_STEPT, 0)] s t ∧ { t with boot := s.boot, regs := s.regs } = s)) ∧
    (goes → k = 1 → s.sec.activation = none →
      (s.slotGood 0 (SMap.find? s.sec.running 0) = true → Gives (exec (.start x) s) (fun t => StepEnded s t 2)) ∧
      (s.slotGood 0 (SMap.find? s.sec.running 0) = false → SMap.find? s.sec.staging 0 = none →
        Gives (exec (.start x) s) (fun t => StartStopped s t .denied))) ∧
    (goes → k = 2 →
      let image := (SMap.find? s.sec.loaded 1).isSome = true
      (image → x.govA = true ∨ x.govB = true →
        Gives (exec (.start x) s) (fun t =>
          StepEnded s t 3 ∧ (t.gl false).selfTest = x.govA ∧ (t.gl true).selfTest = x.govB ∧
            (SMap.find? s.sec.loaded 6 = none → t.f F.MTR_STAT_CALDEF 0 = 1 ∧ t.f F.MTR_STAT_CALDEF 1 = 1))) ∧
      (¬image ∨ x.govA = false ∧ x.govB = false → Gives (exec (.start x) s) (fun t => StartStopped s t .check))) ∧
    (goes → k = 3 → s.boot.heldWrites = [] →
      Gives (exec (.start x) s) (fun t =>
        StepEnded s t 4 ∧ t.boot.rails = true ∧ t.f F.OST_OUT_VCORE = 100 ∧
          RegsKept [(.IDT_BOOT, 0), (.IDT_STEPT, 3), (.OST_OUT, 0)] s t ∧ { t with boot := s.boot, regs := s.regs } = s)) ∧
    (goes → k = 4 → Gives (exec (.start x) s) (fun t => StepEnded s t 5 ∧ t.boot.trailFailed = x.trail)) ∧
    (goes → k = 5 →
      let full (q : Nat) := SMap.get (fun _ => false) s.boot.savedChannels q = false ∨ q ∈ x.savedFail ∨ s.sec.fullTrain = true
      Gives (exec (.start x) s) (fun t =>
        StepEnded s t 6 ∧ (∀ q < 768, t.f F.MEM_CH_STAT_STATE q = if full q ∧ q ∈ x.fullFail then 2 else s.f F.MEM_CH_STAT_STATE q) ∧
          (t.f F.IDT_BOOT_FULLTRAIN = 1 ↔ ∃ q < 768, full q) ∧ t.sec.fullTrain = false ∧ t.mem = s.mem)) ∧
    (goes → k = 6 →
      Gives (exec (.start x) s) (fun t =>
        StepEnded s t 7 ∧ (∀ a < memEnd, t.byte a = 0) ∧ (∀ l, l * 64 < memEnd → t.poisoned l = false ∧ t.latentAt l = none) ∧
          (∀ a, memEnd ≤ a → t.byte a = s.byte a))) ∧
    (goes → k = 7 → s.boot.cluster = 0 →
      Gives (exec (.start x) s) (fun t =>
        1 ≤ t.f F.IDT_WAVE_PER ∧ t.f F.IDT_WAVE_PER ≤ 32 ∧ 1 ≤ t.f F.IDT_WAVE_DPC ∧ t.boot.cluster = t.f F.IDT_WAVE_PER ∧
          t.f F.IDT_WAVE_WAVES = (31 + t.f F.IDT_WAVE_PER) / t.f F.IDT_WAVE_PER ∧ t.f F.IDT_BOOT_STEP = 7 ∧
          RegsKept [(.IDT_WAVE, 0)] s t ∧ { t with boot := s.boot, regs := s.regs, free := s.free } = s)) ∧
    (goes → k = 7 → 0 < s.boot.cluster → s.boot.cluster < 32 → Gives (exec (.start x) s) (fun t => t = s)) ∧
    (goes → k = 7 → 32 ≤ s.boot.cluster →
      let code (n : Nat) :=
        if Config.fusedBad n then 1
        else if SMap.get (fun _ => false) s.sec.fieldMap n then 2
        else if n ∈ x.tileTwice ∨ n ∈ s.boot.trailFailed then 3
        else if n ∈ x.tileOnce then 5
        else 0
      let works (c : Nat) := c = 0 ∨ c = 5
      ((∃ n < 768, works (code n)) →
        Gives (exec (.start x) s) (fun t =>
          StepEnded s t 8 ∧ (∀ n < 768, t.codeOf n = code n ∧ ((t.rr .IDT_GOOD (n / 32)).testBit (n % 32) = true ↔ works (code n))) ∧
            t.f F.IDT_TILES_GOOD = ((List.range 768).filter fun n => decide (works (code n))).length ∧
            t.f F.IDT_TILES_MARGINAL = ((List.range 768).filter fun n => decide (code n = 5)).length ∧
            t.rr .IDT_FP_GEN = (s.rr .IDT_FP_GEN + 2) % 2 ^ 32)) ∧
      ((∀ n < 768, ¬works (code n)) → Gives (exec (.start x) s) (fun t => StartStopped s t .noResource))) ∧
    (goes → k = 8 →
      ((∀ c < 32, c ∈ x.cores) ∨ x.l3 = false → Gives (exec (.start x) s) (fun t => StartStopped s t .check)) ∧
      ((∃ c < 32, c ∉ x.cores) → x.l3 = true → SMap.find? s.sec.running 5 = none → Gives (exec (.start x) s) (fun t => t = s))) ∧
    (goes → k = 9 → s.sec.settings = [] → s.sec.raise = [] →
      Gives (exec (.start x) s) (fun t =>
        t.f F.IDT_BOOT_STEP = 10 ∧ t.f F.IDT_BOOT_READY = 1 ∧ t.rr .IDT_STEPT 9 = s.boot.elapsed / 1000000 ∧
          (t.f F.IDT_BOOT_STATUS = Status.ok.code ∨ t.f F.IDT_BOOT_STATUS = Status.degraded.code) ∧ t.boot.running = false ∧
          t.pair .IDT_READY_T_LO .IDT_READY_T_HI = s.tmb.ptime.toNat ∧
          ((s.gl false).selfTest = true → t.f F.OST_STAT_ACTIVE = 0) ∧
          ((s.gl false).selfTest = false → t.f F.OST_STAT_ACTIVE = 1) ∧ Out.notice 1 0 ∈ t.out)) ∧
    (let wave := goes ∧ k = 7 ∧ 0 < s.boot.cluster ∧ s.boot.cluster < 32
     (wave → Gives (exec .inrushWave s) (fun t =>
        t.boot.cluster = min 32 (s.boot.cluster + s.f F.IDT_WAVE_PER) ∧ { t with boot := s.boot } = s ∧
          { t.boot with cluster := s.boot.cluster } = s.boot)) ∧
      (¬wave → Gives (exec .inrushWave s) (fun t => t = s))) ∧
    (∀ heat : Bool,
      let c := if heat then PauseCause.heat else PauseCause.supply
      (s.boot.running = true → 3 ≤ k → c ∉ s.boot.paused →
        Gives (exec (.startPause heat) s) (fun t => t = { s with boot := { s.boot with paused := c :: s.boot.paused } })) ∧
      (s.boot.running = false ∨ k < 3 ∨ c ∈ s.boot.paused → Gives (exec (.startPause heat) s) (fun t => t = s)) ∧
      Gives (exec (.startResume heat) s) (fun t =>
        c ∉ t.boot.paused ∧ (∀ d, d ≠ c → (d ∈ t.boot.paused ↔ d ∈ s.boot.paused)) ∧ { t with boot := s.boot } = s ∧
          { t.boot with paused := s.boot.paused } = s.boot)) ∧
    (goes → Gives (exec .startStepTimeout s) (fun t => StartStopped s t .timeout)) ∧
    (¬goes → Gives (exec .startStepTimeout s) (fun t => t = s))

/-! ### Reset domains and recovery -/

/-- R591: RST_HREC shows a record of this instant about domain `i` of level `l`, with STATUS `st`. -/
def HangShown (s t : State) (kind l action i : Nat) (st : Nat := 0) : Prop :=
  t.rr .RST_HREC 0 + 2 ^ 32 * t.rr .RST_HREC 1 = s.tmb.ptime.toNat ∧
    t.rr .RST_HREC 2 = kind + 2 ^ 8 * l + 2 ^ 16 * action + 2 ^ 24 * st ∧ t.rr .RST_HREC 3 % 2 ^ 16 = i

/-- The reset of a domain begins at once: none runs in it, in one that contains it or inside it, it is in service, fewer than REPEAT resets stand
within the window (R601), and a cluster or partition has its turn (R597). -/
def MayReset (s : State) (l i : Nat) : Prop :=
  1 ≤ l ∧ l ≤ 4 ∧ i < domCount l ∧ (∀ d ∈ outerDomains l i, s.domState d.1 d.2 = 0 ∧ s.stuck d.1 d.2 = false) ∧
    (s.recentResets l i).length + 1 < s.f F.RST_CFG_REPEAT ∧ s.resetsFull l = false ∧ s.rst.recov = [] ∧ s.rst.queue = []

/-- R580, R583, R589, R597: a reset of a domain has begun, with KIND `kind`: it is in DRAIN behind its fence, counted, with its record; a slot
with a station in it is FAULTED, a core in it is stopped. -/
def ResetBegun (s t : State) (l i kind : Nat) : Prop :=
  t.domState l i = 1 ∧ t.rr .RST_RESETS = min (s.rr .RST_RESETS + 1) 0xFFFFFFFF ∧ t.rr (domReg l) i / 2 ^ 24 = kind ∧
    HangShown s t kind l 1 i ∧ (l = 2 → (t.core i).on = false) ∧
    ∀ n ∈ domTiles l i, s.working n = true → ∀ k, s.slotOfTile n = some k → (s.slot k).state = .running → (t.slot k).state = .faulted

/-- R599: a domain is HELD until the next start, and its working tiles take code RUNTIME. -/
def HeldNow (s t : State) (l i : Nat) : Prop :=
  t.domState l i = 5 ∧ t.stuck l i = true ∧ (t.rr .RST_EVENT).testBit 2 = true ∧
    ∀ n ∈ domTiles l i, s.working n = true → t.codeOf n = 4 ∧ t.working n = false

/-- A package reset has been asked for and its preparation done (R593, R602); it waits for the ramp. -/
def PackageAsked (s t : State) (kind : Nat) : Prop :=
  t.rst.pkgReset = some kind ∧ t.rst.recov = [] ∧ t.rst.queue = [] ∧ Logged s t 1 ∧
    ∀ mb, (t.meter mb).savedElife.toNat = s.pair .MTR_ELIFE_LO .MTR_ELIFE_HI (chIx mb)

/-- R597 to R599, R602, R603: RST_CMD. Each command is refused by the first status that applies and then does nothing; RESET of a domain begins
its reset, or queues it, or at its REPEAT-th time holds a tile or core; HOLD holds; RELEASE starts a HELD core at RST_PC with a0 its number; the
installer resets the package or asks for a power cycle. -/
def ResetCommands : Prop :=
  ∀ (s : State) (rq : Requester) (l : Fin 16) (i : Fin 1024), MayAct s rq → s.rst.pkgReset = none → s.f F.OST_STAT_SHUTDOWN = 0 →
    s.thm.tripped = false →
    let lv := l.val
    let ix := i.val
    let ex := 1 ≤ lv ∧ lv ≤ 4 ∧ ix < domCount lv
    let inst := rq = .steward (some .installer)
    let hidden := ex ∧ (lv = 1 ∧ s.working ix = false ∨ s.domGated lv ix = true)
    let opened := ∀ d ∈ outerDomains lv ix, s.domState d.1 d.2 = 0
    let refused (o : Host.Outcome State Fault Refusal) (st : Status) :=
      Gives o (fun t => t.f F.RST_CMD_STATUS = st.code ∧ t.resp.status = st ∧ RegsKept [(.RST_CMD, 0), (.RST_ERR, 0)] s t ∧
        { t with regs := s.regs, resp := s.resp } = s)
    let ran (P : State → Prop) (t : State) := t.f F.RST_CMD_STATUS = 0 ∧ t.f F.RST_CMD_LEVEL = lv ∧ t.f F.RST_CMD_INDEX = ix ∧
      t.resp = ⟨.ok, 0⟩ ∧ P t
    (lv = 0 → Gives (exec (.rstReset rq l i) s) (fun t =>
      RegsKept [(.RST_CMD, 0)] s t ∧ t.resp = ⟨.ok, 0⟩ ∧ { t with regs := s.regs, resp := s.resp } = s)) ∧
    ((lv = 5 ∨ lv = 6) → ¬inst → refused (exec (.rstReset rq l i) s) .denied) ∧
    (hidden → refused (exec (.rstReset rq l i) s) .fenced ∧ refused (exec (.rstHold rq l i) s) .fenced) ∧
    ((6 < lv ∨ (1 ≤ lv ∧ lv ≤ 4 ∧ domCount lv ≤ ix)) → refused (exec (.rstReset rq l i) s) .bounds ∧
      refused (exec (.rstHold rq l i) s) .bounds) ∧
    (ex → ¬hidden → ¬opened → refused (exec (.rstReset rq l i) s) .busy ∧ refused (exec (.rstHold rq l i) s) .busy) ∧
    (lv = 5 → inst → s.f F.OST_STAT_ORPHAN = 0 → s.journal.entries.length < 98304 →
      Gives (exec (.rstReset rq l i) s) (ran fun t => PackageAsked s t 7 ∧ HangShown s t 7 5 1 0)) ∧
    (lv = 6 → inst → Gives (exec (.rstReset rq l i) s) (ran fun t =>
      t.f F.FCL_FAULTN_PULSE = 1 ∧ t.out.head? = some (.notice 4 0) ∧ HangShown s t 7 6 1 0)) ∧
    (ex → ¬hidden → opened → s.pair .RST_LOG_LO .RST_LOG_HI = 0 →
      (MayReset s lv ix → Gives (exec (.rstReset rq l i) s) (ran fun t => ResetBegun s t lv ix 7)) ∧
      (lv ≤ 2 → s.stuck lv ix = false → (∀ d ∈ outerDomains lv ix, s.stuck d.1 d.2 = false) → s.rst.recov = [] →
        s.f F.RST_CFG_REPEAT ≤ (s.recentResets lv ix).length + 1 →
        Gives (exec (.rstReset rq l i) s) (ran fun t =>
          HeldNow s t lv ix ∧ HangShown s t 8 lv 2 ix ∧ t.rr .RST_ESCAL = min (s.rr .RST_ESCAL + 1) 0xFFFFFFFF)) ∧
      ((∀ d ∈ outerDomains lv ix, s.stuck d.1 d.2 = false) → (s.recentResets lv ix).length + 1 < s.f F.RST_CFG_REPEAT → s.rst.recov = [] →
        s.resetsFull lv = true →
        Gives (exec (.rstReset rq l i) s) (ran fun t => t.domState lv ix = 6 ∧ HangShown s t 7 lv 5 ix ∧ t.rst.queue.length = s.rst.queue.length + 1)) ∧
      (s.rst.recov = [] → s.rst.queue = [] → Gives (exec (.rstHold rq l i) s) (ran fun t => HeldNow s t lv ix ∧ HangShown s t 7 lv 2 ix))) ∧
    (let pc := s.pair .RST_PC_LO .RST_PC_HI
     let legal := lv = 2 ∧ ix < 32 ∧ pc % 4 = 0 ∧ pc + 4 ≤ memEnd
     (legal → s.domState 2 ix = 5 → s.stuck 2 ix = false →
        Gives (exec (.rstRelease rq l i) s) (ran fun t =>
          t.domState 2 ix = 0 ∧ (t.core ix).on = true ∧ (t.core ix).mode = .m ∧ (t.core ix).pc = BitVec.ofNat 64 pc ∧
            SMap.get (fun _ => 0) (t.core ix).x 10 = BitVec.ofNat 64 ix)) ∧
      (legal → s.stuck 2 ix = true → refused (exec (.rstRelease rq l i) s) .fenced) ∧
      (legal → s.stuck 2 ix = false → s.domState 2 ix ≠ 5 → refused (exec (.rstRelease rq l i) s) .busy) ∧
      (lv = 2 → ix < 32 → s.stuck 2 ix = false → pc % 4 ≠ 0 ∨ memEnd < pc + 4 → refused (exec (.rstRelease rq l i) s) .bounds))

/-- R581, R582, R585 to R587, R594 to R596: the phases of a domain's reset. DRAIN goes on to SALVAGE, for a core to RESET; SALVAGE writes the
samples of the tiles to the ring; RESET leaves the domain as new; TEST ends with what passed in service, a core HELD, and a tile that failed HELD
with code RUNTIME. An event for a domain in another state does nothing. -/
def ResetPhases : Prop :=
  ∀ (s : State) (l : Fin 5) (i : Fin 768),
    let lv := l.val
    let st := s.domState lv i
    let ex := 1 ≤ lv ∧ i.val < domCount lv
    let stays (t : State) := RegsKept [(domReg lv, i.val)] s t
    (¬ex ∨ st ≠ 1 → Gives (exec (.drainEnd l i) s) (fun t => t = s)) ∧
    (ex → st = 1 → Gives (exec (.drainEnd l i) s) (fun t =>
      t.domState lv i = (if lv = 2 then 3 else 2) ∧ stays t ∧ (lv ≠ 2 → { t with regs := s.regs } = s) ∧
        (lv = 2 → (t.core i).on = false ∧ ∀ c, c ≠ i.val → t.core c = s.core c))) ∧
    (¬ex ∨ st ≠ 2 → Gives (exec (.salvageDone l i) s) (fun t => t = s)) ∧
    (ex → st = 2 → s.f F.RST_SALV_CFG_LEN = 0 → Gives (exec (.salvageDone l i) s) (fun t =>
      t.domState lv i = 3 ∧ stays t ∧ { t with regs := s.regs } = s)) ∧
    (∀ r state, lv = 1 → st = 2 → SMap.find? s.rst.recov (domKey 1 i) = some r → r.states = [(i.val, state)] → r.place = none →
      let len := s.f F.RST_SALV_CFG_LEN * 64
      let off := s.f F.RST_SALV_CFG_OFFSET * 64
      let base := s.pair .RST_SALV_LO .RST_SALV_HI
      let n := 2 ^ s.f F.RST_SALV_CTL_ORDER
      let w := s.rr .RST_SALV_WR
      let a := base + 4160 * (w % n)
      let src := spadByte i off
      let full := base = 0 ∨ n ≤ (w + 2 ^ 32 - s.rr .RST_SALV_RD) % 2 ^ 32
      (0 < len → full → Gives (exec (.salvageDone l i) s) (fun t =>
        t.domState 1 i = 3 ∧ t.rr .RST_SALVLOST = min (s.rr .RST_SALVLOST + 1) 0xFFFFFFFF ∧ t.rr .RST_SALV_WR = w ∧ t.mem = s.mem)) ∧
      (0 < len → ¬full → len ≤ 4096 → base % 64 = 0 → a + 4160 ≤ memEnd → CleanAt s a 4160 →
        Gives (exec (.salvageDone l i) s) (fun t =>
          t.domState 1 i = 3 ∧ t.rr .RST_SALV_WR = (w + 1) % 2 ^ 32 ∧
            t.bytes a 15 = leBytes 8 s.tmb.ptime.toNat ++ leBytes 2 i.val ++ leBytes 2 (s.tile i).handle.toNat ++
              leBytes 2 (if (s.tile i).handle = 0 then 0xFFFF else (s.tile i).station) ++ leBytes 1 state ∧
            t.bytes (a + 16) 20 = leBytes 4 (s.rr .TILE_EXC i) ++ leBytes 4 (s.rr .TILE_FLAGS i) ++ leBytes 4 (s.tile i).pc.toNat ++
              leBytes 4 off ++ leBytes 4 len ∧
            t.bytes (a + 64) len = s.bytes src len ∧ (∀ b, b < a ∨ a + 4160 ≤ b → t.byte b = s.byte b) ∧
            ∃ y, SMap.find? t.rst.recov (domKey 1 i) = some y ∧ y.record = r.record.take 20 ++ leBytes 4 w ++ r.record.drop 24))) ∧
    (¬ex ∨ st ≠ 3 → Gives (exec (.domainResetDone l i) s) (fun t => t = s)) ∧
    (ex → st = 3 → Gives (exec (.domainResetDone l i) s) (fun t =>
      t.domState lv i = 4 ∧ t.mem = s.mem ∧ (lv = 2 → t.core i = {} ∧ ∀ c, c ≠ i.val → t.core c = s.core c) ∧
        (∀ n ∈ domTiles lv i, s.working n = true → s.slotOfTile n = none → t.tile n = {} ∧ t.rr .TILE_EXC n = Reg.rst .TILE_EXC n) ∧
        (∀ n k, n ∈ domTiles lv i → s.working n = true → s.slotOfTile n = some k → (s.slot k).state ≠ .free →
          BitVec.ofNat 16 (s.handle k) = (s.tile n).handle →
          (t.tile n).st = .stopped ∧ (t.tile n).handle = (s.tile n).handle ∧ (t.tile n).station = (s.tile n).station ∧ (t.tile n).inbox = []))) ∧
    (∀ passed failed, ¬ex ∨ st ≠ 4 → Gives (exec (.domainTestDone l i passed failed) s) (fun t => t = s)) ∧
    (ex → st = 4 → s.rst.queue = [] →
      Gives (exec (.domainTestDone l i true []) s) (fun t =>
        t.domState lv i = (if lv = 2 then 5 else 0) ∧ t.rr (domReg lv) i / 2 ^ 8 % 2 ^ 8 = Status.ok.code ∧
          (t.rr .RST_EVENT).testBit 1 = true ∧ SMap.find? t.rst.recov (domKey lv i) = none ∧ t.rst.stuck = s.rst.stuck ∧
          ∀ n ∈ domTiles lv i, s.working n = true → ∀ a < 0x90000, t.byte (spadByte n a) = 0)) ∧
    (lv = 1 → ex → st = 4 → s.rst.queue = [] → s.working i = true → s.pair .RST_LOG_LO .RST_LOG_HI = 0 →
      Gives (exec (.domainTestDone l i true [i.val]) s) (fun t =>
        HeldNow s t 1 i ∧ t.rr (domReg 1) i / 2 ^ 8 % 2 ^ 8 = Status.check.code ∧ HangShown s t 8 1 2 i ∧
          t.rr .RST_ESCAL = min (s.rr .RST_ESCAL + 1) 0xFFFFFFFF)) ∧
    (lv = 2 → ex → st = 4 → s.rst.queue = [] → s.pair .RST_LOG_LO .RST_LOG_HI = 0 →
      Gives (exec (.domainTestDone l i false []) s) (fun t =>
        HeldNow s t 2 i ∧ t.rr (domReg 2) i / 2 ^ 8 % 2 ^ 8 = Status.check.code ∧ HangShown s t 8 2 2 i))

/-- R589: detector `kind` has fired on a domain: counted, HANG set, line 10 raised with the domain's number; with its AUTO bit the domain's reset
has begun, and without it a record stands with ACTION NONE. -/
def Detected (s t : State) (kind l i : Nat) : Prop :=
  t.rr .RST_HANGS = min (s.rr .RST_HANGS + 1) 0xFFFFFFFF ∧ (t.rr .RST_EVENT).testBit 0 = true ∧
    ⟨s.tmb.ptime.toNat, 10, i, .timeout⟩ ∈ t.events ∧
    (if (s.f F.RST_HANG_AUTO).testBit (kind - 1) = true then ResetBegun s t l i kind else HangShown s t kind l 0 i ∧ t.rst.recov = s.rst.recov)

/-- R588 to R590, R600, R602: the detectors. Each fires on what it is for, on a domain in service that the governor paces, and on nothing else; a
request that got no answer ends with TIMEOUT as its kind has it; the ramp's end lets a package reset that waits begin. -/
def HangDetectors : Prop :=
  ∀ (s : State), s.pair .RST_LOG_LO .RST_LOG_HI = 0 →
    (∀ n : Fin 768,
      let x := s.tile n
      let awaits := x.st = .wait ∧ ((∃ k, x.waiting = some (.matrix k)) ∨ (∃ a b, x.waiting = some (.move a b)) ∨ x.waiting = some .fence)
      let stall := s.watched n = true ∧ x.st = .run ∧ s.ringStall n = false
      let engine := s.watched n = true ∧ awaits
      (¬stall → Gives (exec (.tileStall n) s) (fun t => t = s)) ∧
      (stall → MayReset s 1 n → Gives (exec (.tileStall n) s) (fun t => Detected s t 1 1 n)) ∧
      (¬engine → Gives (exec (.engineStall n) s) (fun t => t = s)) ∧
      (engine → MayReset s 1 n → Gives (exec (.engineStall n) s) (fun t => Detected s t 2 1 n)) ∧
      (let fails := (x.st = .stopped ∨ x.st = .fault) ∧ x.quiet = false ∧ s.tileFence n = false ∧ s.working n = true
       (¬fails → Gives (exec (.stopFail n) s) (fun t => t = s)) ∧
        (fails → MayReset s 1 n → Gives (exec (.stopFail n) s) (fun t => Detected s t 6 1 n)))) ∧
    (∀ k : Fin 64,
      let x := s.slot k
      let stall := x.state = .running ∧ x.inflight ≠ [] ∧ x.waiting = []
      (¬stall → Gives (exec (.caravanStall k) s) (fun t => t = s)) ∧
      (∀ n, stall → s.stalledTile k = some n → s.watched n = true → n < 768 → MayReset s 1 n →
        Gives (exec (.caravanStall k) s) (fun t => Detected s t 3 1 n))) ∧
    (∀ c : Fin 32,
      let stall := (s.core c).issues = true ∧ s.corePace ≠ 0
      (¬stall → Gives (exec (.coreStall c) s) (fun t => t = s)) ∧
      (stall → MayReset s 2 c → Gives (exec (.coreStall c) s) (fun t => Detected s t 4 2 c))) ∧
    (∀ (l : Fin 6) (i : Fin 768) (addr : Nat), addr < 2 ^ 64 → MayReset s l i →
      Gives (exec (.reqTimeout l i addr .other) s) (fun t =>
        Detected s t 5 l i ∧ t.resp.status = .timeout ∧ t.rr .RST_HREC 6 + 2 ^ 32 * t.rr .RST_HREC 7 = addr) ∧
      (∀ (n : Fin 768) (tag : BitVec 4) m, s.slotOfTile n = none → s.working n = true → (s.tile n).tag tag.toNat = .busy m →
        Gives (exec (.reqTimeout l i addr (.move n tag)) s) (fun t => Detected s t 5 l i ∧ (t.tile n).tag tag.toNat = .done .timeout))) ∧
    (∀ (l : Fin 6) (i : Fin 768) (addr : Nat) x, l.val = 0 ∨ l.val ≠ 5 ∧ domCount l ≤ i.val →
      Gives (exec (.reqTimeout l i addr x) s) (fun t => t = s)) ∧
    (let due := s.rst.pkgReset ≠ none ∧ s.f F.OST_STAT_SHUTDOWN = 0 ∧ s.thm.tripped = false
     (¬due → Gives (exec .packageResetRampDone s) (fun t => t = s)) ∧
      (due → Gives (exec .packageResetRampDone s) (fun t =>
        t.boot.running = true ∧ t.boot.elapsed = 0 ∧ t.f F.IDT_BOOT_STEP = 0 ∧ t.boot.rails = false ∧ t.tiles = [] ∧ t.mem = {} ∧
          t.journal = s.journal ∧ t.rst.pkgReset = none)))

/-! ### The fault collector -/

/-- R607: an event on line `n` is latched with its class, or sets OVER where one is latched already; either way it is counted. -/
def EventLatched (s t : State) (n ix : Nat) (st : Status) (cls : Nat) : Prop :=
  t.rr .FCL_CNT n = min (s.rr .FCL_CNT n + 1) 0xFFFFFFFF ∧ t.f F.FCL_LST_LATCH n = 1 ∧
    (s.f F.FCL_LST_LATCH n = 1 → t.f F.FCL_LST_OVER n = 1 ∧ t.f F.FCL_LST_CLASS n = s.f F.FCL_LST_CLASS n ∧
      t.f F.FCL_LST_STATUS n = s.f F.FCL_LST_STATUS n ∧ t.f F.FCL_LST_INDEX n = s.f F.FCL_LST_INDEX n) ∧
    (s.f F.FCL_LST_LATCH n = 0 → t.f F.FCL_LST_OVER n = s.f F.FCL_LST_OVER n ∧ t.f F.FCL_LST_CLASS n = cls ∧
      t.f F.FCL_LST_STATUS n = st.code ∧ t.f F.FCL_LST_INDEX n = ix % 512)

/-- R613: the safe state has been entered for line `n`, an event of class `cls` and status `st`. -/
def SafeEntered (s t : State) (n cls : Nat) (st : Status) (self : Bool) : Prop :=
  t.f F.FCL_STAT_SAFE = 1 ∧ t.f F.FCL_STAT_SELF = (if self then 1 else 0) ∧ t.f F.FCL_STAT_CAUSE = n ∧ t.f F.FCL_STAT_CLASS = cls ∧
    t.f F.FCL_STAT_STATUS = st.code ∧ t.pair .FCL_SAFE_T_LO .FCL_SAFE_T_HI = s.tmb.ptime.toNat ∧ t.f F.FCL_FAULTN_PULSE = 1 ∧
    t.f F.FCL_FAULTN_PIN = 1 ∧ t.f F.FCL_FAULTN_DRIVE = 1 ∧ t.rr .FCL_PULSES = min (s.rr .FCL_PULSES + 1) 0xFFFFFFFF ∧
    (∀ i < 64, (t.slot i).state ≠ .running ∧ (t.slot i).state ≠ .paused) ∧
    (∀ gb : Bool, t.mode gb = if s.mode gb = 1 then 0 else s.mode gb) ∧ (s.metering.acc = none → Logged s t 1)

/-- Everything an event may touch beyond its line's own registers when it is taken at level LOG or NOTIFY: nothing. -/
def eventRegs (n : Nat) : List (Reg × Nat) := [(.FCL_LST, n), (.FCL_CNT, n), (.FCL_WIN, n), (.FCL_EVENT, 0)]

/-- R606 to R613: FCL takes one event, the earliest, of one instant on the lowest line and with the lowest INDEX. Before READY, and after a
failure of its own, it latches and counts it and does no more; otherwise it counts the event in its window, gives it its class, and reacts as
FCL_CLS says: LOG, NOTIFY, RECOVER or SAFE, the last of which it only counts within the safe state. -/
def ErrorEvents : Prop :=
  ∀ (s : State),
    (s.events = [] → Gives (exec .fclErrorEvent s) (fun t => t = s)) ∧
    (∀ e : LineEvent, s.events = [e] → e.line ≤ 18 →
      let n := e.line
      let count := s.f F.FCL_WIN_COUNT n + 1
      let hot := count = s.f F.FCL_CLS_THR n
      let run := min (s.f F.FCL_WIN_RUN n + 1) 0xFF
      let cls := if hot then (if s.f F.FCL_CLS_PERS n ≤ run then 3 else 2) else 1
      let level := match cls with
        | 1 => s.f F.FCL_CLS_R_ISO n
        | 2 => s.f F.FCL_CLS_R_REC n
        | _ => s.f F.FCL_CLS_R_PER n
      let quiet := s.fcl.windows = false ∨ s.f F.FCL_STAT_SELF = 1
      let counted (t : State) := t.f F.FCL_WIN_COUNT n = min count 0xFF ∧ t.f F.FCL_WIN_RUN n = (if hot then run else s.f F.FCL_WIN_RUN n)
      let others (t : State) := { t with regs := s.regs, events := s.events } = s
      (quiet → Gives (exec .fclErrorEvent s) (fun t =>
        EventLatched s t n e.index e.status 0 ∧ t.events = [] ∧ RegsKept [(.FCL_LST, n), (.FCL_CNT, n)] s t ∧ others t)) ∧
      (¬quiet → level = 0 → Gives (exec .fclErrorEvent s) (fun t =>
        EventLatched s t n e.index e.status cls ∧ counted t ∧ t.events = [] ∧ t.rr .FCL_EVENT = s.rr .FCL_EVENT ∧
          RegsKept (eventRegs n) s t ∧ others t)) ∧
      (¬quiet → level = 1 ∨ level = 2 ∧ n ∉ [0, 1, 8, 9, 13] → Gives (exec .fclErrorEvent s) (fun t =>
        EventLatched s t n e.index e.status cls ∧ counted t ∧ t.events = [] ∧ t.rr .FCL_EVENT = Nat.lor (s.rr .FCL_EVENT) (2 ^ n) ∧
          RegsKept (eventRegs n) s t ∧ others t)) ∧
      (¬quiet → level = 2 →
        let l := if n ≤ 1 then 1 else 2
        n ∈ [0, 1, 8, 9] → s.rst.recov = [] → s.rst.queue = [] → (s.rst.stuck = []) → e.index < domCount l →
        (∀ d ∈ outerDomains l e.index, s.domState d.1 d.2 = 0) → (s.recentResets l e.index).length + 1 < s.f F.RST_CFG_REPEAT →
        Gives (exec .fclErrorEvent s) (fun t =>
          EventLatched s t n e.index e.status cls ∧ counted t ∧ t.rr .FCL_EVENT = Nat.lor (s.rr .FCL_EVENT) (2 ^ n) ∧
            t.domState l e.index = 1 ∧ t.rr (domReg l) e.index / 2 ^ 24 = 9 ∧
            t.rr .RST_RESETS = min (s.rr .RST_RESETS + 1) 0xFFFFFFFF)) ∧
      (¬quiet → level = 3 → s.f F.FCL_STAT_SAFE = 1 → n ∉ [0, 1, 8, 9, 13] → Gives (exec .fclErrorEvent s) (fun t =>
        EventLatched s t n e.index e.status cls ∧ counted t ∧ t.rr .FCL_SAFEREP = min (s.rr .FCL_SAFEREP + 1) 0xFFFFFFFF ∧
          t.rr .FCL_STAT = s.rr .FCL_STAT ∧ t.rr .FCL_PULSES = s.rr .FCL_PULSES ∧
          RegsKept ((.FCL_SAFEREP, 0) :: eventRegs n) s t ∧ others t)) ∧
      (¬quiet → level = 3 → s.f F.FCL_STAT_SAFE = 0 → n ∉ [0, 1, 8, 9, 13] → s.journal.entries.length < 98304 →
        Gives (exec .fclErrorEvent s) (fun t =>
          EventLatched s t n e.index e.status cls ∧ counted t ∧ t.rr .FCL_EVENT = Nat.lor (s.rr .FCL_EVENT) (2 ^ n) ∧
            SafeEntered s t n cls e.status false))) ∧
    (∀ e f : LineEvent, s.events = [e, f] → s.fcl.windows = false →
      let first := e.time < f.time ∨ e.time = f.time ∧ (e.line < f.line ∨ e.line = f.line ∧ e.index ≤ f.index)
      Gives (exec .fclErrorEvent s) (fun t =>
        t.events = (if first then [f] else [e]) ∧
          (if first then EventLatched s t e.line e.index e.status 0 else EventLatched s t f.line f.index f.status 0)))

/-- R608, R613, R615 to R620, R622: the end of a window; the comparison with the shadow copy, and FCL's own failure, which enters the safe state;
the end of the safe state, refused by the first status that applies; and FAULT_N, its pulse and DRIVE. -/
def FaultControl : Prop :=
  ∀ (s : State),
    let safe := s.f F.FCL_STAT_SAFE = 1
    let self := s.f F.FCL_STAT_SELF = 1
    (∀ n : Fin 31,
      (s.fcl.windows = true → n.val ≤ 18 → Gives (exec (.fclWindowEnd n) s) (fun t =>
        t.f F.FCL_WIN_COUNT n = 0 ∧
          t.f F.FCL_WIN_RUN n = (if s.f F.FCL_WIN_COUNT n < s.f F.FCL_CLS_THR n then 0 else s.f F.FCL_WIN_RUN n) ∧
          RegsKept [(.FCL_WIN, n.val)] s t ∧ { t with regs := s.regs } = s)) ∧
      (s.fcl.windows = false ∨ 18 < n.val → Gives (exec (.fclWindowEnd n) s) (fun t => t = s))) ∧
    (let differs := ∃ n < 31, s.rr .FCL_CLS n ≠ (s.shadow n).toNat
     (self ∨ ¬differs → Gives (exec (.fclSelfCheck none) s) (fun t => t = s)) ∧
      (¬self → differs → ¬safe → s.journal.entries.length < 98304 → Gives (exec (.fclSelfCheck none) s) (fun t =>
        EventLatched s t 31 0 .check 0 ∧ SafeEntered s t 31 0 .check true)) ∧
      ∀ (n : Fin 31) (v : BitVec 32), v ≠ s.shadow n → ¬self → ¬safe → s.journal.entries.length < 98304 →
        Gives (exec (.fclSelfCheck (some (n, v))) s) (fun t =>
          EventLatched s t 31 0 .check 0 ∧ SafeEntered s t 31 0 .check true ∧ t.rr .FCL_CLS n = v.toNat)) ∧
    (self → Gives (exec .fclOwnFault s) (fun t => t = s)) ∧
    (¬self → ¬safe → s.journal.entries.length < 98304 → Gives (exec .fclOwnFault s) (fun t =>
      EventLatched s t 31 0 .check 0 ∧ SafeEntered s t 31 0 .check true)) ∧
    (¬self → safe → Gives (exec .fclOwnFault s) (fun t =>
      EventLatched s t 31 0 .check 0 ∧ t.f F.FCL_STAT_SELF = 1 ∧ t.f F.FCL_STAT_SAFE = 1 ∧ t.f F.FCL_STAT_CAUSE = s.f F.FCL_STAT_CAUSE ∧
        RegsKept [(.FCL_LST, 31), (.FCL_CNT, 31), (.FCL_STAT, 0)] s t ∧ { t with regs := s.regs } = s)) ∧
    (4 ≤ s.f F.IDT_BOOT_STEP →
      let inst := Requester.steward (some .installer)
      let kept (t : State) := RegsKept ([(.FCL_SAFE, 0), (.FCL_ERR, 0)] ++ journalRegs) s t ∧
        { t with regs := s.regs, resp := s.resp, journal := s.journal } = s
      let due := s.f F.FCL_LST_LATCH (s.f F.FCL_STAT_CAUSE) = 1 ∨ s.safeDue = true
      (∀ ro, ro ≠ some Role.installer → Gives (exec (.fclSafeExit (.steward ro)) s) (fun t =>
        t.f F.FCL_SAFE_STATUS = Status.denied.code ∧ t.resp = ⟨.denied, 0⟩ ∧ t.rr .FCL_ERR = Status.denied.code ∧ kept t)) ∧
      (safe → self → Gives (exec (.fclSafeExit inst) s) (fun t =>
        t.f F.FCL_SAFE_STATUS = (if due then Status.busy.code else Status.check.code) ∧ kept t)) ∧
      (safe → ¬self → due → Gives (exec (.fclSafeExit inst) s) (fun t =>
        t.f F.FCL_SAFE_STATUS = Status.busy.code ∧ t.resp = ⟨.busy, 0⟩ ∧ kept t)) ∧
      (safe → ¬self → ¬due → Gives (exec (.fclSafeExit inst) s) (fun t =>
        t.f F.FCL_SAFE_STATUS = 0 ∧ t.resp = ⟨.ok, 0⟩ ∧ t.f F.FCL_STAT_SAFE = 0 ∧ t.f F.FCL_FAULTN_DRIVE = s.f F.FCL_FAULTN_DRIVE ∧
          t.cvn = s.cvn ∧ (∀ gb : Bool, t.mode gb = if s.mode gb = 0 then s.baseMode gb else s.mode gb))) ∧
      (∀ v : BitVec 32, 2 ≤ v.toNat % 2 ^ 8 →
        Gives (exec (.fclFaultnDriveWrite inst v) s) (fun t =>
          t.f F.FCL_FAULTN_DRIVE = v.toNat / 2 ^ 16 % 2 ∧ t.f F.FCL_FAULTN_PULSE = s.f F.FCL_FAULTN_PULSE ∧
            t.f F.FCL_FAULTN_PIN = (if s.f F.FCL_FAULTN_PULSE = 1 then 1 else v.toNat / 2 ^ 16 % 2) ∧
            t.f F.FCL_FAULTN_WIDTH = (if 10 ≤ s.f F.IDT_BOOT_STEP then s.f F.FCL_FAULTN_WIDTH else v.toNat % 2 ^ 8) ∧
            (s.f F.IDT_BOOT_STEP < 10 → t.resp = ⟨.ok, 0⟩ ∧ t.rr .FCL_SEAL_VIOLATION = s.rr .FCL_SEAL_VIOLATION) ∧
            (10 ≤ s.f F.IDT_BOOT_STEP → t.rr .FCL_SEAL_VIOLATION = min (s.rr .FCL_SEAL_VIOLATION + 1) 0xFFFFFFFF)))) ∧
    (s.f F.FCL_FAULTN_PULSE = 1 → Gives (exec .faultNPulseEnd s) (fun t =>
      t.f F.FCL_FAULTN_PULSE = 0 ∧ t.f F.FCL_FAULTN_PIN = s.f F.FCL_FAULTN_DRIVE ∧ RegsKept [(.FCL_FAULTN, 0)] s t ∧
        { t with regs := s.regs } = s)) ∧
    (s.f F.FCL_FAULTN_PULSE = 0 → Gives (exec .faultNPulseEnd s) (fun t => t = s))

/-! ### Check-value units and performance counters -/

/-- The register of check unit `u`, the bytes of its prefix at INIT, and whether the requester may write it (R624 to R627). -/
def cvuReg (s : State) (u : Nat) : Nat := s.rr .CVU_RUN_LO u + 2 ^ 32 * s.rr .CVU_RUN_HI u
def cvuPrefix (s : State) (u : Nat) : List Byte :=
  let le := if s.f F.CVU_CTL_MODE u = 1 then leBytes 2 (s.f F.CVU_ALIVE_VALUE u)
    else if s.f F.CVU_CTL_MODE u = 2 then leBytes 8 (s.pair .CVU_FOLD_LO .CVU_FOLD_HI u) else []
  if s.f F.CVU_CTL_BE u = 1 then le.reverse else le

/-- What reaches no register but those of a list, the answer and the held words of pairs. -/
def RegisterOnly (l : List (Reg × Nat)) (s t : State) : Prop :=
  RegsKept l s t ∧ { t with regs := s.regs, resp := s.resp, pairs := s.pairs } = s

/-- R624 to R639: the check units. A core that writes the steward's unit is refused with DENIED, and any write but to the events during a scan
with BUSY. INIT loads the initial value and feeds the prefix of the mode; a feed write feeds its bytes least significant first; a write of CVU_RUN
sets it; a scan is refused, or completes at once on a length of zero, or begins; its end gives the bytes fed and the outcome. -/
def CheckUnits : Prop :=
  ∀ (s : State) (rq : Requester) (u : Fin 16), MayAct s rq →
    let core := ∃ c, rq = .core c
    let own := u.val = 15 ∧ core
    let busy := s.f F.CVU_CMD_BUSY u = 1
    let alg := cvuAlg u
    let runs : List (Reg × Nat) := [(.CVU_RUN_LO, u.val), (.CVU_RUN_HI, u.val)]
    let fed (r : Nat) (bs : List Byte) := bs.foldl (crcFeed alg) r
    let ends : List (Reg × Nat) := [(.CVU_CMD, u.val), (.CVU_EVENT, u.val), (.CVU_SCAN_DONE, u.val)]
    (∀ v : BitVec 32, ∀ c ∈ [Instr.cvuInit rq u, .cvuFeed8 rq u v, .cvuFeed16 rq u v, .cvuFeed32 rq u v, .cvuRunWrite rq u v],
      own ∨ busy → Gives (exec c s) (fun t =>
        (own → t.rr .CVU_ERR = Status.denied.code ∧ t.resp = ⟨.denied, 0⟩) ∧
          (¬own → t.rr .CVU_ERR = Status.busy.code ∧ t.resp = ⟨.busy, 0⟩) ∧ RegisterOnly [(.CVU_ERR, 0)] s t)) ∧
    (¬own → ¬busy →
      Gives (exec (.cvuInit rq u) s) (fun t =>
        cvuReg t u = fed (crcInit alg) (cvuPrefix s u) % 2 ^ cvuWidth u ∧
          t.f F.CVU_ALIVE_VALUE u = (if s.f F.CVU_CTL_MODE u = 1 then (s.f F.CVU_ALIVE_VALUE u + 1) % 2 ^ 16 else s.f F.CVU_ALIVE_VALUE u) ∧
          t.resp = ⟨.ok, 0⟩ ∧ RegisterOnly ((.CVU_ALIVE, u.val) :: runs) s t) ∧
      (∀ v : BitVec 32,
        Gives (exec (.cvuFeed8 rq u v) s) (fun t =>
          cvuReg t u = fed (cvuReg s u) (leBytes 1 v.toNat) % 2 ^ cvuWidth u ∧ t.resp = ⟨.ok, 0⟩ ∧ RegisterOnly ((.CVU_FEED8, u.val) :: runs) s t) ∧
        Gives (exec (.cvuFeed16 rq u v) s) (fun t =>
          cvuReg t u = fed (cvuReg s u) (leBytes 2 v.toNat) % 2 ^ cvuWidth u ∧ t.resp = ⟨.ok, 0⟩ ∧ RegisterOnly ((.CVU_FEED16, u.val) :: runs) s t) ∧
        Gives (exec (.cvuFeed32 rq u v) s) (fun t =>
          cvuReg t u = fed (cvuReg s u) (leBytes 4 v.toNat) % 2 ^ cvuWidth u ∧ t.resp = ⟨.ok, 0⟩ ∧ RegisterOnly ((.CVU_FEED32, u.val) :: runs) s t) ∧
        Gives (exec (.cvuRunWrite rq u v) s) (fun t =>
          let low := ((s.held rq (Reg.CVU_RUN_LO.key u)).getD (s.rr .CVU_RUN_LO u)) % 2 ^ 32
          cvuReg t u = (low + 2 ^ 32 * v.toNat) % 2 ^ cvuWidth u ∧ t.resp = ⟨.ok, 0⟩ ∧ RegisterOnly runs s t))) ∧
    (∀ init,
      let a := s.pair .CVU_SCAN_ADDR_LO .CVU_SCAN_ADDR_HI u
      let n := s.rr .CVU_SCAN_LEN u
      let starts := if init then fed (crcInit alg) (cvuPrefix s u) % 2 ^ cvuWidth u else cvuReg s u
      (busy → Gives (exec (.cvuScan rq u init) s) (fun t =>
        t.rr .CVU_ERR = (if own then Status.denied.code else Status.busy.code) ∧ RegisterOnly [(.CVU_ERR, 0)] s t)) ∧
      (¬busy → own → Gives (exec (.cvuScan rq u init) s) (fun t =>
        t.f F.CVU_CMD_STATUS u = Status.denied.code ∧ t.rr .CVU_EVENT u = Nat.lor (s.rr .CVU_EVENT u) 3 ∧ cvuReg t u = cvuReg s u ∧
          RegisterOnly ((.CVU_ERR, 0) :: ends) s t)) ∧
      (¬busy → ¬own → n ≠ 0 → s.placeFenced (placeOf a) = true → Gives (exec (.cvuScan rq u init) s) (fun t =>
        t.f F.CVU_CMD_STATUS u = Status.fenced.code ∧ t.rr .CVU_EVENT u = Nat.lor (s.rr .CVU_EVENT u) 3 ∧ cvuReg t u = cvuReg s u ∧
          RegisterOnly ends s t)) ∧
      (¬busy → ¬own → n ≠ 0 → a < memEnd → memEnd < a + n → Gives (exec (.cvuScan rq u init) s) (fun t =>
        t.f F.CVU_CMD_STATUS u = Status.bounds.code ∧ t.rr .CVU_EVENT u = Nat.lor (s.rr .CVU_EVENT u) 3 ∧ cvuReg t u = cvuReg s u ∧
          RegisterOnly ends s t)) ∧
      (¬busy → ¬own → n = 0 → s.f F.CVU_CTL_MODE u ≠ 2 → Gives (exec (.cvuScan rq u init) s) (fun t =>
        t.f F.CVU_CMD_STATUS u = 0 ∧ t.f F.CVU_CMD_BUSY u = 0 ∧ t.rr .CVU_EVENT u = Nat.lor (s.rr .CVU_EVENT u) 1 ∧
          t.rr .CVU_SCAN_DONE u = 0 ∧ cvuReg t u = starts ∧ RegisterOnly ((.CVU_ALIVE, u.val) :: runs ++ ends) s t)) ∧
      (¬busy → ¬own → n ≠ 0 → a + n ≤ memEnd → s.f F.CVU_CTL_MODE u ≠ 2 → Gives (exec (.cvuScan rq u init) s) (fun t =>
        t.f F.CVU_CMD_BUSY u = 1 ∧ t.rr .CVU_SCAN_DONE u = 0 ∧ cvuReg t u = starts ∧ t.resp = ⟨.ok, 0⟩ ∧
          t.rr .CVU_EVENT u = s.rr .CVU_EVENT u ∧ RegisterOnly ((.CVU_ALIVE, u.val) :: runs ++ ends) s t)) ∧
      (¬busy → ¬own → n ≠ 0 → a + n ≤ memEnd → s.f F.CVU_CTL_MODE u = 2 → init = true → Gives (exec (.cvuScan rq u init) s) (fun t =>
        t.f F.CVU_CMD_BUSY u = 1 ∧ t.pair .CVU_FOLD_LO .CVU_FOLD_HI u = a ∧
          cvuReg t u = fed (crcInit alg) (if s.f F.CVU_CTL_BE u = 1 then (leBytes 8 a).reverse else leBytes 8 a) % 2 ^ cvuWidth u))) ∧
    (∀ q, ¬busy → Gives (exec (.cvuScanEnd u q) s) (fun t => t = s)) ∧
    (busy →
      let a := s.pair .CVU_SCAN_ADDR_LO .CVU_SCAN_ADDR_HI u
      let n := s.rr .CVU_SCAN_LEN u
      let bs := s.bytes a n
      let result := fed (cvuReg s u) bs % 2 ^ cvuWidth u
      let differs := s.f F.CVU_CTL_EXP_EN u = 1 ∧ Nat.xor result (crcXor alg) ≠ s.pair .CVU_EXPECT_LO .CVU_EXPECT_HI u % 2 ^ cvuWidth u
      let ended (t : State) := t.f F.CVU_CMD_BUSY u = 0 ∧ RegsKeptPrf (runs ++ ends) s t ∧ t.mem = s.mem
      cvuReg s u < 2 ^ cvuWidth u → 0 < n → a + n ≤ memEnd →
        (CleanAt s a n → Gives (exec (.cvuScanEnd u none) s) (fun t =>
          t.rr .CVU_SCAN_DONE u = n ∧ cvuReg t u = result ∧ ended t ∧
            (differs → t.f F.CVU_CMD_STATUS u = Status.check.code ∧ t.rr .CVU_EVENT u = Nat.lor (s.rr .CVU_EVENT u) 3) ∧
            (¬differs → t.f F.CVU_CMD_STATUS u = 0 ∧ t.rr .CVU_EVENT u = Nat.lor (s.rr .CVU_EVENT u) 1))) ∧
        (s.poisoned (a / 64) = true → s.latentAt (a / 64) = none → s.channelFailed (s.channelOf (a / 64 * 64)) = false →
          Gives (exec (.cvuScanEnd u none) s) (fun t =>
            t.f F.CVU_CMD_STATUS u = Status.poison.code ∧ t.f F.CVU_CMD_BUSY u = 0 ∧ t.rr .CVU_SCAN_DONE u = 0 ∧ cvuReg t u = cvuReg s u ∧
              RegsKeptPrf ((.MEM_CH_POISRD, s.channelOf (a / 64 * 64)) :: runs ++ ends) s t ∧ t.mem = s.mem ∧
              t.rr .CVU_EVENT u = Nat.lor (s.rr .CVU_EVENT u) 3)) ∧
        Gives (exec (.cvuScanEnd u (some 0)) s) (fun t =>
          t.f F.CVU_CMD_STATUS u = Status.timeout.code ∧ t.rr .CVU_SCAN_DONE u = 0 ∧ cvuReg t u = cvuReg s u ∧ ended t ∧
            t.rr .CVU_EVENT u = Nat.lor (s.rr .CVU_EVENT u) 3))

/-- The bytes 0x31 to 0x39. -/
def nineDigits : List Byte := (List.range 9).map fun k => BitVec.ofNat 8 (0x31 + k)

/-- A tally's record at `a`: the header of R660 and the selected groups. -/
def TallyAt (s t : State) (a groups : Nat) : Prop :=
  t.bytes a 14 = leBytes 8 s.tmb.ptime.toNat ++ leBytes 4 s.prf.tallyNo.toNat ++ leBytes 1 groups ++ leBytes 1 (s.f F.PRF_CTL_FREEZE) ∧
    (groups.testBit 0 = true → ∀ j < 32, leNat (t.bytes (a + 64 + 4 * j) 4) = s.rr .PRF_CNT j) ∧
    (groups = 4 → ∀ j < 3072, leNat (t.bytes (a + 64 + 4 * j) 4) = s.rr .PRF_TCNT j)

/-- R655 to R661: PRF's readers. A tally writes its record into the ring, or is counted lost when the ring is full; the end of a bandwidth window
shows its counts; an outrider that completes leaves its record; setting EN loads every tile's generator with the seed. -/
def Counters : Prop :=
  ∀ (s : State) (rq : Requester), MayAct s rq →
    let w := s.rr .PRF_TALLY_WR
    let base := s.pair .PRF_TALLY_BASE_LO .PRF_TALLY_BASE_HI
    let wraps (x : Nat) := (x + 1) % 2 ^ 32
    (s.f F.PRF_TALLY_CTL_EN = 0 ∨ s.rr .PRF_TALLY_PER = 0 → Gives (exec .tallyPeriodic s) (fun t => t = s)) ∧
    (s.f F.PRF_TALLY_CTL_EN = 1 → s.rr .PRF_TALLY_PER ≠ 0 → s.prf.lastTally ≠ some (s.tmb.ptime.toNat, false) →
      let n := 2 ^ s.f F.PRF_TALLY_CTL_ORDER
      let a := base + 16384 * (w % n)
      let full := n ≤ (w + 2 ^ 32 - s.rr .PRF_TALLY_RD) % 2 ^ 32
      (full → Gives (exec .tallyPeriodic s) (fun t =>
        t.rr .PRF_TALLY_LOST = min (s.rr .PRF_TALLY_LOST + 1) 0xFFFFFFFF ∧ t.rr .PRF_EVENT = Nat.lor (s.rr .PRF_EVENT) 4 ∧
          t.prf.tallyNo = s.prf.tallyNo + 1 ∧ RegsKept [(.PRF_TALLY_LOST, 0), (.PRF_EVENT, 0)] s t ∧ t.mem = s.mem)) ∧
      (¬full → a + 16384 ≤ memEnd → CleanAt s a 16384 → Gives (exec .tallyPeriodic s) (fun t =>
        TallyAt s t a (s.f F.PRF_TALLY_CTL_GROUPS) ∧ t.rr .PRF_TALLY_WR = wraps w ∧ t.f F.PRF_EVENT_EVENTS = Nat.lor (s.f F.PRF_EVENT_EVENTS) 2 ∧
          t.prf.tallyNo = s.prf.tallyNo + 1 ∧ ∀ b, b < a ∨ a + 16384 ≤ b → t.byte b = s.byte b))) ∧
    (∀ v : BitVec 32,
      let order := v.toNat % 16
      let groups := v.toNat / 2 ^ 27 % 8
      let n := 2 ^ order
      let a := base + 16384 * (w % n)
      let legal := 2 ≤ order ∧ order ≤ 12 ∧ base + 16384 * n ≤ memEnd
      (¬legal ∨ base = 0 ∧ v.toNat / 2 ^ 31 = 0 → Gives (exec (.tallyNow rq v) s) (fun t =>
        t.resp = ⟨.bounds, 0⟩ ∧ t.rr .PRF_ERR = Status.bounds.code ∧ t.rr .PRF_TALLY_CTL % 2 ^ 30 = s.rr .PRF_TALLY_CTL % 2 ^ 30 ∧ t.mem = s.mem ∧
          t.prf = s.prf)) ∧
      (legal → base ≠ 0 → (w + 2 ^ 32 - s.rr .PRF_TALLY_RD) % 2 ^ 32 < n → CleanAt s a 16384 →
        s.prf.lastTally ≠ some (s.tmb.ptime.toNat, true) →
        Gives (exec (.tallyNow rq v) s) (fun t =>
          TallyAt s t a groups ∧ t.rr .PRF_TALLY_WR = wraps w ∧ t.f F.PRF_TALLY_CTL_EN = v.toNat / 2 ^ 31 ∧ t.f F.PRF_TALLY_CTL_NOW = 0 ∧
            t.f F.PRF_TALLY_CTL_GROUPS = groups ∧ t.f F.PRF_TALLY_CTL_ORDER = order ∧ t.resp = ⟨.ok, 0⟩ ∧
            ∀ b, b < a ∨ a + 16384 ≤ b → t.byte b = s.byte b))) ∧
    (s.f F.PRF_BWCTL_EN = 0 ∨ s.f F.PRF_CTL_FREEZE = 1 → Gives (exec .bwWindowEnd s) (fun t => t = s)) ∧
    (s.f F.PRF_BWCTL_EN = 1 → s.f F.PRF_CTL_FREEZE = 0 → Gives (exec .bwWindowEnd s) (fun t =>
      (∀ j < 56, t.rr .PRF_BW j = SMap.get (fun _ => 0) s.prf.bw j % 2 ^ 32) ∧ t.rr .PRF_BW_SEQ = wraps (s.rr .PRF_BW_SEQ) ∧ t.prf.bw = [] ∧
        t.f F.PRF_EVENT_EVENTS = Nat.lor (s.f F.PRF_EVENT_EVENTS) 8 ∧
        RegsKept ([(.PRF_BW_SEQ, 0), (.PRF_EVENT, 0)] ++ (List.range 56).map fun j => (.PRF_BW, j)) s t ∧
        { t with regs := s.regs, prf := s.prf } = s)) ∧
    (∀ (n : Fin 768) (fetch engine run : BitVec 32) (poison conflict : Bool),
      let x := s.outGen n
      (x.tagged = none → Gives (exec (.outriderComplete n fetch engine run poison conflict) s) (fun t => t = s)) ∧
      (∀ o, x.tagged = some o →
        let ow := s.rr .PRF_OUT_WR
        let size := 2 ^ s.f F.PRF_OUT_CTL_ORDER
        let a := s.pair .PRF_OUT_BASE_LO .PRF_OUT_BASE_HI + 32 * (ow % size)
        let full := size ≤ (ow + 2 ^ 32 - s.rr .PRF_OUT_RD) % 2 ^ 32
        let flags : BitVec 8 := o.flags ||| (if poison then 2 else 0) ||| (if conflict then 8 else 0)
        (full → Gives (exec (.outriderComplete n fetch engine run poison conflict) s) (fun t =>
          (t.outGen n).tagged = none ∧ t.rr .PRF_OUT_LOST = min (s.rr .PRF_OUT_LOST + 1) 0xFFFFFFFF ∧
            t.f F.PRF_EVENT_EVENTS = Nat.lor (s.f F.PRF_EVENT_EVENTS) 4 ∧ t.mem = s.mem)) ∧
        (¬full → a + 32 ≤ memEnd → CleanAt s a 32 → Gives (exec (.outriderComplete n fetch engine run poison conflict) s) (fun t =>
          (t.outGen n).tagged = none ∧ (t.outGen n).gen = x.gen ∧ t.rr .PRF_OUT_WR = wraps ow ∧
            t.bytes a 32 = leBytes 8 o.issued.toNat ++ leBytes 2 n.val ++ leBytes 2 o.handle.toNat ++ leBytes 2 o.pc.toNat ++
              [o.clsOpc, flags] ++ leBytes 4 fetch.toNat ++ leBytes 4 (if o.clsOpc.toNat < 16 then 0 else engine.toNat) ++
              leBytes 4 run.toNat ++ leBytes 2 o.station ++ leBytes 2 0 ∧
            (∀ b, b < a ∨ a + 32 ≤ b → t.byte b = s.byte b))))) ∧
    (∀ v : BitVec 32,
      let order := v.toNat / 2 ^ 8 % 16
      let nn := v.toNat % 32
      let legal := 2 ≤ order ∧ order ≤ 12 ∧ 4 ≤ nn ∧ nn ≤ 20 ∧ s.pair .PRF_OUT_BASE_LO .PRF_OUT_BASE_HI + 32 * 2 ^ order ≤ memEnd
      (¬legal → Gives (exec (.prfOutEnable rq v) s) (fun t =>
        t.resp = ⟨.bounds, 0⟩ ∧ t.rr .PRF_ERR = Status.bounds.code ∧ RegsKept [(.PRF_ERR, 0)] s t ∧ t.prf = s.prf)) ∧
      (legal → Gives (exec (.prfOutEnable rq v) s) (fun t =>
        t.f F.PRF_OUT_CTL_EN = 1 ∧ t.f F.PRF_OUT_CTL_ORDER = order ∧ t.f F.PRF_OUT_CTL_N = nn ∧ t.resp = ⟨.ok, 0⟩ ∧
          RegsKept [(.PRF_OUT_CTL, 0)] s t ∧
          (s.f F.PRF_OUT_CTL_EN = 0 → ∀ n < 768,
            (t.outGen n).gen = BitVec.ofNat 64 (s.rr .PRF_OUT_SEED) ^^^ BitVec.ofNat 64 n ∧ (t.outGen n).tagged = (s.outGen n).tagged) ∧
          (s.f F.PRF_OUT_CTL_EN = 1 → t.prf = s.prf))))

/-- R623: the check value of each algorithm over the bytes 0x31 to 0x39, and CRC-32C as R628 feeds it. -/
def CheckValues : Prop :=
  crc 0 nineDigits = 0xE3069283 ∧ crc 1 nineDigits = 0xCBF43926 ∧ crc 2 nineDigits = 0x995DC9BBDF1939FA ∧ crc 3 nineDigits = 0x29B1 ∧
    crc 4 nineDigits = 0xDF

/-! ### Sessions, attestation, settings, images and activation -/

/-- R668, R671, R684: a message of port 47603 that is heard, by the steward firmware or by the resident loader, with its CRC and this TYPE. -/
def Heard (s : State) (m : List Byte) (type : Nat) : Prop :=
  (s.firmwareUp = true ∨ s.loaderMode = true) ∧ msgCrcOk m = true ∧ msgType m = type

/-- R330, R668: the header and length of a message of `len` bytes. -/
def Formed (s : State) (m : List Byte) (len : Nat) : Prop :=
  m.length = len ∧ msgLength m = len ∧ msgAlive m = 0 ∧ beAt m 0 2 = 0x4A4D ∧ beAt m 2 1 = 1 ∧ msgTarget m = s.ownTarget

/-- R672: a message whose TAG verifies with the key of the peer's session, and one whose SEQ is greater than the last accepted. -/
def TagGood (x : Session) (m : List Byte) : Prop := msgTag m = tagOf x.key (m.take (m.length - 20))
def Newer (x : Session) (m : List Byte) : Prop := (x.lastSeq.all fun q => decide (q.toNat < msgSeq m)) = true

/-- A request of the peer's session `x` that passes what R672 asks of every message, with its TYPE and length. -/
def Admitted (s : State) (x : Session) (peer : Nat) (m : List Byte) (type len : Nat) : Prop :=
  Heard s m type ∧ s.sessionOf peer = some x ∧ TagGood x m ∧ Newer x m ∧ Formed s m len

/-- R668: the ANSWER sent last, with its STATUS and its data, TAG 0 where there is no key. -/
def Answered (t : State) (peer : Nat) (m : List Byte) (st : Status) (key : Option (List Byte)) (data : List Byte) : Prop :=
  t.out.head? = some (.mgmt 47603 peer (sealMsg key
    (t.msgHeader 0x4A4D 0x90 (msgSeq m) 0 (48 + data.length) ++ [BitVec.ofNat 8 st.code, 0#8, 0#8, 0#8] ++ data)))

/-- A request refused: the ANSWER tells why, and nothing else changes. -/
def TurnedAway (s t : State) (x : Session) (peer : Nat) (m : List Byte) (st : Status) : Prop :=
  { t with out := s.out } = s ∧ Answered t peer m st (some x.key) []

/-- A request accepted: its SEQ is the session's last. -/
def TookMessage (t : State) (x : Session) (peer : Nat) (m : List Byte) (data : List Byte) : Prop :=
  Answered t peer m .ok (some x.key) data ∧ t.sessionOf peer = some { x with lastSeq := some (BitVec.ofNat 32 (msgSeq m)) }

/-- R671, R692: a session has closed, and the lock has gone with it unless its activation runs. -/
def Closed (s t : State) (x : Session) : Prop :=
  t.sec.sessions = s.sec.sessions.filter (fun y => y.ix != x.ix) ∧ t.sec.activation = s.sec.activation ∧ t.sec.shakes = s.sec.shakes ∧
    t.f F.SEC_STAT_LOCK = (if s.f F.SEC_STAT_LOCK = x.ix ∧ s.sec.activation = none then 0xFF else s.f F.SEC_STAT_LOCK) ∧
    RegsKept ((.SEC_STAT, 0) :: journalRegs) s t ∧ { t with regs := s.regs, sec := s.sec, journal := s.journal, out := s.out } = s

/-- What a request of this TYPE meets before its own rules; `o` is what it answers. -/
def Gate (s : State) (peer : Nat) (m : List Byte) (type : Nat) (o : Host.Outcome State Fault Refusal) : Prop :=
    (¬Heard s m type → Gives o (fun t => t = s)) ∧
    (Heard s m type → type ≠ 0x20 → s.sessionOf peer = none → Gives o (fun t =>
      { t with out := s.out } = s ∧ Answered t peer m .denied none [])) ∧
    (Heard s m type → ∀ x : Session, s.sessionOf peer = some x →
      (¬TagGood x m → Gives o (fun t =>
        t.rr .SEC_BADTAG = min (s.rr .SEC_BADTAG + 1) 0xFFFFFFFF ∧ RegsKept [(.SEC_BADTAG, 0)] s t ∧ { t with regs := s.regs } = s)) ∧
      (TagGood x m → ¬Newer x m → Gives o (fun t =>
        { t with out := s.out } = s ∧ (Answered t peer m .stale (some x.key) [] ∨ Answered t peer m .denied (some x.key) []))))

/-- R672: what every request passes first. One that is not heard is lost; one with a wrong TAG is counted in SEC_BADTAG; one whose SEQ is
not greater than the last accepted is refused with STALE, unless DENIED applies before it; one of a party that has no session is refused
with DENIED and TAG 0, which is the model's choice (log 60), as is the answer's SEQ. -/
def RequestGate : Prop :=
  ∀ (s : State) (peer : Nat) (m : List Byte),
    Gate s peer m 0x13 (exec (.sessionClose peer m) s) ∧ Gate s peer m 0x20 (exec (.attest peer m) s) ∧
    Gate s peer m 0x21 (exec (.setting peer m) s) ∧ Gate s peer m 0x22 (exec (.fulltrain peer m) s) ∧
    Gate s peer m 0x23 (exec (.journalRead peer m) s) ∧ Gate s peer m 0x24 (exec (.regwrite peer m) s) ∧
    Gate s peer m 0x25 (exec (.fieldclr peer m) s) ∧ Gate s peer m 0x30 (exec (.imageBegin peer m) s) ∧
    Gate s peer m 0x31 (exec (.imageChunk peer m) s) ∧ Gate s peer m 0x32 (exec (.imageEnd peer m) s) ∧
    Gate s peer m 0x33 (exec (.activate peer m) s) ∧ Gate s peer m 0x34 (exec (.imageAbort peer m) s)

/-- The message sent last over the management link, and the part of it in which an attestation report follows its STATUS. -/
def sentLast (t : State) : List Byte :=
  match t.out with
  | .mgmt _ _ b :: _ => b
  | _ => []
def report (t : State) : List Byte := slice (sentLast t) 28 452

/-- R669: a session key, from the ephemeral shared point and both nonces; the point is the engine's own, and nothing is said of its value. -/
def SessionKey (key nonce nonceP : List Byte) : Prop :=
  ∃ z : List Byte, z.length = 64 ∧ key = (sm3 (z ++ nonce ++ nonceP ++ beBytes 4 1)).take 16

/-- R668 to R671: an OPEN that asks nothing, one that is accepted and starts a handshake, and one that is refused; a CONFIRM that opens the
session, one that comes too late or without a REPLY, and one that is refused; CLOSE, and 600 s of silence. -/
def Sessions : Prop :=
  ∀ (s : State) (peer : Nat) (m : List Byte),
    (¬Heard s m 0x10 → Gives (exec (.sessionOpen peer m) s) (fun t => t = s)) ∧
    (¬Heard s m 0x12 → Gives (exec (.sessionConfirm peer m) s) (fun t => t = s)) ∧
    (let n := beAt m 26 2
     let chain := slice m 124 n
     let budget := beAt m 24 1 = 1
     let role := Config.chainRole chain (s.pair .IDT_SERIAL_LO .IDT_SERIAL_HI) (if s.locked then some s.now else none)
     let full := beAt m 24 1 = 0 ∧ 7 ≤ (s.sec.sessions.filter (fun x => !x.budget)).length
     let legal := Heard s m 0x10 ∧ Formed s m (144 + n) ∧ n ≤ 4096 ∧ beAt m 24 1 ≤ 1 ∧ 1 ≤ beAt m 25 1 ∧ beAt m 25 1 ≤ 3
     let granted := roleCode role = beAt m 25 1 ∧ (budget → beAt m 25 1 = 3 ∧ s.f F.IDT_BOOT_READY = 1)
     let answer (t : State) (st : Status) := t.out.head? = some (.mgmt 47603 peer (sealMsg none
       (t.msgHeader 0x4A4D 0x11 (msgSeq m) 0 240 ++ BitVec.ofNat 8 st.code :: List.replicate 195 0#8)))
     (legal → n = 0 → (budget → beAt m 25 1 = 3 ∧ s.f F.IDT_BOOT_READY = 1) → ¬full → s.freeIndex.isSome = true →
       Gives (exec (.sessionOpen peer m) s) (fun t => { t with out := s.out } = s ∧ answer t .ok)) ∧
     (legal → n ≠ 0 → granted → ¬full → s.freeIndex.isSome = true →
       Gives (exec (.sessionOpen peer m) s) (fun t =>
         (t.sec.shakes.head?.all fun h => decide (h.peer = peer ∧ h.budget = (beAt m 24 1 == 1) ∧ role = some h.role ∧
           h.leaf = Config.leafCert chain ∧ h.since = s.boot.elapsed ∧
           h.tHash = sm3 (slice m 24 (100 + n) ++ slice (sentLast t) 24 132) ∧ h.sig = fitBytes 64 (Config.sm2Sign h.tHash) ∧
           slice (sentLast t) 156 64 = h.sig)) = true ∧
           t.sec.shakes.tail = s.sec.shakes.filter (fun y => y.peer != peer) ∧ t.sec.shakes ≠ [] ∧
           (∀ h ∈ t.sec.shakes.take 1, SessionKey h.key (slice m 28 32) (slice (sentLast t) 28 32)) ∧
           (sentLast t).length = 240 ∧ slice (sentLast t) 24 4 = List.replicate 4 0#8 ∧
           slice (sentLast t) 124 32 = sm3 (Config.leafCert Config.deviceCert) ∧
           t.out.head? = some (.mgmt 47603 peer (sealMsg none (t.msgHeader 0x4A4D 0x11 (msgSeq m) 0 240 ++ slice (sentLast t) 24 196))) ∧
           (s.sessionOf peer = none → t.sec.sessions = s.sec.sessions) ∧
           (∀ x, s.sessionOf peer = some x → t.sec.sessions = s.sec.sessions.filter (fun y => y.ix != x.ix)))) ∧
     (legal → n ≠ 0 → ¬granted → Gives (exec (.sessionOpen peer m) s) (fun t =>
       answer t .denied ∧ t.sec = s.sec ∧ (s.firmwareUp = true → Logged s t 1) ∧ RegsKept journalRegs s t)) ∧
     (legal → n ≠ 0 → granted → full → Gives (exec (.sessionOpen peer m) s) (fun t =>
       answer t .noResource ∧ t.sec = s.sec ∧ (s.firmwareUp = true → Logged s t 1) ∧ RegsKept journalRegs s t))) ∧
    (Heard s m 0x12 → (∀ h ∈ s.sec.shakes, h.peer ≠ peer) → Gives (exec (.sessionConfirm peer m) s) (fun t => t = s)) ∧
    (∀ h : Handshake, Heard s m 0x12 → s.sec.shakes.find? (fun y => y.peer == peer) = some h →
      let left := s.sec.shakes.filter (fun y => y.peer != peer)
      let late := h.since + 1000000000 < s.boot.elapsed
      let full := h.budget = false ∧ 7 ≤ (s.sec.sessions.filter (fun x => !x.budget)).length
      let verifies := Config.sm2Verifies h.leaf (sm3 (h.tHash ++ h.sig)) (slice m 24 64) = true
      let actor := (sm3 h.leaf).take 16
      let opened (t : State) (others : List Session) :=
        Answered t peer m .ok (some h.key) [] ∧ t.sec.shakes = left ∧ t.sec.sessions.tail = others ∧
          (t.sec.sessions.head?.all fun x => decide (x.ix < 8 ∧ x = ⟨x.ix, h.budget, h.role, h.peer, h.key, actor, none⟩ ∧
            ∀ y ∈ others, y.ix ≠ x.ix)) = true ∧ t.sec.sessions ≠ []
      (late → Gives (exec (.sessionConfirm peer m) s) (fun t => t = { s with sec := { s.sec with shakes := left } })) ∧
      (¬late → Formed s m 108 → ¬verifies → Gives (exec (.sessionConfirm peer m) s) (fun t =>
        Answered t peer m .denied none [] ∧ t.sec = { s.sec with shakes := left } ∧ (s.firmwareUp = true → Logged s t 1) ∧
          RegsKept journalRegs s t)) ∧
      (¬late → Formed s m 108 → verifies → full → Gives (exec (.sessionConfirm peer m) s) (fun t =>
        Answered t peer m .noResource none [] ∧ t.sec = { s.sec with shakes := left } ∧ (s.firmwareUp = true → Logged s t 1))) ∧
      (¬late → Formed s m 108 → verifies → ¬full → s.freeIndex.isSome = true → h.budget = false →
        Gives (exec (.sessionConfirm peer m) s) (fun t =>
          opened t s.sec.sessions ∧ (s.firmwareUp = true → Logged s t 1) ∧ RegsKept journalRegs s t)) ∧
      (¬late → Formed s m 108 → verifies → s.freeIndex.isSome = true → h.budget = true →
        Gives (exec (.sessionConfirm peer m) s) (fun t =>
          (∀ gb : Bool, (t.gov gb).accepted = false) ∧
            (s.budgetSession = none → opened t s.sec.sessions) ∧
            ∀ x, s.budgetSession = some x → opened t (s.sec.sessions.filter (fun y => y.ix != x.ix))))) ∧
    (∀ x : Session, Admitted s x peer m 0x13 44 → Gives (exec (.sessionClose peer m) s) (fun t =>
      Closed s t x ∧ Answered t peer m .ok (some x.key) [])) ∧
    (s.sessionOf peer = none → Gives (exec (.sessionTimeout peer) s) (fun t => t = s)) ∧
    (∀ x : Session, s.sessionOf peer = some x → Gives (exec (.sessionTimeout peer) s) (fun t => Closed s t x ∧ t.out = s.out))

/-- R675: the bytes from 28 on of an attestation report. -/
def Reports (s : State) (nonce r : List Byte) : Prop :=
  r.length = 452 ∧ slice r 0 32 = nonce ∧ beAt r 32 8 = s.pair .IDT_SERIAL_LO .IDT_SERIAL_HI ∧ beAt r 40 4 = s.rr .IDT_PART ∧
    (∀ k < 7, beAt r (44 + 4 * k) 4 = s.loadedField k 12 4 ∧
      beAt r (72 + k) 1 = s.rr .SEC_SVN (k / 4) / 2 ^ (8 * (k % 4)) % 2 ^ 8) ∧ beAt r 79 1 = 0 ∧
    (∀ w < 64, beAt r (80 + 4 * w) 4 = s.rr .SEC_MEAS w) ∧ beAt r 336 8 = s.pair .JNL_HEAD_LO .JNL_HEAD_HI ∧
    slice r 344 32 = s.journal.chain ∧ beAt r 376 8 = s.tmb.ptime.toNat ∧ beAt r 384 1 = s.f F.TMB_STATUS_SYNC ∧
    beAt r 385 1 = s.mode s.activeB ∧ beAt r 386 1 = s.f F.FCL_STAT_SAFE ∧ beAt r 387 1 = 0 ∧
    slice r 388 64 = fitBytes 64 (Config.sm2Sign ([0#8, 0#8, 0#8, 0#8] ++ slice r 0 388))

/-- R673, R675, R677: ATTEST inside a session, and outside, where at most 10 are answered in a second; JOURNAL_READ. -/
def Attestation : Prop :=
  ∀ (s : State) (peer : Nat) (m : List Byte), s.journal.chain.length = 32 →
    (∀ x : Session, Admitted s x peer m 0x20 76 → Gives (exec (.attest peer m) s) (fun t =>
      Reports s (slice m 24 32) (report t) ∧ TookMessage t x peer m (report t) ∧ { t with sec := s.sec, out := s.out } = s)) ∧
    (s.sessionOf peer = none → Heard s m 0x20 →
      let second := s.boot.elapsed / 1000000000
      let n := if s.sec.attestSec = second then s.sec.attests else 0
      (10 ≤ n → Gives (exec (.attest peer m) s) (fun t => t = s)) ∧
      (n < 10 → Formed s m 76 → Gives (exec (.attest peer m) s) (fun t =>
        Reports s (slice m 24 32) (report t) ∧ Answered t peer m .ok none (report t) ∧ t.sec = { s.sec with attests := n + 1, attestSec := second } ∧
          { t with sec := s.sec, out := s.out } = s))) ∧
    (∀ x : Session, Admitted s x peer m 0x23 53 →
      let start := beAt m 24 8
      let n := beAt m 32 1
      let tail := s.pair .JNL_TAIL_LO .JNL_TAIL_HI
      let head := s.pair .JNL_HEAD_LO .JNL_HEAD_HI
      let may := x.role = .installer ∧ s.loaderMode = false
      (¬may → Gives (exec (.journalRead peer m) s) (fun t => TurnedAway s t x peer m .denied)) ∧
      (may → n ≠ 0 → start < tail → Gives (exec (.journalRead peer m) s) (fun t => TurnedAway s t x peer m .stale)) ∧
      (may → n ≠ 0 → tail ≤ start → head < start + n ∨ 32 < n →
        Gives (exec (.journalRead peer m) s) (fun t => TurnedAway s t x peer m .bounds)) ∧
      (may → n ≤ 32 → n ≠ 0 → tail ≤ start → start + n ≤ head → Gives (exec (.journalRead peer m) s) (fun t =>
        TookMessage t x peer m ((s.journal.entries.reverse.drop (start - tail)).take n).flatten ∧
          { t with sec := s.sec, out := s.out } = s)) ∧
      (may → n = 0 → Gives (exec (.journalRead peer m) s) (fun t =>
        TookMessage t x peer m [] ∧ { t with sec := s.sec, out := s.out } = s)))

/-- R691: no maintenance activity runs, and no other session holds the lock. -/
def MaintFree (s : State) (x : Session) : Prop :=
  (s.f F.SEC_STAT_LOCK = 0xFF ∨ s.f F.SEC_STAT_LOCK = x.ix) ∧ s.metering.acc = none ∧ s.sec.receiving = none ∧ s.sec.activation = none

/-- R691: the lock is this session's. -/
def Locked (s t : State) (x : Session) : Prop :=
  t.f F.SEC_STAT_LOCK = (if s.f F.SEC_STAT_LOCK = 0xFF then x.ix % 256 else s.f F.SEC_STAT_LOCK)

/-- Only SEC, the journal and what is sent have changed. -/
def SecOnly (s t : State) (l : List (Reg × Nat)) : Prop :=
  RegsKept ((.SEC_STAT, 0) :: l ++ journalRegs) s t ∧ { t with regs := s.regs, sec := s.sec, journal := s.journal, out := s.out } = s

/-- R673, R667, R691: SETTING stores the sealed fields that the role may write and leaves the register as it is; REGWRITE writes a live
register as the steward's own write does; FULLTRAIN and FIELDCLR. Each is refused by the first status that applies. -/
def SettingsAndWrites : Prop :=
  ∀ (s : State) (peer : Nat) (m : List Byte) (x : Session),
    let a := beAt m 24 4
    let v := beAt m 28 4
    let runs := s.loaderMode = false
    (Admitted s x peer m 0x21 52 →
      (∀ (r : Reg) (i : Nat), registerAt a = some (r, i) →
        let own := (sealedFields r).filter (fieldOpen x.role)
        (sealedFields r = [] → runs → Gives (exec (.setting peer m) s) (fun t => TurnedAway s t x peer m .bounds)) ∧
        (sealedFields r ≠ [] → own = [] → Gives (exec (.setting peer m) s) (fun t => TurnedAway s t x peer m .denied)) ∧
        (own ≠ [] → runs → ¬MaintFree s x → Gives (exec (.setting peer m) s) (fun t => TurnedAway s t x peer m .busy)) ∧
        (own ≠ [] → runs → MaintFree s x → Gives (exec (.setting peer m) s) (fun t =>
          TookMessage t x peer m [] ∧ Locked s t x ∧ SecOnly s t [] ∧
            t.sec.settings = SMap.put s.sec.settings (r.key i) (BitVec.ofNat 32 (t.setting r i)) ∧
            (∀ f ∈ sealedFields r, bits (t.setting r i) f.hi f.lo =
              if fieldOpen x.role f then bits v f.hi f.lo else bits (s.setting r i) f.hi f.lo) ∧
            (s.firmwareUp = true → Logged s t (if s.f F.SEC_STAT_LOCK = 0xFF then 2 else 1))))) ∧
      (registerAt a = none → runs → Gives (exec (.setting peer m) s) (fun t => TurnedAway s t x peer m .bounds))) ∧
    (Admitted s x peer m 0x24 52 →
      (∀ (r : Reg) (i : Nat), registerAt a = some (r, i) →
        let own := (liveFields r).filter (fieldOpen x.role)
        (liveFields r = [] → runs → Gives (exec (.regwrite peer m) s) (fun t => TurnedAway s t x peer m .bounds)) ∧
        (liveFields r ≠ [] → own = [] → Gives (exec (.regwrite peer m) s) (fun t => TurnedAway s t x peer m .denied)) ∧
        (own ≠ [] → runs → r ≠ .MTR_ACC_CTL →
          Gives (exec (.registerWrite (.steward (some x.role)) a 4 (BitVec.ofNat 32 v)) s) (fun u =>
            Gives (exec (.regwrite peer m) s) (fun t =>
              Answered t peer m u.resp.status (some x.key) [] ∧ t.rr r i = u.rr r i ∧ RegsKept journalRegs u t ∧ t.resp = u.resp ∧
                t.mem = u.mem ∧ t.tiles = u.tiles ∧ t.cvn = u.cvn ∧ t.ost = u.ost)))) ∧
      (registerAt a = none → runs → Gives (exec (.regwrite peer m) s) (fun t => TurnedAway s t x peer m .bounds))) ∧
    (Admitted s x peer m 0x22 44 →
      let may := x.role = .installer ∧ runs
      (¬may → Gives (exec (.fulltrain peer m) s) (fun t => TurnedAway s t x peer m .denied)) ∧
      (may → ¬MaintFree s x → Gives (exec (.fulltrain peer m) s) (fun t => TurnedAway s t x peer m .busy)) ∧
      (may → MaintFree s x → Gives (exec (.fulltrain peer m) s) (fun t =>
        TookMessage t x peer m [] ∧ Locked s t x ∧ SecOnly s t [] ∧ t.sec.fullTrain = true ∧ t.sec.settings = s.sec.settings ∧
          (s.firmwareUp = true → Logged s t (if s.f F.SEC_STAT_LOCK = 0xFF then 2 else 1))))) ∧
    (Admitted s x peer m 0x25 46 →
      let tile := beAt m 24 2
      let may := x.role = .maker ∧ runs
      (¬may → Gives (exec (.fieldclr peer m) s) (fun t => TurnedAway s t x peer m .denied)) ∧
      (may → 767 < tile → Gives (exec (.fieldclr peer m) s) (fun t => TurnedAway s t x peer m .bounds)) ∧
      (may → tile ≤ 767 → ¬MaintFree s x → Gives (exec (.fieldclr peer m) s) (fun t => TurnedAway s t x peer m .busy)) ∧
      (may → tile ≤ 767 → MaintFree s x → Gives (exec (.fieldclr peer m) s) (fun t =>
        TookMessage t x peer m [] ∧ Locked s t x ∧ SecOnly s t [] ∧ t.sec.fieldMap = SMap.del s.sec.fieldMap tile ∧
          (s.firmwareUp = true → Logged s t (if s.f F.SEC_STAT_LOCK = 0xFF then 2 else 1)))))

/-- R667: the role that stages and activates a kind. -/
def stagingRole (k : Nat) : Role := if k = 6 then .maker else .installer

/-- R691: chunks, the end and ABORT of an image come from the holder of the lock, with no acceptance run and no activation. -/
def StagingFree (s : State) (x : Session) : Prop :=
  (s.f F.SEC_STAT_LOCK = 0xFF ∨ s.f F.SEC_STAT_LOCK = x.ix) ∧ s.metering.acc = none ∧ s.sec.activation = none

/-- R679 to R682, R691, R692: a manifest checked before any payload, the payload in order, the end of the image, and ABORT. -/
def ImageStaging : Prop :=
  ∀ (s : State) (peer : Nat) (m : List Byte) (x : Session),
    (Admitted s x peer m 0x30 300 →
      let man := slice m 24 256
      let k := beAt man 6 1
      let svn := beAt man 16 4
      let len := beAt man 20 4
      let step := s.f F.IDT_PART_STEPPING
      let slot := [0x400000, 0x100000, 0x200000, 0x100000, 0x80000, 0x800000, 0x8000].getD k 0
      let may := x.role = stagingRole k ∧ (s.loaderMode = true → k = 0) ∧ Config.manifestVerifies man = true
      let fresh := s.rr .SEC_SVN (k / 4) / 2 ^ (8 * (k % 4)) % 2 ^ 8 ≤ svn
      let inRange := svn ≤ 63 ∧ len ≤ slot - 4096 ∧ (k = 0 → len ≤ 1536 * 1024) ∧ (slice man 7 1).all (· == 0#8) = true ∧
        (slice man 156 100).all (· == 0#8) = true
      let matching := beAt man 0 4 = 0x4A584D46 ∧ beAt man 4 2 = 1 ∧ beAt man 8 2 = 0x5180 ∧ beAt man 10 1 ≤ step ∧ step ≤ beAt man 11 1
      (¬may → Gives (exec (.imageBegin peer m) s) (fun t => TurnedAway s t x peer m .denied)) ∧
      (may → k ≤ 6 → ¬fresh → Gives (exec (.imageBegin peer m) s) (fun t => TurnedAway s t x peer m .stale)) ∧
      (may → 6 < k ∨ fresh ∧ ¬inRange → Gives (exec (.imageBegin peer m) s) (fun t => TurnedAway s t x peer m .bounds)) ∧
      (may → k ≤ 6 → fresh → inRange → ¬matching → Gives (exec (.imageBegin peer m) s) (fun t => TurnedAway s t x peer m .mismatch)) ∧
      (may → k ≤ 6 → fresh → inRange → matching → ¬MaintFree s x →
        Gives (exec (.imageBegin peer m) s) (fun t => TurnedAway s t x peer m .busy)) ∧
      (may → k ≤ 6 → fresh → inRange → matching → MaintFree s x → len = 0 → Gives (exec (.imageBegin peer m) s) (fun t =>
        TookMessage t x peer m [] ∧ t.sec.staging = s.sec.staging ∧ t.sec.receiving = none ∧ { t with sec := s.sec, out := s.out } = s)) ∧
      (may → k ≤ 6 → fresh → inRange → matching → MaintFree s x → len ≠ 0 → Gives (exec (.imageBegin peer m) s) (fun t =>
        TookMessage t x peer m [] ∧ Locked s t x ∧ t.sec.receiving = some k ∧ t.sec.staging = SMap.put s.sec.staging k ⟨man, []⟩ ∧
          t.sec.running = s.sec.running ∧ bit (t.rr .SEC_STAGE) k = false ∧
          (∀ j < 7, j ≠ k → bit (t.rr .SEC_STAGE) j = bit (s.rr .SEC_STAGE) j) ∧ SecOnly s t [(.SEC_STAGE, 0)]))) ∧
    (let off := beAt m 24 4
     let n := beAt m 28 2
     ∀ (k : Nat) (im : Image), Admitted s x peer m 0x31 (52 + n) → s.sec.receiving = some k → SMap.find? s.sec.staging k = some im →
       let got := im.payload.length
       let may := x.role ≠ .operator
       let legal := n ≤ 4096 ∧ (slice m 30 2).all (· == 0#8) = true
       (¬may → Gives (exec (.imageChunk peer m) s) (fun t => TurnedAway s t x peer m .denied)) ∧
       (may → ¬legal → Gives (exec (.imageChunk peer m) s) (fun t => TurnedAway s t x peer m .bounds)) ∧
       (may → n ≠ 0 → got < off + n → got < off ∨ beAt im.manifest 20 4 < off + n →
         Gives (exec (.imageChunk peer m) s) (fun t => TurnedAway s t x peer m .bounds)) ∧
       (may → legal → off + n ≤ got → ¬StagingFree s x → Gives (exec (.imageChunk peer m) s) (fun t => TurnedAway s t x peer m .busy)) ∧
       (may → legal → off + n ≤ got ∨ n = 0 → StagingFree s x → Gives (exec (.imageChunk peer m) s) (fun t =>
         TookMessage t x peer m [] ∧ t.sec.staging = s.sec.staging ∧ { t with sec := s.sec, out := s.out } = s)) ∧
       (may → legal → got < off + n → n ≠ 0 → off ≤ got → off + n ≤ beAt im.manifest 20 4 → StagingFree s x →
         Gives (exec (.imageChunk peer m) s) (fun t =>
           TookMessage t x peer m [] ∧
             t.sec.staging = SMap.put s.sec.staging k ⟨im.manifest, im.payload ++ (slice m 32 n).drop (got - off)⟩ ∧
             t.sec.receiving = some k ∧ { t with sec := s.sec, out := s.out } = s))) ∧
    (Admitted s x peer m 0x32 44 → x.role ≠ .operator →
      (s.sec.receiving = none → Gives (exec (.imageEnd peer m) s) (fun t => TurnedAway s t x peer m .bounds)) ∧
      ∀ (k : Nat) (im : Image), s.sec.receiving = some k → SMap.find? s.sec.staging k = some im →
        let whole := beAt im.manifest 20 4 ≤ im.payload.length
        let same := sm3 im.payload = slice im.manifest 28 32
        (¬whole → Gives (exec (.imageEnd peer m) s) (fun t => TurnedAway s t x peer m .bounds)) ∧
        (whole → StagingFree s x → ¬same → Gives (exec (.imageEnd peer m) s) (fun t =>
          Answered t peer m .check (some x.key) [] ∧ t.sec.staging = SMap.del s.sec.staging k ∧ t.sec.receiving = none ∧
            { t with sec := s.sec, out := s.out } = s)) ∧
        (whole → StagingFree s x → same → Gives (exec (.imageEnd peer m) s) (fun t =>
          TookMessage t x peer m [] ∧ t.sec.staging = s.sec.staging ∧ t.sec.receiving = none ∧ (k < 7 → bit (t.rr .SEC_STAGE) k = true) ∧
            (s.firmwareUp = true → Logged s t 1) ∧ SecOnly s t [(.SEC_STAGE, 0)]))) ∧
    (Admitted s x peer m 0x34 44 →
      let may := x.role ≠ .operator ∧ s.loaderMode = false
      (¬may → Gives (exec (.imageAbort peer m) s) (fun t => TurnedAway s t x peer m .denied)) ∧
      (may → ¬StagingFree s x → Gives (exec (.imageAbort peer m) s) (fun t => TurnedAway s t x peer m .busy)) ∧
      (may → StagingFree s x → Gives (exec (.imageAbort peer m) s) (fun t =>
        TookMessage t x peer m [] ∧ t.sec.receiving = none ∧ t.f F.SEC_STAT_LOCK = 0xFF ∧ t.sec.running = s.sec.running ∧
          (∀ k < 7, x.role = stagingRole k → SMap.find? t.sec.staging k = none ∧ bit (t.rr .SEC_STAGE) k = false) ∧
          (∀ k < 7, x.role ≠ stagingRole k → s.sec.receiving ≠ some k →
            SMap.find? t.sec.staging k = SMap.find? s.sec.staging k ∧ bit (t.rr .SEC_STAGE) k = bit (s.rr .SEC_STAGE) k) ∧
          SecOnly s t [(.SEC_STAGE, 0)])))

/-- R692, R676: an activation has ended with a status, shown in SEC_STAT.ACT, and the lock is released. -/
def ActivationOver (t : State) (st : Status) : Prop :=
  t.sec.activation = none ∧ t.f F.SEC_STAT_ACT = st.code ∧ t.f F.SEC_STAT_LOCK = 0xFF

/-- R685 to R689: ACTIVATE refused; a staged image that no longer verifies ends it; MAKERDATA is written at once, GOV begins on the standby,
and STEWARD waits for the steward's restart. The steps of GOV, its 30 s, and the restart of the steward. -/
def Activations : Prop :=
  ∀ (s : State) (peer : Nat) (m : List Byte) (x : Session),
    let standby := !s.activeB
    (Admitted s x peer m 0x33 46 →
      let w := beAt m 24 1
      let kinds := [1, 2, 3, 4, 5, 6, 0].filter (fun k => bit w k)
      let may := (∀ k ∈ kinds, x.role = stagingRole k) ∧ (s.loaderMode = true → w = 1)
      let legal := w ≠ 0 ∧ bit w 7 = false ∧ (∀ k ∈ kinds, bit (s.rr .SEC_STAGE) k = true) ∧ beAt m 25 1 ≤ 1
      let ready := MaintFree s x ∧ (bit w 1 = true → s.qualified standby = true ∧ s.mode s.activeB ≠ 2 ∧ s.mode s.activeB ≠ 4)
      (¬may → Gives (exec (.activate peer m) s) (fun t => TurnedAway s t x peer m .denied)) ∧
      (may → ¬legal → Gives (exec (.activate peer m) s) (fun t => TurnedAway s t x peer m .bounds)) ∧
      (may → legal → ¬ready → Gives (exec (.activate peer m) s) (fun t => TurnedAway s t x peer m .busy)) ∧
      (may → legal → ready →
        let verified := s.verifyStaged kinds
        (verified ≠ .ok → Gives (exec (.activate peer m) s) (fun t =>
          Answered t peer m .ok (some x.key) [] ∧ (x.ix < 255 → ActivationOver t verified) ∧ t.sec.running = s.sec.running ∧
            t.sec.staging = s.sec.staging)) ∧
        (∀ im : Image, verified = .ok → w = 64 → beAt m 25 1 = 0 → SMap.find? s.sec.staging 6 = some im →
          Gives (exec (.activate peer m) s) (fun t =>
            Answered t peer m .ok (some x.key) [] ∧ (x.ix < 255 → ActivationOver t .ok) ∧ t.sec.running = SMap.put s.sec.running 6 im ∧
              t.sec.staging = SMap.del s.sec.staging 6 ∧ bit (t.rr .SEC_STAGE) 6 = false ∧ 6 ∈ t.sec.raise ∧ t.rr .SEC_SVN 1 = s.rr .SEC_SVN 1)) ∧
        (verified = .ok → bit w 1 = true → Gives (exec (.activate peer m) s) (fun t =>
          Answered t peer m .ok (some x.key) [] ∧ Locked s t x ∧ t.govSt standby = 1 ∧ t.govSt s.activeB = s.govSt s.activeB ∧
            t.rr .OST_OUT = s.rr .OST_OUT ∧ t.sec.running = s.sec.running ∧ t.sec.staging = s.sec.staging ∧
            (t.sec.activation.all fun a => decide (a.govStep = 1 ∧ a.all = w ∧ a.kinds = kinds.tail ∧ a.session = x.ix ∧
              a.hadA = s.activeB ∧ a.hadB = standby)) = true ∧ t.sec.activation ≠ none)) ∧
        (verified = .ok → w = 1 → Gives (exec (.activate peer m) s) (fun t =>
          Answered t peer m .ok (some x.key) [] ∧ Locked s t x ∧ t.sec.restartDue = true ∧ t.sec.activation ≠ none ∧
            t.sec.running = s.sec.running ∧ t.sec.staging = s.sec.staging)))) ∧
    (s.sec.activation = none →
      Gives (exec .govActivationStep s) (fun t => t = s) ∧ Gives (exec .govActivationTimeout s) (fun t => t = s) ∧
        Gives (exec .stewardRestart s) (fun t => t = s)) ∧
    (∀ a : Activation, s.sec.activation = some a →
      (s.qualified standby = false → Gives (exec .govActivationStep s) (fun t => t = s)) ∧
      (s.qualified standby = true → a.govStep ≠ 1 → a.govStep ≠ 3 → Gives (exec .govActivationStep s) (fun t => t = s)) ∧
      (s.qualified standby = true → a.govStep = 1 → s.mode s.activeB ≠ 2 → s.mode s.activeB ≠ 4 → s.ost.swapDue = false →
        Gives (exec .govActivationStep s) (fun t =>
          t.ost.swapDue = true ∧ t.sec.activation = some { a with govStep := 2 } ∧ t.resp = s.resp ∧ t.sec.staging = s.sec.staging ∧
            t.rr .OST_OUT = s.rr .OST_OUT)) ∧
      (∀ im : Image, s.qualified standby = true → a.govStep = 3 → a.kinds = [] → a.restart = false → a.session < 255 →
        SMap.find? s.sec.staging 1 = some im → beAt im.manifest 16 4 < 2 ^ 8 →
        let old := s.rr .SEC_SVN 0 / 2 ^ 8 % 2 ^ 8
        Gives (exec .govActivationStep s) (fun t =>
          ActivationOver t .ok ∧ t.sec.running = SMap.put s.sec.running 1 im ∧ t.sec.staging = SMap.del s.sec.staging 1 ∧
            SMap.find? t.sec.loaded 1 = some im.manifest ∧ t.rr .SEC_SVN 0 / 2 ^ 8 % 2 ^ 8 = max old (beAt im.manifest 16 4))) ∧
      ((a.govStep = 1 ∨ a.govStep = 3) → s.qualified standby = false → Gives (exec .govActivationTimeout s) (fun t =>
        ActivationOver t .check ∧ t.sec.running = s.sec.running ∧ (a.hadA = true → t.govSt false = 1) ∧
          (a.hadB = true → t.govSt true = 1) ∧ (a.hadA = false → t.govSt false = s.govSt false) ∧
          (a.hadB = false → t.govSt true = s.govSt true))) ∧
      (¬((a.govStep = 1 ∨ a.govStep = 3) ∧ s.qualified standby = false) → Gives (exec .govActivationTimeout s) (fun t => t = s)) ∧
      (s.sec.restartDue = false → Gives (exec .stewardRestart s) (fun t => t = s)) ∧
      (∀ im : Image, s.sec.restartDue = true → SMap.find? s.sec.staging 0 = some im → a.restart = false →
        Gives (exec .stewardRestart s) (fun t =>
          ActivationOver t .ok ∧ t.sec.sessions = [] ∧ t.sec.shakes = [] ∧ t.sec.running = SMap.put s.sec.running 0 im ∧
            SMap.find? t.sec.staging 0 = none ∧ bit (t.rr .SEC_STAGE) 0 = false ∧ SMap.find? t.sec.loaded 0 = some im.manifest ∧
            t.rr .IDT_FW = beAt im.manifest 12 4 ∧
            ((List.range 8).flatMap fun k => beBytes 4 (t.rr .SEC_MEAS k)) =
              sm3 (((List.range 8).flatMap fun k => beBytes 4 (s.rr .SEC_MEAS k)) ++ slice im.manifest 28 32) ∧
            (∀ gb : Bool, t.govSt gb = s.govSt gb ∧ t.mode gb = s.mode gb) ∧ t.ost = s.ost ∧ t.tmb = s.tmb ∧ t.cvn = s.cvn ∧
            t.tiles = s.tiles ∧ t.mem = s.mem ∧ t.rr .FCL_FAULTN = s.rr .FCL_FAULTN)))

/-! ### The machine as a whole -/

/-- Commands are taken first in, first out, one a step; a step is the meaning of the command in front, on the state without it. -/
def QueueOrder : Prop :=
  (∀ (c : Instr) (s : State), step { s with pending := c :: s.pending } = exec c s) ∧
    ∀ (c : Instr) (rest : List Instr) (s : State), s.pending = c :: rest → step s = exec c { s with pending := rest }

/-- With no command waiting, a step is one nanosecond (log 6): PTIME goes on by one while the rails are on, and waits while they are off;
memory, the tiles, the caravans, the sessions and the journal are as they were. -/
def IdleNanosecond : Prop :=
  ∀ s : State, s.pending = [] →
    Gives (step s) (fun t =>
      t.pending = [] ∧ t.mem = s.mem ∧ t.cvn = s.cvn ∧ t.sec = s.sec ∧ t.journal = s.journal ∧ t.ports = s.ports ∧ t.out = s.out ∧ t.tiles = s.tiles ∧
        (s.boot.rails = true → s.tmb.slew = 0 ∨ s.tmb.refclk = false → t.tmb.ptime = s.tmb.ptime + 1) ∧
        (s.boot.rails = true → s.tmb.refclk = true → s.tmb.slewTick + 1 = 10000 → 0 < s.tmb.slew →
          t.tmb.ptime = s.tmb.ptime + 2 ∧ t.tmb.slew = s.tmb.slew - 1) ∧
        (s.boot.rails = true → s.tmb.refclk = true → s.tmb.slewTick + 1 = 10000 → s.tmb.slew < 0 →
          t.tmb.ptime = s.tmb.ptime ∧ t.tmb.slew = s.tmb.slew + 1) ∧
        (s.boot.rails = false → t.tmb.ptime = s.tmb.ptime) ∧
        (∀ c < 32, (s.core c).on = true →
          (t.core c).mcycle = if (s.core c).idle = true then (s.core c).mcycle else (s.core c).mcycle + 1) ∧
        t.frt.tokens = min 4096 (s.frt.tokens + 4))

/-- No command ends a run: every command, with every operand, in every state, answers a next state, and it takes nothing from the queue and
adds nothing to it. -/
def EveryCommandCompletes : Prop :=
  ∀ (i : Instr) (s : State), Gives (exec i s) (fun t => t.pending = s.pending)

/-- The state after reset: the values that the spec gives. Registers read what their tables give, memory lists nothing, no caravan, no session, no
command; every slot is FREE, every tile IDLE, every port OFF; PTIME is 0 and no core has started. -/
def ResetState : Prop :=
  let s := State.reset
  s.pending = [] ∧ s.mem.cells = [] ∧ s.tmb.ptime = 0 ∧ s.sec.sessions = [] ∧ s.sec.activation = none ∧ s.pairs.held = [] ∧
    s.pairs.captured = [] ∧ (∀ i < 64, (s.slot i).state = .free) ∧ (∀ n < 768, (s.tile n).st = .idle) ∧ (∀ c < 32, (s.core c).on = false) ∧
    (∀ k ∈ [(Reg.TMB_STATUS, 0xFF00), (.CVN_CAPS, 0x4000040), (.TMB_STEPS, 0), (.TMB_ERR, 0)], s.rr k.1 0 = k.2) ∧
    (∀ i < 64, s.rr .CVN_SLOT i = i) ∧ s.f F.SEC_STAT_LOCK = 0xFF ∧ s.f F.FCL_STAT_SAFE = 0 ∧ s.f F.IDT_BOOT_STEP = 0 ∧
    s.f F.IDT_BOOT_READY = 0 ∧ ∀ p < 20, PortIn s p .off

/-- R158, R159: the words of the Viroth instructions and their decoding are each other's inverse, with every field at every value: a word decodes
to an instruction exactly when it is that instruction's word. -/
def VirothWords : Prop :=
  (∀ (i : Instr) (w : BitVec 64), encodeViroth i = some w → ∃ t, decodeViroth t w = some i) ∧
    ∀ (t : Fin 768) (w : BitVec 64) (i : Instr), decodeViroth t w = some i → encodeViroth i = some w

/-- R159: the number of operations of each class of Viroth words; the words of classes 0xA to 0xF, and those whose OPC its class does not list, are
no instruction, and all others are. -/
def UnlistedWords : Prop :=
  ∀ (t : Fin 768) (w : BitVec 64),
    let cls := (w.extractLsb' 60 4).toNat
    let opc := (w.extractLsb' 56 4).toNat
    decodeViroth t w = none ↔ [16, 14, 5, 15, 12, 6, 4, 7, 5, 1].getD cls 0 ≤ opc

/-- R35 to R37, R9: no two registers share an address: the place of every copy of every register names that copy, and no other. -/
def RegisterPlaces : Prop :=
  ∀ (r : Reg) (i : Nat), i < r.copies → (r = .IC_SRC → 32 ≤ i) → (r = .IC_PSRC → i % 32 ≠ 0) → Reg.at (r.key i) = some (r, i)

/-- An invariant of every step, from every state: memory stays in its canonical form. -/
def MemoryStaysCanonical : Prop :=
  ∀ s t : State, s.mem.wf = true → step s = .next t → t.mem.wf = true

/-- The memory of the state after reset is in its canonical form. -/
def ResetMemoryCanonical : Prop := State.reset.mem.wf = true

end Sys2Proof.Machine

/-! ### The statements -/

/-- Reads and writes of registers. -/
def Obligations.RegisterAccess : Prop := Sys2Proof.Machine.RegisterWrite ∧ Sys2Proof.Machine.RegisterRead

/-- Writable register pairs, sealed fields and role-protected fields. -/
def Obligations.RegisterPairsAndSeals : Prop := Sys2Proof.Machine.RegisterPairWrite ∧ Sys2Proof.Machine.SealedField

/-- Time of day, PPS edges, the reference clock and the status reads. -/
def Obligations.TimeBase : Prop := Sys2Proof.Machine.TimeOfDayArm ∧ Sys2Proof.Machine.PpsEdge ∧ Sys2Proof.Machine.ReferenceClock ∧ Sys2Proof.Machine.StatusReads

/-- cvn.stat, pause, start, toll, wait and cad, and the caravan registers. -/
def Obligations.CaravanInstructions : Prop := Sys2Proof.Machine.CaravanControl ∧ Sys2Proof.Machine.CaravanWaitTimeout ∧ Sys2Proof.Machine.CaravanCadence ∧ Sys2Proof.Machine.CaravanRegisters

/-- cvn.abort and cvn.close, and every refusal of a caravan instruction. -/
def Obligations.CaravanEndings : Prop := Sys2Proof.Machine.CaravanEnd ∧ Sys2Proof.Machine.CaravanRefused

/-- cvn.open allocates a slot, cvn.push queues sequences. -/
def Obligations.CaravanOpenAndPush : Prop := Sys2Proof.Machine.CaravanOpen ∧ Sys2Proof.Machine.CaravanPush

/-- Loading, aborting, admission and the completion of sequences. -/
def Obligations.CaravanProgress : Prop := Sys2Proof.Machine.CaravanLifeCycle ∧ Sys2Proof.Machine.Admission ∧ Sys2Proof.Machine.CompletionResume

/-- Cadence releases, late periods and bales that arrive. -/
def Obligations.CadenceAndTrail : Prop := Sys2Proof.Machine.CadenceRelease ∧ Sys2Proof.Machine.BaleArrive

/-- Every class 0x0 instruction writes its result and nothing else. -/
def Obligations.ScalarRegister : Prop := Sys2Proof.Machine.ScalarRegister

/-- Class 0x1: immediates, shifts, scratchpad and tile registers. -/
def Obligations.ScalarImmediateAndMemory : Prop := Sys2Proof.Machine.ScalarImmediate ∧ Sys2Proof.Machine.ScalarMemory ∧ Sys2Proof.Machine.TileRegisters

/-- Branches, jumps, ct.nop and ct.fence, and illegal condition codes. -/
def Obligations.ControlInstructions : Prop := Sys2Proof.Machine.Control

/-- What a tile exception records, and which cause of several. -/
def Obligations.TileExceptions : Prop := Sys2Proof.Machine.TileExceptions

/-- Lane-wise vector arithmetic, and its integer results. -/
def Obligations.VectorArithmetic : Prop := Sys2Proof.Machine.VectorLanes ∧ Sys2Proof.Machine.VectorIntegerLanes

/-- v.cmp, v.sel, v.red, lane moves and predicates. -/
def Obligations.VectorSelection : Prop := Sys2Proof.Machine.VectorSelect ∧ Sys2Proof.Machine.VectorMoves

/-- Vector loads, stores, gather and scatter. -/
def Obligations.VectorMemory : Prop := Sys2Proof.Machine.VectorMemory

/-- Matrix instructions queue, and what their operations compute. -/
def Obligations.MatrixOperations : Prop := Sys2Proof.Machine.MatrixIssue ∧ Sys2Proof.Machine.MatrixCompute

/-- Movements copy their bytes, take and free their tags. -/
def Obligations.Movements : Prop := Sys2Proof.Machine.Movements

/-- The waybill port: post, take, get, set, count, send and retire. -/
def Obligations.Waybills : Prop := Sys2Proof.Machine.WaybillPort ∧ Sys2Proof.Machine.WaybillRetire

/-- Event instructions, makeweight, and what reaches a tile from outside. -/
def Obligations.TileEvents : Prop := Sys2Proof.Machine.TileEvents

/-- Accesses of cores to windows, depots and memory. -/
def Obligations.CoreAccesses : Prop := Sys2Proof.Machine.WindowAccess ∧ Sys2Proof.Machine.CoreMemory

/-- Scrubbing, channel failure, stack bands and self-refresh. -/
def Obligations.MemoryStacks : Prop := Sys2Proof.Machine.MemoryUpkeep ∧ Sys2Proof.Machine.StackBands

/-- Samples, readings, snapshots, self-checks and settlement. -/
def Obligations.Meters : Prop := Sys2Proof.Machine.MeterReadings ∧ Sys2Proof.Machine.MeterChannels

/-- The cross-check window and acceptance runs. -/
def Obligations.MeterChecks : Prop := Sys2Proof.Machine.CrossCheck ∧ Sys2Proof.Machine.AcceptanceRuns

/-- A control period of a governor. -/
def Obligations.ControlPeriods : Prop := Sys2Proof.Machine.ControlPeriod

/-- Messages to the governors, and what happens to them between periods. -/
def Obligations.GovernorInputs : Prop := Sys2Proof.Machine.GovernorMessages ∧ Sys2Proof.Machine.GovernorEvents

/-- Claims, switch-overs, output commands and ORPHAN. -/
def Obligations.ControlOfOutputs : Prop := Sys2Proof.Machine.ControlOfOutputs

/-- Mirror frames, trajectories and the comparison of governors. -/
def Obligations.GovernorMirror : Prop := Sys2Proof.Machine.Mirror ∧ Sys2Proof.Machine.MirrorComparison

/-- The commands of OST_CMD and the restarts of governors. -/
def Obligations.GovernorResets : Prop := Sys2Proof.Machine.GovernorResets

/-- Training and upkeep of fabric ports. -/
def Obligations.Links : Prop := Sys2Proof.Machine.LinkTraining ∧ Sys2Proof.Machine.LinkUpkeep

/-- CERT, HELLO and the re-hello. -/
def Obligations.HelloExchange : Prop := Sys2Proof.Machine.HelloExchange

/-- The installer-written registers of the fabric ports. -/
def Obligations.LinkRegisters : Prop := Sys2Proof.Machine.LinkRegisters

/-- Send queues, and the registers of the router. -/
def Obligations.RouterQueues : Prop := Sys2Proof.Machine.SendQueues ∧ Sys2Proof.Machine.RouterRegisters

/-- Frames that come in on a fabric port. -/
def Obligations.FramesIn : Prop := Sys2Proof.Machine.FramesIn

/-- Muster slots enabled and disabled, and the words of line 0. -/
def Obligations.MusterWords : Prop := Sys2Proof.Machine.MusterSlots ∧ Sys2Proof.Machine.MusterWords

/-- Control frames of musters, and what time brings to a slot. -/
def Obligations.MusterFrames : Prop := Sys2Proof.Machine.MusterFrames ∧ Sys2Proof.Machine.MusterTimers

/-- The interrupt controller and interrupts taken by cores. -/
def Obligations.Interrupts : Prop := Sys2Proof.Machine.Interrupts

/-- Ethernet ports, frames received and failover. -/
def Obligations.EthernetPorts : Prop := Sys2Proof.Machine.EthLinks ∧ Sys2Proof.Machine.EthFrames ∧ Sys2Proof.Machine.EthFailover

/-- Ethernet queues, work entries and queue-pair commands. -/
def Obligations.EthernetQueues : Prop := Sys2Proof.Machine.EthQueues ∧ Sys2Proof.Machine.EthWork ∧ Sys2Proof.Machine.EthQueueCommands

/-- Temperature conversions, caps, coolant and flow. -/
def Obligations.ThermalControl : Prop := Sys2Proof.Machine.Conversions ∧ Sys2Proof.Machine.ThermalCaps

/-- Input power, PWR_GOOD, PKG_RESET_N and shutdowns. -/
def Obligations.SupplyAndPins : Prop := Sys2Proof.Machine.Power

/-- The start sequence, step by step. -/
def Obligations.StartSequence : Prop := Sys2Proof.Machine.StartSequence

/-- RST_CMD and the phases of a domain reset. -/
def Obligations.DomainResets : Prop := Sys2Proof.Machine.ResetCommands ∧ Sys2Proof.Machine.ResetPhases

/-- Hang detectors and the package reset they lead to. -/
def Obligations.HangDetectors : Prop := Sys2Proof.Machine.HangDetectors

/-- FCL latches, counts, classes and reacts to an event. -/
def Obligations.ErrorEvents : Prop := Sys2Proof.Machine.ErrorEvents

/-- Windows, the self-check, the safe state and FAULT_N. -/
def Obligations.FaultControl : Prop := Sys2Proof.Machine.FaultControl

/-- Check units: INIT, feeds, scans, and the check values. -/
def Obligations.CheckUnits : Prop := Sys2Proof.Machine.CheckUnits ∧ Sys2Proof.Machine.CheckValues

/-- Tallies, bandwidth windows and outriders. -/
def Obligations.Counters : Prop := Sys2Proof.Machine.Counters

/-- What every request passes, and how sessions open and close. -/
def Obligations.Sessions : Prop := Sys2Proof.Machine.RequestGate ∧ Sys2Proof.Machine.Sessions

/-- Attestation reports, inside and outside a session, and journal reads. -/
def Obligations.AttestationReport : Prop := Sys2Proof.Machine.Attestation

/-- SETTING, REGWRITE, FULLTRAIN and FIELDCLR. -/
def Obligations.SettingsAndWrites : Prop := Sys2Proof.Machine.SettingsAndWrites

/-- IMAGE_BEGIN, IMAGE_CHUNK, IMAGE_END and ABORT. -/
def Obligations.ImageStaging : Prop := Sys2Proof.Machine.ImageStaging

/-- ACTIVATE, the activation of GOV and the restart of the steward. -/
def Obligations.Activations : Prop := Sys2Proof.Machine.Activations

/-- A step runs the command at the front of the queue. -/
def Obligations.QueueOrder : Prop := Sys2Proof.Machine.QueueOrder

/-- With no command waiting a step is one nanosecond. -/
def Obligations.IdleNanosecond : Prop := Sys2Proof.Machine.IdleNanosecond

/-- Every command completes and leaves the queue alone. -/
def Obligations.EveryCommandCompletes : Prop := Sys2Proof.Machine.EveryCommandCompletes

/-- The state after reset. -/
def Obligations.ResetState : Prop := Sys2Proof.Machine.ResetState

/-- Viroth words: decode and encode agree, and unlisted words are no instruction. -/
def Obligations.VirothWords : Prop := Sys2Proof.Machine.VirothWords ∧ Sys2Proof.Machine.UnlistedWords

/-- No two registers share an address. -/
def Obligations.RegisterPlaces : Prop := Sys2Proof.Machine.RegisterPlaces

/-- Memory keeps its canonical form in every step. -/
def Obligations.MemoryStaysCanonical : Prop := Sys2Proof.Machine.MemoryStaysCanonical

/-- The memory after reset is in canonical form. -/
def Obligations.ResetMemoryCanonical : Prop := Sys2Proof.Machine.ResetMemoryCanonical
end

