-- ==== Sys2Proof/Laws/Maps.lean ====
section
/-! SUPPORT. The laws of sparse maps: what is read after a write, and that every operation keeps the canonical form. -/

namespace Sys2Proof.Machine

variable {α : Type}

/-! ### Reads after writes -/

@[simp] theorem SMap.find?_put_same (m : SMap α) (k : Nat) (v : α) : SMap.find? (SMap.put m k v) k = some v := by
  induction m with
  | nil => simp [SMap.put, SMap.find?]
  | cons p m ih =>
    obtain ⟨a, w⟩ := p
    by_cases h : a = k
    · simp [SMap.put, SMap.find?, h]
    · by_cases h2 : k < a <;> simp [SMap.put, SMap.find?, h, h2, ih]

theorem SMap.find?_put_ne (m : SMap α) (k j : Nat) (v : α) (h : j ≠ k) : SMap.find? (SMap.put m k v) j = SMap.find? m j := by
  induction m with
  | nil => simp [SMap.put, SMap.find?, h.symm]
  | cons p m ih =>
    obtain ⟨a, w⟩ := p
    by_cases h1 : a = k
    · subst h1; simp [SMap.put, SMap.find?, h.symm]
    · by_cases h2 : k < a <;> simp [SMap.put, SMap.find?, h1, h2, h.symm, ih]

@[simp] theorem SMap.find?_del_same (m : SMap α) (k : Nat) : SMap.find? (SMap.del m k) k = none := by
  unfold SMap.del
  induction m with
  | nil => rfl
  | cons p m ih =>
    by_cases h1 : p.1 = k
    · simpa [List.filter_cons, h1] using ih
    · simpa [List.filter_cons, h1, SMap.find?] using ih

theorem SMap.find?_del_ne (m : SMap α) (k j : Nat) (hj : j ≠ k) : SMap.find? (SMap.del m k) j = SMap.find? m j := by
  unfold SMap.del
  induction m with
  | nil => rfl
  | cons p m ih =>
    by_cases h1 : p.1 = k
    · have h2 : p.1 ≠ j := by omega
      simpa [List.filter_cons, h1, SMap.find?, hj.symm] using ih
    · by_cases h2 : p.1 = j <;> simp [h1, SMap.find?, h2, hj, ih]

/-- A key set reads its new value. -/
@[simp] theorem SMap.get_set_same [DecidableEq α] (d : Nat → α) (m : SMap α) (k : Nat) (v : α) : SMap.get d (SMap.set d m k v) k = v := by
  unfold SMap.get SMap.set
  split
  · next hv => simp [hv]
  · simp

/-- Other keys read as before. -/
theorem SMap.get_set_ne [DecidableEq α] (d : Nat → α) (m : SMap α) (k j : Nat) (v : α) (hj : j ≠ k) :
    SMap.get d (SMap.set d m k v) j = SMap.get d m j := by
  unfold SMap.get SMap.set
  split
  · rw [SMap.find?_del_ne m k j hj]
  · rw [SMap.find?_put_ne m k j v hj]

/-- What any key reads after a write. -/
theorem SMap.get_set [DecidableEq α] (d : Nat → α) (m : SMap α) (k j : Nat) (v : α) :
    SMap.get d (SMap.set d m k v) j = if j = k then v else SMap.get d m j := by
  by_cases h : j = k
  · subst h; simp
  · simp [h, SMap.get_set_ne]

/-! ### The canonical form -/

theorem SMap.wfFrom_mono [DecidableEq α] (d : Nat → α) (m : SMap α) (lo hi : Nat) (hle : lo ≤ hi) (h : SMap.wfFrom d hi m = true) :
    SMap.wfFrom d lo m = true := by
  cases m with
  | nil => rfl
  | cons p m =>
    simp only [SMap.wfFrom, Bool.and_eq_true, decide_eq_true_eq] at h ⊢
    exact ⟨⟨le_trans hle h.1.1, h.1.2⟩, h.2⟩

theorem SMap.wfFrom_put [DecidableEq α] (d : Nat → α) (m : SMap α) (lo k : Nat) (v : α) (h : SMap.wfFrom d lo m = true) (hk : lo ≤ k)
    (hv : v ≠ d k) : SMap.wfFrom d lo (SMap.put m k v) = true := by
  induction m generalizing lo with
  | nil => simp [SMap.put, SMap.wfFrom, hk, hv]
  | cons p m ih =>
    obtain ⟨a, w⟩ := p
    simp only [SMap.wfFrom, Bool.and_eq_true, decide_eq_true_eq] at h
    by_cases h1 : a = k
    · subst h1; simp [SMap.put, SMap.wfFrom, hk, hv, h.2]
    · by_cases h2 : k < a
      · simp only [SMap.put, h1, h2, if_false, if_true, SMap.wfFrom, Bool.and_eq_true, decide_eq_true_eq]
        exact ⟨⟨hk, hv⟩, ⟨⟨h2, h.1.2⟩, h.2⟩⟩
      · simp only [SMap.put, h1, h2, if_false, SMap.wfFrom, Bool.and_eq_true, decide_eq_true_eq]
        exact ⟨⟨h.1.1, h.1.2⟩, ih _ h.2 (by omega)⟩

/-- What a filter leaves is in canonical form. -/
theorem SMap.wfFrom_filter [DecidableEq α] (d : Nat → α) (f : Nat × α → Bool) (m : SMap α) (lo : Nat) (h : SMap.wfFrom d lo m = true) :
    SMap.wfFrom d lo (List.filter f m) = true := by
  induction m generalizing lo with
  | nil => rfl
  | cons p m ih =>
    obtain ⟨a, w⟩ := p
    simp only [SMap.wfFrom, Bool.and_eq_true, decide_eq_true_eq] at h
    by_cases hf : f (a, w) = true
    · rw [List.filter_cons_of_pos hf]
      simp only [SMap.wfFrom, Bool.and_eq_true, decide_eq_true_eq]; exact ⟨h.1, ih _ h.2⟩
    · rw [List.filter_cons_of_neg hf]; exact SMap.wfFrom_mono d _ lo (a + 1) (by omega) (ih _ h.2)

theorem SMap.wf_filter [DecidableEq α] (d : Nat → α) (f : Nat × α → Bool) (m : SMap α) (h : SMap.wf d m = true) :
    SMap.wf d (List.filter f m) = true := SMap.wfFrom_filter d f m 0 h

theorem SMap.wf_del [DecidableEq α] (d : Nat → α) (m : SMap α) (k : Nat) (h : SMap.wf d m = true) : SMap.wf d (SMap.del m k) = true :=
  SMap.wfFrom_filter d _ m 0 h

/-- A write keeps the canonical form. -/
theorem SMap.wf_set [DecidableEq α] (d : Nat → α) (m : SMap α) (k : Nat) (v : α) (h : SMap.wf d m = true) :
    SMap.wf d (SMap.set d m k v) = true := by
  unfold SMap.set
  split
  · exact SMap.wf_del d m k h
  · next hv => exact SMap.wfFrom_put d m 0 k v h (Nat.zero_le k) hv

end Sys2Proof.Machine
end

