-- ==== Sys2Proof/Laws/State.lean ====
section
/-! SUPPORT. One lemma for each field of State and each of the updates that the meanings are made of: what the update leaves alone. -/

namespace Sys2Proof.Machine

variable (s : State)

/-! ### State.wr -/

@[simp] theorem State.wr_pending (r : Reg) (i v : Nat) : (s.wr r i v).pending = s.pending := rfl
@[simp] theorem State.wr_resp (r : Reg) (i v : Nat) : (s.wr r i v).resp = s.resp := rfl
@[simp] theorem State.wr_out (r : Reg) (i v : Nat) : (s.wr r i v).out = s.out := rfl
@[simp] theorem State.wr_free (r : Reg) (i v : Nat) : (s.wr r i v).free = s.free := rfl
@[simp] theorem State.wr_pairs (r : Reg) (i v : Nat) : (s.wr r i v).pairs = s.pairs := rfl
@[simp] theorem State.wr_mem (r : Reg) (i v : Nat) : (s.wr r i v).mem = s.mem := rfl
@[simp] theorem State.wr_tmb (r : Reg) (i v : Nat) : (s.wr r i v).tmb = s.tmb := rfl
@[simp] theorem State.wr_cvn (r : Reg) (i v : Nat) : (s.wr r i v).cvn = s.cvn := rfl
@[simp] theorem State.wr_tiles (r : Reg) (i v : Nat) : (s.wr r i v).tiles = s.tiles := rfl
@[simp] theorem State.wr_metering (r : Reg) (i v : Nat) : (s.wr r i v).metering = s.metering := rfl
@[simp] theorem State.wr_gova (r : Reg) (i v : Nat) : (s.wr r i v).gova = s.gova := rfl
@[simp] theorem State.wr_govb (r : Reg) (i v : Nat) : (s.wr r i v).govb = s.govb := rfl
@[simp] theorem State.wr_ost (r : Reg) (i v : Nat) : (s.wr r i v).ost = s.ost := rfl
@[simp] theorem State.wr_ports (r : Reg) (i v : Nat) : (s.wr r i v).ports = s.ports := rfl
@[simp] theorem State.wr_frt (r : Reg) (i v : Nat) : (s.wr r i v).frt = s.frt := rfl
@[simp] theorem State.wr_mst (r : Reg) (i v : Nat) : (s.wr r i v).mst = s.mst := rfl
@[simp] theorem State.wr_cores (r : Reg) (i v : Nat) : (s.wr r i v).cores = s.cores := rfl
@[simp] theorem State.wr_ic (r : Reg) (i v : Nat) : (s.wr r i v).ic = s.ic := rfl
@[simp] theorem State.wr_eth (r : Reg) (i v : Nat) : (s.wr r i v).eth = s.eth := rfl
@[simp] theorem State.wr_events (r : Reg) (i v : Nat) : (s.wr r i v).events = s.events := rfl
@[simp] theorem State.wr_prf (r : Reg) (i v : Nat) : (s.wr r i v).prf = s.prf := rfl
@[simp] theorem State.wr_thm (r : Reg) (i v : Nat) : (s.wr r i v).thm = s.thm := rfl
@[simp] theorem State.wr_boot (r : Reg) (i v : Nat) : (s.wr r i v).boot = s.boot := rfl
@[simp] theorem State.wr_rst (r : Reg) (i v : Nat) : (s.wr r i v).rst = s.rst := rfl
@[simp] theorem State.wr_fcl (r : Reg) (i v : Nat) : (s.wr r i v).fcl = s.fcl := rfl
@[simp] theorem State.wr_sec (r : Reg) (i v : Nat) : (s.wr r i v).sec = s.sec := rfl
@[simp] theorem State.wr_journal (r : Reg) (i v : Nat) : (s.wr r i v).journal = s.journal := rfl

/-! ### State.sf -/

@[simp] theorem State.sf_pending (f : Fld) (i v : Nat) : (s.sf f i v).pending = s.pending := rfl
@[simp] theorem State.sf_resp (f : Fld) (i v : Nat) : (s.sf f i v).resp = s.resp := rfl
@[simp] theorem State.sf_out (f : Fld) (i v : Nat) : (s.sf f i v).out = s.out := rfl
@[simp] theorem State.sf_free (f : Fld) (i v : Nat) : (s.sf f i v).free = s.free := rfl
@[simp] theorem State.sf_pairs (f : Fld) (i v : Nat) : (s.sf f i v).pairs = s.pairs := rfl
@[simp] theorem State.sf_mem (f : Fld) (i v : Nat) : (s.sf f i v).mem = s.mem := rfl
@[simp] theorem State.sf_tmb (f : Fld) (i v : Nat) : (s.sf f i v).tmb = s.tmb := rfl
@[simp] theorem State.sf_cvn (f : Fld) (i v : Nat) : (s.sf f i v).cvn = s.cvn := rfl
@[simp] theorem State.sf_tiles (f : Fld) (i v : Nat) : (s.sf f i v).tiles = s.tiles := rfl
@[simp] theorem State.sf_metering (f : Fld) (i v : Nat) : (s.sf f i v).metering = s.metering := rfl
@[simp] theorem State.sf_gova (f : Fld) (i v : Nat) : (s.sf f i v).gova = s.gova := rfl
@[simp] theorem State.sf_govb (f : Fld) (i v : Nat) : (s.sf f i v).govb = s.govb := rfl
@[simp] theorem State.sf_ost (f : Fld) (i v : Nat) : (s.sf f i v).ost = s.ost := rfl
@[simp] theorem State.sf_ports (f : Fld) (i v : Nat) : (s.sf f i v).ports = s.ports := rfl
@[simp] theorem State.sf_frt (f : Fld) (i v : Nat) : (s.sf f i v).frt = s.frt := rfl
@[simp] theorem State.sf_mst (f : Fld) (i v : Nat) : (s.sf f i v).mst = s.mst := rfl
@[simp] theorem State.sf_cores (f : Fld) (i v : Nat) : (s.sf f i v).cores = s.cores := rfl
@[simp] theorem State.sf_ic (f : Fld) (i v : Nat) : (s.sf f i v).ic = s.ic := rfl
@[simp] theorem State.sf_eth (f : Fld) (i v : Nat) : (s.sf f i v).eth = s.eth := rfl
@[simp] theorem State.sf_events (f : Fld) (i v : Nat) : (s.sf f i v).events = s.events := rfl
@[simp] theorem State.sf_prf (f : Fld) (i v : Nat) : (s.sf f i v).prf = s.prf := rfl
@[simp] theorem State.sf_thm (f : Fld) (i v : Nat) : (s.sf f i v).thm = s.thm := rfl
@[simp] theorem State.sf_boot (f : Fld) (i v : Nat) : (s.sf f i v).boot = s.boot := rfl
@[simp] theorem State.sf_rst (f : Fld) (i v : Nat) : (s.sf f i v).rst = s.rst := rfl
@[simp] theorem State.sf_fcl (f : Fld) (i v : Nat) : (s.sf f i v).fcl = s.fcl := rfl
@[simp] theorem State.sf_sec (f : Fld) (i v : Nat) : (s.sf f i v).sec = s.sec := rfl
@[simp] theorem State.sf_journal (f : Fld) (i v : Nat) : (s.sf f i v).journal = s.journal := rfl

/-! ### State.bump -/

@[simp] theorem State.bump_pending (r : Reg) (i n : Nat) : (s.bump r i n).pending = s.pending := rfl
@[simp] theorem State.bump_resp (r : Reg) (i n : Nat) : (s.bump r i n).resp = s.resp := rfl
@[simp] theorem State.bump_out (r : Reg) (i n : Nat) : (s.bump r i n).out = s.out := rfl
@[simp] theorem State.bump_free (r : Reg) (i n : Nat) : (s.bump r i n).free = s.free := rfl
@[simp] theorem State.bump_pairs (r : Reg) (i n : Nat) : (s.bump r i n).pairs = s.pairs := rfl
@[simp] theorem State.bump_mem (r : Reg) (i n : Nat) : (s.bump r i n).mem = s.mem := rfl
@[simp] theorem State.bump_tmb (r : Reg) (i n : Nat) : (s.bump r i n).tmb = s.tmb := rfl
@[simp] theorem State.bump_cvn (r : Reg) (i n : Nat) : (s.bump r i n).cvn = s.cvn := rfl
@[simp] theorem State.bump_tiles (r : Reg) (i n : Nat) : (s.bump r i n).tiles = s.tiles := rfl
@[simp] theorem State.bump_metering (r : Reg) (i n : Nat) : (s.bump r i n).metering = s.metering := rfl
@[simp] theorem State.bump_gova (r : Reg) (i n : Nat) : (s.bump r i n).gova = s.gova := rfl
@[simp] theorem State.bump_govb (r : Reg) (i n : Nat) : (s.bump r i n).govb = s.govb := rfl
@[simp] theorem State.bump_ost (r : Reg) (i n : Nat) : (s.bump r i n).ost = s.ost := rfl
@[simp] theorem State.bump_ports (r : Reg) (i n : Nat) : (s.bump r i n).ports = s.ports := rfl
@[simp] theorem State.bump_frt (r : Reg) (i n : Nat) : (s.bump r i n).frt = s.frt := rfl
@[simp] theorem State.bump_mst (r : Reg) (i n : Nat) : (s.bump r i n).mst = s.mst := rfl
@[simp] theorem State.bump_cores (r : Reg) (i n : Nat) : (s.bump r i n).cores = s.cores := rfl
@[simp] theorem State.bump_ic (r : Reg) (i n : Nat) : (s.bump r i n).ic = s.ic := rfl
@[simp] theorem State.bump_eth (r : Reg) (i n : Nat) : (s.bump r i n).eth = s.eth := rfl
@[simp] theorem State.bump_events (r : Reg) (i n : Nat) : (s.bump r i n).events = s.events := rfl
@[simp] theorem State.bump_prf (r : Reg) (i n : Nat) : (s.bump r i n).prf = s.prf := rfl
@[simp] theorem State.bump_thm (r : Reg) (i n : Nat) : (s.bump r i n).thm = s.thm := rfl
@[simp] theorem State.bump_boot (r : Reg) (i n : Nat) : (s.bump r i n).boot = s.boot := rfl
@[simp] theorem State.bump_rst (r : Reg) (i n : Nat) : (s.bump r i n).rst = s.rst := rfl
@[simp] theorem State.bump_fcl (r : Reg) (i n : Nat) : (s.bump r i n).fcl = s.fcl := rfl
@[simp] theorem State.bump_sec (r : Reg) (i n : Nat) : (s.bump r i n).sec = s.sec := rfl
@[simp] theorem State.bump_journal (r : Reg) (i n : Nat) : (s.bump r i n).journal = s.journal := rfl

/-! ### State.bumpF -/

@[simp] theorem State.bumpF_pending (f : Fld) (i : Nat) : (s.bumpF f i).pending = s.pending := rfl
@[simp] theorem State.bumpF_resp (f : Fld) (i : Nat) : (s.bumpF f i).resp = s.resp := rfl
@[simp] theorem State.bumpF_out (f : Fld) (i : Nat) : (s.bumpF f i).out = s.out := rfl
@[simp] theorem State.bumpF_free (f : Fld) (i : Nat) : (s.bumpF f i).free = s.free := rfl
@[simp] theorem State.bumpF_pairs (f : Fld) (i : Nat) : (s.bumpF f i).pairs = s.pairs := rfl
@[simp] theorem State.bumpF_mem (f : Fld) (i : Nat) : (s.bumpF f i).mem = s.mem := rfl
@[simp] theorem State.bumpF_tmb (f : Fld) (i : Nat) : (s.bumpF f i).tmb = s.tmb := rfl
@[simp] theorem State.bumpF_cvn (f : Fld) (i : Nat) : (s.bumpF f i).cvn = s.cvn := rfl
@[simp] theorem State.bumpF_tiles (f : Fld) (i : Nat) : (s.bumpF f i).tiles = s.tiles := rfl
@[simp] theorem State.bumpF_metering (f : Fld) (i : Nat) : (s.bumpF f i).metering = s.metering := rfl
@[simp] theorem State.bumpF_gova (f : Fld) (i : Nat) : (s.bumpF f i).gova = s.gova := rfl
@[simp] theorem State.bumpF_govb (f : Fld) (i : Nat) : (s.bumpF f i).govb = s.govb := rfl
@[simp] theorem State.bumpF_ost (f : Fld) (i : Nat) : (s.bumpF f i).ost = s.ost := rfl
@[simp] theorem State.bumpF_ports (f : Fld) (i : Nat) : (s.bumpF f i).ports = s.ports := rfl
@[simp] theorem State.bumpF_frt (f : Fld) (i : Nat) : (s.bumpF f i).frt = s.frt := rfl
@[simp] theorem State.bumpF_mst (f : Fld) (i : Nat) : (s.bumpF f i).mst = s.mst := rfl
@[simp] theorem State.bumpF_cores (f : Fld) (i : Nat) : (s.bumpF f i).cores = s.cores := rfl
@[simp] theorem State.bumpF_ic (f : Fld) (i : Nat) : (s.bumpF f i).ic = s.ic := rfl
@[simp] theorem State.bumpF_eth (f : Fld) (i : Nat) : (s.bumpF f i).eth = s.eth := rfl
@[simp] theorem State.bumpF_events (f : Fld) (i : Nat) : (s.bumpF f i).events = s.events := rfl
@[simp] theorem State.bumpF_prf (f : Fld) (i : Nat) : (s.bumpF f i).prf = s.prf := rfl
@[simp] theorem State.bumpF_thm (f : Fld) (i : Nat) : (s.bumpF f i).thm = s.thm := rfl
@[simp] theorem State.bumpF_boot (f : Fld) (i : Nat) : (s.bumpF f i).boot = s.boot := rfl
@[simp] theorem State.bumpF_rst (f : Fld) (i : Nat) : (s.bumpF f i).rst = s.rst := rfl
@[simp] theorem State.bumpF_fcl (f : Fld) (i : Nat) : (s.bumpF f i).fcl = s.fcl := rfl
@[simp] theorem State.bumpF_sec (f : Fld) (i : Nat) : (s.bumpF f i).sec = s.sec := rfl
@[simp] theorem State.bumpF_journal (f : Fld) (i : Nat) : (s.bumpF f i).journal = s.journal := rfl

/-! ### State.setPair -/

@[simp] theorem State.setPair_pending (lo hi : Reg) (i v : Nat) : (s.setPair lo hi i v).pending = s.pending := rfl
@[simp] theorem State.setPair_resp (lo hi : Reg) (i v : Nat) : (s.setPair lo hi i v).resp = s.resp := rfl
@[simp] theorem State.setPair_out (lo hi : Reg) (i v : Nat) : (s.setPair lo hi i v).out = s.out := rfl
@[simp] theorem State.setPair_free (lo hi : Reg) (i v : Nat) : (s.setPair lo hi i v).free = s.free := rfl
@[simp] theorem State.setPair_pairs (lo hi : Reg) (i v : Nat) : (s.setPair lo hi i v).pairs = s.pairs := rfl
@[simp] theorem State.setPair_mem (lo hi : Reg) (i v : Nat) : (s.setPair lo hi i v).mem = s.mem := rfl
@[simp] theorem State.setPair_tmb (lo hi : Reg) (i v : Nat) : (s.setPair lo hi i v).tmb = s.tmb := rfl
@[simp] theorem State.setPair_cvn (lo hi : Reg) (i v : Nat) : (s.setPair lo hi i v).cvn = s.cvn := rfl
@[simp] theorem State.setPair_tiles (lo hi : Reg) (i v : Nat) : (s.setPair lo hi i v).tiles = s.tiles := rfl
@[simp] theorem State.setPair_metering (lo hi : Reg) (i v : Nat) : (s.setPair lo hi i v).metering = s.metering := rfl
@[simp] theorem State.setPair_gova (lo hi : Reg) (i v : Nat) : (s.setPair lo hi i v).gova = s.gova := rfl
@[simp] theorem State.setPair_govb (lo hi : Reg) (i v : Nat) : (s.setPair lo hi i v).govb = s.govb := rfl
@[simp] theorem State.setPair_ost (lo hi : Reg) (i v : Nat) : (s.setPair lo hi i v).ost = s.ost := rfl
@[simp] theorem State.setPair_ports (lo hi : Reg) (i v : Nat) : (s.setPair lo hi i v).ports = s.ports := rfl
@[simp] theorem State.setPair_frt (lo hi : Reg) (i v : Nat) : (s.setPair lo hi i v).frt = s.frt := rfl
@[simp] theorem State.setPair_mst (lo hi : Reg) (i v : Nat) : (s.setPair lo hi i v).mst = s.mst := rfl
@[simp] theorem State.setPair_cores (lo hi : Reg) (i v : Nat) : (s.setPair lo hi i v).cores = s.cores := rfl
@[simp] theorem State.setPair_ic (lo hi : Reg) (i v : Nat) : (s.setPair lo hi i v).ic = s.ic := rfl
@[simp] theorem State.setPair_eth (lo hi : Reg) (i v : Nat) : (s.setPair lo hi i v).eth = s.eth := rfl
@[simp] theorem State.setPair_events (lo hi : Reg) (i v : Nat) : (s.setPair lo hi i v).events = s.events := rfl
@[simp] theorem State.setPair_prf (lo hi : Reg) (i v : Nat) : (s.setPair lo hi i v).prf = s.prf := rfl
@[simp] theorem State.setPair_thm (lo hi : Reg) (i v : Nat) : (s.setPair lo hi i v).thm = s.thm := rfl
@[simp] theorem State.setPair_boot (lo hi : Reg) (i v : Nat) : (s.setPair lo hi i v).boot = s.boot := rfl
@[simp] theorem State.setPair_rst (lo hi : Reg) (i v : Nat) : (s.setPair lo hi i v).rst = s.rst := rfl
@[simp] theorem State.setPair_fcl (lo hi : Reg) (i v : Nat) : (s.setPair lo hi i v).fcl = s.fcl := rfl
@[simp] theorem State.setPair_sec (lo hi : Reg) (i v : Nat) : (s.setPair lo hi i v).sec = s.sec := rfl
@[simp] theorem State.setPair_journal (lo hi : Reg) (i v : Nat) : (s.setPair lo hi i v).journal = s.journal := rfl

/-! ### State.prfEvent -/

@[simp] theorem State.prfEvent_pending (b : Nat) : (s.prfEvent b).pending = s.pending := rfl
@[simp] theorem State.prfEvent_resp (b : Nat) : (s.prfEvent b).resp = s.resp := rfl
@[simp] theorem State.prfEvent_out (b : Nat) : (s.prfEvent b).out = s.out := rfl
@[simp] theorem State.prfEvent_free (b : Nat) : (s.prfEvent b).free = s.free := rfl
@[simp] theorem State.prfEvent_pairs (b : Nat) : (s.prfEvent b).pairs = s.pairs := rfl
@[simp] theorem State.prfEvent_mem (b : Nat) : (s.prfEvent b).mem = s.mem := rfl
@[simp] theorem State.prfEvent_tmb (b : Nat) : (s.prfEvent b).tmb = s.tmb := rfl
@[simp] theorem State.prfEvent_cvn (b : Nat) : (s.prfEvent b).cvn = s.cvn := rfl
@[simp] theorem State.prfEvent_tiles (b : Nat) : (s.prfEvent b).tiles = s.tiles := rfl
@[simp] theorem State.prfEvent_metering (b : Nat) : (s.prfEvent b).metering = s.metering := rfl
@[simp] theorem State.prfEvent_gova (b : Nat) : (s.prfEvent b).gova = s.gova := rfl
@[simp] theorem State.prfEvent_govb (b : Nat) : (s.prfEvent b).govb = s.govb := rfl
@[simp] theorem State.prfEvent_ost (b : Nat) : (s.prfEvent b).ost = s.ost := rfl
@[simp] theorem State.prfEvent_ports (b : Nat) : (s.prfEvent b).ports = s.ports := rfl
@[simp] theorem State.prfEvent_frt (b : Nat) : (s.prfEvent b).frt = s.frt := rfl
@[simp] theorem State.prfEvent_mst (b : Nat) : (s.prfEvent b).mst = s.mst := rfl
@[simp] theorem State.prfEvent_cores (b : Nat) : (s.prfEvent b).cores = s.cores := rfl
@[simp] theorem State.prfEvent_ic (b : Nat) : (s.prfEvent b).ic = s.ic := rfl
@[simp] theorem State.prfEvent_eth (b : Nat) : (s.prfEvent b).eth = s.eth := rfl
@[simp] theorem State.prfEvent_events (b : Nat) : (s.prfEvent b).events = s.events := rfl
@[simp] theorem State.prfEvent_prf (b : Nat) : (s.prfEvent b).prf = s.prf := rfl
@[simp] theorem State.prfEvent_thm (b : Nat) : (s.prfEvent b).thm = s.thm := rfl
@[simp] theorem State.prfEvent_boot (b : Nat) : (s.prfEvent b).boot = s.boot := rfl
@[simp] theorem State.prfEvent_rst (b : Nat) : (s.prfEvent b).rst = s.rst := rfl
@[simp] theorem State.prfEvent_fcl (b : Nat) : (s.prfEvent b).fcl = s.fcl := rfl
@[simp] theorem State.prfEvent_sec (b : Nat) : (s.prfEvent b).sec = s.sec := rfl
@[simp] theorem State.prfEvent_journal (b : Nat) : (s.prfEvent b).journal = s.journal := rfl

/-! ### State.setFlags -/

@[simp] theorem State.setFlags_pending (t fl : Nat) : (s.setFlags t fl).pending = s.pending := rfl
@[simp] theorem State.setFlags_resp (t fl : Nat) : (s.setFlags t fl).resp = s.resp := rfl
@[simp] theorem State.setFlags_out (t fl : Nat) : (s.setFlags t fl).out = s.out := rfl
@[simp] theorem State.setFlags_free (t fl : Nat) : (s.setFlags t fl).free = s.free := rfl
@[simp] theorem State.setFlags_pairs (t fl : Nat) : (s.setFlags t fl).pairs = s.pairs := rfl
@[simp] theorem State.setFlags_mem (t fl : Nat) : (s.setFlags t fl).mem = s.mem := rfl
@[simp] theorem State.setFlags_tmb (t fl : Nat) : (s.setFlags t fl).tmb = s.tmb := rfl
@[simp] theorem State.setFlags_cvn (t fl : Nat) : (s.setFlags t fl).cvn = s.cvn := rfl
@[simp] theorem State.setFlags_tiles (t fl : Nat) : (s.setFlags t fl).tiles = s.tiles := rfl
@[simp] theorem State.setFlags_metering (t fl : Nat) : (s.setFlags t fl).metering = s.metering := rfl
@[simp] theorem State.setFlags_gova (t fl : Nat) : (s.setFlags t fl).gova = s.gova := rfl
@[simp] theorem State.setFlags_govb (t fl : Nat) : (s.setFlags t fl).govb = s.govb := rfl
@[simp] theorem State.setFlags_ost (t fl : Nat) : (s.setFlags t fl).ost = s.ost := rfl
@[simp] theorem State.setFlags_ports (t fl : Nat) : (s.setFlags t fl).ports = s.ports := rfl
@[simp] theorem State.setFlags_frt (t fl : Nat) : (s.setFlags t fl).frt = s.frt := rfl
@[simp] theorem State.setFlags_mst (t fl : Nat) : (s.setFlags t fl).mst = s.mst := rfl
@[simp] theorem State.setFlags_cores (t fl : Nat) : (s.setFlags t fl).cores = s.cores := rfl
@[simp] theorem State.setFlags_ic (t fl : Nat) : (s.setFlags t fl).ic = s.ic := rfl
@[simp] theorem State.setFlags_eth (t fl : Nat) : (s.setFlags t fl).eth = s.eth := rfl
@[simp] theorem State.setFlags_events (t fl : Nat) : (s.setFlags t fl).events = s.events := rfl
@[simp] theorem State.setFlags_prf (t fl : Nat) : (s.setFlags t fl).prf = s.prf := rfl
@[simp] theorem State.setFlags_thm (t fl : Nat) : (s.setFlags t fl).thm = s.thm := rfl
@[simp] theorem State.setFlags_boot (t fl : Nat) : (s.setFlags t fl).boot = s.boot := rfl
@[simp] theorem State.setFlags_rst (t fl : Nat) : (s.setFlags t fl).rst = s.rst := rfl
@[simp] theorem State.setFlags_fcl (t fl : Nat) : (s.setFlags t fl).fcl = s.fcl := rfl
@[simp] theorem State.setFlags_sec (t fl : Nat) : (s.setFlags t fl).sec = s.sec := rfl
@[simp] theorem State.setFlags_journal (t fl : Nat) : (s.setFlags t fl).journal = s.journal := rfl

/-! ### State.answer -/

@[simp] theorem State.answer_pending (st : Status) (v : Nat) : (s.answer st v).pending = s.pending := rfl
@[simp] theorem State.answer_out (st : Status) (v : Nat) : (s.answer st v).out = s.out := rfl
@[simp] theorem State.answer_free (st : Status) (v : Nat) : (s.answer st v).free = s.free := rfl
@[simp] theorem State.answer_regs (st : Status) (v : Nat) : (s.answer st v).regs = s.regs := rfl
@[simp] theorem State.answer_pairs (st : Status) (v : Nat) : (s.answer st v).pairs = s.pairs := rfl
@[simp] theorem State.answer_mem (st : Status) (v : Nat) : (s.answer st v).mem = s.mem := rfl
@[simp] theorem State.answer_tmb (st : Status) (v : Nat) : (s.answer st v).tmb = s.tmb := rfl
@[simp] theorem State.answer_cvn (st : Status) (v : Nat) : (s.answer st v).cvn = s.cvn := rfl
@[simp] theorem State.answer_tiles (st : Status) (v : Nat) : (s.answer st v).tiles = s.tiles := rfl
@[simp] theorem State.answer_metering (st : Status) (v : Nat) : (s.answer st v).metering = s.metering := rfl
@[simp] theorem State.answer_gova (st : Status) (v : Nat) : (s.answer st v).gova = s.gova := rfl
@[simp] theorem State.answer_govb (st : Status) (v : Nat) : (s.answer st v).govb = s.govb := rfl
@[simp] theorem State.answer_ost (st : Status) (v : Nat) : (s.answer st v).ost = s.ost := rfl
@[simp] theorem State.answer_ports (st : Status) (v : Nat) : (s.answer st v).ports = s.ports := rfl
@[simp] theorem State.answer_frt (st : Status) (v : Nat) : (s.answer st v).frt = s.frt := rfl
@[simp] theorem State.answer_mst (st : Status) (v : Nat) : (s.answer st v).mst = s.mst := rfl
@[simp] theorem State.answer_cores (st : Status) (v : Nat) : (s.answer st v).cores = s.cores := rfl
@[simp] theorem State.answer_ic (st : Status) (v : Nat) : (s.answer st v).ic = s.ic := rfl
@[simp] theorem State.answer_eth (st : Status) (v : Nat) : (s.answer st v).eth = s.eth := rfl
@[simp] theorem State.answer_events (st : Status) (v : Nat) : (s.answer st v).events = s.events := rfl
@[simp] theorem State.answer_prf (st : Status) (v : Nat) : (s.answer st v).prf = s.prf := rfl
@[simp] theorem State.answer_thm (st : Status) (v : Nat) : (s.answer st v).thm = s.thm := rfl
@[simp] theorem State.answer_boot (st : Status) (v : Nat) : (s.answer st v).boot = s.boot := rfl
@[simp] theorem State.answer_rst (st : Status) (v : Nat) : (s.answer st v).rst = s.rst := rfl
@[simp] theorem State.answer_fcl (st : Status) (v : Nat) : (s.answer st v).fcl = s.fcl := rfl
@[simp] theorem State.answer_sec (st : Status) (v : Nat) : (s.answer st v).sec = s.sec := rfl
@[simp] theorem State.answer_journal (st : Status) (v : Nat) : (s.answer st v).journal = s.journal := rfl

/-! ### State.take -/

@[simp] theorem State.take_pending  : (s.take).pending = s.pending := rfl
@[simp] theorem State.take_resp  : (s.take).resp = s.resp := rfl
@[simp] theorem State.take_out  : (s.take).out = s.out := rfl
@[simp] theorem State.take_regs  : (s.take).regs = s.regs := rfl
@[simp] theorem State.take_pairs  : (s.take).pairs = s.pairs := rfl
@[simp] theorem State.take_mem  : (s.take).mem = s.mem := rfl
@[simp] theorem State.take_tmb  : (s.take).tmb = s.tmb := rfl
@[simp] theorem State.take_cvn  : (s.take).cvn = s.cvn := rfl
@[simp] theorem State.take_tiles  : (s.take).tiles = s.tiles := rfl
@[simp] theorem State.take_metering  : (s.take).metering = s.metering := rfl
@[simp] theorem State.take_gova  : (s.take).gova = s.gova := rfl
@[simp] theorem State.take_govb  : (s.take).govb = s.govb := rfl
@[simp] theorem State.take_ost  : (s.take).ost = s.ost := rfl
@[simp] theorem State.take_ports  : (s.take).ports = s.ports := rfl
@[simp] theorem State.take_frt  : (s.take).frt = s.frt := rfl
@[simp] theorem State.take_mst  : (s.take).mst = s.mst := rfl
@[simp] theorem State.take_cores  : (s.take).cores = s.cores := rfl
@[simp] theorem State.take_ic  : (s.take).ic = s.ic := rfl
@[simp] theorem State.take_eth  : (s.take).eth = s.eth := rfl
@[simp] theorem State.take_events  : (s.take).events = s.events := rfl
@[simp] theorem State.take_prf  : (s.take).prf = s.prf := rfl
@[simp] theorem State.take_thm  : (s.take).thm = s.thm := rfl
@[simp] theorem State.take_boot  : (s.take).boot = s.boot := rfl
@[simp] theorem State.take_rst  : (s.take).rst = s.rst := rfl
@[simp] theorem State.take_fcl  : (s.take).fcl = s.fcl := rfl
@[simp] theorem State.take_sec  : (s.take).sec = s.sec := rfl
@[simp] theorem State.take_journal  : (s.take).journal = s.journal := rfl

/-! ### State.send -/

@[simp] theorem State.send_pending (o : Out) : (s.send o).pending = s.pending := rfl
@[simp] theorem State.send_resp (o : Out) : (s.send o).resp = s.resp := rfl
@[simp] theorem State.send_free (o : Out) : (s.send o).free = s.free := rfl
@[simp] theorem State.send_regs (o : Out) : (s.send o).regs = s.regs := rfl
@[simp] theorem State.send_pairs (o : Out) : (s.send o).pairs = s.pairs := rfl
@[simp] theorem State.send_mem (o : Out) : (s.send o).mem = s.mem := rfl
@[simp] theorem State.send_tmb (o : Out) : (s.send o).tmb = s.tmb := rfl
@[simp] theorem State.send_cvn (o : Out) : (s.send o).cvn = s.cvn := rfl
@[simp] theorem State.send_tiles (o : Out) : (s.send o).tiles = s.tiles := rfl
@[simp] theorem State.send_metering (o : Out) : (s.send o).metering = s.metering := rfl
@[simp] theorem State.send_gova (o : Out) : (s.send o).gova = s.gova := rfl
@[simp] theorem State.send_govb (o : Out) : (s.send o).govb = s.govb := rfl
@[simp] theorem State.send_ost (o : Out) : (s.send o).ost = s.ost := rfl
@[simp] theorem State.send_ports (o : Out) : (s.send o).ports = s.ports := rfl
@[simp] theorem State.send_frt (o : Out) : (s.send o).frt = s.frt := rfl
@[simp] theorem State.send_mst (o : Out) : (s.send o).mst = s.mst := rfl
@[simp] theorem State.send_cores (o : Out) : (s.send o).cores = s.cores := rfl
@[simp] theorem State.send_ic (o : Out) : (s.send o).ic = s.ic := rfl
@[simp] theorem State.send_eth (o : Out) : (s.send o).eth = s.eth := rfl
@[simp] theorem State.send_events (o : Out) : (s.send o).events = s.events := rfl
@[simp] theorem State.send_prf (o : Out) : (s.send o).prf = s.prf := rfl
@[simp] theorem State.send_thm (o : Out) : (s.send o).thm = s.thm := rfl
@[simp] theorem State.send_boot (o : Out) : (s.send o).boot = s.boot := rfl
@[simp] theorem State.send_rst (o : Out) : (s.send o).rst = s.rst := rfl
@[simp] theorem State.send_fcl (o : Out) : (s.send o).fcl = s.fcl := rfl
@[simp] theorem State.send_sec (o : Out) : (s.send o).sec = s.sec := rfl
@[simp] theorem State.send_journal (o : Out) : (s.send o).journal = s.journal := rfl

/-! ### State.setTile -/

@[simp] theorem State.setTile_pending (t : Nat) (x : Tile) : (s.setTile t x).pending = s.pending := rfl
@[simp] theorem State.setTile_resp (t : Nat) (x : Tile) : (s.setTile t x).resp = s.resp := rfl
@[simp] theorem State.setTile_out (t : Nat) (x : Tile) : (s.setTile t x).out = s.out := rfl
@[simp] theorem State.setTile_free (t : Nat) (x : Tile) : (s.setTile t x).free = s.free := rfl
@[simp] theorem State.setTile_regs (t : Nat) (x : Tile) : (s.setTile t x).regs = s.regs := rfl
@[simp] theorem State.setTile_pairs (t : Nat) (x : Tile) : (s.setTile t x).pairs = s.pairs := rfl
@[simp] theorem State.setTile_mem (t : Nat) (x : Tile) : (s.setTile t x).mem = s.mem := rfl
@[simp] theorem State.setTile_tmb (t : Nat) (x : Tile) : (s.setTile t x).tmb = s.tmb := rfl
@[simp] theorem State.setTile_cvn (t : Nat) (x : Tile) : (s.setTile t x).cvn = s.cvn := rfl
@[simp] theorem State.setTile_metering (t : Nat) (x : Tile) : (s.setTile t x).metering = s.metering := rfl
@[simp] theorem State.setTile_gova (t : Nat) (x : Tile) : (s.setTile t x).gova = s.gova := rfl
@[simp] theorem State.setTile_govb (t : Nat) (x : Tile) : (s.setTile t x).govb = s.govb := rfl
@[simp] theorem State.setTile_ost (t : Nat) (x : Tile) : (s.setTile t x).ost = s.ost := rfl
@[simp] theorem State.setTile_ports (t : Nat) (x : Tile) : (s.setTile t x).ports = s.ports := rfl
@[simp] theorem State.setTile_frt (t : Nat) (x : Tile) : (s.setTile t x).frt = s.frt := rfl
@[simp] theorem State.setTile_mst (t : Nat) (x : Tile) : (s.setTile t x).mst = s.mst := rfl
@[simp] theorem State.setTile_cores (t : Nat) (x : Tile) : (s.setTile t x).cores = s.cores := rfl
@[simp] theorem State.setTile_ic (t : Nat) (x : Tile) : (s.setTile t x).ic = s.ic := rfl
@[simp] theorem State.setTile_eth (t : Nat) (x : Tile) : (s.setTile t x).eth = s.eth := rfl
@[simp] theorem State.setTile_events (t : Nat) (x : Tile) : (s.setTile t x).events = s.events := rfl
@[simp] theorem State.setTile_prf (t : Nat) (x : Tile) : (s.setTile t x).prf = s.prf := rfl
@[simp] theorem State.setTile_thm (t : Nat) (x : Tile) : (s.setTile t x).thm = s.thm := rfl
@[simp] theorem State.setTile_boot (t : Nat) (x : Tile) : (s.setTile t x).boot = s.boot := rfl
@[simp] theorem State.setTile_rst (t : Nat) (x : Tile) : (s.setTile t x).rst = s.rst := rfl
@[simp] theorem State.setTile_fcl (t : Nat) (x : Tile) : (s.setTile t x).fcl = s.fcl := rfl
@[simp] theorem State.setTile_sec (t : Nat) (x : Tile) : (s.setTile t x).sec = s.sec := rfl
@[simp] theorem State.setTile_journal (t : Nat) (x : Tile) : (s.setTile t x).journal = s.journal := rfl

/-! ### State.setSlot -/

@[simp] theorem State.setSlot_pending (i : Nat) (x : Slot) : (s.setSlot i x).pending = s.pending := rfl
@[simp] theorem State.setSlot_resp (i : Nat) (x : Slot) : (s.setSlot i x).resp = s.resp := rfl
@[simp] theorem State.setSlot_out (i : Nat) (x : Slot) : (s.setSlot i x).out = s.out := rfl
@[simp] theorem State.setSlot_free (i : Nat) (x : Slot) : (s.setSlot i x).free = s.free := rfl
@[simp] theorem State.setSlot_regs (i : Nat) (x : Slot) : (s.setSlot i x).regs = s.regs := rfl
@[simp] theorem State.setSlot_pairs (i : Nat) (x : Slot) : (s.setSlot i x).pairs = s.pairs := rfl
@[simp] theorem State.setSlot_mem (i : Nat) (x : Slot) : (s.setSlot i x).mem = s.mem := rfl
@[simp] theorem State.setSlot_tmb (i : Nat) (x : Slot) : (s.setSlot i x).tmb = s.tmb := rfl
@[simp] theorem State.setSlot_tiles (i : Nat) (x : Slot) : (s.setSlot i x).tiles = s.tiles := rfl
@[simp] theorem State.setSlot_metering (i : Nat) (x : Slot) : (s.setSlot i x).metering = s.metering := rfl
@[simp] theorem State.setSlot_gova (i : Nat) (x : Slot) : (s.setSlot i x).gova = s.gova := rfl
@[simp] theorem State.setSlot_govb (i : Nat) (x : Slot) : (s.setSlot i x).govb = s.govb := rfl
@[simp] theorem State.setSlot_ost (i : Nat) (x : Slot) : (s.setSlot i x).ost = s.ost := rfl
@[simp] theorem State.setSlot_ports (i : Nat) (x : Slot) : (s.setSlot i x).ports = s.ports := rfl
@[simp] theorem State.setSlot_frt (i : Nat) (x : Slot) : (s.setSlot i x).frt = s.frt := rfl
@[simp] theorem State.setSlot_mst (i : Nat) (x : Slot) : (s.setSlot i x).mst = s.mst := rfl
@[simp] theorem State.setSlot_cores (i : Nat) (x : Slot) : (s.setSlot i x).cores = s.cores := rfl
@[simp] theorem State.setSlot_ic (i : Nat) (x : Slot) : (s.setSlot i x).ic = s.ic := rfl
@[simp] theorem State.setSlot_eth (i : Nat) (x : Slot) : (s.setSlot i x).eth = s.eth := rfl
@[simp] theorem State.setSlot_events (i : Nat) (x : Slot) : (s.setSlot i x).events = s.events := rfl
@[simp] theorem State.setSlot_prf (i : Nat) (x : Slot) : (s.setSlot i x).prf = s.prf := rfl
@[simp] theorem State.setSlot_thm (i : Nat) (x : Slot) : (s.setSlot i x).thm = s.thm := rfl
@[simp] theorem State.setSlot_boot (i : Nat) (x : Slot) : (s.setSlot i x).boot = s.boot := rfl
@[simp] theorem State.setSlot_rst (i : Nat) (x : Slot) : (s.setSlot i x).rst = s.rst := rfl
@[simp] theorem State.setSlot_fcl (i : Nat) (x : Slot) : (s.setSlot i x).fcl = s.fcl := rfl
@[simp] theorem State.setSlot_sec (i : Nat) (x : Slot) : (s.setSlot i x).sec = s.sec := rfl
@[simp] theorem State.setSlot_journal (i : Nat) (x : Slot) : (s.setSlot i x).journal = s.journal := rfl

/-! ### State.setPort -/

@[simp] theorem State.setPort_pending (i : Nat) (x : Port) : (s.setPort i x).pending = s.pending := rfl
@[simp] theorem State.setPort_resp (i : Nat) (x : Port) : (s.setPort i x).resp = s.resp := rfl
@[simp] theorem State.setPort_out (i : Nat) (x : Port) : (s.setPort i x).out = s.out := rfl
@[simp] theorem State.setPort_free (i : Nat) (x : Port) : (s.setPort i x).free = s.free := rfl
@[simp] theorem State.setPort_regs (i : Nat) (x : Port) : (s.setPort i x).regs = s.regs := rfl
@[simp] theorem State.setPort_pairs (i : Nat) (x : Port) : (s.setPort i x).pairs = s.pairs := rfl
@[simp] theorem State.setPort_mem (i : Nat) (x : Port) : (s.setPort i x).mem = s.mem := rfl
@[simp] theorem State.setPort_tmb (i : Nat) (x : Port) : (s.setPort i x).tmb = s.tmb := rfl
@[simp] theorem State.setPort_cvn (i : Nat) (x : Port) : (s.setPort i x).cvn = s.cvn := rfl
@[simp] theorem State.setPort_tiles (i : Nat) (x : Port) : (s.setPort i x).tiles = s.tiles := rfl
@[simp] theorem State.setPort_metering (i : Nat) (x : Port) : (s.setPort i x).metering = s.metering := rfl
@[simp] theorem State.setPort_gova (i : Nat) (x : Port) : (s.setPort i x).gova = s.gova := rfl
@[simp] theorem State.setPort_govb (i : Nat) (x : Port) : (s.setPort i x).govb = s.govb := rfl
@[simp] theorem State.setPort_ost (i : Nat) (x : Port) : (s.setPort i x).ost = s.ost := rfl
@[simp] theorem State.setPort_frt (i : Nat) (x : Port) : (s.setPort i x).frt = s.frt := rfl
@[simp] theorem State.setPort_mst (i : Nat) (x : Port) : (s.setPort i x).mst = s.mst := rfl
@[simp] theorem State.setPort_cores (i : Nat) (x : Port) : (s.setPort i x).cores = s.cores := rfl
@[simp] theorem State.setPort_ic (i : Nat) (x : Port) : (s.setPort i x).ic = s.ic := rfl
@[simp] theorem State.setPort_eth (i : Nat) (x : Port) : (s.setPort i x).eth = s.eth := rfl
@[simp] theorem State.setPort_events (i : Nat) (x : Port) : (s.setPort i x).events = s.events := rfl
@[simp] theorem State.setPort_prf (i : Nat) (x : Port) : (s.setPort i x).prf = s.prf := rfl
@[simp] theorem State.setPort_thm (i : Nat) (x : Port) : (s.setPort i x).thm = s.thm := rfl
@[simp] theorem State.setPort_boot (i : Nat) (x : Port) : (s.setPort i x).boot = s.boot := rfl
@[simp] theorem State.setPort_rst (i : Nat) (x : Port) : (s.setPort i x).rst = s.rst := rfl
@[simp] theorem State.setPort_fcl (i : Nat) (x : Port) : (s.setPort i x).fcl = s.fcl := rfl
@[simp] theorem State.setPort_sec (i : Nat) (x : Port) : (s.setPort i x).sec = s.sec := rfl
@[simp] theorem State.setPort_journal (i : Nat) (x : Port) : (s.setPort i x).journal = s.journal := rfl

/-! ### State.setCore -/

@[simp] theorem State.setCore_pending (i : Nat) (x : Core) : (s.setCore i x).pending = s.pending := rfl
@[simp] theorem State.setCore_resp (i : Nat) (x : Core) : (s.setCore i x).resp = s.resp := rfl
@[simp] theorem State.setCore_out (i : Nat) (x : Core) : (s.setCore i x).out = s.out := rfl
@[simp] theorem State.setCore_free (i : Nat) (x : Core) : (s.setCore i x).free = s.free := rfl
@[simp] theorem State.setCore_regs (i : Nat) (x : Core) : (s.setCore i x).regs = s.regs := rfl
@[simp] theorem State.setCore_pairs (i : Nat) (x : Core) : (s.setCore i x).pairs = s.pairs := rfl
@[simp] theorem State.setCore_mem (i : Nat) (x : Core) : (s.setCore i x).mem = s.mem := rfl
@[simp] theorem State.setCore_tmb (i : Nat) (x : Core) : (s.setCore i x).tmb = s.tmb := rfl
@[simp] theorem State.setCore_cvn (i : Nat) (x : Core) : (s.setCore i x).cvn = s.cvn := rfl
@[simp] theorem State.setCore_tiles (i : Nat) (x : Core) : (s.setCore i x).tiles = s.tiles := rfl
@[simp] theorem State.setCore_metering (i : Nat) (x : Core) : (s.setCore i x).metering = s.metering := rfl
@[simp] theorem State.setCore_gova (i : Nat) (x : Core) : (s.setCore i x).gova = s.gova := rfl
@[simp] theorem State.setCore_govb (i : Nat) (x : Core) : (s.setCore i x).govb = s.govb := rfl
@[simp] theorem State.setCore_ost (i : Nat) (x : Core) : (s.setCore i x).ost = s.ost := rfl
@[simp] theorem State.setCore_ports (i : Nat) (x : Core) : (s.setCore i x).ports = s.ports := rfl
@[simp] theorem State.setCore_frt (i : Nat) (x : Core) : (s.setCore i x).frt = s.frt := rfl
@[simp] theorem State.setCore_mst (i : Nat) (x : Core) : (s.setCore i x).mst = s.mst := rfl
@[simp] theorem State.setCore_ic (i : Nat) (x : Core) : (s.setCore i x).ic = s.ic := rfl
@[simp] theorem State.setCore_eth (i : Nat) (x : Core) : (s.setCore i x).eth = s.eth := rfl
@[simp] theorem State.setCore_events (i : Nat) (x : Core) : (s.setCore i x).events = s.events := rfl
@[simp] theorem State.setCore_prf (i : Nat) (x : Core) : (s.setCore i x).prf = s.prf := rfl
@[simp] theorem State.setCore_thm (i : Nat) (x : Core) : (s.setCore i x).thm = s.thm := rfl
@[simp] theorem State.setCore_boot (i : Nat) (x : Core) : (s.setCore i x).boot = s.boot := rfl
@[simp] theorem State.setCore_rst (i : Nat) (x : Core) : (s.setCore i x).rst = s.rst := rfl
@[simp] theorem State.setCore_fcl (i : Nat) (x : Core) : (s.setCore i x).fcl = s.fcl := rfl
@[simp] theorem State.setCore_sec (i : Nat) (x : Core) : (s.setCore i x).sec = s.sec := rfl
@[simp] theorem State.setCore_journal (i : Nat) (x : Core) : (s.setCore i x).journal = s.journal := rfl

/-! ### State.raise -/

@[simp] theorem State.raise_pending (line index : Nat) (st : Status) : (s.raise line index st).pending = s.pending := rfl
@[simp] theorem State.raise_resp (line index : Nat) (st : Status) : (s.raise line index st).resp = s.resp := rfl
@[simp] theorem State.raise_out (line index : Nat) (st : Status) : (s.raise line index st).out = s.out := rfl
@[simp] theorem State.raise_free (line index : Nat) (st : Status) : (s.raise line index st).free = s.free := rfl
@[simp] theorem State.raise_regs (line index : Nat) (st : Status) : (s.raise line index st).regs = s.regs := rfl
@[simp] theorem State.raise_pairs (line index : Nat) (st : Status) : (s.raise line index st).pairs = s.pairs := rfl
@[simp] theorem State.raise_mem (line index : Nat) (st : Status) : (s.raise line index st).mem = s.mem := rfl
@[simp] theorem State.raise_tmb (line index : Nat) (st : Status) : (s.raise line index st).tmb = s.tmb := rfl
@[simp] theorem State.raise_cvn (line index : Nat) (st : Status) : (s.raise line index st).cvn = s.cvn := rfl
@[simp] theorem State.raise_tiles (line index : Nat) (st : Status) : (s.raise line index st).tiles = s.tiles := rfl
@[simp] theorem State.raise_metering (line index : Nat) (st : Status) : (s.raise line index st).metering = s.metering := rfl
@[simp] theorem State.raise_gova (line index : Nat) (st : Status) : (s.raise line index st).gova = s.gova := rfl
@[simp] theorem State.raise_govb (line index : Nat) (st : Status) : (s.raise line index st).govb = s.govb := rfl
@[simp] theorem State.raise_ost (line index : Nat) (st : Status) : (s.raise line index st).ost = s.ost := rfl
@[simp] theorem State.raise_ports (line index : Nat) (st : Status) : (s.raise line index st).ports = s.ports := rfl
@[simp] theorem State.raise_frt (line index : Nat) (st : Status) : (s.raise line index st).frt = s.frt := rfl
@[simp] theorem State.raise_mst (line index : Nat) (st : Status) : (s.raise line index st).mst = s.mst := rfl
@[simp] theorem State.raise_cores (line index : Nat) (st : Status) : (s.raise line index st).cores = s.cores := rfl
@[simp] theorem State.raise_ic (line index : Nat) (st : Status) : (s.raise line index st).ic = s.ic := rfl
@[simp] theorem State.raise_eth (line index : Nat) (st : Status) : (s.raise line index st).eth = s.eth := rfl
@[simp] theorem State.raise_prf (line index : Nat) (st : Status) : (s.raise line index st).prf = s.prf := rfl
@[simp] theorem State.raise_thm (line index : Nat) (st : Status) : (s.raise line index st).thm = s.thm := rfl
@[simp] theorem State.raise_boot (line index : Nat) (st : Status) : (s.raise line index st).boot = s.boot := rfl
@[simp] theorem State.raise_rst (line index : Nat) (st : Status) : (s.raise line index st).rst = s.rst := rfl
@[simp] theorem State.raise_fcl (line index : Nat) (st : Status) : (s.raise line index st).fcl = s.fcl := rfl
@[simp] theorem State.raise_sec (line index : Nat) (st : Status) : (s.raise line index st).sec = s.sec := rfl
@[simp] theorem State.raise_journal (line index : Nat) (st : Status) : (s.raise line index st).journal = s.journal := rfl

/-! ### State.setPoison -/

@[simp] theorem State.setPoison_pending (line : Nat) (p : Bool) : (s.setPoison line p).pending = s.pending := rfl
@[simp] theorem State.setPoison_resp (line : Nat) (p : Bool) : (s.setPoison line p).resp = s.resp := rfl
@[simp] theorem State.setPoison_out (line : Nat) (p : Bool) : (s.setPoison line p).out = s.out := rfl
@[simp] theorem State.setPoison_free (line : Nat) (p : Bool) : (s.setPoison line p).free = s.free := rfl
@[simp] theorem State.setPoison_regs (line : Nat) (p : Bool) : (s.setPoison line p).regs = s.regs := rfl
@[simp] theorem State.setPoison_pairs (line : Nat) (p : Bool) : (s.setPoison line p).pairs = s.pairs := rfl
@[simp] theorem State.setPoison_tmb (line : Nat) (p : Bool) : (s.setPoison line p).tmb = s.tmb := rfl
@[simp] theorem State.setPoison_cvn (line : Nat) (p : Bool) : (s.setPoison line p).cvn = s.cvn := rfl
@[simp] theorem State.setPoison_tiles (line : Nat) (p : Bool) : (s.setPoison line p).tiles = s.tiles := rfl
@[simp] theorem State.setPoison_metering (line : Nat) (p : Bool) : (s.setPoison line p).metering = s.metering := rfl
@[simp] theorem State.setPoison_gova (line : Nat) (p : Bool) : (s.setPoison line p).gova = s.gova := rfl
@[simp] theorem State.setPoison_govb (line : Nat) (p : Bool) : (s.setPoison line p).govb = s.govb := rfl
@[simp] theorem State.setPoison_ost (line : Nat) (p : Bool) : (s.setPoison line p).ost = s.ost := rfl
@[simp] theorem State.setPoison_ports (line : Nat) (p : Bool) : (s.setPoison line p).ports = s.ports := rfl
@[simp] theorem State.setPoison_frt (line : Nat) (p : Bool) : (s.setPoison line p).frt = s.frt := rfl
@[simp] theorem State.setPoison_mst (line : Nat) (p : Bool) : (s.setPoison line p).mst = s.mst := rfl
@[simp] theorem State.setPoison_cores (line : Nat) (p : Bool) : (s.setPoison line p).cores = s.cores := rfl
@[simp] theorem State.setPoison_ic (line : Nat) (p : Bool) : (s.setPoison line p).ic = s.ic := rfl
@[simp] theorem State.setPoison_eth (line : Nat) (p : Bool) : (s.setPoison line p).eth = s.eth := rfl
@[simp] theorem State.setPoison_events (line : Nat) (p : Bool) : (s.setPoison line p).events = s.events := rfl
@[simp] theorem State.setPoison_prf (line : Nat) (p : Bool) : (s.setPoison line p).prf = s.prf := rfl
@[simp] theorem State.setPoison_thm (line : Nat) (p : Bool) : (s.setPoison line p).thm = s.thm := rfl
@[simp] theorem State.setPoison_boot (line : Nat) (p : Bool) : (s.setPoison line p).boot = s.boot := rfl
@[simp] theorem State.setPoison_rst (line : Nat) (p : Bool) : (s.setPoison line p).rst = s.rst := rfl
@[simp] theorem State.setPoison_fcl (line : Nat) (p : Bool) : (s.setPoison line p).fcl = s.fcl := rfl
@[simp] theorem State.setPoison_sec (line : Nat) (p : Bool) : (s.setPoison line p).sec = s.sec := rfl
@[simp] theorem State.setPoison_journal (line : Nat) (p : Bool) : (s.setPoison line p).journal = s.journal := rfl

/-! ### State.dropLatent -/

@[simp] theorem State.dropLatent_pending (line : Nat) : (s.dropLatent line).pending = s.pending := rfl
@[simp] theorem State.dropLatent_resp (line : Nat) : (s.dropLatent line).resp = s.resp := rfl
@[simp] theorem State.dropLatent_out (line : Nat) : (s.dropLatent line).out = s.out := rfl
@[simp] theorem State.dropLatent_free (line : Nat) : (s.dropLatent line).free = s.free := rfl
@[simp] theorem State.dropLatent_regs (line : Nat) : (s.dropLatent line).regs = s.regs := rfl
@[simp] theorem State.dropLatent_pairs (line : Nat) : (s.dropLatent line).pairs = s.pairs := rfl
@[simp] theorem State.dropLatent_tmb (line : Nat) : (s.dropLatent line).tmb = s.tmb := rfl
@[simp] theorem State.dropLatent_cvn (line : Nat) : (s.dropLatent line).cvn = s.cvn := rfl
@[simp] theorem State.dropLatent_tiles (line : Nat) : (s.dropLatent line).tiles = s.tiles := rfl
@[simp] theorem State.dropLatent_metering (line : Nat) : (s.dropLatent line).metering = s.metering := rfl
@[simp] theorem State.dropLatent_gova (line : Nat) : (s.dropLatent line).gova = s.gova := rfl
@[simp] theorem State.dropLatent_govb (line : Nat) : (s.dropLatent line).govb = s.govb := rfl
@[simp] theorem State.dropLatent_ost (line : Nat) : (s.dropLatent line).ost = s.ost := rfl
@[simp] theorem State.dropLatent_ports (line : Nat) : (s.dropLatent line).ports = s.ports := rfl
@[simp] theorem State.dropLatent_frt (line : Nat) : (s.dropLatent line).frt = s.frt := rfl
@[simp] theorem State.dropLatent_mst (line : Nat) : (s.dropLatent line).mst = s.mst := rfl
@[simp] theorem State.dropLatent_cores (line : Nat) : (s.dropLatent line).cores = s.cores := rfl
@[simp] theorem State.dropLatent_ic (line : Nat) : (s.dropLatent line).ic = s.ic := rfl
@[simp] theorem State.dropLatent_eth (line : Nat) : (s.dropLatent line).eth = s.eth := rfl
@[simp] theorem State.dropLatent_events (line : Nat) : (s.dropLatent line).events = s.events := rfl
@[simp] theorem State.dropLatent_prf (line : Nat) : (s.dropLatent line).prf = s.prf := rfl
@[simp] theorem State.dropLatent_thm (line : Nat) : (s.dropLatent line).thm = s.thm := rfl
@[simp] theorem State.dropLatent_boot (line : Nat) : (s.dropLatent line).boot = s.boot := rfl
@[simp] theorem State.dropLatent_rst (line : Nat) : (s.dropLatent line).rst = s.rst := rfl
@[simp] theorem State.dropLatent_fcl (line : Nat) : (s.dropLatent line).fcl = s.fcl := rfl
@[simp] theorem State.dropLatent_sec (line : Nat) : (s.dropLatent line).sec = s.sec := rfl
@[simp] theorem State.dropLatent_journal (line : Nat) : (s.dropLatent line).journal = s.journal := rfl

/-! ### What the readers of a state see of an update elsewhere -/

@[simp] theorem State.tile_wr (r : Reg) (i v : Nat) (j : Nat) : (s.wr r i v).tile j = s.tile j := rfl
@[simp] theorem State.slot_wr (r : Reg) (i v : Nat) (j : Nat) : (s.wr r i v).slot j = s.slot j := rfl
@[simp] theorem State.port_wr (r : Reg) (i v : Nat) (j : Nat) : (s.wr r i v).port j = s.port j := rfl
@[simp] theorem State.core_wr (r : Reg) (i v : Nat) (j : Nat) : (s.wr r i v).core j = s.core j := rfl
@[simp] theorem State.gov_wr (r : Reg) (i v : Nat) (g : Bool) : (s.wr r i v).gov g = s.gov g := rfl
@[simp] theorem State.meter_wr (r : Reg) (i v : Nat) (g : Bool) : (s.wr r i v).meter g = s.meter g := rfl
@[simp] theorem State.now_wr (r : Reg) (i v : Nat) : (s.wr r i v).now = s.now := rfl
@[simp] theorem State.byte_wr (r : Reg) (i v : Nat) (j : Nat) : (s.wr r i v).byte j = s.byte j := rfl
@[simp] theorem State.poisoned_wr (r : Reg) (i v : Nat) (j : Nat) : (s.wr r i v).poisoned j = s.poisoned j := rfl

@[simp] theorem State.tile_sf (f : Fld) (i v : Nat) (j : Nat) : (s.sf f i v).tile j = s.tile j := rfl
@[simp] theorem State.slot_sf (f : Fld) (i v : Nat) (j : Nat) : (s.sf f i v).slot j = s.slot j := rfl
@[simp] theorem State.port_sf (f : Fld) (i v : Nat) (j : Nat) : (s.sf f i v).port j = s.port j := rfl
@[simp] theorem State.core_sf (f : Fld) (i v : Nat) (j : Nat) : (s.sf f i v).core j = s.core j := rfl
@[simp] theorem State.gov_sf (f : Fld) (i v : Nat) (g : Bool) : (s.sf f i v).gov g = s.gov g := rfl
@[simp] theorem State.meter_sf (f : Fld) (i v : Nat) (g : Bool) : (s.sf f i v).meter g = s.meter g := rfl
@[simp] theorem State.now_sf (f : Fld) (i v : Nat) : (s.sf f i v).now = s.now := rfl
@[simp] theorem State.byte_sf (f : Fld) (i v : Nat) (j : Nat) : (s.sf f i v).byte j = s.byte j := rfl
@[simp] theorem State.poisoned_sf (f : Fld) (i v : Nat) (j : Nat) : (s.sf f i v).poisoned j = s.poisoned j := rfl

@[simp] theorem State.tile_bump (r : Reg) (i n : Nat) (j : Nat) : (s.bump r i n).tile j = s.tile j := rfl
@[simp] theorem State.slot_bump (r : Reg) (i n : Nat) (j : Nat) : (s.bump r i n).slot j = s.slot j := rfl
@[simp] theorem State.port_bump (r : Reg) (i n : Nat) (j : Nat) : (s.bump r i n).port j = s.port j := rfl
@[simp] theorem State.core_bump (r : Reg) (i n : Nat) (j : Nat) : (s.bump r i n).core j = s.core j := rfl
@[simp] theorem State.gov_bump (r : Reg) (i n : Nat) (g : Bool) : (s.bump r i n).gov g = s.gov g := rfl
@[simp] theorem State.meter_bump (r : Reg) (i n : Nat) (g : Bool) : (s.bump r i n).meter g = s.meter g := rfl
@[simp] theorem State.now_bump (r : Reg) (i n : Nat) : (s.bump r i n).now = s.now := rfl
@[simp] theorem State.byte_bump (r : Reg) (i n : Nat) (j : Nat) : (s.bump r i n).byte j = s.byte j := rfl
@[simp] theorem State.poisoned_bump (r : Reg) (i n : Nat) (j : Nat) : (s.bump r i n).poisoned j = s.poisoned j := rfl

@[simp] theorem State.tile_bumpF (f : Fld) (i : Nat) (j : Nat) : (s.bumpF f i).tile j = s.tile j := rfl
@[simp] theorem State.slot_bumpF (f : Fld) (i : Nat) (j : Nat) : (s.bumpF f i).slot j = s.slot j := rfl
@[simp] theorem State.port_bumpF (f : Fld) (i : Nat) (j : Nat) : (s.bumpF f i).port j = s.port j := rfl
@[simp] theorem State.core_bumpF (f : Fld) (i : Nat) (j : Nat) : (s.bumpF f i).core j = s.core j := rfl
@[simp] theorem State.gov_bumpF (f : Fld) (i : Nat) (g : Bool) : (s.bumpF f i).gov g = s.gov g := rfl
@[simp] theorem State.meter_bumpF (f : Fld) (i : Nat) (g : Bool) : (s.bumpF f i).meter g = s.meter g := rfl
@[simp] theorem State.now_bumpF (f : Fld) (i : Nat) : (s.bumpF f i).now = s.now := rfl
@[simp] theorem State.byte_bumpF (f : Fld) (i : Nat) (j : Nat) : (s.bumpF f i).byte j = s.byte j := rfl
@[simp] theorem State.poisoned_bumpF (f : Fld) (i : Nat) (j : Nat) : (s.bumpF f i).poisoned j = s.poisoned j := rfl

@[simp] theorem State.tile_setPair (lo hi : Reg) (i v : Nat) (j : Nat) : (s.setPair lo hi i v).tile j = s.tile j := rfl
@[simp] theorem State.slot_setPair (lo hi : Reg) (i v : Nat) (j : Nat) : (s.setPair lo hi i v).slot j = s.slot j := rfl
@[simp] theorem State.port_setPair (lo hi : Reg) (i v : Nat) (j : Nat) : (s.setPair lo hi i v).port j = s.port j := rfl
@[simp] theorem State.core_setPair (lo hi : Reg) (i v : Nat) (j : Nat) : (s.setPair lo hi i v).core j = s.core j := rfl
@[simp] theorem State.gov_setPair (lo hi : Reg) (i v : Nat) (g : Bool) : (s.setPair lo hi i v).gov g = s.gov g := rfl
@[simp] theorem State.meter_setPair (lo hi : Reg) (i v : Nat) (g : Bool) : (s.setPair lo hi i v).meter g = s.meter g := rfl
@[simp] theorem State.now_setPair (lo hi : Reg) (i v : Nat) : (s.setPair lo hi i v).now = s.now := rfl
@[simp] theorem State.byte_setPair (lo hi : Reg) (i v : Nat) (j : Nat) : (s.setPair lo hi i v).byte j = s.byte j := rfl
@[simp] theorem State.poisoned_setPair (lo hi : Reg) (i v : Nat) (j : Nat) : (s.setPair lo hi i v).poisoned j = s.poisoned j := rfl

@[simp] theorem State.tile_prfEvent (b : Nat) (j : Nat) : (s.prfEvent b).tile j = s.tile j := rfl
@[simp] theorem State.slot_prfEvent (b : Nat) (j : Nat) : (s.prfEvent b).slot j = s.slot j := rfl
@[simp] theorem State.port_prfEvent (b : Nat) (j : Nat) : (s.prfEvent b).port j = s.port j := rfl
@[simp] theorem State.core_prfEvent (b : Nat) (j : Nat) : (s.prfEvent b).core j = s.core j := rfl
@[simp] theorem State.gov_prfEvent (b : Nat) (g : Bool) : (s.prfEvent b).gov g = s.gov g := rfl
@[simp] theorem State.meter_prfEvent (b : Nat) (g : Bool) : (s.prfEvent b).meter g = s.meter g := rfl
@[simp] theorem State.now_prfEvent (b : Nat) : (s.prfEvent b).now = s.now := rfl
@[simp] theorem State.byte_prfEvent (b : Nat) (j : Nat) : (s.prfEvent b).byte j = s.byte j := rfl
@[simp] theorem State.poisoned_prfEvent (b : Nat) (j : Nat) : (s.prfEvent b).poisoned j = s.poisoned j := rfl

@[simp] theorem State.tile_setFlags (t fl : Nat) (j : Nat) : (s.setFlags t fl).tile j = s.tile j := rfl
@[simp] theorem State.slot_setFlags (t fl : Nat) (j : Nat) : (s.setFlags t fl).slot j = s.slot j := rfl
@[simp] theorem State.port_setFlags (t fl : Nat) (j : Nat) : (s.setFlags t fl).port j = s.port j := rfl
@[simp] theorem State.core_setFlags (t fl : Nat) (j : Nat) : (s.setFlags t fl).core j = s.core j := rfl
@[simp] theorem State.gov_setFlags (t fl : Nat) (g : Bool) : (s.setFlags t fl).gov g = s.gov g := rfl
@[simp] theorem State.meter_setFlags (t fl : Nat) (g : Bool) : (s.setFlags t fl).meter g = s.meter g := rfl
@[simp] theorem State.now_setFlags (t fl : Nat) : (s.setFlags t fl).now = s.now := rfl
@[simp] theorem State.byte_setFlags (t fl : Nat) (j : Nat) : (s.setFlags t fl).byte j = s.byte j := rfl
@[simp] theorem State.poisoned_setFlags (t fl : Nat) (j : Nat) : (s.setFlags t fl).poisoned j = s.poisoned j := rfl

@[simp] theorem State.rr_answer (st : Status) (v : Nat) (q : Reg) (j : Nat) : (s.answer st v).rr q j = s.rr q j := rfl
@[simp] theorem State.f_answer (st : Status) (v : Nat) (g : Fld) (j : Nat) : (s.answer st v).f g j = s.f g j := rfl
@[simp] theorem State.fb_answer (st : Status) (v : Nat) (g : Fld) (j : Nat) : (s.answer st v).fb g j = s.fb g j := rfl
@[simp] theorem State.pair_answer (st : Status) (v : Nat) (q u : Reg) (j : Nat) : (s.answer st v).pair q u j = s.pair q u j := rfl
@[simp] theorem State.tile_answer (st : Status) (v : Nat) (j : Nat) : (s.answer st v).tile j = s.tile j := rfl
@[simp] theorem State.slot_answer (st : Status) (v : Nat) (j : Nat) : (s.answer st v).slot j = s.slot j := rfl
@[simp] theorem State.port_answer (st : Status) (v : Nat) (j : Nat) : (s.answer st v).port j = s.port j := rfl
@[simp] theorem State.core_answer (st : Status) (v : Nat) (j : Nat) : (s.answer st v).core j = s.core j := rfl
@[simp] theorem State.gov_answer (st : Status) (v : Nat) (g : Bool) : (s.answer st v).gov g = s.gov g := rfl
@[simp] theorem State.meter_answer (st : Status) (v : Nat) (g : Bool) : (s.answer st v).meter g = s.meter g := rfl
@[simp] theorem State.now_answer (st : Status) (v : Nat) : (s.answer st v).now = s.now := rfl
@[simp] theorem State.byte_answer (st : Status) (v : Nat) (j : Nat) : (s.answer st v).byte j = s.byte j := rfl
@[simp] theorem State.poisoned_answer (st : Status) (v : Nat) (j : Nat) : (s.answer st v).poisoned j = s.poisoned j := rfl

@[simp] theorem State.rr_take (q : Reg) (j : Nat) : (s.take).rr q j = s.rr q j := rfl
@[simp] theorem State.f_take (g : Fld) (j : Nat) : (s.take).f g j = s.f g j := rfl
@[simp] theorem State.fb_take (g : Fld) (j : Nat) : (s.take).fb g j = s.fb g j := rfl
@[simp] theorem State.pair_take (q u : Reg) (j : Nat) : (s.take).pair q u j = s.pair q u j := rfl
@[simp] theorem State.tile_take (j : Nat) : (s.take).tile j = s.tile j := rfl
@[simp] theorem State.slot_take (j : Nat) : (s.take).slot j = s.slot j := rfl
@[simp] theorem State.port_take (j : Nat) : (s.take).port j = s.port j := rfl
@[simp] theorem State.core_take (j : Nat) : (s.take).core j = s.core j := rfl
@[simp] theorem State.gov_take (g : Bool) : (s.take).gov g = s.gov g := rfl
@[simp] theorem State.meter_take (g : Bool) : (s.take).meter g = s.meter g := rfl
@[simp] theorem State.now_take  : (s.take).now = s.now := rfl
@[simp] theorem State.byte_take (j : Nat) : (s.take).byte j = s.byte j := rfl
@[simp] theorem State.poisoned_take (j : Nat) : (s.take).poisoned j = s.poisoned j := rfl

@[simp] theorem State.rr_send (o : Out) (q : Reg) (j : Nat) : (s.send o).rr q j = s.rr q j := rfl
@[simp] theorem State.f_send (o : Out) (g : Fld) (j : Nat) : (s.send o).f g j = s.f g j := rfl
@[simp] theorem State.fb_send (o : Out) (g : Fld) (j : Nat) : (s.send o).fb g j = s.fb g j := rfl
@[simp] theorem State.pair_send (o : Out) (q u : Reg) (j : Nat) : (s.send o).pair q u j = s.pair q u j := rfl
@[simp] theorem State.tile_send (o : Out) (j : Nat) : (s.send o).tile j = s.tile j := rfl
@[simp] theorem State.slot_send (o : Out) (j : Nat) : (s.send o).slot j = s.slot j := rfl
@[simp] theorem State.port_send (o : Out) (j : Nat) : (s.send o).port j = s.port j := rfl
@[simp] theorem State.core_send (o : Out) (j : Nat) : (s.send o).core j = s.core j := rfl
@[simp] theorem State.gov_send (o : Out) (g : Bool) : (s.send o).gov g = s.gov g := rfl
@[simp] theorem State.meter_send (o : Out) (g : Bool) : (s.send o).meter g = s.meter g := rfl
@[simp] theorem State.now_send (o : Out) : (s.send o).now = s.now := rfl
@[simp] theorem State.byte_send (o : Out) (j : Nat) : (s.send o).byte j = s.byte j := rfl
@[simp] theorem State.poisoned_send (o : Out) (j : Nat) : (s.send o).poisoned j = s.poisoned j := rfl

@[simp] theorem State.rr_setTile (t : Nat) (x : Tile) (q : Reg) (j : Nat) : (s.setTile t x).rr q j = s.rr q j := rfl
@[simp] theorem State.f_setTile (t : Nat) (x : Tile) (g : Fld) (j : Nat) : (s.setTile t x).f g j = s.f g j := rfl
@[simp] theorem State.fb_setTile (t : Nat) (x : Tile) (g : Fld) (j : Nat) : (s.setTile t x).fb g j = s.fb g j := rfl
@[simp] theorem State.pair_setTile (t : Nat) (x : Tile) (q u : Reg) (j : Nat) : (s.setTile t x).pair q u j = s.pair q u j := rfl
@[simp] theorem State.slot_setTile (t : Nat) (x : Tile) (j : Nat) : (s.setTile t x).slot j = s.slot j := rfl
@[simp] theorem State.port_setTile (t : Nat) (x : Tile) (j : Nat) : (s.setTile t x).port j = s.port j := rfl
@[simp] theorem State.core_setTile (t : Nat) (x : Tile) (j : Nat) : (s.setTile t x).core j = s.core j := rfl
@[simp] theorem State.gov_setTile (t : Nat) (x : Tile) (g : Bool) : (s.setTile t x).gov g = s.gov g := rfl
@[simp] theorem State.meter_setTile (t : Nat) (x : Tile) (g : Bool) : (s.setTile t x).meter g = s.meter g := rfl
@[simp] theorem State.now_setTile (t : Nat) (x : Tile) : (s.setTile t x).now = s.now := rfl
@[simp] theorem State.byte_setTile (t : Nat) (x : Tile) (j : Nat) : (s.setTile t x).byte j = s.byte j := rfl
@[simp] theorem State.poisoned_setTile (t : Nat) (x : Tile) (j : Nat) : (s.setTile t x).poisoned j = s.poisoned j := rfl

@[simp] theorem State.rr_setSlot (i : Nat) (x : Slot) (q : Reg) (j : Nat) : (s.setSlot i x).rr q j = s.rr q j := rfl
@[simp] theorem State.f_setSlot (i : Nat) (x : Slot) (g : Fld) (j : Nat) : (s.setSlot i x).f g j = s.f g j := rfl
@[simp] theorem State.fb_setSlot (i : Nat) (x : Slot) (g : Fld) (j : Nat) : (s.setSlot i x).fb g j = s.fb g j := rfl
@[simp] theorem State.pair_setSlot (i : Nat) (x : Slot) (q u : Reg) (j : Nat) : (s.setSlot i x).pair q u j = s.pair q u j := rfl
@[simp] theorem State.tile_setSlot (i : Nat) (x : Slot) (j : Nat) : (s.setSlot i x).tile j = s.tile j := rfl
@[simp] theorem State.port_setSlot (i : Nat) (x : Slot) (j : Nat) : (s.setSlot i x).port j = s.port j := rfl
@[simp] theorem State.core_setSlot (i : Nat) (x : Slot) (j : Nat) : (s.setSlot i x).core j = s.core j := rfl
@[simp] theorem State.gov_setSlot (i : Nat) (x : Slot) (g : Bool) : (s.setSlot i x).gov g = s.gov g := rfl
@[simp] theorem State.meter_setSlot (i : Nat) (x : Slot) (g : Bool) : (s.setSlot i x).meter g = s.meter g := rfl
@[simp] theorem State.now_setSlot (i : Nat) (x : Slot) : (s.setSlot i x).now = s.now := rfl
@[simp] theorem State.byte_setSlot (i : Nat) (x : Slot) (j : Nat) : (s.setSlot i x).byte j = s.byte j := rfl
@[simp] theorem State.poisoned_setSlot (i : Nat) (x : Slot) (j : Nat) : (s.setSlot i x).poisoned j = s.poisoned j := rfl

@[simp] theorem State.rr_setPort (i : Nat) (x : Port) (q : Reg) (j : Nat) : (s.setPort i x).rr q j = s.rr q j := rfl
@[simp] theorem State.f_setPort (i : Nat) (x : Port) (g : Fld) (j : Nat) : (s.setPort i x).f g j = s.f g j := rfl
@[simp] theorem State.fb_setPort (i : Nat) (x : Port) (g : Fld) (j : Nat) : (s.setPort i x).fb g j = s.fb g j := rfl
@[simp] theorem State.pair_setPort (i : Nat) (x : Port) (q u : Reg) (j : Nat) : (s.setPort i x).pair q u j = s.pair q u j := rfl
@[simp] theorem State.tile_setPort (i : Nat) (x : Port) (j : Nat) : (s.setPort i x).tile j = s.tile j := rfl
@[simp] theorem State.slot_setPort (i : Nat) (x : Port) (j : Nat) : (s.setPort i x).slot j = s.slot j := rfl
@[simp] theorem State.core_setPort (i : Nat) (x : Port) (j : Nat) : (s.setPort i x).core j = s.core j := rfl
@[simp] theorem State.gov_setPort (i : Nat) (x : Port) (g : Bool) : (s.setPort i x).gov g = s.gov g := rfl
@[simp] theorem State.meter_setPort (i : Nat) (x : Port) (g : Bool) : (s.setPort i x).meter g = s.meter g := rfl
@[simp] theorem State.now_setPort (i : Nat) (x : Port) : (s.setPort i x).now = s.now := rfl
@[simp] theorem State.byte_setPort (i : Nat) (x : Port) (j : Nat) : (s.setPort i x).byte j = s.byte j := rfl
@[simp] theorem State.poisoned_setPort (i : Nat) (x : Port) (j : Nat) : (s.setPort i x).poisoned j = s.poisoned j := rfl

@[simp] theorem State.rr_setCore (i : Nat) (x : Core) (q : Reg) (j : Nat) : (s.setCore i x).rr q j = s.rr q j := rfl
@[simp] theorem State.f_setCore (i : Nat) (x : Core) (g : Fld) (j : Nat) : (s.setCore i x).f g j = s.f g j := rfl
@[simp] theorem State.fb_setCore (i : Nat) (x : Core) (g : Fld) (j : Nat) : (s.setCore i x).fb g j = s.fb g j := rfl
@[simp] theorem State.pair_setCore (i : Nat) (x : Core) (q u : Reg) (j : Nat) : (s.setCore i x).pair q u j = s.pair q u j := rfl
@[simp] theorem State.tile_setCore (i : Nat) (x : Core) (j : Nat) : (s.setCore i x).tile j = s.tile j := rfl
@[simp] theorem State.slot_setCore (i : Nat) (x : Core) (j : Nat) : (s.setCore i x).slot j = s.slot j := rfl
@[simp] theorem State.port_setCore (i : Nat) (x : Core) (j : Nat) : (s.setCore i x).port j = s.port j := rfl
@[simp] theorem State.gov_setCore (i : Nat) (x : Core) (g : Bool) : (s.setCore i x).gov g = s.gov g := rfl
@[simp] theorem State.meter_setCore (i : Nat) (x : Core) (g : Bool) : (s.setCore i x).meter g = s.meter g := rfl
@[simp] theorem State.now_setCore (i : Nat) (x : Core) : (s.setCore i x).now = s.now := rfl
@[simp] theorem State.byte_setCore (i : Nat) (x : Core) (j : Nat) : (s.setCore i x).byte j = s.byte j := rfl
@[simp] theorem State.poisoned_setCore (i : Nat) (x : Core) (j : Nat) : (s.setCore i x).poisoned j = s.poisoned j := rfl

@[simp] theorem State.rr_raise (line index : Nat) (st : Status) (q : Reg) (j : Nat) : (s.raise line index st).rr q j = s.rr q j := rfl
@[simp] theorem State.f_raise (line index : Nat) (st : Status) (g : Fld) (j : Nat) : (s.raise line index st).f g j = s.f g j := rfl
@[simp] theorem State.fb_raise (line index : Nat) (st : Status) (g : Fld) (j : Nat) : (s.raise line index st).fb g j = s.fb g j := rfl
@[simp] theorem State.pair_raise (line index : Nat) (st : Status) (q u : Reg) (j : Nat) : (s.raise line index st).pair q u j = s.pair q u j := rfl
@[simp] theorem State.tile_raise (line index : Nat) (st : Status) (j : Nat) : (s.raise line index st).tile j = s.tile j := rfl
@[simp] theorem State.slot_raise (line index : Nat) (st : Status) (j : Nat) : (s.raise line index st).slot j = s.slot j := rfl
@[simp] theorem State.port_raise (line index : Nat) (st : Status) (j : Nat) : (s.raise line index st).port j = s.port j := rfl
@[simp] theorem State.core_raise (line index : Nat) (st : Status) (j : Nat) : (s.raise line index st).core j = s.core j := rfl
@[simp] theorem State.gov_raise (line index : Nat) (st : Status) (g : Bool) : (s.raise line index st).gov g = s.gov g := rfl
@[simp] theorem State.meter_raise (line index : Nat) (st : Status) (g : Bool) : (s.raise line index st).meter g = s.meter g := rfl
@[simp] theorem State.now_raise (line index : Nat) (st : Status) : (s.raise line index st).now = s.now := rfl
@[simp] theorem State.byte_raise (line index : Nat) (st : Status) (j : Nat) : (s.raise line index st).byte j = s.byte j := rfl
@[simp] theorem State.poisoned_raise (line index : Nat) (st : Status) (j : Nat) : (s.raise line index st).poisoned j = s.poisoned j := rfl

@[simp] theorem State.rr_setPoison (line : Nat) (p : Bool) (q : Reg) (j : Nat) : (s.setPoison line p).rr q j = s.rr q j := rfl
@[simp] theorem State.f_setPoison (line : Nat) (p : Bool) (g : Fld) (j : Nat) : (s.setPoison line p).f g j = s.f g j := rfl
@[simp] theorem State.fb_setPoison (line : Nat) (p : Bool) (g : Fld) (j : Nat) : (s.setPoison line p).fb g j = s.fb g j := rfl
@[simp] theorem State.pair_setPoison (line : Nat) (p : Bool) (q u : Reg) (j : Nat) : (s.setPoison line p).pair q u j = s.pair q u j := rfl
@[simp] theorem State.tile_setPoison (line : Nat) (p : Bool) (j : Nat) : (s.setPoison line p).tile j = s.tile j := rfl
@[simp] theorem State.slot_setPoison (line : Nat) (p : Bool) (j : Nat) : (s.setPoison line p).slot j = s.slot j := rfl
@[simp] theorem State.port_setPoison (line : Nat) (p : Bool) (j : Nat) : (s.setPoison line p).port j = s.port j := rfl
@[simp] theorem State.core_setPoison (line : Nat) (p : Bool) (j : Nat) : (s.setPoison line p).core j = s.core j := rfl
@[simp] theorem State.gov_setPoison (line : Nat) (p : Bool) (g : Bool) : (s.setPoison line p).gov g = s.gov g := rfl
@[simp] theorem State.meter_setPoison (line : Nat) (p : Bool) (g : Bool) : (s.setPoison line p).meter g = s.meter g := rfl
@[simp] theorem State.now_setPoison (line : Nat) (p : Bool) : (s.setPoison line p).now = s.now := rfl

@[simp] theorem State.rr_dropLatent (line : Nat) (q : Reg) (j : Nat) : (s.dropLatent line).rr q j = s.rr q j := rfl
@[simp] theorem State.f_dropLatent (line : Nat) (g : Fld) (j : Nat) : (s.dropLatent line).f g j = s.f g j := rfl
@[simp] theorem State.fb_dropLatent (line : Nat) (g : Fld) (j : Nat) : (s.dropLatent line).fb g j = s.fb g j := rfl
@[simp] theorem State.pair_dropLatent (line : Nat) (q u : Reg) (j : Nat) : (s.dropLatent line).pair q u j = s.pair q u j := rfl
@[simp] theorem State.tile_dropLatent (line : Nat) (j : Nat) : (s.dropLatent line).tile j = s.tile j := rfl
@[simp] theorem State.slot_dropLatent (line : Nat) (j : Nat) : (s.dropLatent line).slot j = s.slot j := rfl
@[simp] theorem State.port_dropLatent (line : Nat) (j : Nat) : (s.dropLatent line).port j = s.port j := rfl
@[simp] theorem State.core_dropLatent (line : Nat) (j : Nat) : (s.dropLatent line).core j = s.core j := rfl
@[simp] theorem State.gov_dropLatent (line : Nat) (g : Bool) : (s.dropLatent line).gov g = s.gov g := rfl
@[simp] theorem State.meter_dropLatent (line : Nat) (g : Bool) : (s.dropLatent line).meter g = s.meter g := rfl
@[simp] theorem State.now_dropLatent (line : Nat) : (s.dropLatent line).now = s.now := rfl

@[simp] theorem State.byte_setPoison (line : Nat) (p : Bool) (j : Nat) : (s.setPoison line p).byte j = s.byte j := rfl
@[simp] theorem State.byte_dropLatent (line j : Nat) : (s.dropLatent line).byte j = s.byte j := rfl
@[simp] theorem State.poisoned_dropLatent (line j : Nat) : (s.dropLatent line).poisoned j = s.poisoned j := rfl

end Sys2Proof.Machine
end

