-- ==== Sys2Proof/Laws/Registers.lean ====
section
/-! SUPPORT. The laws of bit fields and of the register file: what is read after a write. -/

namespace Sys2Proof.Machine

/-! ### Bit fields -/

theorem bits_lt (n hi lo : Nat) : bits n hi lo < 2 ^ (hi + 1 - lo) := Nat.mod_lt _ (Nat.two_pow_pos _)

/-- A number split at a field: what lies above it, the field, and what lies below. -/
theorem split_at_field (n lo w : Nat) : n = 2 ^ lo * (2 ^ w * (n / 2 ^ lo / 2 ^ w) + n / 2 ^ lo % 2 ^ w) + n % 2 ^ lo := by
  rw [Nat.div_add_mod (n / 2 ^ lo) (2 ^ w), Nat.div_add_mod]

/-- A field replaced: above and below stay. -/
theorem putBits_split (n hi lo v : Nat) :
    putBits n hi lo v =
      2 ^ lo * (2 ^ (hi + 1 - lo) * (n / 2 ^ lo / 2 ^ (hi + 1 - lo)) + v % 2 ^ (hi + 1 - lo)) + n % 2 ^ lo := by
  have h := split_at_field n lo (hi + 1 - lo)
  unfold putBits bits
  generalize n / 2 ^ lo / 2 ^ (hi + 1 - lo) = q at h ⊢
  generalize n / 2 ^ lo % 2 ^ (hi + 1 - lo) = b at h ⊢
  generalize n % 2 ^ lo = r at h ⊢
  generalize v % 2 ^ (hi + 1 - lo) = x
  generalize 2 ^ lo = a at h ⊢
  generalize 2 ^ (hi + 1 - lo) = w at h ⊢
  subst h
  have : a * (w * q + b) + r - b * a = a * (w * q) + r := by
    rw [Nat.mul_add, Nat.mul_comm b a]; omega
  rw [this, Nat.mul_add, Nat.mul_comm x a]; omega

@[simp] theorem bits_putBits_same (n hi lo v : Nat) : bits (putBits n hi lo v) hi lo = v % 2 ^ (hi + 1 - lo) := by
  rw [putBits_split]
  unfold bits
  have ha : 0 < 2 ^ lo := Nat.two_pow_pos lo
  have hr : n % 2 ^ lo < 2 ^ lo := Nat.mod_lt _ ha
  rw [Nat.mul_add_div ha, Nat.div_eq_of_lt hr, Nat.add_zero, Nat.mul_add_mod, Nat.mod_mod]

/-- A field above the one replaced stays. -/
theorem bits_putBits_above (n hi lo v hi2 lo2 : Nat) (h : hi < lo2) (hl : lo ≤ hi + 1) :
    bits (putBits n hi lo v) hi2 lo2 = bits n hi2 lo2 := by
  have ha : 0 < 2 ^ lo := Nat.two_pow_pos lo
  have hw : 0 < 2 ^ (hi + 1 - lo) := Nat.two_pow_pos _
  have hp : 2 ^ lo2 = 2 ^ lo * 2 ^ (hi + 1 - lo) * 2 ^ (lo2 - (hi + 1)) := by
    rw [← Nat.pow_add, ← Nat.pow_add]; congr 1; omega
  have key : putBits n hi lo v / 2 ^ lo2 = n / 2 ^ lo2 := by
    rw [hp, ← Nat.div_div_eq_div_mul, ← Nat.div_div_eq_div_mul, ← Nat.div_div_eq_div_mul, ← Nat.div_div_eq_div_mul, putBits_split]
    have hr : n % 2 ^ lo < 2 ^ lo := Nat.mod_lt _ ha
    have hx : v % 2 ^ (hi + 1 - lo) < 2 ^ (hi + 1 - lo) := Nat.mod_lt _ hw
    rw [Nat.mul_add_div ha, Nat.div_eq_of_lt hr, Nat.add_zero, Nat.mul_add_div hw, Nat.div_eq_of_lt hx, Nat.add_zero]
  unfold bits
  rw [key]

/-- A field below the one replaced stays. -/
theorem bits_putBits_below (n hi lo v hi2 lo2 : Nat) (h : hi2 < lo) : bits (putBits n hi lo v) hi2 lo2 = bits n hi2 lo2 := by
  have hm : putBits n hi lo v % 2 ^ lo = n % 2 ^ lo := by
    rw [putBits_split, Nat.mul_add_mod, Nat.mod_mod]
  have key : ∀ m : Nat, bits m hi2 lo2 = bits (m % 2 ^ lo) hi2 lo2 := by
    intro m
    unfold bits
    by_cases hc : lo2 ≤ hi2
    · have e1 : m / 2 ^ lo2 % 2 ^ (hi2 + 1 - lo2) = m % 2 ^ (hi2 + 1) / 2 ^ lo2 := by
        have : 2 ^ (hi2 + 1) = 2 ^ lo2 * 2 ^ (hi2 + 1 - lo2) := by rw [← Nat.pow_add]; congr 1; omega
        rw [this, Nat.mod_mul_right_div_self]
      have e2 : m % 2 ^ lo / 2 ^ lo2 % 2 ^ (hi2 + 1 - lo2) = m % 2 ^ lo % 2 ^ (hi2 + 1) / 2 ^ lo2 := by
        have : 2 ^ (hi2 + 1) = 2 ^ lo2 * 2 ^ (hi2 + 1 - lo2) := by rw [← Nat.pow_add]; congr 1; omega
        rw [this, Nat.mod_mul_right_div_self]
      rw [e1, e2, Nat.mod_mod_of_dvd _ (Nat.pow_dvd_pow 2 (by omega))]
    · have : hi2 + 1 - lo2 = 0 := by omega
      simp [this, Nat.mod_one]
  rw [key (putBits n hi lo v), key n, hm]

theorem putBits_lt (n hi lo v : Nat) (hn : n < 2 ^ 32) (hh : hi < 32) (hl : lo ≤ hi + 1) : putBits n hi lo v < 2 ^ 32 := by
  have hb : bits (putBits n hi lo v) 63 32 = bits n 63 32 := bits_putBits_above n hi lo v 63 32 hh hl
  rw [putBits_split]
  have ha : 0 < 2 ^ lo := Nat.two_pow_pos lo
  have hr : n % 2 ^ lo < 2 ^ lo := Nat.mod_lt _ ha
  have hx : v % 2 ^ (hi + 1 - lo) < 2 ^ (hi + 1 - lo) := Nat.mod_lt _ (Nat.two_pow_pos _)
  have hp : 2 ^ 32 = 2 ^ lo * (2 ^ (hi + 1 - lo) * 2 ^ (31 - hi)) := by
    rw [← Nat.pow_add, ← Nat.pow_add]; congr 1; omega
  have hq : n / 2 ^ lo / 2 ^ (hi + 1 - lo) < 2 ^ (31 - hi) := by
    rw [Nat.div_div_eq_div_mul]
    apply Nat.div_lt_of_lt_mul
    rw [Nat.mul_assoc, ← hp]; exact hn
  rw [hp]
  have h1 : 2 ^ (hi + 1 - lo) * (n / 2 ^ lo / 2 ^ (hi + 1 - lo)) + v % 2 ^ (hi + 1 - lo) + 1 ≤ 2 ^ (hi + 1 - lo) * 2 ^ (31 - hi) := by
    calc _ ≤ 2 ^ (hi + 1 - lo) * (n / 2 ^ lo / 2 ^ (hi + 1 - lo)) + 2 ^ (hi + 1 - lo) := by omega
      _ = 2 ^ (hi + 1 - lo) * (n / 2 ^ lo / 2 ^ (hi + 1 - lo) + 1) := by rw [Nat.mul_add, Nat.mul_one]
      _ ≤ _ := Nat.mul_le_mul_left _ hq
  calc _ < 2 ^ lo * (2 ^ (hi + 1 - lo) * (n / 2 ^ lo / 2 ^ (hi + 1 - lo)) + v % 2 ^ (hi + 1 - lo)) + 2 ^ lo := by omega
    _ = 2 ^ lo * (2 ^ (hi + 1 - lo) * (n / 2 ^ lo / 2 ^ (hi + 1 - lo)) + v % 2 ^ (hi + 1 - lo) + 1) := by rw [Nat.mul_add _ _ 1, Nat.mul_one]
    _ ≤ _ := Nat.mul_le_mul_left _ h1

/-! ### The register file -/

variable (s : State)

theorem State.rr_lt (r : Reg) (i : Nat) : s.rr r i < 2 ^ 32 := BitVec.isLt _

@[simp] theorem State.rr_wr_same (r : Reg) (i v : Nat) : (s.wr r i v).rr r i = v % 2 ^ 32 := by
  unfold State.rr State.wr
  by_cases h : BitVec.ofNat 32 v = BitVec.ofNat 32 (r.rst i)
  · simp only [h, if_true, SMap.find?_del_same, Option.getD_none]
    rw [← h, BitVec.toNat_ofNat]
  · simp only [h, if_false, SMap.find?_put_same, Option.getD_some, BitVec.toNat_ofNat]

/-- Other registers read as before. -/
theorem State.rr_wr_ne (r q : Reg) (i j v : Nat) (h : q.key j ≠ r.key i) : (s.wr r i v).rr q j = s.rr q j := by
  unfold State.rr State.wr
  by_cases hv : BitVec.ofNat 32 v = BitVec.ofNat 32 (r.rst i)
  · simp only [hv, if_true, SMap.find?_del_ne _ _ _ h]
  · simp only [hv, if_false, SMap.find?_put_ne _ _ _ _ h]

/-- A field that the hardware sets reads its new value. -/
theorem State.f_sf_same (g : Fld) (i v : Nat) (hh : g.hi < 32) (hl : g.lo ≤ g.hi + 1) :
    (s.sf g i v).f g i = v % 2 ^ (g.hi + 1 - g.lo) := by
  unfold State.f State.sf
  rw [State.rr_wr_same, Nat.mod_eq_of_lt (putBits_lt _ _ _ _ (s.rr_lt _ _) hh hl), bits_putBits_same]

/-- Another field of the same register above it stays. -/
theorem State.f_sf_above (g q : Fld) (i v : Nat) (hr : q.reg = g.reg) (h : g.hi < q.lo) (hh : g.hi < 32) (hl : g.lo ≤ g.hi + 1) :
    (s.sf g i v).f q i = s.f q i := by
  unfold State.f State.sf
  rw [hr, State.rr_wr_same, Nat.mod_eq_of_lt (putBits_lt _ _ _ _ (s.rr_lt _ _) hh hl), bits_putBits_above _ _ _ _ _ _ h hl]

/-- Another field of the same register below it stays. -/
theorem State.f_sf_below (g q : Fld) (i v : Nat) (hr : q.reg = g.reg) (h : q.hi < g.lo) (hh : g.hi < 32) (hl : g.lo ≤ g.hi + 1) :
    (s.sf g i v).f q i = s.f q i := by
  unfold State.f State.sf
  rw [hr, State.rr_wr_same, Nat.mod_eq_of_lt (putBits_lt _ _ _ _ (s.rr_lt _ _) hh hl), bits_putBits_below _ _ _ _ _ _ h]

/-- A field of another register stays. -/
theorem State.f_wr_ne (r : Reg) (q : Fld) (i j v : Nat) (h : q.reg.key j ≠ r.key i) : (s.wr r i v).f q j = s.f q j := by
  unfold State.f
  rw [State.rr_wr_ne s r q.reg i j v h]

theorem State.f_sf_ne (g q : Fld) (i j v : Nat) (h : q.reg.key j ≠ g.reg.key i) : (s.sf g i v).f q j = s.f q j :=
  State.f_wr_ne s g.reg q i j _ h

@[simp] theorem State.rr_bump_same (r : Reg) (i n : Nat) : (s.bump r i n).rr r i = min (s.rr r i + n) 0xFFFFFFFF := by
  unfold State.bump
  rw [State.rr_wr_same]
  exact Nat.mod_eq_of_lt (lt_of_le_of_lt (Nat.min_le_right _ _) (by norm_num))

theorem State.rr_bump_ne (r q : Reg) (i j n : Nat) (h : q.key j ≠ r.key i) : (s.bump r i n).rr q j = s.rr q j :=
  State.rr_wr_ne s r q i j _ h

theorem State.pair_setPair_same (lo hi : Reg) (i v : Nat) (h : lo.key i ≠ hi.key i) : (s.setPair lo hi i v).pair lo hi i = v % 2 ^ 64 := by
  unfold State.pair State.setPair
  rw [State.rr_wr_same, State.rr_wr_ne _ _ _ _ _ _ h, State.rr_wr_same]
  omega

/-! ### Records that repeat -/

@[simp] theorem State.tile_setTile_same (t : Nat) (x : Tile) : (s.setTile t x).tile t = x := by
  unfold State.tile State.setTile; simp
theorem State.tile_setTile_ne (t u : Nat) (x : Tile) (h : u ≠ t) : (s.setTile t x).tile u = s.tile u := by
  unfold State.tile State.setTile; exact SMap.get_set_ne _ _ _ _ _ h
@[simp] theorem State.slot_setSlot_same (i : Nat) (x : Slot) : (s.setSlot i x).slot i = x := by
  unfold State.slot State.setSlot; simp
theorem State.slot_setSlot_ne (i j : Nat) (x : Slot) (h : j ≠ i) : (s.setSlot i x).slot j = s.slot j := by
  unfold State.slot State.setSlot; exact SMap.get_set_ne _ _ _ _ _ h
@[simp] theorem State.port_setPort_same (i : Nat) (x : Port) : (s.setPort i x).port i = x := by
  unfold State.port State.setPort; simp
theorem State.port_setPort_ne (i j : Nat) (x : Port) (h : j ≠ i) : (s.setPort i x).port j = s.port j := by
  unfold State.port State.setPort; exact SMap.get_set_ne _ _ _ _ _ h
@[simp] theorem State.core_setCore_same (i : Nat) (x : Core) : (s.setCore i x).core i = x := by
  unfold State.core State.setCore; simp
theorem State.core_setCore_ne (i j : Nat) (x : Core) (h : j ≠ i) : (s.setCore i x).core j = s.core j := by
  unfold State.core State.setCore; exact SMap.get_set_ne _ _ _ _ _ h
@[simp] theorem State.gov_setGov_same (g : Bool) (x : Gov) : (s.setGov g x).gov g = x := by cases g <;> rfl
@[simp] theorem State.gov_setGov_other (g : Bool) (x : Gov) : (s.setGov g x).gov (!g) = s.gov (!g) := by cases g <;> rfl
@[simp] theorem State.meter_setMeter_same (g : Bool) (x : Meter) : (s.setMeter g x).meter g = x := by cases g <;> rfl
@[simp] theorem State.meter_setMeter_other (g : Bool) (x : Meter) : (s.setMeter g x).meter (!g) = s.meter (!g) := by cases g <;> rfl

end Sys2Proof.Machine
end

