-- ==== Sys2Proof/Laws/Memory.lean ====
section
/-! SUPPORT. The laws of memory and of the block counters: what each shared operation can change, what is read after a write, and that every
operation on memory keeps its canonical form. -/

namespace Sys2Proof.Machine

/-! ### Folds -/

/-- A fold keeps what each of its steps keeps. -/
theorem foldl_keeps {α β : Type} (P : β → Prop) (f : β → α → β) (hf : ∀ b a, P b → P (f b a)) (l : List α) (b : β) (h : P b) :
    P (l.foldl f b) := by
  induction l generalizing b with
  | nil => exact h
  | cons a l ih => exact ih (f b a) (hf b a h)

/-! ### Updates of the register file alone -/

/-- Nothing but the register file differs. -/
def RegsOnly (s t : State) : Prop := { t with regs := s.regs } = s

theorem RegsOnly.refl (s : State) : RegsOnly s s := rfl
theorem RegsOnly.trans {s t u : State} (h1 : RegsOnly s t) (h2 : RegsOnly t u) : RegsOnly s u := by
  unfold RegsOnly at *
  have h3 : { u with regs := s.regs } = { ({ u with regs := t.regs } : State) with regs := s.regs } := rfl
  rw [h3, h2, h1]
theorem RegsOnly.wr (s : State) (r : Reg) (i v : Nat) : RegsOnly s (s.wr r i v) := rfl
theorem RegsOnly.sf (s : State) (g : Fld) (i v : Nat) : RegsOnly s (s.sf g i v) := rfl
theorem RegsOnly.bump (s : State) (r : Reg) (i n : Nat) : RegsOnly s (s.bump r i n) := rfl
theorem RegsOnly.bumpF (s : State) (g : Fld) (i : Nat) : RegsOnly s (s.bumpF g i) := rfl
theorem RegsOnly.setPair (s : State) (lo hi : Reg) (i v : Nat) : RegsOnly s (s.setPair lo hi i v) := rfl
theorem RegsOnly.prfEvent (s : State) (b : Nat) : RegsOnly s (s.prfEvent b) := rfl

theorem RegsOnly.err (s : State) (b : Block) (st : Status) : RegsOnly s (s.err b st) := by
  unfold State.err
  split
  · rfl
  · split <;> rfl

theorem RegsOnly.blkAdd (s : State) (j n : Nat) : RegsOnly s (s.blkAdd j n) := by
  unfold State.blkAdd
  dsimp only
  split
  · rfl
  · split
    · split <;> rfl
    · rfl

theorem RegsOnly.blockEvent (s : State) (ev idx n : Nat) : RegsOnly s (s.blockEvent ev idx n) := by
  unfold State.blockEvent
  split
  · rfl
  · refine foldl_keeps (RegsOnly s) _ (fun b a hb => ?_) _ s rfl
    split
    · exact hb.trans (RegsOnly.blkAdd b a n)
    · exact hb

theorem RegsOnly.tcAdd (s : State) (t k n : Nat) : RegsOnly s (s.tcAdd t k n) := by
  unfold State.tcAdd
  dsimp only
  split
  · rfl
  · split
    · split <;> rfl
    · rfl

theorem RegsOnly.tileEvent (s : State) (t ev n : Nat) : RegsOnly s (s.tileEvent t ev n) := by
  unfold State.tileEvent
  split
  · rfl
  · refine foldl_keeps (RegsOnly s) _ (fun b a hb => ?_) _ s rfl
    split
    · exact hb.trans (RegsOnly.tcAdd b t a n)
    · exact hb

theorem RegsOnly.mem {s t : State} (h : RegsOnly s t) : t.mem = s.mem := by
  have h1 : ({ t with regs := s.regs } : State) = s := h
  have h2 := congrArg State.mem h1
  exact h2
theorem RegsOnly.tiles {s t : State} (h : RegsOnly s t) : t.tiles = s.tiles := by
  have h1 : ({ t with regs := s.regs } : State) = s := h
  have h2 := congrArg State.tiles h1
  exact h2
theorem RegsOnly.tile {s t : State} (h : RegsOnly s t) (n : Nat) : t.tile n = s.tile n := by
  have h1 : ({ t with regs := s.regs } : State) = s := h
  have h2 := congrArg (fun x : State => x.tile n) h1
  exact h2

/-! ### Bytes -/

/-- Storing bytes changes only the stored bytes of memory. -/
theorem State.storeBytes_only (s : State) (a : Nat) (bs : List Byte) :
    s.storeBytes a bs = { s with mem := { s.mem with cells := (s.storeBytes a bs).mem.cells } } := by
  induction bs generalizing s a with
  | nil => rfl
  | cons b bs ih => unfold State.storeBytes; rw [ih]

/-- A byte after a store: a stored byte, or what stood there. -/
theorem State.byte_storeBytes (s : State) (a : Nat) (bs : List Byte) (j : Nat) :
    (s.storeBytes a bs).byte j = if a ≤ j ∧ j < a + bs.length then bs.getD (j - a) 0 else s.byte j := by
  induction bs generalizing s a with
  | nil => unfold State.storeBytes; have : ¬(a ≤ j ∧ j < a + ([] : List Byte).length) := by simp
           rw [if_neg this]
  | cons b bs ih =>
    unfold State.storeBytes
    rw [ih]
    have hb : State.byte { s with mem := { s.mem with cells := SMap.set (fun _ => 0#8) s.mem.cells a b } } j =
        if j = a then b else s.byte j := by
      unfold State.byte; exact SMap.get_set _ _ _ _ _
    rw [hb]
    by_cases h1 : j = a
    · subst h1
      rw [if_neg (by omega), if_pos rfl, if_pos (by simp only [List.length_cons]; omega), Nat.sub_self]; rfl
    · rw [if_neg h1]
      by_cases h2 : a + 1 ≤ j ∧ j < a + 1 + bs.length
      · have h4 : j - a = (j - (a + 1)) + 1 := by omega
        rw [if_pos h2, if_pos (by simp only [List.length_cons]; omega), h4]; rfl
      · rw [if_neg h2, if_neg (by simp only [List.length_cons]; omega)]

/-! ### The canonical form -/

/-- The bytes that memory lists keep their canonical form. -/
def KeepsMemory (s t : State) : Prop := s.mem.wf = true → t.mem.wf = true

theorem KeepsMemory.refl (s : State) : KeepsMemory s s := id
theorem KeepsMemory.trans {s t u : State} (h1 : KeepsMemory s t) (h2 : KeepsMemory t u) : KeepsMemory s u := h2 ∘ h1
theorem KeepsMemory.of_eq {s t : State} (h : t.mem.cells = s.mem.cells) : KeepsMemory s t := by
  unfold KeepsMemory Memory.wf; rw [h]; exact id
theorem RegsOnly.keepsMemory {s t : State} (h : RegsOnly s t) : KeepsMemory s t := KeepsMemory.of_eq (by rw [h.mem])

theorem storeBytes_keeps (s : State) (a : Nat) (bs : List Byte) : KeepsMemory s (s.storeBytes a bs) := by
  induction bs generalizing s a with
  | nil => exact id
  | cons b bs ih =>
    unfold State.storeBytes
    refine KeepsMemory.trans (t := { s with mem := { s.mem with cells := SMap.set (fun _ => 0#8) s.mem.cells a b } }) ?_ (ih _ _)
    exact fun h => SMap.wf_set _ _ _ _ h

theorem setPoison_keeps (s : State) (line : Nat) (p : Bool) : KeepsMemory s (s.setPoison line p) := KeepsMemory.of_eq rfl
theorem dropLatent_keeps (s : State) (line : Nat) : KeepsMemory s (s.dropLatent line) := KeepsMemory.of_eq rfl

theorem countCe_cells (s : State) (a : Nat) : (s.countCe a).mem = s.mem := by
  unfold State.countCe
  split
  · simp only [State.raise_mem, State.bump_mem]
  · simp only [State.raise_mem, State.bump_mem]
  · simp only [State.raise_mem, State.bumpF_mem]
  · rfl

theorem errlog_only (s : State) (a q src : Nat) : RegsOnly s (s.errlog a q src) := by
  unfold State.errlog
  split
  · exact RegsOnly.sf _ _ _ _
  · exact (RegsOnly.setPair _ _ _ _ _).trans (RegsOnly.wr _ _ _ _)

theorem countUe_cells (s : State) (a src : Nat) : (s.countUe a src).mem = s.mem := by
  unfold State.countUe
  split
  · simp only [State.raise_mem, (errlog_only _ _ _ _).mem, State.bump_mem]
  · rfl
  · simp only [State.raise_mem, State.bumpF_mem]
  · rfl

theorem checkLine_keeps (s : State) (line src : Nat) : KeepsMemory s (s.checkLine line src).1 := by
  unfold State.checkLine
  dsimp only
  have h0 : KeepsMemory s (if placeOf (line * 64) = Place.dram then s.blockEvent 1 (s.channelOf (line * 64)) 1 else s) := by
    split
    · exact (RegsOnly.blockEvent _ _ _ _).keepsMemory
    · exact id
  refine KeepsMemory.trans h0 ?_
  generalize (if placeOf (line * 64) = Place.dram then s.blockEvent 1 (s.channelOf (line * 64)) 1 else s) = u
  split
  · exact id
  · split
    · split
      · exact (RegsOnly.bump _ _ _ _).keepsMemory
      · exact id
    · split
      · exact id
      · exact KeepsMemory.of_eq (by rw [countCe_cells]; rfl)
      · exact KeepsMemory.of_eq (by rw [countUe_cells]; rfl)

theorem checkLines_keeps (s : State) (line src n : Nat) : KeepsMemory s (s.checkLines line src n).1 := by
  induction n generalizing s line with
  | zero => exact id
  | succ n ih => exact KeepsMemory.trans (checkLine_keeps s line src) (ih _ _)

theorem readMem_keeps (s : State) (a n src : Nat) : KeepsMemory s (s.readMem a n src).1 := checkLines_keeps _ _ _ _

theorem writeLine_keeps (s : State) (a : Nat) (bs : List Byte) (marked : Bool) (src : Nat) :
    KeepsMemory s (s.writeLine a bs marked src) := by
  unfold State.writeLine
  dsimp only
  have h0 : KeepsMemory s (if placeOf a = Place.dram then s.blockEvent 2 (s.channelOf a) 1 else s) := by
    split
    · exact (RegsOnly.blockEvent _ _ _ _).keepsMemory
    · exact id
  refine KeepsMemory.trans h0 ?_
  generalize (if placeOf a = Place.dram then s.blockEvent 2 (s.channelOf a) 1 else s) = u
  split
  · exact id
  · split
    · exact KeepsMemory.trans (t := (u.dropLatent (a / 64)).setPoison (a / 64) marked) (KeepsMemory.of_eq rfl) (storeBytes_keeps _ _ _)
    · refine KeepsMemory.trans ?_ (storeBytes_keeps _ _ _)
      refine KeepsMemory.trans ?_ (setPoison_keeps _ _ _)
      split
      · exact id
      · exact checkLine_keeps _ _ _

theorem writeLines_keeps (s : State) (k a : Nat) (bs : List Byte) (marked : Bool) (src : Nat) :
    KeepsMemory s (s.writeLines k a bs marked src) := by
  induction k generalizing s a bs with
  | zero => exact id
  | succ k ih =>
    unfold State.writeLines
    dsimp only
    split
    · exact id
    · exact KeepsMemory.trans (writeLine_keeps _ _ _ _ _) (ih _ _ _)

theorem writeMem_keeps (s : State) (a : Nat) (bs : List Byte) (marked : Bool) (src : Nat) :
    KeepsMemory s (s.writeMem a bs marked src) := writeLines_keeps _ _ _ _ _ _

theorem poisonLines_keeps (s : State) (line n : Nat) : KeepsMemory s (s.poisonLines line n) := by
  induction n generalizing s line with
  | zero => exact id
  | succ n ih => exact KeepsMemory.trans (setPoison_keeps _ _ _) (ih _ _)

theorem writeBuffer_keeps (s : State) (t : Nat) (p : Posted) (b : Bale) : KeepsMemory s (s.writeBuffer t p b) := by
  unfold State.writeBuffer
  dsimp only
  split
  · exact (writeMem_keeps _ _ _ _ _).trans (poisonLines_keeps _ _ _)
  · exact writeMem_keeps _ _ _ _ _

theorem storeLine_keeps (s : State) (t a : Nat) (vals : List (Option Nat)) (marked : Bool) : KeepsMemory s (s.storeLine t a vals marked) := by
  unfold State.storeLine
  split
  · exact writeMem_keeps _ _ _ _ _
  · refine foldl_keeps (KeepsMemory s) _ (fun b p hb => ?_) _ s id
    split
    · exact hb.trans (writeMem_keeps _ _ _ _ _)
    · exact hb

theorem clearStore_keeps (s : State) (t : Nat) : KeepsMemory s (s.clearStore t) := fun h => SMap.wf_filter _ _ _ h

theorem startClear_keeps (s : State) : KeepsMemory s s.startClear := by
  intro h
  have h2 : (State.startClear s).mem.cells = s.mem.cells.filter (fun e => decide (memEnd ≤ e.1)) := by
    unfold State.startClear State.stepDone
    simp only [State.sf_mem, State.wr_mem]
  unfold Memory.wf
  rw [h2]
  exact SMap.wf_filter _ _ _ h

theorem loadPrograms_keeps (s : State) (l : List (Station × Nat)) : KeepsMemory s (s.loadPrograms l).1 := by
  induction l generalizing s with
  | nil => exact id
  | cons p l ih =>
    obtain ⟨x, k⟩ := p
    unfold State.loadPrograms
    dsimp only
    split
    · exact id
    · split
      · exact fun h => ih _ h
      · split
        · exact readMem_keeps _ _ _ _
        · refine KeepsMemory.trans ?_ (ih _)
          exact (readMem_keeps _ _ _ _).trans ((storeBytes_keeps _ _ _).trans (KeepsMemory.of_eq rfl))

end Sys2Proof.Machine
end

