-- ==== Sys2Proof/Laws/PerInstr.lean ====
section
/-! SUPPORT. Per command: the word of a Viroth instruction is of a class and an operation that R159 lists; a command that is no Viroth
instruction has no word. -/

namespace Sys2Proof.Laws.Encoding

/-- The number of operations that R159 lists for a class. -/
def operations (cls : Nat) : Nat := [16, 14, 5, 15, 12, 6, 4, 7, 5, 1].getD cls 0

/-- A command that has a Viroth word has one of a listed class and operation. -/
def Statement (i : Instr) : Prop :=
  ∀ w, encodeViroth i = some w → (w.extractLsb' 56 4).toNat < operations (w.extractLsb' 60 4).toNat

/-- The class field of a word. -/
theorem class_of_word (cls opc : BitVec 4) (o : VOp) : (virothWord cls opc o).extractLsb' 60 4 = cls := by
  unfold virothWord
  apply BitVec.eq_of_getLsbD_eq
  intro i hi
  simp only [BitVec.getLsbD_extractLsb', hi, decide_true, Bool.true_and, BitVec.getLsbD_append]
  repeat rw [if_neg (by omega)]
  congr 1
  omega

/-- The operation field of a word. -/
theorem opc_of_word (cls opc : BitVec 4) (o : VOp) : (virothWord cls opc o).extractLsb' 56 4 = opc := by
  unfold virothWord
  apply BitVec.eq_of_getLsbD_eq
  intro i hi
  simp only [BitVec.getLsbD_extractLsb', hi, decide_true, Bool.true_and, BitVec.getLsbD_append]
  repeat rw [if_neg (by omega)]
  rw [if_pos (by omega)]
  congr 1
  omega

/-- A word of a listed class and operation is listed. -/
theorem listed (cls opc : BitVec 4) (o : VOp) (h : opc.toNat < operations cls.toNat) (w : BitVec 64) (hw : some (virothWord cls opc o) = some w) :
    (w.extractLsb' 56 4).toNat < operations (w.extractLsb' 60 4).toNat := by
  cases hw
  rw [class_of_word, opc_of_word]
  exact h

theorem registerWrite (rq : Requester) (addr size : Nat) (value : BitVec 32) : Statement (.registerWrite rq addr size value) := nofun

theorem counterReadClear (rq : Requester) (addr size : Nat) : Statement (.counterReadClear rq addr size) := nofun

theorem pairLowRead (rq : Requester) (addr size : Nat) : Statement (.pairLowRead rq addr size) := nofun

theorem pairLowWrite (rq : Requester) (addr size : Nat) (value : BitVec 32) : Statement (.pairLowWrite rq addr size value) := nofun

theorem pairHighWrite (rq : Requester) (addr size : Nat) (value : BitVec 32) : Statement (.pairHighWrite rq addr size value) := nofun

theorem tmbTodArm (rq : Requester) (high : BitVec 32) : Statement (.tmbTodArm rq high) := nofun

theorem ppsEdge : Statement (.ppsEdge) := nofun

theorem ppsMiss : Statement (.ppsMiss) := nofun

theorem refclkLoss : Statement (.refclkLoss) := nofun

theorem refclkRestore : Statement (.refclkRestore) := nofun

theorem cvnOpen (op : CvnOp) (x : Xlate) : Statement (.cvnOpen op x) := nofun

theorem cvnStart (op : CvnOp) : Statement (.cvnStart op) := nofun

theorem cvnPush (op : CvnOp) (x : Xlate) : Statement (.cvnPush op x) := nofun

theorem cvnPause (op : CvnOp) : Statement (.cvnPause op) := nofun

theorem cvnAbort (op : CvnOp) : Statement (.cvnAbort op) := nofun

theorem cvnClose (op : CvnOp) : Statement (.cvnClose op) := nofun

theorem cvnStat (op : CvnOp) : Statement (.cvnStat op) := nofun

theorem cvnWait (op : CvnOp) : Statement (.cvnWait op) := nofun

theorem cvnWaitTimeout (core : Fin 32) : Statement (.cvnWaitTimeout core) := nofun

theorem cvnToll (op : CvnOp) : Statement (.cvnToll op) := nofun

theorem cvnCad (op : CvnOp) : Statement (.cvnCad op) := nofun

theorem stationLoadDone (slot : Fin 64) : Statement (.stationLoadDone slot) := nofun

theorem stationLoadFault (slot : Fin 64) : Statement (.stationLoadFault slot) := nofun

theorem abortDone (slot : Fin 64) : Statement (.abortDone slot) := nofun

theorem seqAdmit (slot : Fin 64) (timeout : Bool) : Statement (.seqAdmit slot timeout) := nofun

theorem cadenceRelease (slot : Fin 64) : Statement (.cadenceRelease slot) := nofun

theorem latePeriod (slot : Fin 64) : Statement (.latePeriod slot) := nofun

theorem baleArrive (tile : Fin 768) : Statement (.baleArrive tile) := nofun

theorem completionResume (slot : Fin 64) : Statement (.completionResume slot) := nofun

theorem cvnSlotRingRdWrite (rq : Requester) (slot : Fin 64) (value : BitVec 32) : Statement (.cvnSlotRingRdWrite rq slot value) := nofun

theorem cvnSlotThreshWrite (rq : Requester) (slot : Fin 64) (value : BitVec 32) : Statement (.cvnSlotThreshWrite rq slot value) := nofun

theorem foRegisterWrite (rq : Requester) (tile : Fin 768) (offset : Nat) (value : BitVec 32) : Statement (.foRegisterWrite rq tile offset value) := nofun

theorem scAdd (tile : Fin 768) (op : VOp) : Statement (.scAdd tile op) := listed _ _ _ (by decide)

theorem scSub (tile : Fin 768) (op : VOp) : Statement (.scSub tile op) := listed _ _ _ (by decide)

theorem scAnd (tile : Fin 768) (op : VOp) : Statement (.scAnd tile op) := listed _ _ _ (by decide)

theorem scOr (tile : Fin 768) (op : VOp) : Statement (.scOr tile op) := listed _ _ _ (by decide)

theorem scXor (tile : Fin 768) (op : VOp) : Statement (.scXor tile op) := listed _ _ _ (by decide)

theorem scSll (tile : Fin 768) (op : VOp) : Statement (.scSll tile op) := listed _ _ _ (by decide)

theorem scSrl (tile : Fin 768) (op : VOp) : Statement (.scSrl tile op) := listed _ _ _ (by decide)

theorem scSra (tile : Fin 768) (op : VOp) : Statement (.scSra tile op) := listed _ _ _ (by decide)

theorem scMul (tile : Fin 768) (op : VOp) : Statement (.scMul tile op) := listed _ _ _ (by decide)

theorem scMulh (tile : Fin 768) (op : VOp) : Statement (.scMulh tile op) := listed _ _ _ (by decide)

theorem scDiv (tile : Fin 768) (op : VOp) : Statement (.scDiv tile op) := listed _ _ _ (by decide)

theorem scRem (tile : Fin 768) (op : VOp) : Statement (.scRem tile op) := listed _ _ _ (by decide)

theorem scSlt (tile : Fin 768) (op : VOp) : Statement (.scSlt tile op) := listed _ _ _ (by decide)

theorem scSltu (tile : Fin 768) (op : VOp) : Statement (.scSltu tile op) := listed _ _ _ (by decide)

theorem scMin (tile : Fin 768) (op : VOp) : Statement (.scMin tile op) := listed _ _ _ (by decide)

theorem scMax (tile : Fin 768) (op : VOp) : Statement (.scMax tile op) := listed _ _ _ (by decide)

theorem scAddi (tile : Fin 768) (op : VOp) : Statement (.scAddi tile op) := listed _ _ _ (by decide)

theorem scAndi (tile : Fin 768) (op : VOp) : Statement (.scAndi tile op) := listed _ _ _ (by decide)

theorem scOri (tile : Fin 768) (op : VOp) : Statement (.scOri tile op) := listed _ _ _ (by decide)

theorem scXori (tile : Fin 768) (op : VOp) : Statement (.scXori tile op) := listed _ _ _ (by decide)

theorem scSlli (tile : Fin 768) (op : VOp) : Statement (.scSlli tile op) := listed _ _ _ (by decide)

theorem scSrli (tile : Fin 768) (op : VOp) : Statement (.scSrli tile op) := listed _ _ _ (by decide)

theorem scSrai (tile : Fin 768) (op : VOp) : Statement (.scSrai tile op) := listed _ _ _ (by decide)

theorem scSlti (tile : Fin 768) (op : VOp) : Statement (.scSlti tile op) := listed _ _ _ (by decide)

theorem scLi (tile : Fin 768) (op : VOp) : Statement (.scLi tile op) := listed _ _ _ (by decide)

theorem scLih (tile : Fin 768) (op : VOp) : Statement (.scLih tile op) := listed _ _ _ (by decide)

theorem scLd (tile : Fin 768) (op : VOp) : Statement (.scLd tile op) := listed _ _ _ (by decide)

theorem scSt (tile : Fin 768) (op : VOp) : Statement (.scSt tile op) := listed _ _ _ (by decide)

theorem scTr (tile : Fin 768) (op : VOp) : Statement (.scTr tile op) := listed _ _ _ (by decide)

theorem scTw (tile : Fin 768) (op : VOp) : Statement (.scTw tile op) := listed _ _ _ (by decide)

theorem ctBr (tile : Fin 768) (op : VOp) : Statement (.ctBr tile op) := listed _ _ _ (by decide)

theorem ctJal (tile : Fin 768) (op : VOp) : Statement (.ctJal tile op) := listed _ _ _ (by decide)

theorem ctJr (tile : Fin 768) (op : VOp) : Statement (.ctJr tile op) := listed _ _ _ (by decide)

theorem ctFence (tile : Fin 768) (op : VOp) : Statement (.ctFence tile op) := listed _ _ _ (by decide)

theorem ctNop (tile : Fin 768) (op : VOp) : Statement (.ctNop tile op) := listed _ _ _ (by decide)

theorem vAdd (tile : Fin 768) (op : VOp) : Statement (.vAdd tile op) := listed _ _ _ (by decide)

theorem vSub (tile : Fin 768) (op : VOp) : Statement (.vSub tile op) := listed _ _ _ (by decide)

theorem vMul (tile : Fin 768) (op : VOp) : Statement (.vMul tile op) := listed _ _ _ (by decide)

theorem vFma (tile : Fin 768) (op : VOp) : Statement (.vFma tile op) := listed _ _ _ (by decide)

theorem vMin (tile : Fin 768) (op : VOp) : Statement (.vMin tile op) := listed _ _ _ (by decide)

theorem vMax (tile : Fin 768) (op : VOp) : Statement (.vMax tile op) := listed _ _ _ (by decide)

theorem vAnd (tile : Fin 768) (op : VOp) : Statement (.vAnd tile op) := listed _ _ _ (by decide)

theorem vOr (tile : Fin 768) (op : VOp) : Statement (.vOr tile op) := listed _ _ _ (by decide)

theorem vXor (tile : Fin 768) (op : VOp) : Statement (.vXor tile op) := listed _ _ _ (by decide)

theorem vShl (tile : Fin 768) (op : VOp) : Statement (.vShl tile op) := listed _ _ _ (by decide)

theorem vCmp (tile : Fin 768) (op : VOp) : Statement (.vCmp tile op) := listed _ _ _ (by decide)

theorem vSel (tile : Fin 768) (op : VOp) : Statement (.vSel tile op) := listed _ _ _ (by decide)

theorem vCvt (tile : Fin 768) (op : VOp) : Statement (.vCvt tile op) := listed _ _ _ (by decide)

theorem vRed (tile : Fin 768) (op : VOp) : Statement (.vRed tile op) := listed _ _ _ (by decide)

theorem vSpec (tile : Fin 768) (op : VOp) : Statement (.vSpec tile op) := listed _ _ _ (by decide)

theorem vLd (tile : Fin 768) (op : VOp) : Statement (.vLd tile op) := listed _ _ _ (by decide)

theorem vSt (tile : Fin 768) (op : VOp) : Statement (.vSt tile op) := listed _ _ _ (by decide)

theorem vGath (tile : Fin 768) (op : VOp) : Statement (.vGath tile op) := listed _ _ _ (by decide)

theorem vScat (tile : Fin 768) (op : VOp) : Statement (.vScat tile op) := listed _ _ _ (by decide)

theorem vBcast (tile : Fin 768) (op : VOp) : Statement (.vBcast tile op) := listed _ _ _ (by decide)

theorem vGet (tile : Fin 768) (op : VOp) : Statement (.vGet tile op) := listed _ _ _ (by decide)

theorem vPut (tile : Fin 768) (op : VOp) : Statement (.vPut tile op) := listed _ _ _ (by decide)

theorem vPerm (tile : Fin 768) (op : VOp) : Statement (.vPerm tile op) := listed _ _ _ (by decide)

theorem pMov (tile : Fin 768) (op : VOp) : Statement (.pMov tile op) := listed _ _ _ (by decide)

theorem pGet (tile : Fin 768) (op : VOp) : Statement (.pGet tile op) := listed _ _ _ (by decide)

theorem pOp (tile : Fin 768) (op : VOp) : Statement (.pOp tile op) := listed _ _ _ (by decide)

theorem pCnt (tile : Fin 768) (op : VOp) : Statement (.pCnt tile op) := listed _ _ _ (by decide)

theorem mxMac (tile : Fin 768) (op : VOp) : Statement (.mxMac tile op) := listed _ _ _ (by decide)

theorem mxMacs (tile : Fin 768) (op : VOp) : Statement (.mxMacs tile op) := listed _ _ _ (by decide)

theorem mxDrain (tile : Fin 768) (op : VOp) : Statement (.mxDrain tile op) := listed _ _ _ (by decide)

theorem mxLoad (tile : Fin 768) (op : VOp) : Statement (.mxLoad tile op) := listed _ _ _ (by decide)

theorem mxZero (tile : Fin 768) (op : VOp) : Statement (.mxZero tile op) := listed _ _ _ (by decide)

theorem mxWait (tile : Fin 768) (op : VOp) : Statement (.mxWait tile op) := listed _ _ _ (by decide)

theorem mxOpComplete (tile : Fin 768) (drainPath : Bool) : Statement (.mxOpComplete tile drainPath) := nofun

theorem mvGet (tile : Fin 768) (op : VOp) : Statement (.mvGet tile op) := listed _ _ _ (by decide)

theorem mvPut (tile : Fin 768) (op : VOp) : Statement (.mvPut tile op) := listed _ _ _ (by decide)

theorem mvWait (tile : Fin 768) (op : VOp) : Statement (.mvWait tile op) := listed _ _ _ (by decide)

theorem mvPoll (tile : Fin 768) (op : VOp) : Statement (.mvPoll tile op) := listed _ _ _ (by decide)

theorem mvComplete (tile : Fin 768) (tag : BitVec 4) (timeout : Bool) : Statement (.mvComplete tile tag timeout) := nofun

theorem wbPost (tile : Fin 768) (op : VOp) : Statement (.wbPost tile op) := listed _ _ _ (by decide)

theorem wbTake (tile : Fin 768) (op : VOp) : Statement (.wbTake tile op) := listed _ _ _ (by decide)

theorem wbGet (tile : Fin 768) (op : VOp) : Statement (.wbGet tile op) := listed _ _ _ (by decide)

theorem wbSet (tile : Fin 768) (op : VOp) : Statement (.wbSet tile op) := listed _ _ _ (by decide)

theorem wbSend (tile : Fin 768) (op : VOp) : Statement (.wbSend tile op) := listed _ _ _ (by decide)

theorem wbRetire (tile : Fin 768) (op : VOp) : Statement (.wbRetire tile op) := listed _ _ _ (by decide)

theorem wbCount (tile : Fin 768) (op : VOp) : Statement (.wbCount tile op) := listed _ _ _ (by decide)

theorem evWait (tile : Fin 768) (op : VOp) : Statement (.evWait tile op) := listed _ _ _ (by decide)

theorem evClr (tile : Fin 768) (op : VOp) : Statement (.evClr tile op) := listed _ _ _ (by decide)

theorem evNote (tile : Fin 768) (op : VOp) : Statement (.evNote tile op) := listed _ _ _ (by decide)

theorem evTime (tile : Fin 768) (op : VOp) : Statement (.evTime tile op) := listed _ _ _ (by decide)

theorem evTimer (tile : Fin 768) (op : VOp) : Statement (.evTimer tile op) := listed _ _ _ (by decide)

theorem mwBurn (tile : Fin 768) (op : VOp) : Statement (.mwBurn tile op) := listed _ _ _ (by decide)

theorem tileWaitRelease (tile : Fin 768) : Statement (.tileWaitRelease tile) := nofun

theorem tileTimerFire (tile : Fin 768) : Statement (.tileTimerFire tile) := nofun

theorem tileNoteWrite (rq : Requester) (tile : Fin 768) (value : BitVec 32) : Statement (.tileNoteWrite rq tile value) := nofun

theorem tileSeedHiWrite (rq : Requester) (tile : Fin 768) (value : BitVec 32) : Statement (.tileSeedHiWrite rq tile value) := nofun

theorem coreWindowAccess (rq : Requester) (addr size : Nat) (write : Option (BitVec 64)) (flip : Option Ecc) : Statement (.coreWindowAccess rq addr size write flip) := nofun

theorem patrolScrubLine (line : Fin 8589934592) (flip : Option Ecc) : Statement (.patrolScrubLine line flip) := nofun

theorem channelFail (channel : Fin 768) : Statement (.channelFail channel) := nofun

theorem stackBandUpdate (stack : Fin 8) : Statement (.stackBandUpdate stack) := nofun

theorem stackSelfrefWake (stack : Fin 8) : Statement (.stackSelfrefWake stack) := nofun

theorem meterSample (mb : Bool) (icode vcode temp : BitVec 24) : Statement (.meterSample mb icode vcode temp) := nofun

theorem meterReading (mb : Bool) : Statement (.meterReading mb) := nofun

theorem meterSelfcheck (mb : Bool) (refCode offsetNa : Nat) : Statement (.meterSelfcheck mb refCode offsetNa) := nofun

theorem meterWarmupEnd (mb : Bool) : Statement (.meterWarmupEnd mb) := nofun

theorem meterSnapshot (mb : Bool) : Statement (.meterSnapshot mb) := nofun

theorem mtrSnapSeqRead (rq : Requester) (ch : Option Bool) : Statement (.mtrSnapSeqRead rq ch) := nofun

theorem mtrPRead (rq : Requester) (mb : Bool) : Statement (.mtrPRead rq mb) := nofun

theorem elifeSave : Statement (.elifeSave) := nofun

theorem crossCheckWindow : Statement (.crossCheckWindow) := nofun

theorem accRunStart (rq : Requester) (value : BitVec 32) : Statement (.accRunStart rq value) := nofun

theorem accRunBegin : Statement (.accRunBegin) := nofun

theorem accRunEnd : Statement (.accRunEnd) := nofun

theorem controlPeriod (gb : Bool) : Statement (.controlPeriod gb) := nofun

theorem floorRecompute : Statement (.floorRecompute) := nofun

theorem partitionGateDone (p : Fin 4) : Statement (.partitionGateDone p) := nofun

theorem budgetMessage (peer : Nat) (msg : List Byte) : Statement (.budgetMessage peer msg) := nofun

theorem gridMessage (peer : Nat) (msg : List Byte) : Statement (.gridMessage peer msg) := nofun

theorem coolantMessage (peer : Nat) (msg : List Byte) : Statement (.coolantMessage peer msg) := nofun

theorem holdExpiry (gb : Bool) : Statement (.holdExpiry gb) := nofun

theorem frStale (gb : Bool) : Statement (.frStale gb) := nofun

theorem vcoreDroop (gb : Bool) : Statement (.vcoreDroop gb) := nofun

theorem droopResume (gb : Bool) : Statement (.droopResume gb) := nofun

theorem supplyDip (gb : Bool) : Statement (.supplyDip gb) := nofun

theorem dipRecover (gb : Bool) : Statement (.dipRecover gb) := nofun

theorem supplyLowShutdown (gb : Bool) : Statement (.supplyLowShutdown gb) := nofun

theorem supplyHighShutdown (gb : Bool) : Statement (.supplyHighShutdown gb) := nofun

theorem heartbeatStop (gb : Bool) : Statement (.heartbeatStop gb) := nofun

theorem claimLapse (gb : Bool) : Statement (.claimLapse gb) := nofun

theorem claimWrite (gb : Bool) : Statement (.claimWrite gb) := nofun

theorem ostCommand (gb : Bool) (out : BitVec 32) : Statement (.ostCommand gb out) := nofun

theorem switchOver : Statement (.switchOver) := nofun

theorem orphanEntry : Statement (.orphanEntry) := nofun

theorem orphanTimeout : Statement (.orphanTimeout) := nofun

theorem mirrorFrame (gb : Bool) (frame : List Byte) : Statement (.mirrorFrame gb frame) := nofun

theorem mirrorLost (gb : Bool) : Statement (.mirrorLost gb) := nofun

theorem trajectoryFrame (gb : Bool) (frame : List Byte) : Statement (.trajectoryFrame gb frame) := nofun

theorem ostSwap (rq : Requester) : Statement (.ostSwap rq) := nofun

theorem ostResetA (rq : Requester) : Statement (.ostResetA rq) := nofun

theorem ostResetB (rq : Requester) : Statement (.ostResetB rq) := nofun

theorem govRestartDone (gb pass : Bool) : Statement (.govRestartDone gb pass) := nofun

theorem lapsedGovReset (gb : Bool) : Statement (.lapsedGovReset gb) := nofun

theorem govRevert : Statement (.govRevert) := nofun

theorem lightDetect (port : Fin 20) (lanes : BitVec 8) : Statement (.lightDetect port lanes) := nofun

theorem trainDone (port : Fin 20) : Statement (.trainDone port) := nofun

theorem linkCheckDone (port : Fin 20) (errors : List Nat) (peerPass : BitVec 8) : Statement (.linkCheckDone port errors peerPass) := nofun

theorem certRx (port : Fin 20) (msg : List Byte) : Statement (.certRx port msg) := nofun

theorem helloTx (port : Fin 20) : Statement (.helloTx port) := nofun

theorem helloRx (port : Fin 20) (msg : List Byte) : Statement (.helloRx port msg) := nofun

theorem helloTimeout (port : Fin 20) : Statement (.helloTimeout port) := nofun

theorem rehelloStart (port : Fin 20) : Statement (.rehelloStart port) := nofun

theorem rehelloTimeout (port : Fin 20) : Statement (.rehelloTimeout port) := nofun

theorem lightLoss (port : Fin 20) (lanes : BitVec 8) : Statement (.lightLoss port lanes) := nofun

theorem goodbyeRx (port : Fin 20) : Statement (.goodbyeRx port) := nofun

theorem uncorrectableCodeword (port : Fin 20) : Statement (.uncorrectableCodeword port) := nofun

theorem resendRequest (port : Fin 20) (seq : BitVec 32) : Statement (.resendRequest port seq) := nofun

theorem linkAck (port : Fin 20) (seq : BitVec 32) : Statement (.linkAck port seq) := nofun

theorem fptAdminDown (rq : Requester) (port : Fin 20) : Statement (.fptAdminDown rq port) := nofun

theorem adminDrainEnd (port : Fin 20) : Statement (.adminDrainEnd port) := nofun

theorem fptAdminUp (rq : Requester) (port : Fin 20) : Statement (.fptAdminUp rq port) := nofun

theorem fptRetrain (rq : Requester) (port : Fin 20) : Statement (.fptRetrain rq port) := nofun

theorem fptMapWrite (rq : Requester) (port : Fin 20) (value : BitVec 32) : Statement (.fptMapWrite rq port value) := nofun

theorem fptCoordWrite (rq : Requester) (value : BitVec 32) : Statement (.fptCoordWrite rq value) := nofun

theorem fptMachineWrite (rq : Requester) (value : BitVec 32) : Statement (.fptMachineWrite rq value) := nofun

theorem fptTwistWrite (rq : Requester) (dim : Fin 18) (value : BitVec 32) : Statement (.fptTwistWrite rq dim value) := nofun

theorem laneAudit (port : Fin 20) (errors : List Nat) (bits uncorr : Nat) (peerPass : BitVec 8) : Statement (.laneAudit port errors bits uncorr peerPass) := nofun

theorem widthRx (port : Fin 20) (mask : BitVec 8) : Statement (.widthRx port mask) := nofun

theorem takeoverRx (port : Fin 20) : Statement (.takeoverRx port) := nofun

theorem takeoverAckRx (port : Fin 20) : Statement (.takeoverAckRx port) := nofun

theorem takeoverTimeout (port : Fin 20) : Statement (.takeoverTimeout port) := nofun

theorem sqProducerWrite (q : Fin 64) (value : Option (BitVec 32)) : Statement (.sqProducerWrite q value) := nofun

theorem sqDescriptor (q : Fin 64) (rnd : BitVec 18) (escape : Bool) : Statement (.sqDescriptor q rnd escape) := nofun

theorem frameRx (port : Fin 20) (frame : List Byte) (escape : Bool) : Statement (.frameRx port frame escape) := nofun

theorem cmapPeriod (levels : List (BitVec 8)) : Statement (.cmapPeriod levels) := nofun

theorem frtAvoidWrite (rq : Requester) (value : BitVec 32) : Statement (.frtAvoidWrite rq value) := nofun

theorem sqSliceWrite (rq : Requester) (q : Fin 64) (value : BitVec 32) : Statement (.sqSliceWrite rq q value) := nofun

theorem sqEnable (rq : Requester) (q : Fin 64) : Statement (.sqEnable rq q) := nofun

theorem rqEnable (rq : Requester) (q : Fin 64) : Statement (.rqEnable rq q) := nofun

theorem mgEnable (rq : Requester) (g : Fin 64) : Statement (.mgEnable rq g) := nofun

theorem mgDisable (rq : Requester) (g : Fin 64) : Statement (.mgDisable rq g) := nofun

theorem musterEnter (g : Fin 64) (line : Option (List Byte)) : Statement (.musterEnter g line) := nofun

theorem musterReadyWord (g : Fin 64) (word : Option (BitVec 32)) : Statement (.musterReadyWord g word) := nofun

theorem musterDoneWord (g : Fin 64) (word : Option (BitVec 32)) : Statement (.musterDoneWord g word) := nofun

theorem musterAbortWord (g : Fin 64) (word : Option (BitVec 32)) : Statement (.musterAbortWord g word) := nofun

theorem musterArrive (m : MusterMsg) : Statement (.musterArrive m) := nofun

theorem musterGo (m : MusterMsg) : Statement (.musterGo m) := nofun

theorem musterReady (m : MusterMsg) : Statement (.musterReady m) := nofun

theorem musterGo2 (m : MusterMsg) : Statement (.musterGo2 m) := nofun

theorem musterDone (m : MusterMsg) : Statement (.musterDone m) := nofun

theorem musterDecide (m : MusterMsg) : Statement (.musterDecide m) := nofun

theorem musterAbortReq (m : MusterMsg) : Statement (.musterAbortReq m) := nofun

theorem musterQuery (m : MusterMsg) : Statement (.musterQuery m) := nofun

theorem leaderDeadline (g : Fin 64) : Statement (.leaderDeadline g) := nofun

theorem musterQueryTimer (g : Fin 64) : Statement (.musterQueryTimer g) := nofun

theorem musterGraceExpiry (g : Fin 64) : Statement (.musterGraceExpiry g) := nofun

theorem musterNotice (n : MusterNotice) : Statement (.musterNotice n) := nofun

theorem icSourceChange (cache : Option (Fin 32 × Ecc)) : Statement (.icSourceChange cache) := nofun

theorem icClaimRead (rq : Requester) (bank : Fin 32) : Statement (.icClaimRead rq bank) := nofun

theorem icClaimWrite (rq : Requester) (bank : Fin 32) (value : BitVec 32) : Statement (.icClaimWrite rq bank value) := nofun

theorem icSvcWrite (rq : Requester) (bank : Fin 32) (value : BitVec 32) : Statement (.icSvcWrite rq bank value) := nofun

theorem machineExternalInterrupt (core : Fin 32) : Statement (.machineExternalInterrupt core) := nofun

theorem moderationEnd (core : Fin 32) : Statement (.moderationEnd core) := nofun

theorem coreIdle (core : Fin 32) : Statement (.coreIdle core) := nofun

theorem timerCompare (core : Fin 32) : Statement (.timerCompare core) := nofun

theorem ethLinkUp (port : Fin 8) (phy : Fin 5) : Statement (.ethLinkUp port phy) := nofun

theorem ethLinkDown (port : Fin 8) (rawLost : Nat) : Statement (.ethLinkDown port rawLost) := nofun

theorem ethLacpMember (port : Fin 8) : Statement (.ethLacpMember port) := nofun

theorem ethLacpTimeout (port : Fin 8) : Statement (.ethLacpTimeout port) := nofun

theorem ethFrameRx (port : Fin 8) (frame : EthRx) : Statement (.ethFrameRx port frame) := nofun

theorem ethHostExpire (net : Fin 2) (entry : Fin 256) : Statement (.ethHostExpire net entry) := nofun

theorem ethWorkProducer (q : Fin 4096) (recv : Bool) (value : Option (BitVec 32)) : Statement (.ethWorkProducer q recv value) := nofun

theorem ethWorkEntry (q : Fin 4096) : Statement (.ethWorkEntry q) := nofun

theorem ethAckTimeout (q : Fin 4096) : Statement (.ethAckTimeout q) := nofun

theorem ethNetFailover (net : Fin 2) : Statement (.ethNetFailover net) := nofun

theorem ethQpEnable (rq : Requester) (q : Fin 4096) : Statement (.ethQpEnable rq q) := nofun

theorem ethQpDisable (rq : Requester) (q : Fin 4096) : Statement (.ethQpDisable rq q) := nofun

theorem ethQpMigrate (rq : Requester) (q : Fin 4096) : Statement (.ethQpMigrate rq q) := nofun

theorem ethAnnounce (net : Fin 2) : Statement (.ethAnnounce net) := nofun

theorem ethRetrain (rq : Requester) (port : Fin 8) : Statement (.ethRetrain rq port) := nofun

theorem thmConversion (c : Conversion) : Statement (.thmConversion c) := nofun

theorem thmCapUpdate : Statement (.thmCapUpdate) := nofun

theorem coolantStale : Statement (.coolantStale) := nofun

theorem noflowTimeout : Statement (.noflowTimeout) := nofun

theorem pwrGoodAssert : Statement (.pwrGoodAssert) := nofun

theorem pwrGoodDeassert : Statement (.pwrGoodDeassert) := nofun

theorem pkgResetAssert : Statement (.pkgResetAssert) := nofun

theorem pkgResetRelease : Statement (.pkgResetRelease) := nofun

theorem inputPowerRise : Statement (.inputPowerRise) := nofun

theorem inputPowerLoss : Statement (.inputPowerLoss) := nofun

theorem start (tests : StartTests) : Statement (.start tests) := nofun

theorem inrushWave : Statement (.inrushWave) := nofun

theorem startPause (heat : Bool) : Statement (.startPause heat) := nofun

theorem startResume (heat : Bool) : Statement (.startResume heat) := nofun

theorem startStepTimeout : Statement (.startStepTimeout) := nofun

theorem rstReset (rq : Requester) (level : Fin 16) (index : Fin 1024) : Statement (.rstReset rq level index) := nofun

theorem rstHold (rq : Requester) (level : Fin 16) (index : Fin 1024) : Statement (.rstHold rq level index) := nofun

theorem rstRelease (rq : Requester) (level : Fin 16) (index : Fin 1024) : Statement (.rstRelease rq level index) := nofun

theorem drainEnd (level : Fin 5) (index : Fin 768) : Statement (.drainEnd level index) := nofun

theorem salvageDone (level : Fin 5) (index : Fin 768) : Statement (.salvageDone level index) := nofun

theorem domainResetDone (level : Fin 5) (index : Fin 768) : Statement (.domainResetDone level index) := nofun

theorem domainTestDone (level : Fin 5) (index : Fin 768) (passed : Bool) (failed : List Nat) : Statement (.domainTestDone level index passed failed) := nofun

theorem tileStall (tile : Fin 768) : Statement (.tileStall tile) := nofun

theorem engineStall (tile : Fin 768) : Statement (.engineStall tile) := nofun

theorem caravanStall (slot : Fin 64) : Statement (.caravanStall slot) := nofun

theorem coreStall (core : Fin 32) : Statement (.coreStall core) := nofun

theorem reqTimeout (level : Fin 6) (index : Fin 768) (addr : Nat) (req : TimedOut) : Statement (.reqTimeout level index addr req) := nofun

theorem stopFail (tile : Fin 768) : Statement (.stopFail tile) := nofun

theorem packageResetRampDone : Statement (.packageResetRampDone) := nofun

theorem fclErrorEvent : Statement (.fclErrorEvent) := nofun

theorem fclWindowEnd (line : Fin 31) : Statement (.fclWindowEnd line) := nofun

theorem fclSelfCheck (upset : Option (Fin 31 × BitVec 32)) : Statement (.fclSelfCheck upset) := nofun

theorem fclSafeExit (rq : Requester) : Statement (.fclSafeExit rq) := nofun

theorem faultNPulseEnd : Statement (.faultNPulseEnd) := nofun

theorem fclFaultnDriveWrite (rq : Requester) (value : BitVec 32) : Statement (.fclFaultnDriveWrite rq value) := nofun

theorem cvuInit (rq : Requester) (unit : Fin 16) : Statement (.cvuInit rq unit) := nofun

theorem cvuScan (rq : Requester) (unit : Fin 16) (init : Bool) : Statement (.cvuScan rq unit init) := nofun

theorem cvuScanEnd (unit : Fin 16) (noAnswer : Option Nat) : Statement (.cvuScanEnd unit noAnswer) := nofun

theorem cvuFeed8 (rq : Requester) (unit : Fin 16) (value : BitVec 32) : Statement (.cvuFeed8 rq unit value) := nofun

theorem cvuFeed16 (rq : Requester) (unit : Fin 16) (value : BitVec 32) : Statement (.cvuFeed16 rq unit value) := nofun

theorem cvuFeed32 (rq : Requester) (unit : Fin 16) (value : BitVec 32) : Statement (.cvuFeed32 rq unit value) := nofun

theorem cvuRunWrite (rq : Requester) (unit : Fin 16) (high : BitVec 32) : Statement (.cvuRunWrite rq unit high) := nofun

theorem tallyPeriodic : Statement (.tallyPeriodic) := nofun

theorem tallyNow (rq : Requester) (value : BitVec 32) : Statement (.tallyNow rq value) := nofun

theorem bwWindowEnd : Statement (.bwWindowEnd) := nofun

theorem outriderComplete (tile : Fin 768) (fetch engine run : BitVec 32) (poison conflict : Bool) : Statement (.outriderComplete tile fetch engine run poison conflict) := nofun

theorem prfOutEnable (rq : Requester) (value : BitVec 32) : Statement (.prfOutEnable rq value) := nofun

theorem sessionOpen (peer : Nat) (msg : List Byte) : Statement (.sessionOpen peer msg) := nofun

theorem sessionConfirm (peer : Nat) (msg : List Byte) : Statement (.sessionConfirm peer msg) := nofun

theorem sessionClose (peer : Nat) (msg : List Byte) : Statement (.sessionClose peer msg) := nofun

theorem sessionTimeout (peer : Nat) : Statement (.sessionTimeout peer) := nofun

theorem attest (peer : Nat) (msg : List Byte) : Statement (.attest peer msg) := nofun

theorem setting (peer : Nat) (msg : List Byte) : Statement (.setting peer msg) := nofun

theorem fulltrain (peer : Nat) (msg : List Byte) : Statement (.fulltrain peer msg) := nofun

theorem journalRead (peer : Nat) (msg : List Byte) : Statement (.journalRead peer msg) := nofun

theorem regwrite (peer : Nat) (msg : List Byte) : Statement (.regwrite peer msg) := nofun

theorem fieldclr (peer : Nat) (msg : List Byte) : Statement (.fieldclr peer msg) := nofun

theorem imageBegin (peer : Nat) (msg : List Byte) : Statement (.imageBegin peer msg) := nofun

theorem imageChunk (peer : Nat) (msg : List Byte) : Statement (.imageChunk peer msg) := nofun

theorem imageEnd (peer : Nat) (msg : List Byte) : Statement (.imageEnd peer msg) := nofun

theorem activate (peer : Nat) (msg : List Byte) : Statement (.activate peer msg) := nofun

theorem imageAbort (peer : Nat) (msg : List Byte) : Statement (.imageAbort peer msg) := nofun

theorem govActivationStep : Statement (.govActivationStep) := nofun

theorem govActivationTimeout : Statement (.govActivationTimeout) := nofun

theorem stewardRestart : Statement (.stewardRestart) := nofun

theorem coreMemoryAccess (core : Fin 32) (k : MemAccess) (addr size : Nat) (hit : Bool) (flip : Option Ecc) : Statement (.coreMemoryAccess core k addr size hit flip) := nofun

theorem tmbStatusRead (rq : Requester) : Statement (.tmbStatusRead rq) := nofun

theorem pwwStateRead (rq : Requester) : Statement (.pwwStateRead rq) := nofun

theorem sendPayloadLeft (tile : Fin 768) : Statement (.sendPayloadLeft tile) := nofun

theorem fclOwnFault : Statement (.fclOwnFault) := nofun

end Sys2Proof.Laws.Encoding
end

