-- ==== Sys2Proof/Laws/Tiles.lean ====
section
/-! SUPPORT. What every Viroth instruction goes through, said once: counting, tagging, issue, and the end of an instruction. -/

namespace Sys2Proof.Machine

theorem PrfOnly.refl (s : State) : PrfOnly s s := ⟨rfl, fun _ _ _ => rfl⟩

theorem PrfOnly.trans {s t u : State} (h1 : PrfOnly s t) (h2 : PrfOnly t u) : PrfOnly s u := by
  refine ⟨?_, fun r i h => (h2.2 r i h).trans (h1.2 r i h)⟩
  have e1 := h1.1
  have e2 := h2.1
  have h3 : ({ u with regs := s.regs, prf := s.prf } : State) =
      { ({ u with regs := t.regs, prf := t.prf } : State) with regs := s.regs, prf := s.prf } := rfl
  rw [h3, e2, e1]

/-- A register of PRF written. -/
theorem PrfOnly.wr (s : State) (r : Reg) (i v : Nat) (h : prfKey (r.key i) = true) : PrfOnly s (s.wr r i v) := by
  refine ⟨rfl, fun q j hq => State.rr_wr_ne s r q i j v ?_⟩
  intro he
  rw [he, h] at hq
  exact absurd hq (by decide)

theorem PrfOnly.prfEvent (s : State) (b : Nat) : PrfOnly s (s.prfEvent b) := PrfOnly.wr s _ _ _ (by decide)

theorem tcnt_key (t k : Nat) (ht : t < 768) (hk : k < 4) : prfKey (Reg.PRF_TCNT.key (t * 4 + k)) = true := by
  have h1 : (t * 4 + k) / 4 = t := by omega
  have h2 : (t * 4 + k) % 4 = k := by omega
  simp only [Reg.key, Reg.desc, prfKey, h1, h2, Bool.and_eq_true, decide_eq_true_eq]
  omega

theorem PrfOnly.tcAdd (s : State) (t k n : Nat) (ht : t < 768) (hk : k < 4) : PrfOnly s (s.tcAdd t k n) := by
  unfold State.tcAdd
  dsimp only
  have h1 := PrfOnly.wr s .PRF_TCNT (t * 4 + k) (s.rr .PRF_TCNT (t * 4 + k) + n) (tcnt_key t k ht hk)
  split
  · exact h1
  · split
    · next hc =>
      have hk2 : k + 1 < 4 := by
        simp only [Bool.and_eq_true, decide_eq_true_eq] at hc
        omega
      have h2 := fun v => h1.trans (PrfOnly.wr _ .PRF_TCNT (t * 4 + k + 1) v (tcnt_key t (k + 1) ht hk2))
      split
      · exact h2 _
      · exact ((h2 _).trans (PrfOnly.wr _ .PRF_TOVF 0 _ (by decide))).trans (PrfOnly.prfEvent _ _)
    · exact (h1.trans (PrfOnly.wr _ .PRF_TOVF 0 _ (by decide))).trans (PrfOnly.prfEvent _ _)

/-- A fold over a list keeps what each step at a member keeps. -/
theorem foldl_keeps_mem {α β : Type} (P : β → Prop) (f : β → α → β) (l : List α) (b : β) (hf : ∀ b a, a ∈ l → P b → P (f b a)) (h : P b) :
    P (l.foldl f b) := by
  induction l generalizing b with
  | nil => exact h
  | cons a l ih =>
    exact ih (f b a) (fun b c hc => hf b c (List.mem_cons_of_mem _ hc)) (hf b a List.mem_cons_self h)

/-- Counting an event of a tile changes nothing but PRF. -/
theorem PrfOnly.tileEvent (s : State) (t ev n : Nat) (ht : t < 768) : PrfOnly s (s.tileEvent t ev n) := by
  unfold State.tileEvent
  split
  · exact PrfOnly.refl s
  · refine foldl_keeps_mem (PrfOnly s) _ _ s (fun b a ha hb => ?_) (PrfOnly.refl s)
    split
    · exact hb.trans (PrfOnly.tcAdd b t a n ht (List.mem_range.mp ha))
    · exact hb

theorem PrfOnly.setOutGen (s : State) (t : Nat) (x : OutGen) : PrfOnly s (s.setOutGen t x) := ⟨rfl, fun _ _ _ => rfl⟩

/-- Tagging an instruction changes nothing but PRF. -/
theorem PrfOnly.outriderIssue (s : State) (t cls opc : Nat) (ht : t < 768) : PrfOnly s (s.outriderIssue t cls opc) := by
  unfold State.outriderIssue
  dsimp only
  split
  · split
    · exact PrfOnly.refl s
    · generalize (if (s.outGen t).left = 0 then s.nextInterval (s.outGen t) else s.outGen t) = o1
      split
      · exact (PrfOnly.setOutGen s t _).trans (PrfOnly.tileEvent _ t _ _ ht)
      · exact PrfOnly.setOutGen s t _
  · exact PrfOnly.refl s

theorem PrfOnly.tiles {s t : State} (h : PrfOnly s t) : t.tiles = s.tiles := by
  have h2 := congrArg State.tiles h.1
  exact h2
theorem PrfOnly.tile {s t : State} (h : PrfOnly s t) (n : Nat) : t.tile n = s.tile n := by
  unfold State.tile; rw [h.tiles]
theorem PrfOnly.mem {s t : State} (h : PrfOnly s t) : t.mem = s.mem := by
  have h2 := congrArg State.mem h.1
  exact h2

/-! ### Changes of one tile -/

theorem TileOnly.of_prf {s t : State} (n : Nat) (h : PrfOnly s t) : TileOnly n s t := by
  refine ⟨?_, fun u _ => h.tile u, h.2⟩
  have h3 : ({ t with regs := s.regs, prf := s.prf, tiles := s.tiles } : State) =
      { ({ t with regs := s.regs, prf := s.prf } : State) with tiles := s.tiles } := rfl
  rw [h3, h.1]

theorem TileOnly.refl (n : Nat) (s : State) : TileOnly n s s := ⟨rfl, fun _ _ => rfl, fun _ _ _ => rfl⟩

theorem TileOnly.trans {n : Nat} {s t u : State} (h1 : TileOnly n s t) (h2 : TileOnly n t u) : TileOnly n s u := by
  refine ⟨?_, fun v hv => (h2.2.1 v hv).trans (h1.2.1 v hv), fun r i h => (h2.2.2 r i h).trans (h1.2.2 r i h)⟩
  have e1 := h1.1
  have e2 := h2.1
  have h3 : ({ u with regs := s.regs, prf := s.prf, tiles := s.tiles } : State) =
      { ({ u with regs := t.regs, prf := t.prf, tiles := t.tiles } : State) with regs := s.regs, prf := s.prf, tiles := s.tiles } := rfl
  rw [h3, e2, e1]

theorem TileOnly.setTile (s : State) (n : Nat) (x : Tile) : TileOnly n s (s.setTile n x) :=
  ⟨rfl, fun u hu => State.tile_setTile_ne s n u x hu, fun _ _ _ => rfl⟩

theorem TileOnly.mem {n : Nat} {s t : State} (h : TileOnly n s t) : t.mem = s.mem := by
  have h2 := congrArg State.mem h.1
  exact h2

/-- An instruction that ends at its tile: the program counter moves, and nothing else does but what PRF counts. -/
theorem retireTo_spec (s : State) (t pc : Nat) (ht : t < 768) :
    TileOnly t s (s.retireTo t pc) ∧ (s.retireTo t pc).tile t = { s.tile t with pc := BitVec.ofNat 16 pc, stalled := false } := by
  unfold State.retireTo
  dsimp only
  have h := PrfOnly.tileEvent (s.setTile t { s.tile t with pc := BitVec.ofNat 16 pc, stalled := false }) t 0x01 1 ht
  exact ⟨(TileOnly.setTile s t _).trans (TileOnly.of_prf t h), by rw [h.tile, State.tile_setTile_same]⟩

/-- A register written, and the instruction done. -/
theorem finishG_spec (s : State) (t : Nat) (a : BitVec 5) (v : Nat) (ht : t < 768) :
    TileOnly t s (s.finishG t a v) ∧
      (s.finishG t a v).tile t =
        { (s.tile t).setG a v with pc := BitVec.ofNat 16 (((s.tile t).setG a v).pc.toNat + 8), stalled := false } := by
  unfold State.finishG State.retire
  have h := retireTo_spec (s.setTile t ((s.tile t).setG a v)) t
    (((s.setTile t ((s.tile t).setG a v)).tile t).pc.toNat + 8) ht
  refine ⟨(TileOnly.setTile s t _).trans h.1, ?_⟩
  rw [h.2]
  simp

/-- An instruction that issues and raises no exception and does not stall has its effect. -/
theorem issue_effect (s : State) (t cls opc : Nat) (o : VOp) (legal : Bool) (causes : List (Bool × Cause × Nat)) (stall : Bool)
    (body : State → State) (hi : s.issues t = true) (he : firstExc ((!legal, .illegal, vWord cls opc o) :: causes) = none)
    (hs : stall = false) : s.issue t cls opc o legal causes stall body = .next (body (s.outriderIssue t cls opc)) := by
  unfold State.issue
  simp [hi, he, hs]

/-- A tile that does not issue takes no instruction. -/
theorem issue_idle (s : State) (t cls opc : Nat) (o : VOp) (legal : Bool) (causes : List (Bool × Cause × Nat)) (stall : Bool)
    (body : State → State) (hi : s.issues t = false) : s.issue t cls opc o legal causes stall body = .next s := by
  unfold State.issue
  simp [hi]

/-- Issue always answers a next state. -/
theorem issue_completes (s : State) (t cls opc : Nat) (o : VOp) (legal : Bool) (causes : List (Bool × Cause × Nat)) (stall : Bool)
    (body : State → State) : Completes (s.issue t cls opc o legal causes stall body) := by
  unfold State.issue
  dsimp only
  split
  · exact ⟨_, rfl⟩
  · split
    · exact ⟨_, rfl⟩
    · split <;> exact ⟨_, rfl⟩

theorem firstExc_none (l : List (Bool × Cause × Nat)) (h : ∀ p ∈ l, p.1 = false) : firstExc l = none := by
  have key : ∀ (l : List (Bool × Cause × Nat)) (a : Option Exc), (∀ p ∈ l, p.1 = false) →
      l.foldl (fun a p => if p.1 then
        match a with
        | some e => if p.2.1.code < e.cause.code then some ⟨p.2.1, p.2.2⟩ else a
        | none => some ⟨p.2.1, p.2.2⟩ else a) a = a := by
    intro l
    induction l with
    | nil => intro a _; rfl
    | cons p l ih =>
      intro a hl
      have hp := hl p List.mem_cons_self
      simp only [List.foldl_cons, hp, Bool.false_eq_true, if_false]
      exact ih a (fun q hq => hl q (List.mem_cons_of_mem _ hq))
  exact key l none h

theorem gr_lt (x : Tile) (k : BitVec 5) : x.gr k < 2 ^ 64 := by
  unfold Tile.gr
  split
  · norm_num
  · exact BitVec.isLt _

theorem greg_toNat (x : Tile) (k : BitVec 5) : (x.greg k).toNat = x.gr k := by
  unfold Tile.greg
  rw [BitVec.toNat_ofNat, Nat.mod_eq_of_lt (gr_lt x k)]

theorem greg_setG (x : Tile) (a k : BitVec 5) (v : Nat) :
    (x.setG a v).greg k = if k = a ∧ k ≠ 0 then BitVec.ofNat 64 v else x.greg k := by
  by_cases ha : a = 0
  · subst ha
    have : ¬(k = 0 ∧ k ≠ 0) := fun h => h.2 h.1
    rw [if_neg this]
    unfold Tile.setG
    rw [if_pos rfl]
  · unfold Tile.greg Tile.setG Tile.gr
    rw [if_neg ha]
    by_cases hk : k = 0
    · have : ¬(k = a ∧ k ≠ 0) := fun h => h.2 hk
      rw [if_pos hk, if_neg this, if_pos hk]
    · by_cases hka : k = a
      · subst hka
        rw [if_neg hk, if_pos ⟨rfl, hk⟩, SMap.get_set_same, BitVec.ofNat_toNat, BitVec.setWidth_eq]
      · have hn : k.toNat ≠ a.toNat := fun h => hka (BitVec.eq_of_toNat_eq h)
        have : ¬(k = a ∧ k ≠ 0) := fun h => hka h.1
        rw [if_neg hk, if_neg this, SMap.get_set_ne _ _ _ _ _ hn, if_neg hk]

/-- What the end of an instruction with a result says in the words of the statements. -/
theorem finishG_wrote (s0 s : State) (t : Nat) (a : BitVec 5) (v : Nat) (ht : t < 768) (h : PrfOnly s0 s) (pc : BitVec 16)
    (hpc : pc = (s0.tile t).pc + 8) : WroteG t s0 (s.finishG t a v) pc a (BitVec.ofNat 64 v) := by
  have hf := finishG_spec s t a v ht
  have hp : ((s.tile t).setG a v).pc = (s0.tile t).pc := by
    rw [h.tile]; unfold Tile.setG; split <;> rfl
  refine ⟨(TileOnly.of_prf t h).trans hf.1, ?_, ?_, ?_⟩
  · rw [hf.2, hpc]
    simp only [hp]
    apply BitVec.eq_of_toNat_eq
    simp [BitVec.toNat_add]
  · intro k
    rw [hf.2]
    have : (({ (s.tile t).setG a v with pc := BitVec.ofNat 16 (((s.tile t).setG a v).pc.toNat + 8), stalled := false } : Tile).greg k) =
        ((s.tile t).setG a v).greg k := rfl
    rw [this, greg_setG, h.tile]
  · rw [hf.2, h.tile]
    unfold Tile.setG
    split <;> rfl

theorem retireTo_ended (s0 s : State) (t pc : Nat) (ht : t < 768) (h : PrfOnly s0 s) :
    Ended t s0 (s.retireTo t pc) (BitVec.ofNat 16 pc) := by
  have hf := retireTo_spec s t pc ht
  exact ⟨(TileOnly.of_prf t h).trans hf.1, by rw [hf.2, h.tile]⟩

theorem retire_ended (s0 s : State) (t : Nat) (ht : t < 768) (h : PrfOnly s0 s) : Ended t s0 (s.retire t) ((s0.tile t).pc + 8) := by
  have hf := retireTo_ended s0 s t ((s.tile t).pc.toNat + 8) ht h
  have : BitVec.ofNat 16 ((s.tile t).pc.toNat + 8) = (s0.tile t).pc + 8 := by
    rw [h.tile]
    apply BitVec.eq_of_toNat_eq
    simp [BitVec.toNat_add]
  rw [this] at hf
  exact hf

/-- An instruction of a tile that executes, legal and with no cause of an exception, has its effect. -/
theorem issueSeq_effect (s : State) (t : Fin 768) (cls opc : Nat) (o : VOp) (legal : Bool) (causes : List (Bool × Cause × Nat))
    (stall : Bool) (body : State → State) (hx : Executes s t) (hl : legal = true) (hc : ∀ p ∈ causes, p.1 = false) (hs : stall = false) :
    s.issueSeq t cls opc o legal causes stall body = .next (body (s.outriderIssue t cls opc)) := by
  unfold State.issueSeq
  apply issue_effect _ _ _ _ _ _ _ _ _ hx.1 ?_ hs
  apply firstExc_none
  intro p hp
  rcases List.mem_cons.mp hp with h | h
  · rw [h]; simp [hl]
  · rcases List.mem_cons.mp h with h | h
    · rw [h]
      have := hx.2
      simp only [fallThrough, decide_eq_false_iff_not]
      omega
    · exact hc p h

end Sys2Proof.Machine
end

