-- ==== Sys2Proof/WellFormed.lean ====
section
/-! DEFINITION. Which operands a command may carry: access sizes, addresses, message lengths and the numbers of units (R7, R30, R35, R120,
R557, R586). What a message says is judged by the rules of its row, not here. -/

namespace Sys2Proof

/-- The sizes of an access in bytes. -/
def accessSize (n : Nat) : Bool := n == 1 || n == 2 || n == 4 || n == 8

/-- A tile, a memory channel, a core. -/
def isTile (n : Nat) : Bool := decide (n < 768)
def isChannel (n : Nat) : Bool := decide (n < 768)
def isCore (n : Nat) : Bool := decide (n < 32)

/-- The units that the tests of a start name exist. -/
def testsInRange (t : StartTests) : Bool :=
  t.trail.all isTile && t.savedFail.all isChannel && t.fullFail.all isChannel && t.tileOnce.all isTile && t.tileTwice.all isTile &&
    t.cores.all isCore

/-- A physical page number of the translation has 44 bits. -/
def pageInRange (x : Xlate) : Bool :=
  match x with
  | .page ppn => decide (ppn < 2 ^ 44)
  | .pageFault => true
  | .accessFault => true

/-- A VLAN identifier has 12 bits. -/
def vlanInRange (f : EthRx) : Bool :=
  match f.vid with
  | some v => decide (v < 4096)
  | none => true

/-- A command whose operands are in range. -/
def Instr.wellFormed (i : Instr) : Bool :=
  match i with
  | .registerWrite _ addr size _ => decide (addr < 2 ^ 64) && accessSize size
  | .counterReadClear _ addr size => decide (addr < 2 ^ 64) && accessSize size
  | .pairLowRead _ addr size => decide (addr < 2 ^ 64) && accessSize size
  | .pairLowWrite _ addr size _ => decide (addr < 2 ^ 64) && accessSize size
  | .pairHighWrite _ addr size _ => decide (addr < 2 ^ 64) && accessSize size
  | .tmbTodArm _ _ => true
  | .ppsEdge => true
  | .ppsMiss => true
  | .refclkLoss => true
  | .refclkRestore => true
  | .cvnOpen _ x => pageInRange x
  | .cvnStart _ => true
  | .cvnPush _ x => pageInRange x
  | .cvnPause _ => true
  | .cvnAbort _ => true
  | .cvnClose _ => true
  | .cvnStat _ => true
  | .cvnWait _ => true
  | .cvnWaitTimeout _ => true
  | .cvnToll _ => true
  | .cvnCad _ => true
  | .stationLoadDone _ => true
  | .stationLoadFault _ => true
  | .abortDone _ => true
  | .seqAdmit _ _ => true
  | .cadenceRelease _ => true
  | .latePeriod _ => true
  | .baleArrive _ => true
  | .completionResume _ => true
  | .cvnSlotRingRdWrite _ _ _ => true
  | .cvnSlotThreshWrite _ _ _ => true
  | .foRegisterWrite _ _ _ _ => true
  | .scAdd _ _ => true
  | .scSub _ _ => true
  | .scAnd _ _ => true
  | .scOr _ _ => true
  | .scXor _ _ => true
  | .scSll _ _ => true
  | .scSrl _ _ => true
  | .scSra _ _ => true
  | .scMul _ _ => true
  | .scMulh _ _ => true
  | .scDiv _ _ => true
  | .scRem _ _ => true
  | .scSlt _ _ => true
  | .scSltu _ _ => true
  | .scMin _ _ => true
  | .scMax _ _ => true
  | .scAddi _ _ => true
  | .scAndi _ _ => true
  | .scOri _ _ => true
  | .scXori _ _ => true
  | .scSlli _ _ => true
  | .scSrli _ _ => true
  | .scSrai _ _ => true
  | .scSlti _ _ => true
  | .scLi _ _ => true
  | .scLih _ _ => true
  | .scLd _ _ => true
  | .scSt _ _ => true
  | .scTr _ _ => true
  | .scTw _ _ => true
  | .ctBr _ _ => true
  | .ctJal _ _ => true
  | .ctJr _ _ => true
  | .ctFence _ _ => true
  | .ctNop _ _ => true
  | .vAdd _ _ => true
  | .vSub _ _ => true
  | .vMul _ _ => true
  | .vFma _ _ => true
  | .vMin _ _ => true
  | .vMax _ _ => true
  | .vAnd _ _ => true
  | .vOr _ _ => true
  | .vXor _ _ => true
  | .vShl _ _ => true
  | .vCmp _ _ => true
  | .vSel _ _ => true
  | .vCvt _ _ => true
  | .vRed _ _ => true
  | .vSpec _ _ => true
  | .vLd _ _ => true
  | .vSt _ _ => true
  | .vGath _ _ => true
  | .vScat _ _ => true
  | .vBcast _ _ => true
  | .vGet _ _ => true
  | .vPut _ _ => true
  | .vPerm _ _ => true
  | .pMov _ _ => true
  | .pGet _ _ => true
  | .pOp _ _ => true
  | .pCnt _ _ => true
  | .mxMac _ _ => true
  | .mxMacs _ _ => true
  | .mxDrain _ _ => true
  | .mxLoad _ _ => true
  | .mxZero _ _ => true
  | .mxWait _ _ => true
  | .mxOpComplete _ _ => true
  | .mvGet _ _ => true
  | .mvPut _ _ => true
  | .mvWait _ _ => true
  | .mvPoll _ _ => true
  | .mvComplete _ _ _ => true
  | .wbPost _ _ => true
  | .wbTake _ _ => true
  | .wbGet _ _ => true
  | .wbSet _ _ => true
  | .wbSend _ _ => true
  | .wbRetire _ _ => true
  | .wbCount _ _ => true
  | .evWait _ _ => true
  | .evClr _ _ => true
  | .evNote _ _ => true
  | .evTime _ _ => true
  | .evTimer _ _ => true
  | .mwBurn _ _ => true
  | .tileWaitRelease _ => true
  | .tileTimerFire _ => true
  | .tileNoteWrite _ _ _ => true
  | .tileSeedHiWrite _ _ _ => true
  | .coreWindowAccess _ addr size _ _ => decide (addr < 2 ^ 64) && accessSize size
  | .patrolScrubLine _ _ => true
  | .channelFail _ => true
  | .stackBandUpdate _ => true
  | .stackSelfrefWake _ => true
  | .meterSample _ _ _ _ => true
  | .meterReading _ => true
  | .meterSelfcheck _ refCode _ => decide (refCode < 2 ^ 24)
  | .meterWarmupEnd _ => true
  | .meterSnapshot _ => true
  | .mtrSnapSeqRead _ _ => true
  | .mtrPRead _ _ => true
  | .elifeSave => true
  | .crossCheckWindow => true
  | .accRunStart _ _ => true
  | .accRunBegin => true
  | .accRunEnd => true
  | .controlPeriod _ => true
  | .floorRecompute => true
  | .partitionGateDone _ => true
  | .budgetMessage _ msg => decide (msg.length ≤ 65507)
  | .gridMessage _ msg => decide (msg.length ≤ 65507)
  | .coolantMessage _ msg => decide (msg.length ≤ 65507)
  | .holdExpiry _ => true
  | .frStale _ => true
  | .vcoreDroop _ => true
  | .droopResume _ => true
  | .supplyDip _ => true
  | .dipRecover _ => true
  | .supplyLowShutdown _ => true
  | .supplyHighShutdown _ => true
  | .heartbeatStop _ => true
  | .claimLapse _ => true
  | .claimWrite _ => true
  | .ostCommand _ _ => true
  | .switchOver => true
  | .orphanEntry => true
  | .orphanTimeout => true
  | .mirrorFrame _ _ => true
  | .mirrorLost _ => true
  | .trajectoryFrame _ _ => true
  | .ostSwap _ => true
  | .ostResetA _ => true
  | .ostResetB _ => true
  | .govRestartDone _ _ => true
  | .lapsedGovReset _ => true
  | .govRevert => true
  | .lightDetect _ _ => true
  | .trainDone _ => true
  | .linkCheckDone _ errors _ => decide (errors.length ≤ 8)
  | .certRx _ msg => decide (msg.length ≤ 65507)
  | .helloTx _ => true
  | .helloRx _ msg => decide (msg.length ≤ 65507)
  | .helloTimeout _ => true
  | .rehelloStart _ => true
  | .rehelloTimeout _ => true
  | .lightLoss _ _ => true
  | .goodbyeRx _ => true
  | .uncorrectableCodeword _ => true
  | .resendRequest _ _ => true
  | .linkAck _ _ => true
  | .fptAdminDown _ _ => true
  | .adminDrainEnd _ => true
  | .fptAdminUp _ _ => true
  | .fptRetrain _ _ => true
  | .fptMapWrite _ _ _ => true
  | .fptCoordWrite _ _ => true
  | .fptMachineWrite _ _ => true
  | .fptTwistWrite _ _ _ => true
  | .laneAudit _ errors _ _ _ => decide (errors.length ≤ 8)
  | .widthRx _ _ => true
  | .takeoverRx _ => true
  | .takeoverAckRx _ => true
  | .takeoverTimeout _ => true
  | .sqProducerWrite _ _ => true
  | .sqDescriptor _ _ _ => true
  | .frameRx _ _ _ => true
  | .cmapPeriod _ => true
  | .frtAvoidWrite _ _ => true
  | .sqSliceWrite _ _ _ => true
  | .sqEnable _ _ => true
  | .rqEnable _ _ => true
  | .mgEnable _ _ => true
  | .mgDisable _ _ => true
  | .musterEnter _ _ => true
  | .musterReadyWord _ _ => true
  | .musterDoneWord _ _ => true
  | .musterAbortWord _ _ => true
  | .musterArrive _ => true
  | .musterGo _ => true
  | .musterReady _ => true
  | .musterGo2 _ => true
  | .musterDone _ => true
  | .musterDecide _ => true
  | .musterAbortReq _ => true
  | .musterQuery _ => true
  | .leaderDeadline _ => true
  | .musterQueryTimer _ => true
  | .musterGraceExpiry _ => true
  | .musterNotice _ => true
  | .icSourceChange _ => true
  | .icClaimRead _ _ => true
  | .icClaimWrite _ _ _ => true
  | .icSvcWrite _ _ _ => true
  | .machineExternalInterrupt _ => true
  | .moderationEnd _ => true
  | .coreIdle _ => true
  | .timerCompare _ => true
  | .ethLinkUp _ _ => true
  | .ethLinkDown _ _ => true
  | .ethLacpMember _ => true
  | .ethLacpTimeout _ => true
  | .ethFrameRx _ frame => vlanInRange frame
  | .ethHostExpire _ _ => true
  | .ethWorkProducer _ _ _ => true
  | .ethWorkEntry _ => true
  | .ethAckTimeout _ => true
  | .ethNetFailover _ => true
  | .ethQpEnable _ _ => true
  | .ethQpDisable _ _ => true
  | .ethQpMigrate _ _ => true
  | .ethAnnounce _ => true
  | .ethRetrain _ _ => true
  | .thmConversion _ => true
  | .thmCapUpdate => true
  | .coolantStale => true
  | .noflowTimeout => true
  | .pwrGoodAssert => true
  | .pwrGoodDeassert => true
  | .pkgResetAssert => true
  | .pkgResetRelease => true
  | .inputPowerRise => true
  | .inputPowerLoss => true
  | .start tests => testsInRange tests
  | .inrushWave => true
  | .startPause _ => true
  | .startResume _ => true
  | .startStepTimeout => true
  | .rstReset _ _ _ => true
  | .rstHold _ _ _ => true
  | .rstRelease _ _ _ => true
  | .drainEnd _ _ => true
  | .salvageDone _ _ => true
  | .domainResetDone _ _ => true
  | .domainTestDone _ _ _ failed => failed.all isTile
  | .tileStall _ => true
  | .engineStall _ => true
  | .caravanStall _ => true
  | .coreStall _ => true
  | .reqTimeout _ _ addr _ => decide (addr < 2 ^ 64)
  | .stopFail _ => true
  | .packageResetRampDone => true
  | .fclErrorEvent => true
  | .fclWindowEnd _ => true
  | .fclSelfCheck _ => true
  | .fclSafeExit _ => true
  | .faultNPulseEnd => true
  | .fclFaultnDriveWrite _ _ => true
  | .cvuInit _ _ => true
  | .cvuScan _ _ _ => true
  | .cvuScanEnd _ _ => true
  | .cvuFeed8 _ _ _ => true
  | .cvuFeed16 _ _ _ => true
  | .cvuFeed32 _ _ _ => true
  | .cvuRunWrite _ _ _ => true
  | .tallyPeriodic => true
  | .tallyNow _ _ => true
  | .bwWindowEnd => true
  | .outriderComplete _ _ _ _ _ _ => true
  | .prfOutEnable _ _ => true
  | .sessionOpen _ msg => decide (msg.length ≤ 65507)
  | .sessionConfirm _ msg => decide (msg.length ≤ 65507)
  | .sessionClose _ msg => decide (msg.length ≤ 65507)
  | .sessionTimeout _ => true
  | .attest _ msg => decide (msg.length ≤ 65507)
  | .setting _ msg => decide (msg.length ≤ 65507)
  | .fulltrain _ msg => decide (msg.length ≤ 65507)
  | .journalRead _ msg => decide (msg.length ≤ 65507)
  | .regwrite _ msg => decide (msg.length ≤ 65507)
  | .fieldclr _ msg => decide (msg.length ≤ 65507)
  | .imageBegin _ msg => decide (msg.length ≤ 65507)
  | .imageChunk _ msg => decide (msg.length ≤ 65507)
  | .imageEnd _ msg => decide (msg.length ≤ 65507)
  | .activate _ msg => decide (msg.length ≤ 65507)
  | .imageAbort _ msg => decide (msg.length ≤ 65507)
  | .govActivationStep => true
  | .govActivationTimeout => true
  | .stewardRestart => true
  | .coreMemoryAccess _ _ addr size _ _ => decide (addr < 2 ^ 64) && accessSize size
  | .tmbStatusRead _ => true
  | .pwwStateRead _ => true
  | .sendPayloadLeft _ => true
  | .fclOwnFault => true

end Sys2Proof
end

