-- ==== Sys2Proof/Tests/Slice0.lean ====
section
/-! SUPPORT. Tests: ill-formed commands are refused, words written out from R158 and R159 decode to their instruction, and every statement that
has hypotheses has states and operands that meet them. -/

namespace Sys2Proof.Tests

open Sys2Proof.Machine

/-! ### Well-formedness: each check refuses a term that breaks it -/

theorem test_address_too_wide : (Instr.registerWrite (.core 0) (2 ^ 64) 4 0).wellFormed = false := by decide
theorem test_access_size_three : (Instr.registerWrite (.core 0) 0 3 0).wellFormed = false := by decide
theorem test_read_size_sixteen : (Instr.counterReadClear (.core 0) 0 16).wellFormed = false := by decide
theorem test_page_number_too_wide : (Instr.cvnOpen ⟨0, 1, 2, 3, 0⟩ (.page (2 ^ 44))).wellFormed = false := by decide
theorem test_trail_tile_out_of_range : (Instr.start { trail := [768] }).wellFormed = false := by decide
theorem test_saved_channel_out_of_range : (Instr.start { savedFail := [768] }).wellFormed = false := by decide
theorem test_full_channel_out_of_range : (Instr.start { fullFail := [0, 768] }).wellFormed = false := by decide
theorem test_tile_once_out_of_range : (Instr.start { tileOnce := [768] }).wellFormed = false := by decide
theorem test_tile_twice_out_of_range : (Instr.start { tileTwice := [900] }).wellFormed = false := by decide
theorem test_core_out_of_range : (Instr.start { cores := [32] }).wellFormed = false := by decide
theorem test_start_in_range : (Instr.start { trail := [767], cores := [31] }).wellFormed = true := by decide
theorem test_vlan_too_wide : (Instr.ethFrameRx 0 { len := 64, vid := some 4096, body := .lacp }).wellFormed = false := by decide
theorem test_reference_code_too_wide : (Instr.meterSelfcheck false (2 ^ 24) 0).wellFormed = false := by decide
theorem test_failed_tile_out_of_range : (Instr.domainTestDone 1 0 true [768]).wellFormed = false := by decide
theorem test_timeout_address_too_wide : (Instr.reqTimeout 1 0 (2 ^ 64) .other).wellFormed = false := by decide
theorem test_window_address_too_wide : (Instr.coreWindowAccess (.core 0) (2 ^ 64) 4 none none).wellFormed = false := by decide
theorem test_core_access_size_zero : (Instr.coreMemoryAccess 0 .load 0 0 false none).wellFormed = false := by decide
theorem test_too_many_lanes : (Instr.linkCheckDone 0 [0, 0, 0, 0, 0, 0, 0, 0, 0] 0).wellFormed = false := by decide
theorem test_message_too_long (m : List Byte) (h : 65507 < m.length) : (Instr.attest 0 m).wellFormed = false := by
  simpa [Instr.wellFormed] using h

/-! ### Viroth words, written out from R158 and R159: CLS, OPC, A, B, C, D, PR, PM, FN -/

theorem test_word_sc_add :
    decodeViroth 5 0b0000_0000_00001_00010_00011_00000_000_0_00000000000000000000000000000000#64 =
      some (.scAdd 5 { a := 1, b := 2, c := 3, d := 0, pr := 0, pm := 0, fn := 0 }) := by decide
theorem test_word_sc_addi :
    decodeViroth 5 0b0001_0000_00001_00010_00000_00000_000_0_11111111111111111111111111111111#64 =
      some (.scAddi 5 { a := 1, b := 2, c := 0, d := 0, pr := 0, pm := 0, fn := 0xFFFFFFFF }) := by decide
theorem test_word_ct_jal :
    decodeViroth 5 0b0010_0001_00100_00000_00000_00000_000_0_00000000000000000000000000000011#64 =
      some (.ctJal 5 { a := 4, b := 0, c := 0, d := 0, pr := 0, pm := 0, fn := 3 }) := by decide
theorem test_word_v_fma :
    decodeViroth 0 0b0011_0011_00001_00010_00011_00100_101_1_00000000000000000000000000000001#64 =
      some (.vFma 0 { a := 1, b := 2, c := 3, d := 4, pr := 5, pm := 1, fn := 1 }) := by decide
theorem test_word_p_cnt :
    decodeViroth 0 0b0100_1011_00001_00010_00000_00000_000_0_00000000000000000000000000000000#64 =
      some (.pCnt 0 { a := 1, b := 2, c := 0, d := 0, pr := 0, pm := 0, fn := 0 }) := by decide
theorem test_word_mx_wait :
    decodeViroth 0 0b0101_0101_00000_00000_00000_00000_000_0_00000000000000000000000000000001#64 =
      some (.mxWait 0 { a := 0, b := 0, c := 0, d := 0, pr := 0, pm := 0, fn := 1 }) := by decide
theorem test_word_mv_put :
    decodeViroth 0 0b0110_0001_00001_00010_00011_00100_000_0_00000000000000000000000000000000#64 =
      some (.mvPut 0 { a := 1, b := 2, c := 3, d := 4, pr := 0, pm := 0, fn := 0 }) := by decide
theorem test_word_wb_send :
    decodeViroth 0 0b0111_0100_00000_00001_00010_00000_000_0_00000000000000000000000000000000#64 =
      some (.wbSend 0 { a := 0, b := 1, c := 2, d := 0, pr := 0, pm := 0, fn := 0 }) := by decide
theorem test_word_ev_timer :
    decodeViroth 0 0b1000_0100_00000_00001_00000_00000_000_0_00000000000000000000000000000000#64 =
      some (.evTimer 0 { a := 0, b := 1, c := 0, d := 0, pr := 0, pm := 0, fn := 0 }) := by decide
theorem test_word_mw_burn :
    decodeViroth 0 0b1001_0000_00000_00001_00000_00000_000_0_00000000000000000000000000000000#64 =
      some (.mwBurn 0 { a := 0, b := 1, c := 0, d := 0, pr := 0, pm := 0, fn := 0 }) := by decide
theorem test_word_class_ten_is_none : decodeViroth 0 0xA000000000000000#64 = none := by decide
theorem test_word_unlisted_operation_is_none : decodeViroth 0 0x2500000000000000#64 = none := by decide

end Sys2Proof.Tests
end

section
/-! SUPPORT. The state after reset (O56), and the two statements about register accesses that a state refutes (O1, O2). -/

namespace Sys2Proof.Machine

/-! ### The state after reset -/

/-- After reset a register reads what its table gives. -/
theorem State.reset_rr (r : Reg) (i : Nat) : State.reset.rr r i = r.rst i % 2 ^ 32 := by
  simp [State.rr, State.reset, SMap.find?]

theorem reset_registers :
    ∀ k ∈ [(Reg.TMB_STATUS, 0xFF00), (.CVN_CAPS, 0x4000040), (.TMB_STEPS, 0), (.TMB_ERR, 0)], State.reset.rr k.1 0 = k.2 := by
  decide

theorem reset_portOff (p : Nat) : PortIn State.reset p .off := by
  simp [PortIn, State.f, State.reset_rr, Reg.rst, Reg.desc, bits, PortState.code]

/-- Settles O56: every register reads its table's reset value, and every record that repeats is at its default. -/
theorem resetState : Obligations.ResetState := by
  refine ⟨rfl, rfl, rfl, rfl, rfl, rfl, rfl, fun _ _ => rfl, fun _ _ => rfl, fun _ _ => rfl, reset_registers, fun i hi => ?_,
    by decide, by decide, by decide, by decide, fun p _ => reset_portOff p⟩
  rw [State.reset_rr]
  exact Nat.mod_eq_of_lt (show i < 2 ^ 32 by omega)

/-! ### A register file that is not in canonical form -/

/-- Step 4 of the start is complete, and the register file lists CVN_SLOT 0 at its reset value, which no write leaves listed. -/
def strayEntry : State := { regs := [(Reg.CVN_SLOT.key 0, 0#32), (Reg.IDT_BOOT.key 0, 4#32)] }

/-- The write of a register with no field to write stores its value again, which drops the entry. -/
theorem strayEntry_write : (strayEntry.writeAt (.steward none) 0x50001000 4 0).regs = [(Reg.IDT_BOOT.key 0, 4#32)] := by decide

theorem not_registerWrite : ¬ RegisterWrite := by
  intro h
  have hmay : MayAct strayEntry (.steward none) := show 4 ≤ strayEntry.f F.IDT_BOOT_STEP by decide
  obtain ⟨-, -, ⟨t, ht, hs, -⟩, -⟩ := h strayEntry (.steward none) 0 0 hmay
  have hw : strayEntry.writeAt (.steward none) 0x50001000 4 0 = t := Host.Outcome.next.inj ht
  have hregs := congrArg State.regs hs
  dsimp only at hregs
  rw [← hw, strayEntry_write] at hregs
  exact absurd hregs (by decide)

/-- Refutes O1: the statement asks of every state that a write to a register without writable fields leaves the register file as it
is, list and all. Of a register file that lists a register at its reset value (`strayEntry`) the write drops that entry: each register
reads as before, but the state is another. No write leaves such an entry listed; the statement lacks the premise that there is none. -/
theorem not_registerAccess : ¬ Obligations.RegisterAccess := fun h => not_registerWrite h.1

/-! ### A full journal -/

/-- A register that is none of a chain value's eight is not written with it. -/
theorem State.putHash_rr_ne (s : State) (r q : Reg) (j : Nat) (bs : List Byte) (h : ∀ w < 8, q.key j ≠ r.key w) :
    (s.putHash r bs).rr q j = s.rr q j := by
  unfold State.putHash
  refine foldl_keeps_mem (fun t => t.rr q j = s.rr q j) _ _ s (fun t w hw ht => ?_) rfl
  rw [State.rr_wr_ne _ _ _ _ _ _ (h w (List.mem_range.mp hw)), ht]

theorem State.setPair_rr_ne (s : State) (lo hi q : Reg) (i j v : Nat) (hl : q.key j ≠ lo.key i) (hh : q.key j ≠ hi.key i) :
    (s.setPair lo hi i v).rr q j = s.rr q j := by
  unfold State.setPair
  rw [State.rr_wr_ne _ _ _ _ _ _ hh, State.rr_wr_ne _ _ _ _ _ _ hl]

/-- Room made in a full journal loses its oldest block, and counts it (R677). -/
theorem State.journalRoom_lost (s : State) (h : journalMax ≤ s.journal.entries.length) :
    s.journalRoom.rr .JNL_LOST = min (s.rr .JNL_LOST + journalBlock) 0xFFFFFFFF := by
  unfold State.journalRoom
  dsimp only
  rw [if_neg (Nat.not_lt.mpr h), State.putHash_rr_ne _ _ _ _ _ (by decide), State.rr_bump_same,
    State.setPair_rr_ne _ _ _ _ _ _ _ (by decide) (by decide)]
  unfold State.rr
  rfl

/-- An entry written to a full journal loses its oldest block, and counts it (R677). -/
theorem State.log_lost (s : State) (e : Entry) (h : journalMax ≤ s.journal.entries.length) :
    (s.log e).rr .JNL_LOST = min (s.rr .JNL_LOST + journalBlock) 0xFFFFFFFF := by
  unfold State.log
  dsimp only
  rw [State.putHash_rr_ne _ _ _ _ _ (by decide), State.setPair_rr_ne _ _ _ _ _ _ _ (by decide) (by decide)]
  exact State.journalRoom_lost s h

/-- A write of a register whose requester has a way to it acts (R36, R37, R560). -/
theorem State.writeAt_acts (s : State) (rq : Requester) (r : Reg) (i addr v : Nat) (hs : siteOf rq addr = .reg r i)
    (ha : addr % 4 = 0) (hi : s.accessIdle rq = false) (hr : reaches rq r = true) (he : s.early rq = false)
    (hc : coreReadsOnly rq r.desc.blk = false) : s.writeAt rq addr 4 v = s.logged rq r i (s.writeOf rq r i v) := by
  simp [State.writeAt, State.regWrite, hs, ha, hi, hr, he, hc]

/-- Step 4 of the start is complete, and the journal holds all the entries that it can (R677). -/
def fullJournal : State :=
  { regs := [(Reg.IDT_BOOT.key 0, 4#32)], journal := { entries := List.replicate journalMax [] } }

/-- The installer's write of MEM_RGN_SIZE before the sealing, with the journal full, loses a block of the journal. -/
theorem fullJournal_write :
    (fullJournal.writeAt (.steward (some .installer)) 0x50800104 4 0).rr .JNL_LOST = journalBlock := by
  rw [State.writeAt_acts _ _ .MEM_RGN_SIZE 0 _ _ (by decide) rfl rfl rfl (by decide) rfl]
  have hok : (fullJournal.writeOf (.steward (some .installer)) .MEM_RGN_SIZE 0 0).resp.status = .ok := by decide
  have hfull : journalMax ≤ (fullJournal.writeOf (.steward (some .installer)) .MEM_RGN_SIZE 0 0).journal.entries.length :=
    (List.length_replicate (n := journalMax)).ge
  have hlost : (fullJournal.writeOf (.steward (some .installer)) .MEM_RGN_SIZE 0 0).rr .JNL_LOST = 0 := by decide
  simp only [State.logged, hok]
  rw [if_pos (by decide), State.log_lost _ _ hfull, hlost]
  decide

theorem not_sealedField : ¬ SealedField := by
  intro h
  obtain ⟨hopen, -, -⟩ := h fullJournal 0 0 (by decide)
  obtain ⟨t, ht, -, -, -, hk⟩ := hopen (by decide)
  have hw : fullJournal.writeAt (.steward (some .installer)) 0x50800104 4 0 = t := Host.Outcome.next.inj ht
  have hlost := hk .JNL_LOST 0 (by decide)
  rw [← hw, fullJournal_write] at hlost
  exact absurd hlost (by decide)

/-- Refutes O2: before the sealing the installer's write of MEM_RGN_SIZE goes into the journal (R676), and with the journal full that
erases its oldest block, which JNL_LOST and JNL_TAILHASH show (R677). The statement lets the journal's other registers change but not
these two; `fullJournal` is such a state, and there JNL_LOST goes from 0 to 512. -/
theorem not_registerPairsAndSeals : ¬ Obligations.RegisterPairsAndSeals := fun h => not_sealedField h.2

end Sys2Proof.Machine
end

section
/-! SUPPORT. The queue of commands: no operation of the model takes a command from it or adds one to it. One lemma for each operation
that gives a state, in the order of the model's files, each from the lemmas of the operations that it calls. -/

namespace Sys2Proof.Machine

/-! ### The commands that wait -/

/-- The commands that wait: `pending` under a name of its own. The lemmas about `pending` hold by `rfl`, and a chain of them would have
the kernel compare the states, and so evaluate what was written into them; those about `commands` are equations that simp composes. -/
def State.commands (s : State) : List Instr := s.pending

/-- A record update that does not name `pending` leaves it alone. -/
@[simp] theorem State.mk_commands (x : State) (resp out free regs pairs mem tmb cvn tiles metering gova govb ost ports frt mst cores ic eth
    events prf thm boot rst fcl sec journal) :
    (State.mk x.pending resp out free regs pairs mem tmb cvn tiles metering gova govb ost ports frt mst cores ic eth events prf thm boot
      rst fcl sec journal).commands = x.commands := by
  unfold State.commands
  rfl

@[simp] theorem commands_ite {c : Prop} [Decidable c] (a b : State) :
    (if c then a else b).commands = if c then a.commands else b.commands := by
  split <;> rfl

/-- A fold leaves the queue alone when each of its steps does. -/
@[simp] theorem commands_foldl {α : Type} (f : State → α → State) (l : List α) (s : State)
    (h : ∀ t a, (f t a).commands = t.commands) :
    (l.foldl f s).commands = s.commands :=
  foldl_keeps (fun t => t.commands = s.commands) f (fun t a ht => (h t a).trans ht) l s rfl

/-- An operation that also answers a value leaves the queue alone. -/
def CommandsKept {β : Type} (s : State) (r : State × β) : Prop := r.1.commands = s.commands

/-- A further read, with whether any so far met poison. -/
theorem CommandsKept.check {s : State} {p r : State × Bool} (h : CommandsKept s p) (hr : r.1.commands = p.1.commands) :
    CommandsKept s (r.1, p.2 || r.2) :=
  hr.trans h

/-! ### Ops -/

@[simp] theorem State.wr_commands (s : State) (r : Reg) (i v : Nat) : (s.wr r i v).commands = s.commands := by simp [State.wr]

@[simp] theorem State.sf_commands (s : State) (f : Fld) (i v : Nat) : (s.sf f i v).commands = s.commands := by simp [State.sf]

@[simp] theorem State.bump_commands (s : State) (r : Reg) (i n : Nat) : (s.bump r i n).commands = s.commands := by simp [State.bump]

@[simp] theorem State.bumpF_commands (s : State) (f : Fld) (i : Nat) : (s.bumpF f i).commands = s.commands := by simp [State.bumpF]

@[simp] theorem State.setPair_commands (s : State) (lo hi : Reg) (i v : Nat) : (s.setPair lo hi i v).commands = s.commands := by
  simp [State.setPair]

@[simp] theorem State.err_commands (s : State) (b : Block) (st : Status) : (s.err b st).commands = s.commands := by
  unfold State.err
  repeat' split
  all_goals simp

@[simp] theorem State.answer_commands (s : State) (st : Status) (v : Nat) :
    (s.answer st v).commands = s.commands := by simp [State.answer]

@[simp] theorem State.take_commands (s : State) : s.take.commands = s.commands := by simp [State.take]

@[simp] theorem State.send_commands (s : State) (o : Out) : (s.send o).commands = s.commands := by simp [State.send]

@[simp] theorem State.setTile_commands (s : State) (t : Nat) (x : Tile) :
    (s.setTile t x).commands = s.commands := by simp [State.setTile]

@[simp] theorem State.setSlot_commands (s : State) (i : Nat) (x : Slot) :
    (s.setSlot i x).commands = s.commands := by simp [State.setSlot]

@[simp] theorem State.setPort_commands (s : State) (i : Nat) (x : Port) :
    (s.setPort i x).commands = s.commands := by simp [State.setPort]

@[simp] theorem State.setCore_commands (s : State) (i : Nat) (x : Core) :
    (s.setCore i x).commands = s.commands := by simp [State.setCore]

@[simp] theorem State.setGov_commands (s : State) (gb : Bool) (x : Gov) :
    (s.setGov gb x).commands = s.commands := by simp [State.setGov]

@[simp] theorem State.setMeter_commands (s : State) (mb : Bool) (x : Meter) : (s.setMeter mb x).commands = s.commands := by
  simp [State.setMeter]

@[simp] theorem State.raise_commands (s : State) (line index : Nat) (st : Status) : (s.raise line index st).commands = s.commands := by
  simp [State.raise]

@[simp] theorem State.sealViolation_commands (s : State) (b : Block) (key : Nat) : (s.sealViolation b key).commands = s.commands := by
  unfold State.sealViolation
  split <;> simp

@[simp] theorem State.prfEvent_commands (s : State) (b : Nat) : (s.prfEvent b).commands = s.commands := by simp [State.prfEvent]

@[simp] theorem State.blkAdd_commands (s : State) (j n : Nat) : (s.blkAdd j n).commands = s.commands := by simp [State.blkAdd]

@[simp] theorem State.blockEvent_commands (s : State) (ev idx n : Nat) : (s.blockEvent ev idx n).commands = s.commands := by
  simp [State.blockEvent]

@[simp] theorem State.readReg_commands (s : State) (rq : Requester) (r : Reg) (i live liveHi : Nat) :
    (s.readReg rq r i live liveHi).commands = s.commands := by
  unfold State.readReg
  dsimp only
  repeat' split
  all_goals simp

@[simp] theorem State.capture_commands (s : State) (rq : Requester) (r : Reg) (i v : Nat) :
    (s.capture rq r i v).commands = s.commands := by
  simp [State.capture]

@[simp] theorem State.errAt_commands (s : State) (r : Reg) (i : Nat) (st : Status) : (s.errAt r i st).commands = s.commands := by
  unfold State.errAt
  split <;> simp

@[simp] theorem State.writeWord_commands (s : State) (rq : Requester) (isSealed legal : Bool) (r : Reg) (i v : Nat) :
    (s.writeWord rq isSealed legal r i v).commands = s.commands := by
  simp [State.writeWord]

@[simp] theorem State.writeUnlessBusy_commands (s : State) (rq : Requester) (legal busy : Bool) (r : Reg) (i v : Nat) :
    (s.writeUnlessBusy rq legal busy r i v).commands = s.commands := by
  simp [State.writeUnlessBusy]

@[simp] theorem State.dropHeld_commands (s : State) (rq : Requester) (k : Nat) : (s.dropHeld rq k).commands = s.commands := by
  simp [State.dropHeld]

@[simp] theorem State.holdLow_commands (s : State) (rq : Requester) (lo : Reg) (i v : Nat) :
    (s.holdLow rq lo i v).commands = s.commands := by
  simp [State.holdLow]

@[simp] theorem State.writeHigh_commands (s : State) (rq : Requester) (legal : Bool) (lo hi : Reg) (i v : Nat) :
    (s.writeHigh rq legal lo hi i v).commands = s.commands := by
  simp [State.writeHigh]

/-! ### MemOps -/

@[simp] theorem State.storeBytes_commands (s : State) (a : Nat) (bs : List Byte) : (s.storeBytes a bs).commands = s.commands := by
  rw [State.storeBytes_only, State.mk_commands]

@[simp] theorem State.setPoison_commands (s : State) (line : Nat) (p : Bool) : (s.setPoison line p).commands = s.commands := by
  simp [State.setPoison]

@[simp] theorem State.dropLatent_commands (s : State) (line : Nat) :
    (s.dropLatent line).commands = s.commands := by simp [State.dropLatent]

@[simp] theorem State.countCe_commands (s : State) (a : Nat) : (s.countCe a).commands = s.commands := by
  unfold State.countCe
  split <;> simp

@[simp] theorem State.errlog_commands (s : State) (a q src : Nat) : (s.errlog a q src).commands = s.commands := by simp [State.errlog]

@[simp] theorem State.countUe_commands (s : State) (a src : Nat) : (s.countUe a src).commands = s.commands := by
  unfold State.countUe
  split <;> simp

@[simp] theorem State.checkLine_commands (s : State) (line src : Nat) : (s.checkLine line src).1.commands = s.commands := by
  unfold State.checkLine
  dsimp only
  repeat' split
  all_goals simp

@[simp] theorem State.checkLines_commands (s : State) (line src n : Nat) : (s.checkLines line src n).1.commands = s.commands := by
  induction n generalizing s line with
  | zero => rfl
  | succ n ih => exact (ih _ _).trans (State.checkLine_commands ..)

@[simp] theorem State.readMem_commands (s : State) (a n src : Nat) :
    (s.readMem a n src).1.commands = s.commands := by simp [State.readMem]

@[simp] theorem State.writeLine_commands (s : State) (a : Nat) (bs : List Byte) (marked : Bool) (src : Nat) :
    (s.writeLine a bs marked src).commands = s.commands := by
  unfold State.writeLine
  dsimp only
  repeat' split
  all_goals simp

@[simp] theorem State.writeLines_commands (s : State) (k a : Nat) (bs : List Byte) (marked : Bool) (src : Nat) :
    (s.writeLines k a bs marked src).commands = s.commands := by
  induction k generalizing s a bs with
  | zero => rfl
  | succ k ih =>
    unfold State.writeLines
    dsimp only
    split
    · rfl
    · rw [ih, State.writeLine_commands]

@[simp] theorem State.writeMem_commands (s : State) (a : Nat) (bs : List Byte) (marked : Bool) (src : Nat) :
    (s.writeMem a bs marked src).commands = s.commands := by
  simp [State.writeMem]

/-! ### CounterOps -/

@[simp] theorem State.tcAdd_commands (s : State) (t k n : Nat) : (s.tcAdd t k n).commands = s.commands := by simp [State.tcAdd]

@[simp] theorem State.tileEvent_commands (s : State) (t ev n : Nat) :
    (s.tileEvent t ev n).commands = s.commands := by simp [State.tileEvent]

@[simp] theorem State.bwBytes_commands (s : State) (i n : Nat) : (s.bwBytes i n).commands = s.commands := by simp [State.bwBytes]

@[simp] theorem State.setOutGen_commands (s : State) (t : Nat) (x : OutGen) : (s.setOutGen t x).commands = s.commands := by
  simp [State.setOutGen]

@[simp] theorem State.outriderIssue_commands (s : State) (t cls opc : Nat) : (s.outriderIssue t cls opc).commands = s.commands := by
  unfold State.outriderIssue
  dsimp only
  repeat' split
  all_goals simp

@[simp] theorem State.outriderFlag_commands (s : State) (t b : Nat) : (s.outriderFlag t b).commands = s.commands := by
  unfold State.outriderFlag
  dsimp only
  repeat' split
  all_goals simp

/-! ### CoreOps -/

@[simp] theorem State.setXreg_commands (s : State) (c n v : Nat) : (s.setXreg c n v).commands = s.commands := by simp [State.setXreg]

@[simp] theorem State.coreException_commands (s : State) (c cause tval : Nat) :
    (s.coreException c cause tval).commands = s.commands := by
  simp [State.coreException]

@[simp] theorem State.cvnResult_commands (s : State) (c rd : Nat) (st : Status) (fields : Nat) :
    (s.cvnResult c rd st fields).commands = s.commands := by
  simp [State.cvnResult]

/-! ### CvnOps -/

@[simp] theorem State.cvnEvent_commands (s : State) (i b : Nat) : (s.cvnEvent i b).commands = s.commands := by simp [State.cvnEvent]

@[simp] theorem State.endWaits_commands (s : State) (i : Nat) (go : CvnWait → Bool) (st : Status) (fields : Nat) :
    (s.endWaits i go st fields).commands = s.commands := by
  unfold State.endWaits
  refine commands_foldl _ _ _ fun t a => ?_
  repeat' split
  all_goals simp

@[simp] theorem State.wakeWaiters_commands (s : State) (i : Nat) :
    (s.wakeWaiters i).commands = s.commands := by simp [State.wakeWaiters]

@[simp] theorem State.writeCompletion_commands (s : State) (i : Nat) (c : Completion) :
    (s.writeCompletion i c).commands = s.commands := by
  simp [State.writeCompletion]

@[simp] theorem State.retireDone_commands (s : State) (t : Nat) : (s.retireDone t).commands = s.commands := by simp [State.retireDone]

@[simp] theorem State.complete_commands (s : State) (i : Nat) (c : Completion) : (s.complete i c).commands = s.commands := by
  unfold State.complete
  split <;> simp

@[simp] theorem State.stopTile_commands (s : State) (t : Nat) (st : TileState) : (s.stopTile t st).commands = s.commands := by
  simp [State.stopTile]

@[simp] theorem State.stopStations_commands (s : State) (i : Nat) :
    (s.stopStations i).commands = s.commands := by simp [State.stopStations]

@[simp] theorem State.removeBales_commands (s : State) (i : Nat) :
    (s.removeBales i).commands = s.commands := by simp [State.removeBales]

@[simp] theorem State.countAborted_commands (s : State) (i n : Nat) : (s.countAborted i n).commands = s.commands := by
  simp [State.countAborted]

@[simp] theorem State.faultSlot_commands (s : State) (i station : Nat) (st : Status) :
    (s.faultSlot i station st).commands = s.commands := by
  unfold State.faultSlot
  dsimp only
  repeat' split
  all_goals simp

@[simp] theorem State.fenceStation_commands (s : State) (t : Nat) : (s.fenceStation t).commands = s.commands := by
  unfold State.fenceStation
  split <;> simp

/-! ### Operands -/

@[simp] theorem State.latch_commands (s : State) (t b : Nat) : (s.latch t b).commands = s.commands := by simp [State.latch]

/-! ### TileOps -/

@[simp] theorem State.tileException_commands (s : State) (t : Nat) (e : Exc) : (s.tileException t e).commands = s.commands := by
  unfold State.tileException
  split <;> simp

@[simp] theorem State.retireTo_commands (s : State) (t pc : Nat) : (s.retireTo t pc).commands = s.commands := by simp [State.retireTo]

@[simp] theorem State.retire_commands (s : State) (t : Nat) : (s.retire t).commands = s.commands := by simp [State.retire]

@[simp] theorem State.setFlags_commands (s : State) (t fl : Nat) : (s.setFlags t fl).commands = s.commands := by simp [State.setFlags]

@[simp] theorem State.poisonSeen_commands (s : State) (t : Nat) (p : Bool) : (s.poisonSeen t p).commands = s.commands := by
  unfold State.poisonSeen
  dsimp only
  repeat' split
  all_goals simp

@[simp] theorem State.finishG_commands (s : State) (t : Nat) (a : BitVec 5) (v : Nat) : (s.finishG t a v).commands = s.commands := by
  simp [State.finishG]

@[simp] theorem State.block_commands (s : State) (t : Nat) (w : TileWait) : (s.block t w).commands = s.commands := by simp [State.block]

@[simp] theorem State.setTimer_commands (s : State) (t v : Nat) : (s.setTimer t v).commands = s.commands := by simp [State.setTimer]

@[simp] theorem State.setNote_commands (s : State) (t v : Nat) : (s.setNote t v).commands = s.commands := by simp [State.setNote]

@[simp] theorem State.seedHi_commands (s : State) (rq : Requester) (t v : Nat) : (s.seedHi rq t v).commands = s.commands := by
  simp [State.seedHi]

@[simp] theorem State.tileRegWrite_commands (s : State) (rq : Requester) (r : Reg) (i v : Nat) :
    (s.tileRegWrite rq r i v).commands = s.commands := by
  unfold State.tileRegWrite
  split <;> simp

@[simp] theorem State.poisonLines_commands (s : State) (line n : Nat) : (s.poisonLines line n).commands = s.commands := by
  induction n generalizing s line with
  | zero => rfl
  | succ n ih => exact (ih _ _).trans (State.setPoison_commands ..)

@[simp] theorem State.writeBuffer_commands (s : State) (t : Nat) (p : Posted) (b : Bale) :
    (s.writeBuffer t p b).commands = s.commands := by
  simp [State.writeBuffer]

@[simp] theorem State.fillBuffers_commands (n : Nat) (s : State) (t : Nat) : (State.fillBuffers n s t).commands = s.commands := by
  induction n generalizing s with
  | zero => rfl
  | succ n ih =>
    unfold State.fillBuffers
    dsimp only
    split
    · split
      · split
        · rw [ih, State.setTile_commands, State.writeBuffer_commands]
        · rfl
      · rfl
    · rfl

@[simp] theorem State.takeBale_commands (s : State) (t : Nat) (a : BitVec 5) : (s.takeBale t a).commands = s.commands := by
  unfold State.takeBale
  dsimp only
  repeat' split
  all_goals simp

@[simp] theorem State.doRetire_commands (s : State) (t : Nat) : (s.doRetire t).commands = s.commands := by
  unfold State.doRetire
  split <;> simp

@[simp] theorem State.release_commands (s : State) (t : Nat) : (s.release t).commands = s.commands := by
  unfold State.release
  dsimp only
  repeat' split
  all_goals simp

@[simp] theorem State.startTile_commands (s : State) (t : Nat) : (s.startTile t).commands = s.commands := by simp [State.startTile]

/-! ### FrtOps -/

@[simp] theorem State.deriveTopo_commands (s : State) : s.deriveTopo.commands = s.commands := by simp [State.deriveTopo]

@[simp] theorem State.transmit_commands (s : State) (p : Nat) (bs : List Byte) : (s.transmit p bs).commands = s.commands := by
  simp [State.transmit]

@[simp] theorem State.toPort_commands (s : State) (p : Nat) (bs : List Byte) : (s.toPort p bs).commands = s.commands := by
  simp [State.toPort]

@[simp] theorem State.unblock_commands (s : State) (p n : Nat) : (s.unblock p n).commands = s.commands := by
  induction n generalizing s with
  | zero => rfl
  | succ n ih =>
    unfold State.unblock
    dsimp only
    split
    · rfl
    · split
      · rfl
      · rw [ih, State.transmit_commands, State.setPort_commands]

@[simp] theorem State.forward_commands (s : State) (f : Frame) (inc : Nat) (escape : Bool) :
    (s.forward f inc escape).1.commands = s.commands := by
  unfold State.forward
  dsimp only
  repeat' split
  all_goals simp

@[simp] theorem State.routerWrite_commands (s : State) (a : Nat) (bs : List Byte) : (s.routerWrite a bs).commands = s.commands := by
  simp [State.routerWrite]

@[simp] theorem State.noteTile_commands (s : State) (t v : Nat) : (s.noteTile t v).commands = s.commands := by simp [State.noteTile]

/-- What a frame for a receive queue leads to: nothing, a frame stored with the count told to memory, or a drop (R429 to R431). -/
theorem State.deliverRq_cases (s : State) (f : Frame) (P : State × Option Status → Prop) (h0 : ∀ st, P (s, some st))
    (hok : ∀ a bs q n b k m,
      P ((((((s.readMem b 4 4).1.writeMem a bs false 4).wr .RQ_COUNT q n).routerWrite k (leBytes 4 n)).sf F.RQ_CTL_PEND q 1).noteTile
        m n, none))
    (hf : ∀ q st b, P ((if s.fb F.RQ_CTL_EN q then (s.readMem b 4 4).1 else s).bump .RQ_DROP q, some st)) :
    P (s.deliverRq f) := by
  unfold State.deliverRq
  extract_lets +onlyGivenNames q
  by_cases hc : 64 ≤ q
  · rw [if_pos hc]
    exact h0 _
  · rw [if_neg hc]
    extract_lets +onlyGivenNames ring cap size n r st
    clear_value st
    split
    · exact hok ..
    · exact hf ..

@[simp] theorem State.deliverRq_commands (s : State) (f : Frame) : (s.deliverRq f).1.commands = s.commands := by
  refine State.deliverRq_cases s f (fun r => r.1.commands = s.commands) (fun _ => rfl) ?_ ?_
  · simp
  · intro q st b
    split <;> simp

@[simp] theorem State.arrive_commands (s : State) (f : Frame) : (s.arrive f).1.commands = s.commands := by
  unfold State.arrive
  dsimp only
  repeat' split
  all_goals simp

@[simp] theorem State.countLoss_commands (s : State) (st : Status) : (s.countLoss st).commands = s.commands := by
  unfold State.countLoss
  split <;> simp

@[simp] theorem State.notify_commands (s : State) (f : Frame) (st : Status) (mask : Nat) :
    (s.notify f st mask).commands = s.commands := by
  unfold State.notify
  dsimp only
  split
  · rfl
  · split
    · simp
    · have h := State.forward_commands (s.bump .FRT_NOTICES) (s.noticeFor f st mask) 1 false
      split <;> simp_all

@[simp] theorem State.deliver_commands (s : State) (f : Frame) : (s.deliver f).commands = s.commands := by
  unfold State.deliver
  have h := State.arrive_commands s f
  split <;> simp_all

@[simp] theorem State.replicate_commands (s : State) (f : Frame) : (s.replicate f).commands = s.commands := by
  unfold State.replicate
  refine commands_foldl _ _ _ fun a d => ?_
  dsimp only
  generalize hf : a.forward _ 1 false = r
  have h : r.1.commands = a.commands := hf ▸ State.forward_commands ..
  split <;> simp_all

@[simp] theorem State.route_commands (s : State) (f : Frame) (inc : Nat) (escape : Bool) :
    (s.route f inc escape).commands = s.commands := by
  unfold State.route
  extract_lets +onlyGivenNames g
  split
  · split <;> simp
  · have h := State.forward_commands s g inc escape
    split <;> simp_all

@[simp] theorem State.inject_commands (s : State) (f : Frame) (rnd : Nat) (escape : Bool) :
    (s.inject f rnd escape).commands = s.commands := by
  simp [State.inject]

@[simp] theorem State.handBackFrame_commands (s : State) (bs : List Byte) : (s.handBackFrame bs).commands = s.commands := by
  simp [State.handBackFrame]

@[simp] theorem State.handBack_commands (s : State) (p : Nat) : (s.handBack p).commands = s.commands := by simp [State.handBack]

/-! ### CoreMemory -/

@[simp] theorem State.flipLine_commands (s : State) (line : Nat) (flip : Option Ecc) :
    (s.flipLine line flip).commands = s.commands := by
  unfold State.flipLine
  split <;> simp

@[simp] theorem State.accessFault_commands (s : State) (rq : Requester) (store : Bool) (addr : Nat) :
    (s.accessFault rq store addr).commands = s.commands := by
  unfold State.accessFault
  split <;> simp

@[simp] theorem State.countCore_commands (s : State) (rq : Requester) (ev : Nat) : (s.countCore rq ev).commands = s.commands := by
  unfold State.countCore
  split <;> simp

@[simp] theorem State.memFault_commands (s : State) (c : Nat) (k : MemAccess) (addr : Nat) :
    (s.memFault c k addr).commands = s.commands := by
  simp [State.memFault]

@[simp] theorem State.stackChannels_commands (s : State) (k a b : Nat) : (s.stackChannels k a b).commands = s.commands := by
  simp [State.stackChannels]

@[simp] theorem State.selfRefresh_commands (s : State) : s.selfRefresh.commands = s.commands := by simp [State.selfRefresh]

@[simp] theorem State.wakeStack_commands (s : State) (k : Nat) : (s.wakeStack k).commands = s.commands := by simp [State.wakeStack]

/-! ### JournalOps -/

@[simp] theorem State.putHash_commands (s : State) (r : Reg) (h : List Byte) : (s.putHash r h).commands = s.commands := by
  simp [State.putHash]

@[simp] theorem State.journalRoom_commands (s : State) : s.journalRoom.commands = s.commands := by simp [State.journalRoom]

@[simp] theorem State.log_commands (s : State) (e : Entry) : (s.log e).commands = s.commands := by simp [State.log]

@[simp] theorem State.audit_commands (s : State) (e : Entry) : (s.audit e).commands = s.commands := by simp [State.audit]

@[simp] theorem State.takeLock_commands (s : State) (x : Session) : (s.takeLock x).commands = s.commands := by simp [State.takeLock]

@[simp] theorem State.releaseLock_commands (s : State) (role : Role) (actor : List Byte) (cause : Nat) :
    (s.releaseLock role actor cause).commands = s.commands := by
  simp [State.releaseLock]

@[simp] theorem State.endActivation_commands (s : State) (a : Activation) (st : Status) :
    (s.endActivation a st).commands = s.commands := by
  simp [State.endActivation]

/-! ### RegOps -/

@[simp] theorem State.noWay_commands (s : State) (rq : Requester) (store : Bool) (addr : Nat) :
    (s.noWay rq store addr).commands = s.commands := by
  simp [State.noWay]

@[simp] theorem State.holdWrite_commands (s : State) (rq : Requester) (key : Nat) (v : BitVec 32) :
    (s.holdWrite rq key v).commands = s.commands := by
  simp [State.holdWrite]

@[simp] theorem State.logged_commands (s : State) (rq : Requester) (r : Reg) (i : Nat) (a : State) :
    (s.logged rq r i a).commands = a.commands := by
  unfold State.logged
  split
  · split <;> simp
  · rfl

@[simp] theorem State.regWrite_commands (s : State) (rq : Requester) (r : Reg) (i v : Nat) (act : State → State)
    (hact : ∀ t, (act t).commands = t.commands) :
    (s.regWrite rq r i v act).commands = s.commands := by
  unfold State.regWrite
  split
  · rfl
  · split
    · simp
    · split
      · simp
      · split <;> simp [hact]

@[simp] theorem State.tileReg_commands (s : State) (rq : Requester) (t addr : Nat) (store : Bool) (act : State → State)
    (hact : ∀ t, (act t).commands = t.commands) :
    (s.tileReg rq t addr store act).commands = s.commands := by
  unfold State.tileReg
  split
  · rfl
  · dsimp only
    split <;> simp [hact]

@[simp] theorem State.regRead_commands (s : State) (rq : Requester) (r : Reg) (i : Nat) (act : State → State)
    (hact : ∀ t, (act t).commands = t.commands) :
    (s.regRead rq r i act).commands = s.commands := by
  unfold State.regRead
  split
  · rfl
  · split <;> simp [hact]

/-! ### MeterOps -/

@[simp] theorem State.noteSync_commands (s : State) (before : Nat) :
    (s.noteSync before).commands = s.commands := by simp [State.noteSync]

@[simp] theorem State.closeReading_commands (s : State) (mb : Bool) (endT : Nat) : (s.closeReading mb endT).commands = s.commands := by
  simp [State.closeReading]

@[simp] theorem State.snapshot_commands (s : State) (mb : Bool) (sec : Nat) : (s.snapshot mb sec).commands = s.commands := by
  simp [State.snapshot]

@[simp] theorem State.failMeter_commands (s : State) (mb : Bool) : (s.failMeter mb).commands = s.commands := by
  unfold State.failMeter
  dsimp only
  repeat' split
  all_goals simp

@[simp] theorem State.endAcc_commands (s : State) (st : Status) : (s.endAcc st).commands = s.commands := by
  unfold State.endAcc
  split <;> simp

@[simp] theorem State.crossCheck_commands (s : State) : s.crossCheck.commands = s.commands := by simp [State.crossCheck]

@[simp] theorem State.updateK_commands (s : State) (mb : Bool) : (s.updateK mb).commands = s.commands := by simp [State.updateK]

@[simp] theorem State.newWindow_commands (s : State) (mb : Bool) : (s.newWindow mb).commands = s.commands := by simp [State.newWindow]

@[simp] theorem State.coreTimers_commands (s : State) : s.coreTimers.commands = s.commands := by simp [State.coreTimers]

@[simp] theorem State.tileTimers_commands (s : State) (old : Nat) :
    (s.tileTimers old).commands = s.commands := by simp [State.tileTimers]

@[simp] theorem State.stepPtime_commands (s : State) (delta : Nat) : (s.stepPtime delta).commands = s.commands := by
  unfold State.stepPtime
  dsimp only
  repeat' split
  all_goals simp

/-! ### GovOps -/

@[simp] theorem State.setGl_commands (s : State) (gb : Bool) (x : GovLink) :
    (s.setGl gb x).commands = s.commands := by simp [State.setGl]

@[simp] theorem State.setGovSt_commands (s : State) (gb : Bool) (v : Nat) : (s.setGovSt gb v).commands = s.commands := by
  simp [State.setGovSt]

@[simp] theorem State.setMode_commands (s : State) (gb : Bool) (m : Nat) :
    (s.setMode gb m).commands = s.commands := by simp [State.setMode]

@[simp] theorem State.refreshGov_commands (s : State) (gb : Bool) :
    (s.refreshGov gb).commands = s.commands := by simp [State.refreshGov]

@[simp] theorem State.applyOut_commands (s : State) (out : Nat) : (s.applyOut out).commands = s.commands := by simp [State.applyOut]

@[simp] theorem State.ostCommand_commands (s : State) (gb : Bool) (out : Nat) : (s.ostCommand gb out).commands = s.commands := by
  simp [State.ostCommand]

@[simp] theorem State.takeControl_commands (s : State) (gb : Bool) (cause : Nat) : (s.takeControl gb cause).commands = s.commands := by
  simp [State.takeControl]

@[simp] theorem State.dropMakeweight_commands (s : State) : s.dropMakeweight.commands = s.commands := by simp [State.dropMakeweight]

@[simp] theorem State.placeBurn_commands (s : State) (gb : Bool) (n : Nat) : (s.placeBurn gb n).commands = s.commands := by
  simp [State.placeBurn]

@[simp] theorem State.holdUp_commands (s : State) (gb : Bool) : (s.holdUp gb).commands = s.commands := by
  unfold State.holdUp
  simp only [State.sf_commands]
  refine foldl_keeps (fun p => p.1.commands = s.commands) _ (fun p e h => ?_) _ (s, 0) rfl
  split
  · exact h
  · split <;> simp [h]

@[simp] theorem State.nextGating_commands (s : State) (gb floor : Bool) : (s.nextGating gb floor).commands = s.commands := by
  unfold State.nextGating
  dsimp only
  repeat' split
  all_goals simp

@[simp] theorem State.allocate_commands (s : State) (gb : Bool) (d p : Int) : (s.allocate gb d p).commands = s.commands := by
  simp [State.allocate]

@[simp] theorem State.tolls_commands (s : State) (common : Nat) : (s.tolls common).commands = s.commands := by
  unfold State.tolls
  refine commands_foldl _ _ _ fun t a => ?_
  dsimp only
  split <;> simp

@[simp] theorem State.floorMode_commands (s : State) (gb : Bool) (b : Int) : (s.floorMode gb b).commands = s.commands := by
  simp [State.floorMode]

@[simp] theorem State.period_commands (s : State) (gb : Bool) : (s.period gb).commands = s.commands := by simp [State.period]

/-! ### EthOps -/

@[simp] theorem State.setEthPort_commands (s : State) (k : Nat) (x : EthPort) : (s.setEthPort k x).commands = s.commands := by
  simp [State.setEthPort]

@[simp] theorem State.setQp_commands (s : State) (q : Nat) (x : Qp) : (s.setQp q x).commands = s.commands := by simp [State.setQp]

@[simp] theorem State.ethEvent_commands (s : State) (k b : Nat) : (s.ethEvent k b).commands = s.commands := by simp [State.ethEvent]

@[simp] theorem State.netEvent_commands (s : State) (n b : Nat) : (s.netEvent n b).commands = s.commands := by simp [State.netEvent]

@[simp] theorem State.announce_commands (s : State) (n type : Nat) :
    (s.announce n type).commands = s.commands := by simp [State.announce]

@[simp] theorem State.announceAll_commands (s : State) (type : Nat) : (s.announceAll type).commands = s.commands := by
  simp [State.announceAll]

@[simp] theorem State.leaveMember_commands (s : State) (k lacp : Nat) : (s.leaveMember k lacp).commands = s.commands := by
  simp [State.leaveMember]

@[simp] theorem State.ethDown_commands (s : State) (k : Nat) (st : Status) : (s.ethDown k st).commands = s.commands := by
  simp [State.ethDown]

@[simp] theorem State.ethSent_commands (s : State) (k len : Nat) : (s.ethSent k len).commands = s.commands := by simp [State.ethSent]

@[simp] theorem State.sendRdma_commands (s : State) (q psn : Nat) (op : RdmaOp) : (s.sendRdma q psn op).commands = s.commands := by
  unfold State.sendRdma
  dsimp only
  repeat' split
  all_goals simp

@[simp] theorem State.finishEntry_commands (s : State) (q idx : Nat) (st : Status) :
    (s.finishEntry q idx st).commands = s.commands := by
  simp [State.finishEntry]

@[simp] theorem State.fenceEntries_commands (s : State) (q : Nat) (ws : List WorkOut) :
    (s.fenceEntries q ws).commands = s.commands := by
  simp [State.fenceEntries]

@[simp] theorem State.drainEntries_commands (ws : List WorkOut) (s : State) (q : Nat) :
    (State.drainEntries ws s q).commands = s.commands := by
  induction ws generalizing s with
  | nil => exact State.setQp_commands ..
  | cons w ws ih =>
    unfold State.drainEntries
    dsimp only
    split
    · exact State.setQp_commands ..
    · split
      · rw [ih, State.finishEntry_commands]
      · rw [State.fenceEntries_commands, State.netEvent_commands, State.setQp_commands, State.finishEntry_commands]

@[simp] theorem State.concludeEntries_commands (s : State) (q : Nat) (p : WorkOut → Bool) (st : Status) :
    (s.concludeEntries q p st).commands = s.commands := by
  simp [State.concludeEntries]

@[simp] theorem State.resendAll_commands (s : State) (q : Nat) : (s.resendAll q).commands = s.commands := by
  unfold State.resendAll
  refine commands_foldl _ _ _ fun t a => ?_
  repeat' split
  all_goals simp

@[simp] theorem State.migrate_commands (s : State) (q : Nat) : (s.migrate q).commands = s.commands := by simp [State.migrate]

@[simp] theorem State.fillRecv_commands (s : State) (q : Nat) (place : Bool) (data : List Byte) (imm : Option (BitVec 32)) :
    (s.fillRecv q place data imm).1.commands = s.commands := by
  unfold State.fillRecv
  dsimp only
  repeat' split
  all_goals simp

@[simp] theorem State.toRaw_commands (s : State) (n : Nat) (frame : List Byte) : (s.toRaw n frame).commands = s.commands := by
  simp [State.toRaw]

@[simp] theorem State.putHost_commands (s : State) (n i serial : Nat) (addr : List Byte) (t : Nat) :
    (s.putHost n i serial addr t).commands = s.commands := by
  simp [State.putHost]

@[simp] theorem State.hostMsg_commands (s : State) (n : Nat) (m : List Byte) : (s.hostMsg n m).commands = s.commands := by
  unfold State.hostMsg
  dsimp only
  repeat' split
  all_goals simp

/-! ### MusterOps -/

@[simp] theorem State.setMg_commands (s : State) (i : Nat) (x : MgSlot) : (s.setMg i x).commands = s.commands := by simp [State.setMg]

@[simp] theorem State.sendMuster_commands (s : State) (i kind : Nat) (m : MusterMsg) (dst : Option Nat) :
    (s.sendMuster i kind m dst).commands = s.commands := by
  unfold State.sendMuster
  repeat' split
  all_goals simp

@[simp] theorem State.writeLine1_commands (s : State) (i iseq : Nat) : (s.writeLine1 i iseq).commands = s.commands := by
  simp [State.writeLine1]

@[simp] theorem State.badWord_commands (s : State) (i old w : Nat) :
    (s.badWord i old w).commands = s.commands := by simp [State.badWord]

@[simp] theorem State.readLine0_commands (s : State) (i : Nat) : (s.readLine0 i).commands = s.commands := by simp [State.readLine0]

@[simp] theorem State.setPhase_commands (s : State) (i ph : Nat) : (s.setPhase i ph).commands = s.commands := by simp [State.setPhase]

@[simp] theorem State.mgFault_commands (s : State) (i st coord : Nat) : (s.mgFault i st coord).commands = s.commands := by
  simp [State.mgFault]

@[simp] theorem State.endMuster_commands (s : State) (i outcome fault : Nat) : (s.endMuster i outcome fault).commands = s.commands := by
  simp [State.endMuster]

@[simp] theorem State.decideMuster_commands (s : State) (i st fault : Nat) : (s.decideMuster i st fault).commands = s.commands := by
  simp [State.decideMuster]

@[simp] theorem State.askAbort_commands (s : State) (i st : Nat) : (s.askAbort i st).commands = s.commands := by simp [State.askAbort]

@[simp] theorem State.enter_commands (s : State) (i : Nat) : (s.enter i).commands = s.commands := by simp [State.enter]

/-- What a slot does next, if anything, leaves the queue alone. -/
def SameCommandsIfAny (s : State) (o : Option State) : Prop := ∀ t, o = some t → t.commands = s.commands

theorem SameCommandsIfAny.nothing (s : State) : SameCommandsIfAny s none := fun _ h => absurd h (by simp)
theorem SameCommandsIfAny.just {s t : State} (h : t.commands = s.commands) : SameCommandsIfAny s (some t) := by
  intro u hu
  rw [← Option.some.inj hu, h]
theorem SameCommandsIfAny.ite {s : State} {c : Prop} [Decidable c] {a b : Option State} (ha : SameCommandsIfAny s a)
    (hb : SameCommandsIfAny s b) :
    SameCommandsIfAny s (if c then a else b) := by
  split
  · exact ha
  · exact hb

theorem State.mgNext_commands (s : State) (i : Nat) : SameCommandsIfAny s (s.mgNext i) := by
  unfold State.mgNext
  extract_lets +onlyGivenNames x cur ph lead up
  clear_value x cur ph lead up
  refine .ite (.nothing s) (.ite ?_ ?_)
  · refine .ite (.just (by simp)) (.ite ?_ (.ite (.just (by simp)) (.ite ?_ ?_)))
    · split
      · exact .just (by simp)
      · exact .nothing s
    · split
      · exact .just (by simp)
      · exact .nothing s
    · split
      · refine .ite (.ite (.just (by simp)) (.nothing s)) (.ite ?_ (.ite (.just (by simp)) (.nothing s)))
        exact .just (by simp)
      · refine .ite (.ite (.just (by simp)) (.nothing s)) (.ite (.just (by simp)) (.nothing s))
      · refine .ite (.ite (.just (by simp)) (.nothing s)) (.ite (.just (by simp)) (.ite (.just (by simp)) (.nothing s)))
      · exact .ite (.just (by simp)) (.nothing s)
      · refine .ite (.ite (.just (by simp)) (.nothing s)) (.ite (.just (by simp)) (.nothing s))
  · split
    · exact .ite (.nothing s) (.just (by simp))
    · exact .ite (.just (by simp)) (.nothing s)

@[simp] theorem State.mgRun_commands (n : Nat) (s : State) (i : Nat) : (State.mgRun n s i).commands = s.commands := by
  induction n generalizing s with
  | zero => rfl
  | succ n ih =>
    unfold State.mgRun
    split
    · next s1 h => rw [ih, State.mgNext_commands s i s1 h]
    · rfl

@[simp] theorem State.mgSettle_commands (s : State) (i : Nat) : (s.mgSettle i).commands = s.commands := by simp [State.mgSettle]

@[simp] theorem State.stray_commands (s : State) : s.stray.commands = s.commands := by simp [State.stray]

@[simp] theorem State.hold_commands (s : State) (i kind : Nat) (m : MusterMsg) : (s.hold i kind m).commands = s.commands := by
  simp [State.hold]

@[simp] theorem State.slotFrame_commands (s : State) (i kind : Nat) (m : MusterMsg) : (s.slotFrame i kind m).commands = s.commands := by
  unfold State.slotFrame
  repeat' split
  all_goals simp

@[simp] theorem State.musterMsg_commands (s : State) (kind : Nat) (m : MusterMsg) : (s.musterMsg kind m).commands = s.commands := by
  unfold State.musterMsg
  split <;> simp

@[simp] theorem State.slotNotice_commands (s : State) (i : Nat) (n : MusterNotice) : (s.slotNotice i n).commands = s.commands := by
  simp [State.slotNotice]

@[simp] theorem State.musterNotice_commands (s : State) (n : MusterNotice) : (s.musterNotice n).commands = s.commands := by
  simp [State.musterNotice]

@[simp] theorem State.mstFrame_commands (s : State) (f : Frame) : (s.mstFrame f).commands = s.commands := by simp [State.mstFrame]

@[simp] theorem State.mstRun_commands (n : Nat) (s : State) : (State.mstRun n s).commands = s.commands := by
  induction n generalizing s with
  | zero => rfl
  | succ n ih =>
    unfold State.mstRun
    split
    · rfl
    · rw [ih, State.mstFrame_commands, State.mk_commands]

@[simp] theorem State.settleMst_commands (s : State) : s.settleMst.commands = s.commands := by simp [State.settleMst]

@[simp] theorem State.abortMusters_commands (s : State) : s.abortMusters.commands = s.commands := by simp [State.abortMusters]

/-! ### LinkOps -/

@[simp] theorem State.setPst_commands (s : State) (p : Nat) (st : PortState) : (s.setPst p st).commands = s.commands := by
  unfold State.setPst
  split <;> simp

@[simp] theorem State.portEvent_commands (s : State) (p b : Nat) : (s.portEvent p b).commands = s.commands := by simp [State.portEvent]

@[simp] theorem State.leaveDims_commands (s : State) (p : Nat) : (s.leaveDims p).commands = s.commands := by simp [State.leaveDims]

@[simp] theorem State.sendLink_commands (s : State) (p type : Nat) :
    (s.sendLink p type).commands = s.commands := by simp [State.sendLink]

@[simp] theorem State.depart_commands (s : State) (p : Nat) (next : PortState) (reason : Nat) (line : Bool) :
    (s.depart p next reason line).commands = s.commands := by
  simp [State.depart]

@[simp] theorem State.arriveUp_commands (s : State) (p : Nat) : (s.arriveUp p).commands = s.commands := by simp [State.arriveUp]

@[simp] theorem State.takeOver_commands (s : State) (p : Nat) : (s.takeOver p).commands = s.commands := by simp [State.takeOver]

@[simp] theorem State.leaveOff_commands (s : State) (p : Nat) : (s.leaveOff p).commands = s.commands := by simp [State.leaveOff]

@[simp] theorem State.leaveOffAll_commands (s : State) : s.leaveOffAll.commands = s.commands := by simp [State.leaveOffAll]

@[simp] theorem State.goOff_commands (s : State) (p : Nat) : (s.goOff p).commands = s.commands := by simp [State.goOff]

@[simp] theorem State.adminOff_commands (s : State) (p : Nat) (toSeek : Bool) : (s.adminOff p toSeek).commands = s.commands := by
  simp [State.adminOff]

@[simp] theorem State.startTraining_commands (s : State) (p : Nat) (full : Bool) : (s.startTraining p full).commands = s.commands := by
  simp [State.startTraining]

@[simp] theorem State.retrainFrom_commands (s : State) (p reason : Nat) (full : Bool) :
    (s.retrainFrom p reason full).commands = s.commands := by
  simp [State.retrainFrom]

@[simp] theorem State.showErrors_commands (s : State) (p : Nat) (errors : List Nat) (bits : Nat) :
    (s.showErrors p errors bits).commands = s.commands := by
  simp [State.showErrors]

@[simp] theorem State.exchangeDone_commands (s : State) (p : Nat) : (s.exchangeDone p).commands = s.commands := by
  unfold State.exchangeDone
  dsimp only
  repeat' split
  all_goals simp

@[simp] theorem State.tryDone_commands (s : State) (p : Nat) : (s.tryDone p).commands = s.commands := by simp [State.tryDone]

@[simp] theorem State.helloFails_commands (s : State) (p : Nat) (st : Status) : (s.helloFails p st).commands = s.commands := by
  simp [State.helloFails]

@[simp] theorem State.helloPasses_commands (s : State) (p : Nat) (m : List Byte) : (s.helloPasses p m).commands = s.commands := by
  simp [State.helloPasses]

@[simp] theorem State.newExchange_commands (s : State) (p : Nat) (re : Bool) : (s.newExchange p re).commands = s.commands := by
  simp [State.newExchange]

/-! ### Links -/

@[simp] theorem State.checkPasses_commands (s : State) (p rx tx : Nat) : (s.checkPasses p rx tx).commands = s.commands := by
  simp [State.checkPasses]

@[simp] theorem State.checkFails_commands (s : State) (p : Nat) : (s.checkFails p).commands = s.commands := by simp [State.checkFails]

@[simp] theorem State.applyWidth_commands (s : State) (p : Nat) : (s.applyWidth p).commands = s.commands := by
  unfold State.applyWidth
  dsimp only
  repeat' split
  all_goals simp

@[simp] theorem State.fptCtl_commands (s : State) (rq : Requester) (p v : Nat) : (s.fptCtl rq p v).commands = s.commands := by
  simp [State.fptCtl]

@[simp] theorem State.fptCtlWrite_commands (s : State) (rq : Requester) (p v : Nat) : (s.fptCtlWrite rq p v).commands = s.commands := by
  simp [State.fptCtlWrite]

@[simp] theorem State.fptMap_commands (s : State) (rq : Requester) (p v : Nat) : (s.fptMap rq p v).commands = s.commands := by
  simp [State.fptMap]

@[simp] theorem State.fptMapWrite_commands (s : State) (rq : Requester) (p v : Nat) : (s.fptMapWrite rq p v).commands = s.commands := by
  simp [State.fptMapWrite]

@[simp] theorem State.fptCoordWrite_commands (s : State) (rq : Requester) (v : Nat) : (s.fptCoordWrite rq v).commands = s.commands := by
  simp [State.fptCoordWrite]

@[simp] theorem State.fptTwistWrite_commands (s : State) (rq : Requester) (d v : Nat) :
    (s.fptTwistWrite rq d v).commands = s.commands := by
  simp [State.fptTwistWrite]

/-! ### Counters -/

@[simp] theorem State.prfLost_commands (s : State) (r : Reg) : (s.prfLost r).commands = s.commands := by simp [State.prfLost]

@[simp] theorem State.tally_commands (s : State) (periodic : Bool) : (s.tally periodic).commands = s.commands := by simp [State.tally]

@[simp] theorem State.tallyCtlWrite_commands (s : State) (rq : Requester) (v : Nat) : (s.tallyCtlWrite rq v).commands = s.commands := by
  simp [State.tallyCtlWrite]

@[simp] theorem State.bwctlWrite_commands (s : State) (rq : Requester) (v : Nat) : (s.bwctlWrite rq v).commands = s.commands := by
  simp [State.bwctlWrite]

@[simp] theorem State.outCtlWrite_commands (s : State) (rq : Requester) (v : Nat) : (s.outCtlWrite rq v).commands = s.commands := by
  simp [State.outCtlWrite]

@[simp] theorem State.prfBaseWrite_commands (s : State) (rq : Requester) (lo hi : Reg) (on : Bool) (slot order v : Nat) :
    (s.prfBaseWrite rq lo hi on slot order v).commands = s.commands := by
  unfold State.prfBaseWrite
  dsimp only
  repeat' split
  all_goals simp

@[simp] theorem State.prfWrite_commands (s : State) (rq : Requester) (r : Reg) (i v : Nat) :
    (s.prfWrite rq r i v).commands = s.commands := by
  unfold State.prfWrite
  split <;> simp

/-! ### IcOps -/

@[simp] theorem State.notePww_commands (s : State) : s.notePww.commands = s.commands := by simp [State.notePww]

@[simp] theorem State.breakWait_commands (s : State) (c : Nat) : (s.breakWait c).commands = s.commands := by
  unfold State.breakWait
  split <;> simp

@[simp] theorem State.coreSettle_commands (s : State) (c : Nat) : (s.coreSettle c).commands = s.commands := by
  unfold State.coreSettle
  dsimp only
  repeat' split
  all_goals simp

@[simp] theorem State.icCore_commands (s : State) (c : Nat) : (s.icCore c).commands = s.commands := by simp [State.icCore]

@[simp] theorem State.icSettle_commands (s : State) : s.icSettle.commands = s.commands := by simp [State.icSettle]

@[simp] theorem State.coreTimer_commands (s : State) (c : Nat) : (s.coreTimer c).commands = s.commands := by simp [State.coreTimer]

/-! ### BudgetOps -/

@[simp] theorem State.acceptSeq_commands (s : State) (gb : Bool) (m : List Byte) : (s.acceptSeq gb m).commands = s.commands := by
  simp [State.acceptSeq]

@[simp] theorem State.acceptBudget_commands (s : State) (gb : Bool) (m : List Byte) : (s.acceptBudget gb m).commands = s.commands := by
  simp [State.acceptBudget]

@[simp] theorem State.acceptGrid_commands (s : State) (gb : Bool) (m : List Byte) : (s.acceptGrid gb m).commands = s.commands := by
  simp [State.acceptGrid]

@[simp] theorem State.coolantExpired_commands (s : State) : s.coolantExpired.commands = s.commands := by simp [State.coolantExpired]

@[simp] theorem State.acceptCoolant_commands (s : State) (m : List Byte) : (s.acceptCoolant m).commands = s.commands := by
  simp [State.acceptCoolant]

@[simp] theorem State.ack_commands (s : State) (gb : Bool) (peer : Nat) (m : List Byte) (st : Status) (effT es : Nat) :
    (s.ack gb peer m st effT es).commands = s.commands := by
  simp [State.ack]

@[simp] theorem State.govMessage_commands (s : State) (gb : Bool) (peer : Nat) (m : List Byte) :
    (s.govMessage gb peer m).commands = s.commands := by
  unfold State.govMessage
  dsimp only
  repeat' split
  all_goals simp

@[simp] theorem State.message_commands (s : State) (peer : Nat) (m : List Byte) : (s.message peer m).commands = s.commands := by
  simp [State.message]

@[simp] theorem State.report_commands (s : State) : s.report.commands = s.commands := by
  unfold State.report
  split <;> simp

@[simp] theorem State.newGovWindow_commands (s : State) (gb : Bool) : (s.newGovWindow gb).commands = s.commands := by
  simp [State.newGovWindow]

/-! ### Metering -/

@[simp] theorem State.captureSnap_commands (s : State) (rq : Requester) (i : Nat) (pww : Bool) :
    (s.captureSnap rq i pww).commands = s.commands := by
  simp [State.captureSnap]

@[simp] theorem State.snapSeqRead_commands (s : State) (rq : Requester) (i : Nat) (pww : Bool) :
    (s.snapSeqRead rq i pww).commands = s.commands := by
  simp [State.snapSeqRead]

@[simp] theorem State.powerRead_commands (s : State) (rq : Requester) (i : Nat) : (s.powerRead rq i).commands = s.commands := by
  simp [State.powerRead]

@[simp] theorem State.saveElife_commands (s : State) : s.saveElife.commands = s.commands := by simp [State.saveElife]

@[simp] theorem State.cvnPower_commands (s : State) : s.cvnPower.commands = s.commands := by simp [State.cvnPower]

@[simp] theorem State.accCtlWrite_commands (s : State) (rq : Requester) (v : Nat) : (s.accCtlWrite rq v).commands = s.commands := by
  unfold State.accCtlWrite
  dsimp only
  split
  · split
    · split <;> simp
    · simp
    · simp
  · simp

/-! ### PowerOps -/

@[simp] theorem State.faultPin_commands (s : State) : s.faultPin.commands = s.commands := by simp [State.faultPin]

@[simp] theorem State.pulse_commands (s : State) : s.pulse.commands = s.commands := by simp [State.pulse]

@[simp] theorem State.portDark_commands (s : State) (p : Nat) : (s.portDark p).commands = s.commands := by simp [State.portDark]

@[simp] theorem State.ethDark_commands (s : State) (k : Nat) : (s.ethDark k).commands = s.commands := by simp [State.ethDark]

@[simp] theorem State.railsOff_commands (s : State) : s.railsOff.commands = s.commands := by simp [State.railsOff]

@[simp] theorem State.vauxOff_commands (s : State) : s.vauxOff.commands = s.commands := by simp [State.vauxOff]

@[simp] theorem State.logCause_commands (s : State) (event cause : Nat) (st : Status) :
    (s.logCause event cause st).commands = s.commands := by
  simp [State.logCause]

@[simp] theorem State.orderedShutdown_commands (s : State) (cause : Nat) : (s.orderedShutdown cause).commands = s.commands := by
  simp [State.orderedShutdown]

@[simp] theorem State.thermalTrip_commands (s : State) (sensor : Nat) : (s.thermalTrip sensor).commands = s.commands := by
  unfold State.thermalTrip
  dsimp only
  split
  · rfl
  · split
    · rw [State.vauxOff_commands, State.railsOff_commands, State.mk_commands, State.sf_commands]
    · rw [State.logCause_commands, State.saveElife_commands, State.railsOff_commands, State.endAcc_commands, State.mk_commands,
        State.sf_commands]

@[simp] theorem State.cold_commands (s : State) : s.cold.commands = s.commands := by simp [State.cold]

@[simp] theorem State.beginStart_commands (s : State) (retried : Bool) : (s.beginStart retried).commands = s.commands := by
  simp [State.beginStart]

/-! ### RstOps -/

@[simp] theorem State.rstEvent_commands (s : State) (b : Nat) : (s.rstEvent b).commands = s.commands := by simp [State.rstEvent]

@[simp] theorem State.setDom_commands (s : State) (l i st : Nat) : (s.setDom l i st).commands = s.commands := by simp [State.setDom]

@[simp] theorem State.setDomStatus_commands (s : State) (l i : Nat) (st : Status) : (s.setDomStatus l i st).commands = s.commands := by
  simp [State.setDomStatus]

@[simp] theorem State.setDomCause_commands (s : State) (l i kind : Nat) : (s.setDomCause l i kind).commands = s.commands := by
  simp [State.setDomCause]

@[simp] theorem State.setStuck_commands (s : State) (l i : Nat) : (s.setStuck l i).commands = s.commands := by simp [State.setStuck]

@[simp] theorem State.putHrec_commands (s : State) (b : List Byte) : (s.putHrec b).commands = s.commands := by simp [State.putHrec]

@[simp] theorem State.writeHang_commands (s : State) (b : List Byte) : (s.writeHang b).1.commands = s.commands := by
  unfold State.writeHang
  dsimp only
  repeat' split
  all_goals simp

@[simp] theorem State.reviseHang_commands (s : State) (old new : List Byte) (place : Option Nat) :
    (s.reviseHang old new place).commands = s.commands := by
  unfold State.reviseHang
  repeat' split
  all_goals simp

@[simp] theorem State.noteHang_commands (s : State) (kind l action i : Nat) (addr : optParam (Option Nat) none) :
    (s.noteHang kind l action i addr).commands = s.commands := by
  simp [State.noteHang]

@[simp] theorem State.stopCore_commands (s : State) (c : Nat) : (s.stopCore c).commands = s.commands := by simp [State.stopCore]

@[simp] theorem State.closeFence_commands (s : State) (l i : Nat) :
    (s.closeFence l i).commands = s.commands := by simp [State.closeFence]

@[simp] theorem State.setCode_commands (s : State) (t code : Nat) : (s.setCode t code).commands = s.commands := by simp [State.setCode]

@[simp] theorem State.countTiles_commands (s : State) : s.countTiles.commands = s.commands := by simp [State.countTiles]

@[simp] theorem State.markRuntime_commands (s : State) (t : Nat) :
    (s.markRuntime t).commands = s.commands := by simp [State.markRuntime]

@[simp] theorem State.holdDomain_commands (s : State) (l i : Nat) :
    (s.holdDomain l i).commands = s.commands := by simp [State.holdDomain]

@[simp] theorem State.preparePackage_commands (s : State) (kind : Nat) : (s.preparePackage kind).commands = s.commands := by
  simp [State.preparePackage]

@[simp] theorem State.packageReset_commands (s : State) (kind : Nat) : (s.packageReset kind).commands = s.commands := by
  simp [State.packageReset]

@[simp] theorem State.powerCycle_commands (s : State) : s.powerCycle.commands = s.commands := by simp [State.powerCycle]

@[simp] theorem State.countEscalation_commands (s : State) (l : Nat) : (s.countEscalation l).commands = s.commands := by
  simp [State.countEscalation]

@[simp] theorem State.escalateHeld_commands (s : State) (l i : Nat) : (s.escalateHeld l i).commands = s.commands := by
  simp [State.escalateHeld]

@[simp] theorem State.escalatePackage_commands (s : State) : s.escalatePackage.commands = s.commands := by simp [State.escalatePackage]

@[simp] theorem State.mergeInner_commands (s : State) (l i : Nat) : (s.mergeInner l i).commands = s.commands := by
  unfold State.mergeInner
  dsimp only
  repeat' split
  all_goals simp

@[simp] theorem State.startReset_commands (s : State) (l i kind : Nat) (record : List Byte) (place : Option Nat) :
    (s.startReset l i kind record place).commands = s.commands := by
  simp [State.startReset]

@[simp] theorem State.beginReset_commands (s : State) (l i kind : Nat) (addr : Option Nat) :
    (s.beginReset l i kind addr).commands = s.commands := by
  simp [State.beginReset]

@[simp] theorem State.requestWith_commands (s : State) (up : State → State) (l i kind : Nat) (addr : Option Nat)
    (hup : ∀ t, (up t).commands = t.commands) :
    (s.requestWith up l i kind addr).commands = s.commands := by
  unfold State.requestWith
  split
  · simp
  · split
    · simp
    · split
      · rw [hup]
        split <;> simp
      · simp

@[simp] theorem State.resetPart_commands (s : State) (i kind : Nat) (addr : Option Nat) :
    (s.resetPart i kind addr).commands = s.commands := by
  simp [State.resetPart]

@[simp] theorem State.escalateCluster_commands (s : State) (i : Nat) : (s.escalateCluster i).commands = s.commands := by
  simp [State.escalateCluster]

@[simp] theorem State.requestReset_commands (s : State) (l i kind : Nat) (addr : optParam (Option Nat) none) :
    (s.requestReset l i kind addr).commands = s.commands := by
  unfold State.requestReset
  split <;> simp

@[simp] theorem State.startQueued_commands (s : State) : s.startQueued.commands = s.commands := by simp [State.startQueued]

@[simp] theorem State.salvageTile_commands (s : State) (t state : Nat) : (s.salvageTile t state).1.commands = s.commands := by
  unfold State.salvageTile
  dsimp only
  repeat' split
  all_goals simp

@[simp] theorem State.salvage_commands (s : State) (states : SMap Nat) : (s.salvage states).1.commands = s.commands := by
  change CommandsKept s (s.salvage states)
  unfold State.salvage
  refine foldl_keeps (CommandsKept s) _ (fun p e h => ?_) _ (s, none) rfl
  exact (State.salvageTile_commands p.1 e.1 e.2).trans h

@[simp] theorem State.clearStore_commands (s : State) (t : Nat) : (s.clearStore t).commands = s.commands := by simp [State.clearStore]

@[simp] theorem State.clearTileRegs_commands (s : State) (t : Nat) : (s.clearTileRegs t).commands = s.commands := by
  simp [State.clearTileRegs]

@[simp] theorem State.resetTile_commands (s : State) (t : Nat) : (s.resetTile t).commands = s.commands := by simp [State.resetTile]

@[simp] theorem State.resetCore_commands (s : State) (c : Nat) : (s.resetCore c).commands = s.commands := by simp [State.resetCore]

/-! ### Caravans -/

@[simp] theorem State.admitOne_commands (s : State) (i : Nat) (timeout : Bool) : (s.admitOne i timeout).commands = s.commands := by
  unfold State.admitOne
  dsimp only
  repeat' split
  all_goals simp

@[simp] theorem State.admitMany_commands (s : State) (i n : Nat) : (s.admitMany i n).commands = s.commands := by
  induction n generalizing s with
  | zero => rfl
  | succ n ih =>
    unfold State.admitMany
    split
    · rfl
    · rw [ih, State.admitOne_commands]

@[simp] theorem State.release0_commands (s : State) (i : Nat) (c : Cadence) (now : Nat) :
    (s.release0 i c now).commands = s.commands := by
  simp [State.release0]

@[simp] theorem State.firstRelease_commands (s : State) (i : Nat) (c : Cadence) (now : Nat) :
    (s.firstRelease i c now).commands = s.commands := by
  simp [State.firstRelease]

@[simp] theorem State.resetFanout_commands (s : State) (t : Nat) :
    (s.resetFanout t).commands = s.commands := by simp [State.resetFanout]

@[simp] theorem State.takeTile_commands (s : State) (i : Nat) (xs : List Station) (k : Nat) (x : Station) :
    (s.takeTile i xs k x).commands = s.commands := by
  simp [State.takeTile]

@[simp] theorem State.fillSlot_commands (s : State) (i : Nat) (h : Header) (xs : List Station) :
    (s.fillSlot i h xs).commands = s.commands := by
  simp [State.fillSlot]

@[simp] theorem State.startStations_commands (s : State) (i : Nat) : (s.startStations i).commands = s.commands := by
  simp [State.startStations]

@[simp] theorem State.enterRunning_commands (s : State) (i : Nat) : (s.enterRunning i).commands = s.commands := by
  unfold State.enterRunning
  dsimp only
  repeat' split
  all_goals simp

@[simp] theorem State.abortSlot_commands (s : State) (i : Nat) : (s.abortSlot i).commands = s.commands := by simp [State.abortSlot]

@[simp] theorem State.releaseTiles_commands (s : State) (i : Nat) :
    (s.releaseTiles i).commands = s.commands := by simp [State.releaseTiles]

@[simp] theorem State.loadPrograms_commands (s : State) (l : List (Station × Nat)) : (s.loadPrograms l).1.commands = s.commands := by
  induction l generalizing s with
  | nil => rfl
  | cons p l ih =>
    unfold State.loadPrograms
    dsimp only
    split
    · rfl
    · split
      · rw [ih, State.setTile_commands]
      · split
        · exact State.readMem_commands ..
        · rw [ih, State.setTile_commands, State.storeBytes_commands, State.readMem_commands]

@[simp] theorem State.ringRdWrite_commands (s : State) (rq : Requester) (i v : Nat) : (s.ringRdWrite rq i v).commands = s.commands := by
  simp [State.ringRdWrite]

@[simp] theorem State.threshWrite_commands (s : State) (rq : Requester) (i v : Nat) : (s.threshWrite rq i v).commands = s.commands := by
  simp [State.threshWrite]

@[simp] theorem State.foWrite_commands (s : State) (rq : Requester) (r : Reg) (i t v : Nat) :
    (s.foWrite rq r i t v).commands = s.commands := by
  unfold State.foWrite
  split <;> simp

/-! ### CheckUnits -/

@[simp] theorem State.setCvuRun_commands (s : State) (u v : Nat) : (s.setCvuRun u v).commands = s.commands := by simp [State.setCvuRun]

@[simp] theorem State.cvuFeed_commands (s : State) (u : Nat) (bs : List Byte) : (s.cvuFeed u bs).commands = s.commands := by
  simp [State.cvuFeed]

@[simp] theorem State.cvuGuard_commands (s : State) (rq : Requester) (u : Nat) (event : Bool) (go : State → State)
    (hgo : ∀ t, (go t).commands = t.commands) :
    (s.cvuGuard rq u event go).commands = s.commands := by
  unfold State.cvuGuard
  split
  · exact hgo s
  · simp

@[simp] theorem State.cvuInit_commands (s : State) (u : Nat) : (s.cvuInit u).commands = s.commands := by
  unfold State.cvuInit
  split <;> simp

@[simp] theorem State.cvuDone_commands (s : State) (u : Nat) (st : Status) (n : Nat) : (s.cvuDone u st n).commands = s.commands := by
  simp [State.cvuDone]

@[simp] theorem State.cvuScan_commands (s : State) (rq : Requester) (u : Nat) (init : Bool) :
    (s.cvuScan rq u init).commands = s.commands := by
  unfold State.cvuScan
  split <;> simp

@[simp] theorem State.cvuCmd_commands (s : State) (rq : Requester) (u v : Nat) : (s.cvuCmd rq u v).commands = s.commands := by
  simp [State.cvuCmd]

@[simp] theorem State.scanLines_commands (u src len : Nat) (quiet : Option Nat) (n k : Nat) (s : State) (fed : Nat) :
    (State.scanLines u src len quiet n k s fed).1.commands = s.commands := by
  induction n generalizing k s fed with
  | zero => rfl
  | succ n ih =>
    unfold State.scanLines
    dsimp only
    split
    · rfl
    · split
      · rfl
      · split
        · exact State.readMem_commands ..
        · rw [ih, State.cvuFeed_commands, State.readMem_commands]

@[simp] theorem State.endScan_commands (s : State) (u : Nat) (quiet : Option Nat) : (s.endScan u quiet).commands = s.commands := by
  simp [State.endScan]

@[simp] theorem State.cvuFeedWrite_commands (s : State) (rq : Requester) (r : Reg) (u n v : Nat) :
    (s.cvuFeedWrite rq r u n v).commands = s.commands := by
  simp [State.cvuFeedWrite]

@[simp] theorem State.cvuRunWrite_commands (s : State) (rq : Requester) (u v : Nat) : (s.cvuRunWrite rq u v).commands = s.commands := by
  simp [State.cvuRunWrite]

@[simp] theorem State.cvuWrite_commands (s : State) (rq : Requester) (r : Reg) (u v : Nat) :
    (s.cvuWrite rq r u v).commands = s.commands := by
  unfold State.cvuWrite
  split <;> simp

/-! ### Ethernet -/

@[simp] theorem State.ethPctlWrite_commands (s : State) (rq : Requester) (k v : Nat) :
    (s.ethPctlWrite rq k v).commands = s.commands := by
  simp [State.ethPctlWrite]

@[simp] theorem State.inSequence_commands (s : State) (q n : Nat) (p : RdmaPkt) (act : State → State × RdmaOp × Bool)
    (hact : (act s).1.commands = s.commands) :
    (s.inSequence q n p act).commands = s.commands := by
  unfold State.inSequence
  dsimp only
  split
  · split <;> simp [hact]
  · split <;> simp

@[simp] theorem State.rdmaRx_commands (s : State) (q : Nat) (p : RdmaPkt) : (s.rdmaRx q p).commands = s.commands := by
  unfold State.rdmaRx
  dsimp only
  split
  · refine State.inSequence_commands _ _ _ _ _ ?_
    split
    · rfl
    · split <;> simp
  · refine State.inSequence_commands _ _ _ _ _ ?_
    split
    · split
      · simp
      · split <;> simp
    · rfl
  · split
    · split
      · split <;> simp
      · simp
    · simp
  · simp
  · split <;> simp
  · split <;> simp
  · simp
  · split
    · simp
    · split <;> simp
  · rfl

@[simp] theorem State.pfcLevel_commands (s : State) (k prio held : Nat) : (s.pfcLevel k prio held).commands = s.commands := by
  simp [State.pfcLevel]

@[simp] theorem State.pausePrios_commands (s : State) (k mask quanta : Nat) : (s.pausePrios k mask quanta).commands = s.commands := by
  simp [State.pausePrios]

@[simp] theorem State.ethBody_commands (s : State) (k : Nat) (b : EthBody) : (s.ethBody k b).commands = s.commands := by
  unfold State.ethBody
  split <;> simp

@[simp] theorem State.pushWork_commands (s : State) (q : Nat) (w : WorkOut) : (s.pushWork q w).commands = s.commands := by
  simp [State.pushWork]

@[simp] theorem State.rawEntry_commands (s : State) (q k idx a len laddr : Nat) :
    (s.rawEntry q k idx a len laddr).commands = s.commands := by
  unfold State.rawEntry
  dsimp only
  repeat' split
  all_goals simp

@[simp] theorem State.rdmaEntry_commands (s : State) (q idx : Nat) (e : List Byte) : (s.rdmaEntry q idx e).commands = s.commands := by
  unfold State.rdmaEntry
  dsimp only
  repeat' split
  all_goals simp

@[simp] theorem State.qpEnable_commands (s : State) (q : Nat) : (s.qpEnable q).1.commands = s.commands := by
  unfold State.qpEnable
  dsimp only
  repeat' split
  all_goals simp

@[simp] theorem State.qpDisable_commands (s : State) (q : Nat) : (s.qpDisable q).commands = s.commands := by simp [State.qpDisable]

@[simp] theorem State.qpMigrate_commands (s : State) (q : Nat) : (s.qpMigrate q).1.commands = s.commands := by
  unfold State.qpMigrate
  dsimp only
  repeat' split
  all_goals simp

@[simp] theorem State.qpCmd_commands (s : State) (rq : Requester) (v : Nat) : (s.qpCmd rq v).commands = s.commands := by
  unfold State.qpCmd
  dsimp only
  repeat' split
  all_goals simp

/-! ### Pair -/

@[simp] theorem State.extendMeas_commands (s : State) (k : Nat) (digest : List Byte) :
    (s.extendMeas k digest).commands = s.commands := by
  simp [State.extendMeas]

@[simp] theorem State.resetGov_commands (s : State) (gb : Bool) : (s.resetGov gb).commands = s.commands := by
  unfold State.resetGov
  split <;> simp

@[simp] theorem State.failGov_commands (s : State) (a : Activation) : (s.failGov a).commands = s.commands := by simp [State.failGov]

@[simp] theorem State.afterSwitch_commands (s : State) (cause : Nat) : (s.afterSwitch cause).commands = s.commands := by
  unfold State.afterSwitch
  split <;> simp

@[simp] theorem State.switchOver_commands (s : State) (gb : Bool) (cause : Nat) : (s.switchOver gb cause).commands = s.commands := by
  simp [State.switchOver]

@[simp] theorem State.adopt_commands (s : State) (gb : Bool) (f : List Byte) :
    (s.adopt gb f).commands = s.commands := by simp [State.adopt]

@[simp] theorem State.compareFrames_commands (s : State) (gb : Bool) (f : List Byte) :
    (s.compareFrames gb f).commands = s.commands := by
  simp [State.compareFrames]

@[simp] theorem State.ostStatus_commands (s : State) (st : Status) : (s.ostStatus st).commands = s.commands := by simp [State.ostStatus]

@[simp] theorem State.swapCommand_commands (s : State) : s.swapCommand.commands = s.commands := by simp [State.swapCommand]

@[simp] theorem State.resetCommand_commands (s : State) (gb : Bool) : (s.resetCommand gb).commands = s.commands := by
  simp [State.resetCommand]

@[simp] theorem State.ostCmdWrite_commands (s : State) (v : Nat) : (s.ostCmdWrite v).commands = s.commands := by
  unfold State.ostCmdWrite
  split <;> simp

/-! ### FclOps -/

@[simp] theorem State.enterSafe_commands (s : State) (line cls : Nat) (st : Status) (self : Bool) :
    (s.enterSafe line cls st self).commands = s.commands := by
  have calm (a : State) (gb : Bool) : (if a.mode gb = 1 then a.setMode gb 0 else a).commands = a.commands := by split <;> simp
  unfold State.enterSafe
  dsimp only
  rw [State.announceAll_commands, State.log_commands, calm, calm, State.abortMusters_commands, State.endAcc_commands,
    commands_foldl _ _ _ fun a i => by split <;> simp, State.faultPin_commands, State.sf_commands, State.pulse_commands,
    State.setPair_commands,
    State.wr_commands]

@[simp] theorem State.leaveSafe_commands (s : State) : s.leaveSafe.commands = s.commands := by simp [State.leaveSafe]

@[simp] theorem State.latchEvent_commands (s : State) (line index : Nat) (st : Status) (cls : Nat) :
    (s.latchEvent line index st cls).commands = s.commands := by
  simp [State.latchEvent]

@[simp] theorem State.classify_commands (s : State) (line : Nat) : (s.classify line).1.commands = s.commands := by
  unfold State.classify
  dsimp only
  repeat' split
  all_goals simp

@[simp] theorem State.recover_commands (s : State) (line index : Nat) : (s.recover line index).commands = s.commands := by
  unfold State.recover
  split <;> simp

@[simp] theorem State.react_commands (s : State) (line index cls : Nat) (st : Status) (level : Nat) :
    (s.react line index cls st level).commands = s.commands := by
  simp [State.react]

@[simp] theorem State.safeExit_commands (s : State) (rq : Requester) : (s.safeExit rq).commands = s.commands := by
  unfold State.safeExit
  dsimp only
  repeat' split
  all_goals simp

@[simp] theorem State.fclTake_commands (s : State) (e : LineEvent) : (s.fclTake e).commands = s.commands := by simp [State.fclTake]

@[simp] theorem State.ownFault_commands (s : State) : s.ownFault.commands = s.commands := by simp [State.ownFault]

/-! ### Recovery -/

@[simp] theorem State.startCore_commands (s : State) (c pc : Nat) :
    (s.startCore c pc).commands = s.commands := by simp [State.startCore]

@[simp] theorem State.holdCmd_commands (s : State) (l i : Nat) : (s.holdCmd l i).commands = s.commands := by simp [State.holdCmd]

@[simp] theorem State.rstRun_commands (s : State) (l action i : Nat) : (s.rstRun l action i).commands = s.commands := by
  unfold State.rstRun
  split <;> simp

@[simp] theorem State.rstCmd_commands (s : State) (rq : Requester) (v : Nat) : (s.rstCmd rq v).commands = s.commands := by
  unfold State.rstCmd
  dsimp only
  repeat' split
  all_goals simp

@[simp] theorem State.patchRecord_commands (s : State) (l i o : Nat) (x : List Byte) :
    (s.patchRecord l i o x).commands = s.commands := by
  unfold State.patchRecord
  split <;> simp

@[simp] theorem State.endTest_commands (s : State) (l i : Nat) (passed : Bool) (failed : List Nat) :
    (s.endTest l i passed failed).commands = s.commands := by
  unfold State.endTest
  repeat' split
  all_goals simp

@[simp] theorem State.detect_commands (s : State) (kind l i : Nat) (addr : Option Nat) :
    (s.detect kind l i addr).commands = s.commands := by
  simp [State.detect]

@[simp] theorem State.stewardSafe_commands (s : State) : s.stewardSafe.commands = s.commands := by simp [State.stewardSafe]

@[simp] theorem State.endTimedOut_commands (s : State) (addr : Nat) (req : TimedOut) :
    (s.endTimedOut addr req).commands = s.commands := by
  unfold State.endTimedOut
  repeat' split
  all_goals simp

/-! ### Faults -/

@[simp] theorem State.faultnWrite_commands (s : State) (rq : Requester) (isSealed : Bool) (v : Nat) :
    (s.faultnWrite rq isSealed v).commands = s.commands := by
  simp [State.faultnWrite]

/-! ### Interrupts -/

@[simp] theorem State.cacheError_commands (s : State) (c : Nat) (e : Ecc) : (s.cacheError c e).commands = s.commands := by
  unfold State.cacheError
  split <;> simp

@[simp] theorem State.icClaim_commands (s : State) (rq : Requester) (c : Nat) : (s.icClaim rq c).commands = s.commands := by
  unfold State.icClaim
  dsimp only
  repeat' split
  all_goals simp

@[simp] theorem State.icClaimWrite_commands (s : State) (rq : Requester) (c v : Nat) :
    (s.icClaimWrite rq c v).commands = s.commands := by
  simp [State.icClaimWrite]

@[simp] theorem State.icSvcWrite_commands (s : State) (rq : Requester) (c v : Nat) : (s.icSvcWrite rq c v).commands = s.commands := by
  simp [State.icSvcWrite]

@[simp] theorem State.vector_commands (s : State) (c n : Nat) : (s.vector c n).1.commands = s.commands := by
  unfold State.vector
  dsimp only
  repeat' split
  all_goals simp

/-! ### Vector -/

@[simp] theorem State.vectorWrite_commands (s : State) (t : Nat) (o : VOp) (srcPois : Bool) (f : Nat → Rounded) :
    (s.vectorWrite t o srcPois f).commands = s.commands := by
  simp [State.vectorWrite]

@[simp] theorem State.checkRanges_commands (s : State) (t : Nat) (rs : List (Nat × Nat)) :
    (s.checkRanges t rs).1.commands = s.commands := by
  change CommandsKept s (s.checkRanges t rs)
  unfold State.checkRanges
  exact foldl_keeps (CommandsKept s) _ (fun p l h => h.check (State.checkLine_commands p.1 (spadAddr t (l * 64) / 64) 4)) _ (s, false) rfl

@[simp] theorem State.loadLanes_commands (s : State) (t : Nat) (o : VOp) (f : Nat → Nat) :
    (s.loadLanes t o f).commands = s.commands := by
  simp [State.loadLanes]

@[simp] theorem State.storeLine_commands (s : State) (t a : Nat) (vals : List (Option Nat)) (marked : Bool) :
    (s.storeLine t a vals marked).commands = s.commands := by
  unfold State.storeLine
  split
  · simp
  · refine commands_foldl _ _ _ fun a p => ?_
    split <;> simp

/-! ### MatrixOps -/

@[simp] theorem State.checkAll_commands (s : State) (t : Nat) (rs : List (Nat × Nat)) : (s.checkAll t rs).1.commands = s.commands := by
  change CommandsKept s (s.checkAll t rs)
  unfold State.checkAll
  exact foldl_keeps (CommandsKept s) _ (fun p r h => h.check (State.checkLines_commands p.1 ..)) _ (s, false) rfl

@[simp] theorem State.runMac_commands (s : State) (t : Nat) (acc : Bool) (a b k fmt : Nat) (clr : Bool) (kind m : Nat) :
    (s.runMac t acc a b k fmt clr kind m).commands = s.commands := by
  simp [State.runMac]

@[simp] theorem State.runDrain_commands (s : State) (t : Nat) (acc : Bool) (dst fmt : Nat) (stoch clr : Bool) (g : Nat) :
    (s.runDrain t acc dst fmt stoch clr g).commands = s.commands := by
  simp [State.runDrain]

@[simp] theorem State.runLoad_commands (s : State) (t : Nat) (acc : Bool) (src : Nat) (fp : Bool) :
    (s.runLoad t acc src fp).commands = s.commands := by
  simp [State.runLoad]

@[simp] theorem State.runMx_commands (s : State) (t : Nat) (x2 : MxOp) : (s.runMx t x2).commands = s.commands := by
  unfold State.runMx
  split <;> simp

/-! ### Matrix -/

@[simp] theorem State.queueMx_commands (s : State) (t : Nat) (op : MxOp) :
    (s.queueMx t op).commands = s.commands := by simp [State.queueMx]

/-! ### Movement -/

@[simp] theorem State.copyMove_commands (s : State) (t : Nat) (m : Movement) : (s.copyMove t m).1.commands = s.commands := by
  unfold State.copyMove
  split <;> simp

/-! ### Musters -/

@[simp] theorem State.mgStart_commands (s : State) (i : Nat) : (s.mgStart i).commands = s.commands := by simp [State.mgStart]

@[simp] theorem State.mgStop_commands (s : State) (i : Nat) : (s.mgStop i).commands = s.commands := by simp [State.mgStop]

@[simp] theorem State.mgCtlWrite_commands (s : State) (rq : Requester) (i v : Nat) : (s.mgCtlWrite rq i v).commands = s.commands := by
  unfold State.mgCtlWrite
  dsimp only
  repeat' split
  all_goals simp

@[simp] theorem State.lineWrite_commands (s : State) (i off : Nat) (bs : Option (List Byte)) :
    (s.lineWrite i off bs).commands = s.commands := by
  unfold State.lineWrite
  split <;> simp

/-! ### Power -/

@[simp] theorem State.supplyShutdown_commands (s : State) (gb : Bool) (cause : Nat) :
    (s.supplyShutdown gb cause).commands = s.commands := by
  simp [State.supplyShutdown]

@[simp] theorem State.energyGap_commands (s : State) (mb : Bool) : (s.energyGap mb).commands = s.commands := by simp [State.energyGap]

/-! ### Routing -/

@[simp] theorem State.sqCtlWrite_commands (s : State) (rq : Requester) (q v : Nat) : (s.sqCtlWrite rq q v).commands = s.commands := by
  simp [State.sqCtlWrite]

@[simp] theorem State.sqSliceWrite_commands (s : State) (rq : Requester) (q v : Nat) :
    (s.sqSliceWrite rq q v).commands = s.commands := by
  simp [State.sqSliceWrite]

@[simp] theorem State.rqCtlWrite_commands (s : State) (rq : Requester) (q v : Nat) : (s.rqCtlWrite rq q v).commands = s.commands := by
  simp [State.rqCtlWrite]

@[simp] theorem State.police_commands (s : State) (f : Frame) : (s.police f).1.commands = s.commands := by
  unfold State.police
  repeat' split
  all_goals simp

@[simp] theorem State.sendDesc_commands (s : State) (q : Nat) (d : List Byte) (rnd : Nat) (escape : Bool) :
    (s.sendDesc q d rnd escape).commands = s.commands := by
  simp [State.sendDesc]

/-! ### WaybillPort -/

@[simp] theorem State.takeSlot_commands (s : State) (t seq k : Nat) : (s.takeSlot t seq k).1.commands = s.commands := by
  unfold State.takeSlot
  dsimp only
  repeat' split
  all_goals simp

@[simp] theorem State.sendLeft_commands (s : State) (t : Nat) : (s.sendLeft t).commands = s.commands := by
  unfold State.sendLeft
  dsimp only
  repeat' split
  all_goals simp

/-! ### TimeBase -/

@[simp] theorem State.todHiWrite_commands (s : State) (rq : Requester) (v : Nat) : (s.todHiWrite rq v).commands = s.commands := by
  simp [State.todHiWrite]

@[simp] theorem State.correctTo_commands (s : State) (ref : Nat) : (s.correctTo ref).commands = s.commands := by simp [State.correctTo]

@[simp] theorem State.firstTod_commands (s : State) (tod : Nat) : (s.firstTod tod).commands = s.commands := by simp [State.firstTod]

@[simp] theorem State.portOff_commands (s : State) (p : Nat) : (s.portOff p).commands = s.commands := by simp [State.portOff]

@[simp] theorem State.portsOff_commands (s : State) : s.portsOff.commands = s.commands := by simp [State.portsOff]

@[simp] theorem State.ethOff_commands (s : State) : s.ethOff.commands = s.commands := by simp [State.ethOff]

@[simp] theorem State.ethNegotiate_commands (s : State) : s.ethNegotiate.commands = s.commands := by simp [State.ethNegotiate]

/-! ### RegisterAccess -/

@[simp] theorem State.tmbStatusRead_commands (s : State) (rq : Requester) : (s.tmbStatusRead rq).commands = s.commands := by
  simp [State.tmbStatusRead]

@[simp] theorem State.pwwStateRead_commands (s : State) (rq : Requester) : (s.pwwStateRead rq).commands = s.commands := by
  simp [State.pwwStateRead]

@[simp] theorem State.chainRead_commands (s : State) (rq : Requester) (r : Reg) (i : Nat) (chained : Bool) :
    (s.chainRead rq r i chained).commands = s.commands := by
  simp [State.chainRead]

@[simp] theorem State.readOf_commands (s : State) (rq : Requester) (r : Reg) (i : Nat) : (s.readOf rq r i).commands = s.commands := by
  unfold State.readOf
  split <;> simp

@[simp] theorem State.readAt_commands (s : State) (rq : Requester) (addr size : Nat) :
    (s.readAt rq addr size).commands = s.commands := by
  unfold State.readAt
  dsimp only
  repeat' split
  all_goals simp

@[simp] theorem State.highUnlessBusy_commands (s : State) (rq : Requester) (legal : Nat → Bool) (busy : Bool) (lo hi : Reg) (i v : Nat) :
    (s.highUnlessBusy rq legal busy lo hi i v).commands = s.commands := by
  unfold State.highUnlessBusy
  dsimp only
  repeat' split
  all_goals simp

@[simp] theorem State.clsWrite_commands (s : State) (rq : Requester) (i v : Nat) : (s.clsWrite rq i v).commands = s.commands := by
  simp [State.clsWrite]

@[simp] theorem State.swiWrite_commands (s : State) (c v : Nat) (on : Bool) : (s.swiWrite c v on).commands = s.commands := by
  simp [State.swiWrite]

@[simp] theorem State.icWrite_commands (s : State) (rq : Requester) (r : Reg) (i v : Nat) :
    (s.icWrite rq r i v).commands = s.commands := by
  unfold State.icWrite
  split <;> simp

@[simp] theorem State.routeWrite_commands (s : State) (rq : Requester) (r : Reg) (i v : Nat) :
    (s.routeWrite rq r i v).commands = s.commands := by
  unfold State.routeWrite
  split <;> simp

@[simp] theorem State.fptWrite_commands (s : State) (rq : Requester) (r : Reg) (i v : Nat) :
    (s.fptWrite rq r i v).commands = s.commands := by
  unfold State.fptWrite
  split <;> simp

@[simp] theorem State.ethRefresh_commands (s : State) : s.ethRefresh.commands = s.commands := by simp [State.ethRefresh]

@[simp] theorem State.ethWrite_commands (s : State) (rq : Requester) (r : Reg) (i v : Nat) :
    (s.ethWrite rq r i v).commands = s.commands := by
  unfold State.ethWrite
  split <;> simp

@[simp] theorem State.rstFclWrite_commands (s : State) (rq : Requester) (r : Reg) (i v : Nat) :
    (s.rstFclWrite rq r i v).commands = s.commands := by
  unfold State.rstFclWrite
  split <;> simp

@[simp] theorem State.cvnWrite_commands (s : State) (rq : Requester) (r : Reg) (i v : Nat) :
    (s.cvnWrite rq r i v).commands = s.commands := by
  unfold State.cvnWrite
  split <;> simp

@[simp] theorem State.settleChannel_commands (s : State) : s.settleChannel.commands = s.commands := by simp [State.settleChannel]

@[simp] theorem State.plainWrite_commands (s : State) (rq : Requester) (r : Reg) (i v : Nat) :
    (s.plainWrite rq r i v).commands = s.commands := by
  unfold State.plainWrite
  split <;> simp

@[simp] theorem State.writeOf_commands (s : State) (rq : Requester) (r : Reg) (i v : Nat) :
    (s.writeOf rq r i v).commands = s.commands := by
  unfold State.writeOf
  split <;> simp

@[simp] theorem State.writeAt_commands (s : State) (rq : Requester) (addr size v : Nat) :
    (s.writeAt rq addr size v).commands = s.commands := by
  unfold State.writeAt
  dsimp only
  repeat' split
  all_goals simp

/-! ### TrustOps -/

@[simp] theorem State.tell_commands (s : State) (peer type : Nat) (m body : List Byte) (key : Option (List Byte)) :
    (s.tell peer type m body key).commands = s.commands := by
  simp [State.tell]

@[simp] theorem State.answerTo_commands (s : State) (peer : Nat) (m : List Byte) (st : Status) (data : List Byte)
    (key : Option (List Byte)) :
    (s.answerTo peer m st data key).commands = s.commands := by
  simp [State.answerTo]

@[simp] theorem State.putSession_commands (s : State) (x : Session) :
    (s.putSession x).commands = s.commands := by simp [State.putSession]

@[simp] theorem State.closeSession_commands (s : State) (x : Session) : (s.closeSession x).commands = s.commands := by
  simp [State.closeSession]

@[simp] theorem State.closePeer_commands (s : State) (peer : Nat) : (s.closePeer peer).commands = s.commands := by
  unfold State.closePeer
  split <;> simp

@[simp] theorem State.keepSeq_commands (s : State) (peer seq : Nat) :
    (s.keepSeq peer seq).commands = s.commands := by simp [State.keepSeq]

@[simp] theorem State.serve_commands (s : State) (peer : Nat) (m : List Byte) (type len : Nat) (rules : Session → List (Bool × Status))
    (act : State → Session → State × Status × List Byte) (hact : ∀ t x, (act t x).1.commands = t.commands) :
    (s.serve peer m type len rules act).commands = s.commands := by
  unfold State.serve
  split
  · rfl
  · split
    · simp
    · split
      · simp
      · dsimp only
        split
        · split <;> simp [hact]
        · simp

@[simp] theorem State.openReply_commands (s : State) (peer : Nat) (m : List Byte) : (s.openReply peer m).commands = s.commands := by
  simp [State.openReply]

@[simp] theorem State.openMessage_commands (s : State) (peer : Nat) (m : List Byte) : (s.openMessage peer m).commands = s.commands := by
  unfold State.openMessage
  repeat' split
  all_goals simp

@[simp] theorem State.dropShake_commands (s : State) (peer : Nat) :
    (s.dropShake peer).commands = s.commands := by simp [State.dropShake]

@[simp] theorem State.newBudget_commands (s : State) : s.newBudget.commands = s.commands := by
  unfold State.newBudget
  split <;> simp

@[simp] theorem State.openSession_commands (s : State) (h : Handshake) : (s.openSession h).commands = s.commands := by
  simp [State.openSession]

@[simp] theorem State.confirmMessage_commands (s : State) (peer : Nat) (m : List Byte) :
    (s.confirmMessage peer m).commands = s.commands := by
  unfold State.confirmMessage
  dsimp only
  repeat' split
  all_goals simp

@[simp] theorem State.attestOutside_commands (s : State) (peer : Nat) (m : List Byte) :
    (s.attestOutside peer m).commands = s.commands := by
  unfold State.attestOutside
  split <;> simp

@[simp] theorem State.storeSetting_commands (s : State) (x : Session) (addr v : Nat) :
    (s.storeSetting x addr v).commands = s.commands := by
  unfold State.storeSetting
  split <;> simp

@[simp] theorem State.liveWrite_commands (s : State) (x : Session) (addr v : Nat) : (s.liveWrite x addr v).1.commands = s.commands := by
  unfold State.liveWrite
  split <;> simp

@[simp] theorem State.showStaged_commands (s : State) (k : Nat) (on : Bool) : (s.showStaged k on).commands = s.commands := by
  simp [State.showStaged]

@[simp] theorem State.raiseSvn_commands (s : State) (k : Nat) (m : List Byte) : (s.raiseSvn k m).commands = s.commands := by
  simp [State.raiseSvn]

@[simp] theorem State.beginImage_commands (s : State) (x : Session) (m : List Byte) : (s.beginImage x m).commands = s.commands := by
  simp [State.beginImage]

@[simp] theorem State.takeChunk_commands (s : State) (off : Nat) (data : List Byte) : (s.takeChunk off data).commands = s.commands := by
  unfold State.takeChunk
  split <;> simp

@[simp] theorem State.finishImage_commands (s : State) (x : Session) : (s.finishImage x).1.commands = s.commands := by
  unfold State.finishImage
  split
  · rfl
  · split
    · simp [done]
    · simp

@[simp] theorem State.abortImages_commands (s : State) (x : Session) :
    (s.abortImages x).commands = s.commands := by simp [State.abortImages]

@[simp] theorem State.copyAndScan_commands (s : State) (a : Nat) (payload : List Byte) :
    (s.copyAndScan a payload).1.commands = s.commands := by
  simp [State.copyAndScan]

@[simp] theorem State.setActivation_commands (s : State) (a : Activation) : (s.setActivation a).commands = s.commands := by
  simp [State.setActivation]

@[simp] theorem State.writeRunning_commands (s : State) (k : Nat) : (s.writeRunning k).commands = s.commands := by
  unfold State.writeRunning
  split <;> simp

@[simp] theorem State.scanStaged_commands (s : State) (k : Nat) : (s.scanStaged k).1.commands = s.commands := by
  unfold State.scanStaged
  repeat' split
  all_goals simp

@[simp] theorem State.finishActivation_commands (s : State) (a : Activation) : (s.finishActivation a).commands = s.commands := by
  simp [State.finishActivation]

@[simp] theorem State.beginGov_commands (s : State) (a : Activation) : (s.beginGov a).commands = s.commands := by simp [State.beginGov]

@[simp] theorem State.activateFrom_commands (s : State) (a : Activation) (ks : List Nat) :
    (s.activateFrom a ks).commands = s.commands := by
  induction ks generalizing s a with
  | nil => exact State.finishActivation_commands ..
  | cons k ks ih =>
    unfold State.activateFrom
    dsimp only
    split
    · rw [State.mk_commands, State.setActivation_commands]
    · split
      · exact State.beginGov_commands ..
      · split
        · rw [ih, State.writeRunning_commands, State.scanStaged_commands]
        · rw [State.endActivation_commands, State.scanStaged_commands]

@[simp] theorem State.startActivation_commands (s : State) (x : Session) (w : Nat) (restart : Bool) :
    (s.startActivation x w restart).commands = s.commands := by
  unfold State.startActivation
  dsimp only
  repeat' split
  all_goals simp

/-! ### Startup -/

@[simp] theorem State.stepDone_commands (s : State) (k : Nat) : (s.stepDone k).commands = s.commands := by simp [State.stepDone]

@[simp] theorem State.startEscalates_commands (s : State) : s.startEscalates.commands = s.commands := by simp [State.startEscalates]

@[simp] theorem State.startFail_commands (s : State) (st : Status) : (s.startFail st).commands = s.commands := by simp [State.startFail]

@[simp] theorem State.startVaux_commands (s : State) : s.startVaux.commands = s.commands := by simp [State.startVaux]

@[simp] theorem State.resumeCopies_commands (s : State) : s.resumeCopies.commands = s.commands := by
  unfold State.resumeCopies
  split <;> simp

@[simp] theorem State.repairSlot_commands (s : State) (k : Nat) : (s.repairSlot k).commands = s.commands := by
  unfold State.repairSlot
  dsimp only
  repeat' split
  all_goals simp

@[simp] theorem State.loadImage_commands (s : State) (k : Nat) : (s.loadImage k).commands = s.commands := by
  unfold State.loadImage
  split <;> simp

@[simp] theorem State.startImages_commands (s : State) : s.startImages.commands = s.commands := by
  unfold State.startImages
  dsimp only
  repeat' split
  all_goals simp

@[simp] theorem State.loadCalibration_commands (s : State) : s.loadCalibration.commands = s.commands := by
  unfold State.loadCalibration
  split <;> simp

@[simp] theorem State.govTested_commands (s : State) (gb pass : Bool) : (s.govTested gb pass).commands = s.commands := by
  simp [State.govTested]

@[simp] theorem State.startSupply_commands (s : State) (t : StartTests) : (s.startSupply t).commands = s.commands := by
  simp [State.startSupply]

@[simp] theorem State.startRails_commands (s : State) : s.startRails.commands = s.commands := by simp [State.startRails]

@[simp] theorem State.startLinks_commands (s : State) (t : StartTests) :
    (s.startLinks t).commands = s.commands := by simp [State.startLinks]

@[simp] theorem State.startMemory_commands (s : State) (t : StartTests) : (s.startMemory t).commands = s.commands := by
  simp [State.startMemory]

@[simp] theorem State.startClear_commands (s : State) : s.startClear.commands = s.commands := by simp [State.startClear]

@[simp] theorem State.firstWave_commands (s : State) : s.firstWave.commands = s.commands := by simp [State.firstWave]

@[simp] theorem State.nextWave_commands (s : State) : s.nextWave.commands = s.commands := by simp [State.nextWave]

@[simp] theorem State.mergePlan_commands (s : State) (t : StartTests) :
    (s.mergePlan t).commands = s.commands := by simp [State.mergePlan]

@[simp] theorem State.startTiles_commands (s : State) (t : StartTests) :
    (s.startTiles t).commands = s.commands := by simp [State.startTiles]

@[simp] theorem State.heldCore_commands (s : State) (c : Nat) (bad : Bool) : (s.heldCore c bad).commands = s.commands := by
  simp [State.heldCore]

@[simp] theorem State.startCores_commands (s : State) (t : StartTests) : (s.startCores t).commands = s.commands := by
  unfold State.startCores
  split <;> simp

@[simp] theorem State.checkFormat_commands (s : State) : s.checkFormat.commands = s.commands := by simp [State.checkFormat]

@[simp] theorem State.applySetting_commands (s : State) (k : Nat) (v : BitVec 32) : (s.applySetting k v).commands = s.commands := by
  unfold State.applySetting
  split <;> simp

@[simp] theorem State.sealLine_commands (s : State) (n : Nat) : (s.sealLine n).commands = s.commands := by simp [State.sealLine]

@[simp] theorem State.sealCurve_commands (s : State) (gb : Bool) : (s.sealCurve gb).commands = s.commands := by simp [State.sealCurve]

@[simp] theorem State.sealRegions_commands (s : State) : s.sealRegions.commands = s.commands := by simp [State.sealRegions]

@[simp] theorem State.growFieldMap_commands (s : State) : s.growFieldMap.commands = s.commands := by simp [State.growFieldMap]

@[simp] theorem State.firstClaim_commands (s : State) (gb : Bool) :
    (s.firstClaim gb).commands = s.commands := by simp [State.firstClaim]

@[simp] theorem State.firstClaims_commands (s : State) : s.firstClaims.commands = s.commands := by simp [State.firstClaims]

@[simp] theorem State.sealAll_commands (s : State) : s.sealAll.commands = s.commands := by simp [State.sealAll]

@[simp] theorem State.raiseCounters_commands (s : State) : s.raiseCounters.commands = s.commands := by
  unfold State.raiseCounters
  refine commands_foldl _ _ _ fun t a => ?_
  repeat' split
  all_goals simp

@[simp] theorem State.declareReady_commands (s : State) : s.declareReady.commands = s.commands := by
  unfold State.declareReady
  dsimp only
  rw [State.raiseCounters_commands]
  split
  · rw [State.startCore_commands, State.mk_commands, State.send_commands, State.announceAll_commands, State.setPair_commands,
      State.sf_commands,
      State.sf_commands]
  · rw [State.mk_commands, State.send_commands, State.announceAll_commands, State.setPair_commands, State.sf_commands, State.sf_commands]

@[simp] theorem State.startReady_commands (s : State) : s.startReady.commands = s.commands := by simp [State.startReady]

@[simp] theorem State.startStep_commands (s : State) (t : StartTests) : (s.startStep t).commands = s.commands := by
  unfold State.startStep
  split <;> simp

/-! ### Thermal -/

@[simp] theorem State.setSensor_commands (s : State) (j : Nat) (x : Sensor) : (s.setSensor j x).commands = s.commands := by
  simp [State.setSensor]

@[simp] theorem State.thmEvent_commands (s : State) (b : Nat) : (s.thmEvent b).commands = s.commands := by simp [State.thmEvent]

@[simp] theorem State.failSensor_commands (s : State) (j : Nat) : (s.failSensor j).commands = s.commands := by simp [State.failSensor]

@[simp] theorem State.convert_commands (s : State) (j : Nat) (code : Int) (other : Option Int) :
    (s.convert j code other).commands = s.commands := by
  simp [State.convert]

@[simp] theorem State.compareTrip_commands (s : State) (j : Nat) (code : Int) (limit : Nat) :
    (s.compareTrip j code limit).commands = s.commands := by
  simp [State.compareTrip]

@[simp] theorem State.pairDiffer_commands (s : State) (p : Nat) : (s.pairDiffer p).commands = s.commands := by simp [State.pairDiffer]

@[simp] theorem State.convertPair_commands (s : State) (p : Nat) (c0 c1 : Int) : (s.convertPair p c0 c1).commands = s.commands := by
  simp [State.convertPair]

@[simp] theorem State.convertStack_commands (s : State) (k : Nat) (dies : List Int) :
    (s.convertStack k dies).commands = s.commands := by
  unfold State.convertStack
  dsimp only
  repeat' split
  all_goals simp

/-! ### Trust -/

@[simp] theorem State.finishGov_commands (s : State) (a : Activation) : (s.finishGov a).commands = s.commands := by
  unfold State.finishGov
  split <;> simp

end Sys2Proof.Machine
end

section
/-! SUPPORT. Every command completes and leaves the queue alone (O55): one lemma for each meaning, and the case split over the commands. -/

namespace Sys2Proof.Machine

/-! ### What instructions go through -/

/-- A command completes and leaves the queue alone. -/
def LeavesQueue (s : State) (o : Host.Outcome State Fault Refusal) : Prop := ∃ t, o = .next t ∧ t.commands = s.commands

theorem leavesQueue_iff (s : State) (o : Host.Outcome State Fault Refusal) :
    LeavesQueue s o ↔ Gives o (fun t => t.pending = s.pending) :=
  Iff.rfl

@[simp] theorem leavesQueue_next (s t : State) : LeavesQueue s (.next t) ↔ t.commands = s.commands :=
  ⟨fun ⟨_, hu, h⟩ => Host.Outcome.next.inj hu ▸ h, fun h => ⟨t, rfl, h⟩⟩

@[simp] theorem leavesQueue_ite (s : State) {c : Prop} [Decidable c] (a b : Host.Outcome State Fault Refusal) :
    LeavesQueue s (if c then a else b) ↔ if c then LeavesQueue s a else LeavesQueue s b := by
  split <;> rfl

/-- An instruction leaves the queue alone when its effect does (R161). -/
@[simp] theorem State.issue_leavesQueue (s : State) (t cls opc : Nat) (o : VOp) (legal : Bool) (causes : List (Bool × Cause × Nat))
    (stall : Bool) (body : State → State) (hb : ∀ u, (body u).commands = u.commands) :
    LeavesQueue s (s.issue t cls opc o legal causes stall body) := by
  unfold State.issue
  dsimp only
  split
  · simp
  · split
    · simp
    · split <;> simp [hb]

@[simp] theorem State.issueSeq_leavesQueue (s : State) (t cls opc : Nat) (o : VOp) (legal : Bool) (causes : List (Bool × Cause × Nat))
    (stall : Bool) (body : State → State) (hb : ∀ u, (body u).commands = u.commands) :
    LeavesQueue s (s.issueSeq t cls opc o legal causes stall body) :=
  State.issue_leavesQueue _ _ _ _ _ _ _ _ _ hb

@[simp] theorem State.scalar_leavesQueue (s : State) (t : Fin 768) (opc : Nat) (o : VOp) (f : Nat → Nat → Nat) :
    LeavesQueue s (s.scalar t opc o f) := by
  simp [State.scalar]

@[simp] theorem State.scalarImm_leavesQueue (s : State) (t : Fin 768) (opc : Nat) (o : VOp) (legal : Bool) (f : Nat → Nat) :
    LeavesQueue s (s.scalarImm t opc o legal f) := by
  simp [State.scalarImm]

@[simp] theorem State.vector3_leavesQueue (s : State) (t : Fin 768) (opc : Nat) (o : VOp) (legal draws useC useD : Bool) :
    LeavesQueue s (s.vector3 t opc o legal draws useC useD) := by
  simp [State.vector3]

@[simp] theorem State.issueMove_leavesQueue (s : State) (t : Fin 768) (opc : Nat) (put : Bool) (o : VOp) :
    LeavesQueue s (s.issueMove t opc put o) := by
  simp [State.issueMove]

/-- A caravan instruction leaves the queue alone when its effect does. -/
@[simp] theorem State.cvn1_leavesQueue (s : State) (o : CvnOp) (funct7 : Nat) (two : Bool) (f : State → Nat → State × Status × Nat)
    (hf : ∀ u h, (f u h).1.commands = u.commands) : LeavesQueue s (s.cvn1 o funct7 two f) := by
  unfold State.cvn1
  dsimp only
  split <;> simp [hf]

@[simp] theorem State.routeOf_commands (s : State) (t sel len : Nat) : (s.routeOf t sel len).st.commands = s.commands := by
  unfold State.routeOf
  dsimp only
  repeat' split
  all_goals simp

@[simp] theorem done_commands (s : State) : (done s).1.commands = s.commands := rfl

@[simp] theorem refuse_commands (s : State) (e : Status) : (refuse s e).1.commands = s.commands := rfl

theorem State.coreOperand_trap {s t : State} {va n cause : Nat} {x : Xlate} (h : s.coreOperand va n x = .trap t cause) :
    t.commands = s.commands := by
  unfold State.coreOperand at h
  dsimp only at h
  repeat' split at h
  all_goals simp_all
  all_goals obtain ⟨rfl, -⟩ := h
  all_goals simp

theorem State.coreOperand_bytes {s t : State} {va n : Nat} {x : Xlate} {b : List Byte} (h : s.coreOperand va n x = .bytes t b) :
    t.commands = s.commands := by
  unfold State.coreOperand at h
  dsimp only at h
  repeat' split at h
  all_goals simp_all
  obtain ⟨rfl, -⟩ := h
  simp

/-! ### CoreMemory -/

@[simp] theorem execCoreWindowAccess_leavesQueue (rq : Requester) (addr size : Nat) (write : Option (BitVec 64)) (flip : Option Ecc)
    (s : State) :
    LeavesQueue s (execCoreWindowAccess rq addr size write flip s) := by
  unfold execCoreWindowAccess
  dsimp only
  repeat' split
  all_goals simp

@[simp] theorem execCoreMemoryAccess_leavesQueue (c : Fin 32) (k : MemAccess) (addr size : Nat) (hit : Bool) (flip : Option Ecc)
    (s : State) :
    LeavesQueue s (execCoreMemoryAccess c k addr size hit flip s) := by
  unfold execCoreMemoryAccess
  repeat' split
  all_goals simp

@[simp] theorem execPatrolScrubLine_leavesQueue (line : Fin 8589934592) (flip : Option Ecc) (s : State) :
    LeavesQueue s (execPatrolScrubLine line flip s) := by
  simp [execPatrolScrubLine]

@[simp] theorem execChannelFail_leavesQueue (q : Fin 768) (s : State) : LeavesQueue s (execChannelFail q s) := by
  simp [execChannelFail]

@[simp] theorem execStackBandUpdate_leavesQueue (k : Fin 8) (s : State) : LeavesQueue s (execStackBandUpdate k s) := by
  simp [execStackBandUpdate]

@[simp] theorem execStackSelfrefWake_leavesQueue (k : Fin 8) (s : State) : LeavesQueue s (execStackSelfrefWake k s) := by
  simp [execStackSelfrefWake]

/-! ### Links -/

@[simp] theorem execLightDetect_leavesQueue (port : Fin 20) (lanes : BitVec 8) (s : State) :
    LeavesQueue s (execLightDetect port lanes s) := by
  simp [execLightDetect]

@[simp] theorem execTrainDone_leavesQueue (port : Fin 20) (s : State) : LeavesQueue s (execTrainDone port s) := by
  simp [execTrainDone]

@[simp] theorem execLinkCheckDone_leavesQueue (port : Fin 20) (errors : List Nat) (peerPass : BitVec 8) (s : State) :
    LeavesQueue s (execLinkCheckDone port errors peerPass s) := by
  simp [execLinkCheckDone]

@[simp] theorem execCertRx_leavesQueue (port : Fin 20) (msg : List Byte) (s : State) : LeavesQueue s (execCertRx port msg s) := by
  simp [execCertRx]

@[simp] theorem execHelloTx_leavesQueue (port : Fin 20) (s : State) : LeavesQueue s (execHelloTx port s) := by simp [execHelloTx]

@[simp] theorem execHelloRx_leavesQueue (port : Fin 20) (msg : List Byte) (s : State) : LeavesQueue s (execHelloRx port msg s) := by
  unfold execHelloRx
  dsimp only
  repeat' split
  all_goals simp

@[simp] theorem execHelloTimeout_leavesQueue (port : Fin 20) (s : State) : LeavesQueue s (execHelloTimeout port s) := by
  simp [execHelloTimeout]

@[simp] theorem execRehelloStart_leavesQueue (port : Fin 20) (s : State) : LeavesQueue s (execRehelloStart port s) := by
  simp [execRehelloStart]

@[simp] theorem execRehelloTimeout_leavesQueue (port : Fin 20) (s : State) : LeavesQueue s (execRehelloTimeout port s) := by
  simp [execRehelloTimeout]

@[simp] theorem execLightLoss_leavesQueue (port : Fin 20) (lanes : BitVec 8) (s : State) :
    LeavesQueue s (execLightLoss port lanes s) := by
  simp [execLightLoss]

@[simp] theorem execGoodbyeRx_leavesQueue (port : Fin 20) (s : State) : LeavesQueue s (execGoodbyeRx port s) := by
  simp [execGoodbyeRx]

@[simp] theorem execUncorrectableCodeword_leavesQueue (port : Fin 20) (s : State) :
    LeavesQueue s (execUncorrectableCodeword port s) := by
  simp [execUncorrectableCodeword]

@[simp] theorem execResendRequest_leavesQueue (port : Fin 20) (seq : BitVec 32) (s : State) :
    LeavesQueue s (execResendRequest port seq s) := by
  simp [execResendRequest]

@[simp] theorem execLinkAck_leavesQueue (port : Fin 20) (seq : BitVec 32) (s : State) : LeavesQueue s (execLinkAck port seq s) := by
  simp [execLinkAck]

@[simp] theorem execFptAdminDown_leavesQueue (rq : Requester) (port : Fin 20) (s : State) :
    LeavesQueue s (execFptAdminDown rq port s) := by
  simp [execFptAdminDown]

@[simp] theorem execAdminDrainEnd_leavesQueue (port : Fin 20) (s : State) : LeavesQueue s (execAdminDrainEnd port s) := by
  simp [execAdminDrainEnd]

@[simp] theorem execFptAdminUp_leavesQueue (rq : Requester) (port : Fin 20) (s : State) :
    LeavesQueue s (execFptAdminUp rq port s) := by
  simp [execFptAdminUp]

@[simp] theorem execFptRetrain_leavesQueue (rq : Requester) (port : Fin 20) (s : State) :
    LeavesQueue s (execFptRetrain rq port s) := by
  simp [execFptRetrain]

@[simp] theorem execFptMapWrite_leavesQueue (rq : Requester) (port : Fin 20) (value : BitVec 32) (s : State) :
    LeavesQueue s (execFptMapWrite rq port value s) := by
  simp [execFptMapWrite]

@[simp] theorem execFptCoordWrite_leavesQueue (rq : Requester) (value : BitVec 32) (s : State) :
    LeavesQueue s (execFptCoordWrite rq value s) := by
  simp [execFptCoordWrite]

@[simp] theorem execFptMachineWrite_leavesQueue (rq : Requester) (value : BitVec 32) (s : State) :
    LeavesQueue s (execFptMachineWrite rq value s) := by
  simp [execFptMachineWrite]

@[simp] theorem execFptTwistWrite_leavesQueue (rq : Requester) (dim : Fin 18) (value : BitVec 32) (s : State) :
    LeavesQueue s (execFptTwistWrite rq dim value s) := by
  simp [execFptTwistWrite]

@[simp] theorem execLaneAudit_leavesQueue (port : Fin 20) (errors : List Nat) (bits uncorr : Nat) (peerPass : BitVec 8) (s : State) :
    LeavesQueue s (execLaneAudit port errors bits uncorr peerPass s) := by
  simp [execLaneAudit]

@[simp] theorem execWidthRx_leavesQueue (port : Fin 20) (mask : BitVec 8) (s : State) :
    LeavesQueue s (execWidthRx port mask s) := by
  simp [execWidthRx]

@[simp] theorem execTakeoverRx_leavesQueue (port : Fin 20) (s : State) : LeavesQueue s (execTakeoverRx port s) := by
  simp [execTakeoverRx]

@[simp] theorem execTakeoverAckRx_leavesQueue (port : Fin 20) (s : State) : LeavesQueue s (execTakeoverAckRx port s) := by
  simp [execTakeoverAckRx]

@[simp] theorem execTakeoverTimeout_leavesQueue (port : Fin 20) (s : State) : LeavesQueue s (execTakeoverTimeout port s) := by
  simp [execTakeoverTimeout]

/-! ### Counters -/

@[simp] theorem execTallyPeriodic_leavesQueue (s : State) : LeavesQueue s (execTallyPeriodic s) := by simp [execTallyPeriodic]

@[simp] theorem execTallyNow_leavesQueue (rq : Requester) (value : BitVec 32) (s : State) :
    LeavesQueue s (execTallyNow rq value s) := by
  simp [execTallyNow]

@[simp] theorem execBwWindowEnd_leavesQueue (s : State) : LeavesQueue s (execBwWindowEnd s) := by simp [execBwWindowEnd]

@[simp] theorem execOutriderComplete_leavesQueue (tile : Fin 768) (fetch engine run : BitVec 32) (poison conflict : Bool)
    (s : State) :
    LeavesQueue s (execOutriderComplete tile fetch engine run poison conflict s) := by
  unfold execOutriderComplete
  dsimp only
  repeat' split
  all_goals simp

@[simp] theorem execPrfOutEnable_leavesQueue (rq : Requester) (value : BitVec 32) (s : State) :
    LeavesQueue s (execPrfOutEnable rq value s) := by
  simp [execPrfOutEnable]

/-! ### Metering -/

@[simp] theorem execMeterSample_leavesQueue (mb : Bool) (icode vcode temp : BitVec 24) (s : State) :
    LeavesQueue s (execMeterSample mb icode vcode temp s) := by
  simp [execMeterSample]

@[simp] theorem execMeterReading_leavesQueue (mb : Bool) (s : State) : LeavesQueue s (execMeterReading mb s) := by
  simp [execMeterReading]

@[simp] theorem execMeterSelfcheck_leavesQueue (mb : Bool) (refCode offsetNa : Nat) (s : State) :
    LeavesQueue s (execMeterSelfcheck mb refCode offsetNa s) := by
  simp [execMeterSelfcheck]

@[simp] theorem execMeterWarmupEnd_leavesQueue (mb : Bool) (s : State) : LeavesQueue s (execMeterWarmupEnd mb s) := by
  simp [execMeterWarmupEnd]

@[simp] theorem execMeterSnapshot_leavesQueue (mb : Bool) (s : State) : LeavesQueue s (execMeterSnapshot mb s) := by
  simp [execMeterSnapshot]

@[simp] theorem execMtrSnapSeqRead_leavesQueue (rq : Requester) (ch : Option Bool) (s : State) :
    LeavesQueue s (execMtrSnapSeqRead rq ch s) := by
  unfold execMtrSnapSeqRead
  split <;> simp

@[simp] theorem execMtrPRead_leavesQueue (rq : Requester) (mb : Bool) (s : State) : LeavesQueue s (execMtrPRead rq mb s) := by
  simp [execMtrPRead]

@[simp] theorem execElifeSave_leavesQueue (s : State) : LeavesQueue s (execElifeSave s) := by simp [execElifeSave]

@[simp] theorem execCrossCheckWindow_leavesQueue (s : State) : LeavesQueue s (execCrossCheckWindow s) := by
  simp [execCrossCheckWindow]

@[simp] theorem execAccRunStart_leavesQueue (rq : Requester) (value : BitVec 32) (s : State) :
    LeavesQueue s (execAccRunStart rq value s) := by
  simp [execAccRunStart]

@[simp] theorem execAccRunBegin_leavesQueue (s : State) : LeavesQueue s (execAccRunBegin s) := by
  unfold execAccRunBegin
  split <;> simp

@[simp] theorem execAccRunEnd_leavesQueue (s : State) : LeavesQueue s (execAccRunEnd s) := by
  unfold execAccRunEnd
  split <;> simp

/-! ### Caravans -/

@[simp] theorem execCvnOpen_leavesQueue (o : CvnOp) (x : Xlate) (s : State) : LeavesQueue s (execCvnOpen o x s) := by
  unfold execCvnOpen
  dsimp only
  split
  · simp
  · simp
  · split
    · simp
    · next s1 cause h => simp [State.coreOperand_trap h]
    · next s1 b h =>
      have hs := State.coreOperand_bytes h
      split
      · simp [hs]
      · split
        · split <;> simp [hs]
        · split <;> simp [hs]

@[simp] theorem execCvnStart_leavesQueue (o : CvnOp) (s : State) : LeavesQueue s (execCvnStart o s) := by
  unfold execCvnStart
  refine State.cvn1_leavesQueue _ _ _ _ _ fun u h => ?_
  dsimp only
  split
  · split <;> simp
  · simp

@[simp] theorem execCvnPush_leavesQueue (o : CvnOp) (x : Xlate) (s : State) : LeavesQueue s (execCvnPush o x s) := by
  unfold execCvnPush
  dsimp only
  split
  · simp
  · simp
  · split
    · simp
    · next s1 cause h => simp [State.coreOperand_trap h]
    · next s1 b h =>
      have hs := State.coreOperand_bytes h
      split
      · split <;> simp [hs]
      · simp [hs]

@[simp] theorem execCvnPause_leavesQueue (o : CvnOp) (s : State) : LeavesQueue s (execCvnPause o s) := by
  unfold execCvnPause
  refine State.cvn1_leavesQueue _ _ _ _ _ fun u h => ?_
  dsimp only
  split <;> simp

@[simp] theorem execCvnAbort_leavesQueue (o : CvnOp) (s : State) : LeavesQueue s (execCvnAbort o s) := by
  unfold execCvnAbort
  refine State.cvn1_leavesQueue _ _ _ _ _ fun u h => ?_
  dsimp only
  split <;> simp

@[simp] theorem execCvnClose_leavesQueue (o : CvnOp) (s : State) : LeavesQueue s (execCvnClose o s) := by
  unfold execCvnClose
  refine State.cvn1_leavesQueue _ _ _ _ _ fun u h => ?_
  dsimp only
  split <;> simp

@[simp] theorem execCvnStat_leavesQueue (o : CvnOp) (s : State) : LeavesQueue s (execCvnStat o s) := by
  unfold execCvnStat
  refine State.cvn1_leavesQueue _ _ _ _ _ fun u h => ?_
  dsimp only
  split <;> simp

@[simp] theorem execCvnWait_leavesQueue (o : CvnOp) (s : State) : LeavesQueue s (execCvnWait o s) := by
  unfold execCvnWait
  dsimp only
  repeat' split
  all_goals simp

@[simp] theorem execCvnWaitTimeout_leavesQueue (core : Fin 32) (s : State) : LeavesQueue s (execCvnWaitTimeout core s) := by
  unfold execCvnWaitTimeout
  split <;> simp

@[simp] theorem execCvnToll_leavesQueue (o : CvnOp) (s : State) : LeavesQueue s (execCvnToll o s) := by
  unfold execCvnToll
  refine State.cvn1_leavesQueue _ _ _ _ _ fun u h => ?_
  dsimp only
  split <;> simp

@[simp] theorem execCvnCad_leavesQueue (o : CvnOp) (s : State) : LeavesQueue s (execCvnCad o s) := by
  unfold execCvnCad
  refine State.cvn1_leavesQueue _ _ _ _ _ fun u h => ?_
  dsimp only
  split
  · split
    · simp
    · split <;> simp
  · simp

@[simp] theorem execStationLoadDone_leavesQueue (slot : Fin 64) (s : State) : LeavesQueue s (execStationLoadDone slot s) := by
  unfold execStationLoadDone
  dsimp only
  repeat' split
  all_goals simp

@[simp] theorem execStationLoadFault_leavesQueue (slot : Fin 64) (s : State) : LeavesQueue s (execStationLoadFault slot s) := by
  unfold execStationLoadFault
  dsimp only
  repeat' split
  all_goals simp

@[simp] theorem execAbortDone_leavesQueue (slot : Fin 64) (s : State) : LeavesQueue s (execAbortDone slot s) := by
  simp [execAbortDone]

@[simp] theorem execSeqAdmit_leavesQueue (slot : Fin 64) (timeout : Bool) (s : State) :
    LeavesQueue s (execSeqAdmit slot timeout s) := by
  simp [execSeqAdmit]

@[simp] theorem execCadenceRelease_leavesQueue (slot : Fin 64) (s : State) : LeavesQueue s (execCadenceRelease slot s) := by
  unfold execCadenceRelease
  dsimp only
  repeat' split
  all_goals simp

@[simp] theorem execLatePeriod_leavesQueue (slot : Fin 64) (s : State) : LeavesQueue s (execLatePeriod slot s) := by
  simp [execLatePeriod]

@[simp] theorem execBaleArrive_leavesQueue (tile : Fin 768) (s : State) : LeavesQueue s (execBaleArrive tile s) := by
  unfold execBaleArrive
  dsimp only
  repeat' split
  all_goals simp

@[simp] theorem execCompletionResume_leavesQueue (slot : Fin 64) (s : State) : LeavesQueue s (execCompletionResume slot s) := by
  unfold execCompletionResume
  dsimp only
  repeat' split
  all_goals simp

@[simp] theorem execCvnSlotRingRdWrite_leavesQueue (rq : Requester) (slot : Fin 64) (value : BitVec 32) (s : State) :
    LeavesQueue s (execCvnSlotRingRdWrite rq slot value s) := by
  simp [execCvnSlotRingRdWrite]

@[simp] theorem execCvnSlotThreshWrite_leavesQueue (rq : Requester) (slot : Fin 64) (value : BitVec 32) (s : State) :
    LeavesQueue s (execCvnSlotThreshWrite rq slot value s) := by
  simp [execCvnSlotThreshWrite]

@[simp] theorem execFoRegisterWrite_leavesQueue (rq : Requester) (tile : Fin 768) (offset : Nat) (value : BitVec 32) (s : State) :
    LeavesQueue s (execFoRegisterWrite rq tile offset value s) := by
  unfold execFoRegisterWrite
  dsimp only
  repeat' split
  all_goals simp

/-! ### CheckUnits -/

@[simp] theorem execCvuInit_leavesQueue (rq : Requester) (unit : Fin 16) (s : State) : LeavesQueue s (execCvuInit rq unit s) := by
  simp [execCvuInit]

@[simp] theorem execCvuScan_leavesQueue (rq : Requester) (unit : Fin 16) (init : Bool) (s : State) :
    LeavesQueue s (execCvuScan rq unit init s) := by
  simp [execCvuScan]

@[simp] theorem execCvuScanEnd_leavesQueue (unit : Fin 16) (noAnswer : Option Nat) (s : State) :
    LeavesQueue s (execCvuScanEnd unit noAnswer s) := by
  simp [execCvuScanEnd]

@[simp] theorem execCvuFeed8_leavesQueue (rq : Requester) (unit : Fin 16) (value : BitVec 32) (s : State) :
    LeavesQueue s (execCvuFeed8 rq unit value s) := by
  simp [execCvuFeed8]

@[simp] theorem execCvuFeed16_leavesQueue (rq : Requester) (unit : Fin 16) (value : BitVec 32) (s : State) :
    LeavesQueue s (execCvuFeed16 rq unit value s) := by
  simp [execCvuFeed16]

@[simp] theorem execCvuFeed32_leavesQueue (rq : Requester) (unit : Fin 16) (value : BitVec 32) (s : State) :
    LeavesQueue s (execCvuFeed32 rq unit value s) := by
  simp [execCvuFeed32]

@[simp] theorem execCvuRunWrite_leavesQueue (rq : Requester) (unit : Fin 16) (high : BitVec 32) (s : State) :
    LeavesQueue s (execCvuRunWrite rq unit high s) := by
  simp [execCvuRunWrite]

/-! ### Ethernet -/

@[simp] theorem execEthLinkUp_leavesQueue (port : Fin 8) (phy : Fin 5) (s : State) : LeavesQueue s (execEthLinkUp port phy s) := by
  simp [execEthLinkUp]

@[simp] theorem execEthLinkDown_leavesQueue (port : Fin 8) (rawLost : Nat) (s : State) :
    LeavesQueue s (execEthLinkDown port rawLost s) := by
  simp [execEthLinkDown]

@[simp] theorem execEthLacpMember_leavesQueue (port : Fin 8) (s : State) : LeavesQueue s (execEthLacpMember port s) := by
  simp [execEthLacpMember]

@[simp] theorem execEthLacpTimeout_leavesQueue (port : Fin 8) (s : State) : LeavesQueue s (execEthLacpTimeout port s) := by
  simp [execEthLacpTimeout]

@[simp] theorem execEthRetrain_leavesQueue (rq : Requester) (port : Fin 8) (s : State) :
    LeavesQueue s (execEthRetrain rq port s) := by
  simp [execEthRetrain]

@[simp] theorem execEthFrameRx_leavesQueue (port : Fin 8) (frame : EthRx) (s : State) :
    LeavesQueue s (execEthFrameRx port frame s) := by
  simp [execEthFrameRx]

@[simp] theorem execEthHostExpire_leavesQueue (net : Fin 2) (entry : Fin 256) (s : State) :
    LeavesQueue s (execEthHostExpire net entry s) := by
  simp [execEthHostExpire]

@[simp] theorem execEthWorkProducer_leavesQueue (q : Fin 4096) (recv : Bool) (value : Option (BitVec 32)) (s : State) :
    LeavesQueue s (execEthWorkProducer q recv value s) := by
  unfold execEthWorkProducer
  repeat' split
  all_goals simp

@[simp] theorem execEthWorkEntry_leavesQueue (q : Fin 4096) (s : State) : LeavesQueue s (execEthWorkEntry q s) := by
  unfold execEthWorkEntry
  dsimp only
  repeat' split
  all_goals simp

@[simp] theorem execEthAckTimeout_leavesQueue (q : Fin 4096) (s : State) : LeavesQueue s (execEthAckTimeout q s) := by
  unfold execEthAckTimeout
  dsimp only
  repeat' split
  all_goals simp

@[simp] theorem execEthNetFailover_leavesQueue (net : Fin 2) (s : State) : LeavesQueue s (execEthNetFailover net s) := by
  unfold execEthNetFailover
  dsimp only
  split
  · simp
  · rw [leavesQueue_next]
    refine commands_foldl _ _ _ fun a q => ?_
    split
    · simp
    · split <;> simp

@[simp] theorem execEthQpEnable_leavesQueue (rq : Requester) (q : Fin 4096) (s : State) :
    LeavesQueue s (execEthQpEnable rq q s) := by
  simp [execEthQpEnable]

@[simp] theorem execEthQpDisable_leavesQueue (rq : Requester) (q : Fin 4096) (s : State) :
    LeavesQueue s (execEthQpDisable rq q s) := by
  simp [execEthQpDisable]

@[simp] theorem execEthQpMigrate_leavesQueue (rq : Requester) (q : Fin 4096) (s : State) :
    LeavesQueue s (execEthQpMigrate rq q s) := by
  simp [execEthQpMigrate]

@[simp] theorem execEthAnnounce_leavesQueue (net : Fin 2) (s : State) : LeavesQueue s (execEthAnnounce net s) := by
  simp [execEthAnnounce]

/-! ### Governor -/

@[simp] theorem execControlPeriod_leavesQueue (gb : Bool) (s : State) : LeavesQueue s (execControlPeriod gb s) := by
  simp [execControlPeriod]

@[simp] theorem execFloorRecompute_leavesQueue (s : State) : LeavesQueue s (execFloorRecompute s) := by simp [execFloorRecompute]

@[simp] theorem execPartitionGateDone_leavesQueue (p : Fin 4) (s : State) : LeavesQueue s (execPartitionGateDone p s) := by
  unfold execPartitionGateDone
  dsimp only
  repeat' split
  all_goals simp

@[simp] theorem execBudgetMessage_leavesQueue (peer : Nat) (msg : List Byte) (s : State) :
    LeavesQueue s (execBudgetMessage peer msg s) := by
  simp [execBudgetMessage]

@[simp] theorem execGridMessage_leavesQueue (peer : Nat) (msg : List Byte) (s : State) :
    LeavesQueue s (execGridMessage peer msg s) := by
  simp [execGridMessage]

@[simp] theorem execCoolantMessage_leavesQueue (peer : Nat) (msg : List Byte) (s : State) :
    LeavesQueue s (execCoolantMessage peer msg s) := by
  simp [execCoolantMessage]

@[simp] theorem execHoldExpiry_leavesQueue (gb : Bool) (s : State) : LeavesQueue s (execHoldExpiry gb s) := by simp [execHoldExpiry]

@[simp] theorem execFrStale_leavesQueue (gb : Bool) (s : State) : LeavesQueue s (execFrStale gb s) := by simp [execFrStale]

@[simp] theorem execVcoreDroop_leavesQueue (gb : Bool) (s : State) : LeavesQueue s (execVcoreDroop gb s) := by simp [execVcoreDroop]

@[simp] theorem execDroopResume_leavesQueue (gb : Bool) (s : State) : LeavesQueue s (execDroopResume gb s) := by
  simp [execDroopResume]

@[simp] theorem execSupplyDip_leavesQueue (gb : Bool) (s : State) : LeavesQueue s (execSupplyDip gb s) := by simp [execSupplyDip]

@[simp] theorem execDipRecover_leavesQueue (gb : Bool) (s : State) : LeavesQueue s (execDipRecover gb s) := by simp [execDipRecover]

/-! ### Pair -/

@[simp] theorem execHeartbeatStop_leavesQueue (gb : Bool) (s : State) : LeavesQueue s (execHeartbeatStop gb s) := by
  simp [execHeartbeatStop]

@[simp] theorem execClaimLapse_leavesQueue (gb : Bool) (s : State) : LeavesQueue s (execClaimLapse gb s) := by simp [execClaimLapse]

@[simp] theorem execClaimWrite_leavesQueue (gb : Bool) (s : State) : LeavesQueue s (execClaimWrite gb s) := by
  unfold execClaimWrite
  repeat' split
  all_goals simp

@[simp] theorem execOstCommand_leavesQueue (gb : Bool) (out : BitVec 32) (s : State) : LeavesQueue s (execOstCommand gb out s) := by
  simp [execOstCommand]

@[simp] theorem execSwitchOver_leavesQueue (s : State) : LeavesQueue s (execSwitchOver s) := by
  unfold execSwitchOver
  split <;> simp

@[simp] theorem execOrphanEntry_leavesQueue (s : State) : LeavesQueue s (execOrphanEntry s) := by simp [execOrphanEntry]

@[simp] theorem execMirrorFrame_leavesQueue (gb : Bool) (frame : List Byte) (s : State) :
    LeavesQueue s (execMirrorFrame gb frame s) := by
  simp [execMirrorFrame]

@[simp] theorem execMirrorLost_leavesQueue (gb : Bool) (s : State) : LeavesQueue s (execMirrorLost gb s) := by simp [execMirrorLost]

@[simp] theorem execTrajectoryFrame_leavesQueue (gb : Bool) (frame : List Byte) (s : State) :
    LeavesQueue s (execTrajectoryFrame gb frame s) := by
  simp [execTrajectoryFrame]

@[simp] theorem execOstSwap_leavesQueue (rq : Requester) (s : State) : LeavesQueue s (execOstSwap rq s) := by simp [execOstSwap]

@[simp] theorem execOstResetA_leavesQueue (rq : Requester) (s : State) : LeavesQueue s (execOstResetA rq s) := by
  simp [execOstResetA]

@[simp] theorem execOstResetB_leavesQueue (rq : Requester) (s : State) : LeavesQueue s (execOstResetB rq s) := by
  simp [execOstResetB]

@[simp] theorem execGovRestartDone_leavesQueue (gb pass : Bool) (s : State) : LeavesQueue s (execGovRestartDone gb pass s) := by
  simp [execGovRestartDone]

@[simp] theorem execLapsedGovReset_leavesQueue (gb : Bool) (s : State) : LeavesQueue s (execLapsedGovReset gb s) := by
  simp [execLapsedGovReset]

@[simp] theorem execGovRevert_leavesQueue (s : State) : LeavesQueue s (execGovRevert s) := by simp [execGovRevert]

/-! ### Recovery -/

@[simp] theorem execRstReset_leavesQueue (rq : Requester) (level : Fin 16) (index : Fin 1024) (s : State) :
    LeavesQueue s (execRstReset rq level index s) := by
  simp [execRstReset]

@[simp] theorem execRstHold_leavesQueue (rq : Requester) (level : Fin 16) (index : Fin 1024) (s : State) :
    LeavesQueue s (execRstHold rq level index s) := by
  simp [execRstHold]

@[simp] theorem execRstRelease_leavesQueue (rq : Requester) (level : Fin 16) (index : Fin 1024) (s : State) :
    LeavesQueue s (execRstRelease rq level index s) := by
  simp [execRstRelease]

@[simp] theorem execDrainEnd_leavesQueue (level : Fin 5) (index : Fin 768) (s : State) :
    LeavesQueue s (execDrainEnd level index s) := by
  simp [execDrainEnd]

@[simp] theorem execSalvageDone_leavesQueue (level : Fin 5) (index : Fin 768) (s : State) :
    LeavesQueue s (execSalvageDone level index s) := by
  unfold execSalvageDone
  dsimp only
  repeat' split
  all_goals simp

@[simp] theorem execDomainResetDone_leavesQueue (level : Fin 5) (index : Fin 768) (s : State) :
    LeavesQueue s (execDomainResetDone level index s) := by
  simp [execDomainResetDone]

@[simp] theorem execDomainTestDone_leavesQueue (level : Fin 5) (index : Fin 768) (passed : Bool) (failed : List Nat) (s : State) :
    LeavesQueue s (execDomainTestDone level index passed failed s) := by
  simp [execDomainTestDone]

@[simp] theorem execTileStall_leavesQueue (tile : Fin 768) (s : State) : LeavesQueue s (execTileStall tile s) := by
  simp [execTileStall]

@[simp] theorem execEngineStall_leavesQueue (tile : Fin 768) (s : State) : LeavesQueue s (execEngineStall tile s) := by
  simp [execEngineStall]

@[simp] theorem execCaravanStall_leavesQueue (slot : Fin 64) (s : State) : LeavesQueue s (execCaravanStall slot s) := by
  unfold execCaravanStall
  split <;> simp

@[simp] theorem execCoreStall_leavesQueue (core : Fin 32) (s : State) : LeavesQueue s (execCoreStall core s) := by
  simp [execCoreStall]

@[simp] theorem execReqTimeout_leavesQueue (level : Fin 6) (index : Fin 768) (addr : Nat) (req : TimedOut) (s : State) :
    LeavesQueue s (execReqTimeout level index addr req s) := by
  simp [execReqTimeout]

@[simp] theorem execStopFail_leavesQueue (tile : Fin 768) (s : State) : LeavesQueue s (execStopFail tile s) := by
  simp [execStopFail]

@[simp] theorem execPackageResetRampDone_leavesQueue (s : State) : LeavesQueue s (execPackageResetRampDone s) := by
  simp [execPackageResetRampDone]

/-! ### Faults -/

@[simp] theorem execFclErrorEvent_leavesQueue (s : State) : LeavesQueue s (execFclErrorEvent s) := by
  unfold execFclErrorEvent
  split <;> simp

@[simp] theorem execFclWindowEnd_leavesQueue (line : Fin 31) (s : State) : LeavesQueue s (execFclWindowEnd line s) := by
  simp [execFclWindowEnd]

@[simp] theorem execFclSelfCheck_leavesQueue (upset : Option (Fin 31 × BitVec 32)) (s : State) :
    LeavesQueue s (execFclSelfCheck upset s) := by
  unfold execFclSelfCheck
  split <;> simp

@[simp] theorem execFclSafeExit_leavesQueue (rq : Requester) (s : State) : LeavesQueue s (execFclSafeExit rq s) := by
  simp [execFclSafeExit]

@[simp] theorem execFaultNPulseEnd_leavesQueue (s : State) : LeavesQueue s (execFaultNPulseEnd s) := by simp [execFaultNPulseEnd]

@[simp] theorem execFclOwnFault_leavesQueue (s : State) : LeavesQueue s (execFclOwnFault s) := by simp [execFclOwnFault]

/-! ### Interrupts -/

@[simp] theorem execIcSourceChange_leavesQueue (cache : Option (Fin 32 × Ecc)) (s : State) :
    LeavesQueue s (execIcSourceChange cache s) := by
  unfold execIcSourceChange
  split <;> simp

@[simp] theorem execIcClaimRead_leavesQueue (rq : Requester) (bank : Fin 32) (s : State) :
    LeavesQueue s (execIcClaimRead rq bank s) := by
  simp [execIcClaimRead]

@[simp] theorem execIcClaimWrite_leavesQueue (rq : Requester) (bank : Fin 32) (value : BitVec 32) (s : State) :
    LeavesQueue s (execIcClaimWrite rq bank value s) := by
  simp [execIcClaimWrite]

@[simp] theorem execIcSvcWrite_leavesQueue (rq : Requester) (bank : Fin 32) (value : BitVec 32) (s : State) :
    LeavesQueue s (execIcSvcWrite rq bank value s) := by
  simp [execIcSvcWrite]

@[simp] theorem execMachineExternalInterrupt_leavesQueue (core : Fin 32) (s : State) :
    LeavesQueue s (execMachineExternalInterrupt core s) := by
  unfold execMachineExternalInterrupt
  dsimp only
  repeat' split
  all_goals simp

@[simp] theorem execModerationEnd_leavesQueue (core : Fin 32) (s : State) : LeavesQueue s (execModerationEnd core s) := by
  simp [execModerationEnd]

@[simp] theorem execCoreIdle_leavesQueue (core : Fin 32) (s : State) : LeavesQueue s (execCoreIdle core s) := by simp [execCoreIdle]

@[simp] theorem execTimerCompare_leavesQueue (core : Fin 32) (s : State) : LeavesQueue s (execTimerCompare core s) := by
  simp [execTimerCompare]

/-! ### Scalar -/

@[simp] theorem execScAdd_leavesQueue (t : Fin 768) (o : VOp) (s : State) : LeavesQueue s (execScAdd t o s) := by simp [execScAdd]

@[simp] theorem execScSub_leavesQueue (t : Fin 768) (o : VOp) (s : State) : LeavesQueue s (execScSub t o s) := by simp [execScSub]

@[simp] theorem execScAnd_leavesQueue (t : Fin 768) (o : VOp) (s : State) : LeavesQueue s (execScAnd t o s) := by simp [execScAnd]

@[simp] theorem execScOr_leavesQueue (t : Fin 768) (o : VOp) (s : State) : LeavesQueue s (execScOr t o s) := by simp [execScOr]

@[simp] theorem execScXor_leavesQueue (t : Fin 768) (o : VOp) (s : State) : LeavesQueue s (execScXor t o s) := by simp [execScXor]

@[simp] theorem execScSll_leavesQueue (t : Fin 768) (o : VOp) (s : State) : LeavesQueue s (execScSll t o s) := by simp [execScSll]

@[simp] theorem execScSrl_leavesQueue (t : Fin 768) (o : VOp) (s : State) : LeavesQueue s (execScSrl t o s) := by simp [execScSrl]

@[simp] theorem execScSra_leavesQueue (t : Fin 768) (o : VOp) (s : State) : LeavesQueue s (execScSra t o s) := by simp [execScSra]

@[simp] theorem execScMul_leavesQueue (t : Fin 768) (o : VOp) (s : State) : LeavesQueue s (execScMul t o s) := by simp [execScMul]

@[simp] theorem execScMulh_leavesQueue (t : Fin 768) (o : VOp) (s : State) : LeavesQueue s (execScMulh t o s) := by
  simp [execScMulh]

@[simp] theorem execScDiv_leavesQueue (t : Fin 768) (o : VOp) (s : State) : LeavesQueue s (execScDiv t o s) := by simp [execScDiv]

@[simp] theorem execScRem_leavesQueue (t : Fin 768) (o : VOp) (s : State) : LeavesQueue s (execScRem t o s) := by simp [execScRem]

@[simp] theorem execScSlt_leavesQueue (t : Fin 768) (o : VOp) (s : State) : LeavesQueue s (execScSlt t o s) := by simp [execScSlt]

@[simp] theorem execScSltu_leavesQueue (t : Fin 768) (o : VOp) (s : State) : LeavesQueue s (execScSltu t o s) := by
  simp [execScSltu]

@[simp] theorem execScMin_leavesQueue (t : Fin 768) (o : VOp) (s : State) : LeavesQueue s (execScMin t o s) := by simp [execScMin]

@[simp] theorem execScMax_leavesQueue (t : Fin 768) (o : VOp) (s : State) : LeavesQueue s (execScMax t o s) := by simp [execScMax]

@[simp] theorem execScAddi_leavesQueue (t : Fin 768) (o : VOp) (s : State) : LeavesQueue s (execScAddi t o s) := by
  simp [execScAddi]

@[simp] theorem execScAndi_leavesQueue (t : Fin 768) (o : VOp) (s : State) : LeavesQueue s (execScAndi t o s) := by
  simp [execScAndi]

@[simp] theorem execScOri_leavesQueue (t : Fin 768) (o : VOp) (s : State) : LeavesQueue s (execScOri t o s) := by simp [execScOri]

@[simp] theorem execScXori_leavesQueue (t : Fin 768) (o : VOp) (s : State) : LeavesQueue s (execScXori t o s) := by
  simp [execScXori]

@[simp] theorem execScSlli_leavesQueue (t : Fin 768) (o : VOp) (s : State) : LeavesQueue s (execScSlli t o s) := by
  simp [execScSlli]

@[simp] theorem execScSrli_leavesQueue (t : Fin 768) (o : VOp) (s : State) : LeavesQueue s (execScSrli t o s) := by
  simp [execScSrli]

@[simp] theorem execScSrai_leavesQueue (t : Fin 768) (o : VOp) (s : State) : LeavesQueue s (execScSrai t o s) := by
  simp [execScSrai]

@[simp] theorem execScSlti_leavesQueue (t : Fin 768) (o : VOp) (s : State) : LeavesQueue s (execScSlti t o s) := by
  simp [execScSlti]

@[simp] theorem execScLi_leavesQueue (t : Fin 768) (o : VOp) (s : State) : LeavesQueue s (execScLi t o s) := by simp [execScLi]

@[simp] theorem execScLih_leavesQueue (t : Fin 768) (o : VOp) (s : State) : LeavesQueue s (execScLih t o s) := by simp [execScLih]

@[simp] theorem execScLd_leavesQueue (t : Fin 768) (o : VOp) (s : State) : LeavesQueue s (execScLd t o s) := by simp [execScLd]

@[simp] theorem execScSt_leavesQueue (t : Fin 768) (o : VOp) (s : State) : LeavesQueue s (execScSt t o s) := by simp [execScSt]

@[simp] theorem execScTr_leavesQueue (t : Fin 768) (o : VOp) (s : State) : LeavesQueue s (execScTr t o s) := by
  unfold execScTr
  refine State.issueSeq_leavesQueue _ _ _ _ _ _ _ _ _ fun u => ?_
  split <;> simp

@[simp] theorem execScTw_leavesQueue (t : Fin 768) (o : VOp) (s : State) : LeavesQueue s (execScTw t o s) := by
  unfold execScTw
  dsimp only
  repeat' split
  all_goals simp

@[simp] theorem execCtBr_leavesQueue (t : Fin 768) (o : VOp) (s : State) : LeavesQueue s (execCtBr t o s) := by simp [execCtBr]

@[simp] theorem execCtJal_leavesQueue (t : Fin 768) (o : VOp) (s : State) : LeavesQueue s (execCtJal t o s) := by simp [execCtJal]

@[simp] theorem execCtJr_leavesQueue (t : Fin 768) (o : VOp) (s : State) : LeavesQueue s (execCtJr t o s) := by simp [execCtJr]

@[simp] theorem execCtFence_leavesQueue (t : Fin 768) (o : VOp) (s : State) : LeavesQueue s (execCtFence t o s) := by
  simp [execCtFence]

@[simp] theorem execCtNop_leavesQueue (t : Fin 768) (o : VOp) (s : State) : LeavesQueue s (execCtNop t o s) := by simp [execCtNop]

/-! ### Vector -/

@[simp] theorem execVAdd_leavesQueue (t : Fin 768) (o : VOp) (s : State) : LeavesQueue s (execVAdd t o s) := by simp [execVAdd]

@[simp] theorem execVSub_leavesQueue (t : Fin 768) (o : VOp) (s : State) : LeavesQueue s (execVSub t o s) := by simp [execVSub]

@[simp] theorem execVMul_leavesQueue (t : Fin 768) (o : VOp) (s : State) : LeavesQueue s (execVMul t o s) := by simp [execVMul]

@[simp] theorem execVFma_leavesQueue (t : Fin 768) (o : VOp) (s : State) : LeavesQueue s (execVFma t o s) := by simp [execVFma]

@[simp] theorem execVMin_leavesQueue (t : Fin 768) (o : VOp) (s : State) : LeavesQueue s (execVMin t o s) := by simp [execVMin]

@[simp] theorem execVMax_leavesQueue (t : Fin 768) (o : VOp) (s : State) : LeavesQueue s (execVMax t o s) := by simp [execVMax]

@[simp] theorem execVAnd_leavesQueue (t : Fin 768) (o : VOp) (s : State) : LeavesQueue s (execVAnd t o s) := by simp [execVAnd]

@[simp] theorem execVOr_leavesQueue (t : Fin 768) (o : VOp) (s : State) : LeavesQueue s (execVOr t o s) := by simp [execVOr]

@[simp] theorem execVXor_leavesQueue (t : Fin 768) (o : VOp) (s : State) : LeavesQueue s (execVXor t o s) := by simp [execVXor]

@[simp] theorem execVShl_leavesQueue (t : Fin 768) (o : VOp) (s : State) : LeavesQueue s (execVShl t o s) := by simp [execVShl]

@[simp] theorem execVCmp_leavesQueue (t : Fin 768) (o : VOp) (s : State) : LeavesQueue s (execVCmp t o s) := by simp [execVCmp]

@[simp] theorem execVSel_leavesQueue (t : Fin 768) (o : VOp) (s : State) : LeavesQueue s (execVSel t o s) := by simp [execVSel]

@[simp] theorem execVCvt_leavesQueue (t : Fin 768) (o : VOp) (s : State) : LeavesQueue s (execVCvt t o s) := by simp [execVCvt]

@[simp] theorem execVRed_leavesQueue (t : Fin 768) (o : VOp) (s : State) : LeavesQueue s (execVRed t o s) := by simp [execVRed]

@[simp] theorem execVSpec_leavesQueue (t : Fin 768) (o : VOp) (s : State) : LeavesQueue s (execVSpec t o s) := by simp [execVSpec]

@[simp] theorem execVLd_leavesQueue (t : Fin 768) (o : VOp) (s : State) : LeavesQueue s (execVLd t o s) := by simp [execVLd]

@[simp] theorem execVSt_leavesQueue (t : Fin 768) (o : VOp) (s : State) : LeavesQueue s (execVSt t o s) := by simp [execVSt]

@[simp] theorem execVGath_leavesQueue (t : Fin 768) (o : VOp) (s : State) : LeavesQueue s (execVGath t o s) := by simp [execVGath]

@[simp] theorem execVScat_leavesQueue (t : Fin 768) (o : VOp) (s : State) : LeavesQueue s (execVScat t o s) := by simp [execVScat]

@[simp] theorem execVBcast_leavesQueue (t : Fin 768) (o : VOp) (s : State) : LeavesQueue s (execVBcast t o s) := by
  simp [execVBcast]

@[simp] theorem execVGet_leavesQueue (t : Fin 768) (o : VOp) (s : State) : LeavesQueue s (execVGet t o s) := by simp [execVGet]

@[simp] theorem execVPut_leavesQueue (t : Fin 768) (o : VOp) (s : State) : LeavesQueue s (execVPut t o s) := by simp [execVPut]

@[simp] theorem execVPerm_leavesQueue (t : Fin 768) (o : VOp) (s : State) : LeavesQueue s (execVPerm t o s) := by simp [execVPerm]

@[simp] theorem execPMov_leavesQueue (t : Fin 768) (o : VOp) (s : State) : LeavesQueue s (execPMov t o s) := by simp [execPMov]

@[simp] theorem execPGet_leavesQueue (t : Fin 768) (o : VOp) (s : State) : LeavesQueue s (execPGet t o s) := by simp [execPGet]

@[simp] theorem execPOp_leavesQueue (t : Fin 768) (o : VOp) (s : State) : LeavesQueue s (execPOp t o s) := by simp [execPOp]

@[simp] theorem execPCnt_leavesQueue (t : Fin 768) (o : VOp) (s : State) : LeavesQueue s (execPCnt t o s) := by simp [execPCnt]

/-! ### Matrix -/

@[simp] theorem execMxMac_leavesQueue (t : Fin 768) (o : VOp) (s : State) : LeavesQueue s (execMxMac t o s) := by simp [execMxMac]

@[simp] theorem execMxMacs_leavesQueue (t : Fin 768) (o : VOp) (s : State) : LeavesQueue s (execMxMacs t o s) := by
  simp [execMxMacs]

@[simp] theorem execMxDrain_leavesQueue (t : Fin 768) (o : VOp) (s : State) : LeavesQueue s (execMxDrain t o s) := by
  simp [execMxDrain]

@[simp] theorem execMxLoad_leavesQueue (t : Fin 768) (o : VOp) (s : State) : LeavesQueue s (execMxLoad t o s) := by
  simp [execMxLoad]

@[simp] theorem execMxZero_leavesQueue (t : Fin 768) (o : VOp) (s : State) : LeavesQueue s (execMxZero t o s) := by
  simp [execMxZero]

@[simp] theorem execMxWait_leavesQueue (t : Fin 768) (o : VOp) (s : State) : LeavesQueue s (execMxWait t o s) := by
  simp [execMxWait]

@[simp] theorem execMxOpComplete_leavesQueue (t : Fin 768) (drainPath : Bool) (s : State) :
    LeavesQueue s (execMxOpComplete t drainPath s) := by
  unfold execMxOpComplete
  dsimp only
  repeat' split
  all_goals simp

/-! ### Movement -/

@[simp] theorem execMvGet_leavesQueue (t : Fin 768) (o : VOp) (s : State) : LeavesQueue s (execMvGet t o s) := by simp [execMvGet]

@[simp] theorem execMvPut_leavesQueue (t : Fin 768) (o : VOp) (s : State) : LeavesQueue s (execMvPut t o s) := by simp [execMvPut]

@[simp] theorem execMvWait_leavesQueue (t : Fin 768) (o : VOp) (s : State) : LeavesQueue s (execMvWait t o s) := by
  simp [execMvWait]

@[simp] theorem execMvPoll_leavesQueue (t : Fin 768) (o : VOp) (s : State) : LeavesQueue s (execMvPoll t o s) := by
  unfold execMvPoll
  refine State.issueSeq_leavesQueue _ _ _ _ _ _ _ _ _ fun u => ?_
  dsimp only
  split <;> simp

@[simp] theorem execMvComplete_leavesQueue (t : Fin 768) (tag : BitVec 4) (timeout : Bool) (s : State) :
    LeavesQueue s (execMvComplete t tag timeout s) := by
  unfold execMvComplete
  dsimp only
  repeat' split
  all_goals simp

/-! ### Musters -/

@[simp] theorem execMgEnable_leavesQueue (rq : Requester) (g : Fin 64) (s : State) : LeavesQueue s (execMgEnable rq g s) := by
  simp [execMgEnable]

@[simp] theorem execMgDisable_leavesQueue (rq : Requester) (g : Fin 64) (s : State) : LeavesQueue s (execMgDisable rq g s) := by
  simp [execMgDisable]

@[simp] theorem execMusterEnter_leavesQueue (g : Fin 64) (line : Option (List Byte)) (s : State) :
    LeavesQueue s (execMusterEnter g line s) := by
  simp [execMusterEnter]

@[simp] theorem execMusterReadyWord_leavesQueue (g : Fin 64) (word : Option (BitVec 32)) (s : State) :
    LeavesQueue s (execMusterReadyWord g word s) := by
  simp [execMusterReadyWord]

@[simp] theorem execMusterDoneWord_leavesQueue (g : Fin 64) (word : Option (BitVec 32)) (s : State) :
    LeavesQueue s (execMusterDoneWord g word s) := by
  simp [execMusterDoneWord]

@[simp] theorem execMusterAbortWord_leavesQueue (g : Fin 64) (word : Option (BitVec 32)) (s : State) :
    LeavesQueue s (execMusterAbortWord g word s) := by
  simp [execMusterAbortWord]

@[simp] theorem execMusterArrive_leavesQueue (m : MusterMsg) (s : State) : LeavesQueue s (execMusterArrive m s) := by
  simp [execMusterArrive]

@[simp] theorem execMusterGo_leavesQueue (m : MusterMsg) (s : State) : LeavesQueue s (execMusterGo m s) := by simp [execMusterGo]

@[simp] theorem execMusterReady_leavesQueue (m : MusterMsg) (s : State) : LeavesQueue s (execMusterReady m s) := by
  simp [execMusterReady]

@[simp] theorem execMusterGo2_leavesQueue (m : MusterMsg) (s : State) : LeavesQueue s (execMusterGo2 m s) := by simp [execMusterGo2]

@[simp] theorem execMusterDone_leavesQueue (m : MusterMsg) (s : State) : LeavesQueue s (execMusterDone m s) := by
  simp [execMusterDone]

@[simp] theorem execMusterDecide_leavesQueue (m : MusterMsg) (s : State) : LeavesQueue s (execMusterDecide m s) := by
  simp [execMusterDecide]

@[simp] theorem execMusterAbortReq_leavesQueue (m : MusterMsg) (s : State) : LeavesQueue s (execMusterAbortReq m s) := by
  simp [execMusterAbortReq]

@[simp] theorem execMusterQuery_leavesQueue (m : MusterMsg) (s : State) : LeavesQueue s (execMusterQuery m s) := by
  simp [execMusterQuery]

@[simp] theorem execLeaderDeadline_leavesQueue (g : Fin 64) (s : State) : LeavesQueue s (execLeaderDeadline g s) := by
  simp [execLeaderDeadline]

@[simp] theorem execMusterQueryTimer_leavesQueue (g : Fin 64) (s : State) : LeavesQueue s (execMusterQueryTimer g s) := by
  simp [execMusterQueryTimer]

@[simp] theorem execMusterGraceExpiry_leavesQueue (g : Fin 64) (s : State) : LeavesQueue s (execMusterGraceExpiry g s) := by
  simp [execMusterGraceExpiry]

@[simp] theorem execMusterNotice_leavesQueue (n : MusterNotice) (s : State) : LeavesQueue s (execMusterNotice n s) := by
  simp [execMusterNotice]

/-! ### Power -/

@[simp] theorem execSupplyLowShutdown_leavesQueue (gb : Bool) (s : State) : LeavesQueue s (execSupplyLowShutdown gb s) := by
  simp [execSupplyLowShutdown]

@[simp] theorem execSupplyHighShutdown_leavesQueue (gb : Bool) (s : State) : LeavesQueue s (execSupplyHighShutdown gb s) := by
  simp [execSupplyHighShutdown]

@[simp] theorem execOrphanTimeout_leavesQueue (s : State) : LeavesQueue s (execOrphanTimeout s) := by simp [execOrphanTimeout]

@[simp] theorem execPwrGoodAssert_leavesQueue (s : State) : LeavesQueue s (execPwrGoodAssert s) := by simp [execPwrGoodAssert]

@[simp] theorem execPwrGoodDeassert_leavesQueue (s : State) : LeavesQueue s (execPwrGoodDeassert s) := by simp [execPwrGoodDeassert]

@[simp] theorem execPkgResetAssert_leavesQueue (s : State) : LeavesQueue s (execPkgResetAssert s) := by simp [execPkgResetAssert]

@[simp] theorem execPkgResetRelease_leavesQueue (s : State) : LeavesQueue s (execPkgResetRelease s) := by simp [execPkgResetRelease]

@[simp] theorem execInputPowerRise_leavesQueue (s : State) : LeavesQueue s (execInputPowerRise s) := by simp [execInputPowerRise]

@[simp] theorem execInputPowerLoss_leavesQueue (s : State) : LeavesQueue s (execInputPowerLoss s) := by
  unfold execInputPowerLoss
  dsimp only
  rw [leavesQueue_next, State.mk_commands, State.sf_commands, State.sf_commands, State.vauxOff_commands, State.railsOff_commands]
  split <;> simp

/-! ### Routing -/

@[simp] theorem execSqProducerWrite_leavesQueue (q : Fin 64) (value : Option (BitVec 32)) (s : State) :
    LeavesQueue s (execSqProducerWrite q value s) := by
  unfold execSqProducerWrite
  split <;> simp

@[simp] theorem execSqDescriptor_leavesQueue (q : Fin 64) (rnd : BitVec 18) (escape : Bool) (s : State) :
    LeavesQueue s (execSqDescriptor q rnd escape s) := by
  unfold execSqDescriptor
  dsimp only
  repeat' split
  all_goals simp

@[simp] theorem execFrameRx_leavesQueue (port : Fin 20) (frame : List Byte) (escape : Bool) (s : State) :
    LeavesQueue s (execFrameRx port frame escape s) := by
  simp [execFrameRx]

@[simp] theorem execCmapPeriod_leavesQueue (levels : List (BitVec 8)) (s : State) : LeavesQueue s (execCmapPeriod levels s) := by
  simp [execCmapPeriod]

@[simp] theorem execFrtAvoidWrite_leavesQueue (rq : Requester) (value : BitVec 32) (s : State) :
    LeavesQueue s (execFrtAvoidWrite rq value s) := by
  simp [execFrtAvoidWrite]

@[simp] theorem execSqSliceWrite_leavesQueue (rq : Requester) (q : Fin 64) (value : BitVec 32) (s : State) :
    LeavesQueue s (execSqSliceWrite rq q value s) := by
  simp [execSqSliceWrite]

@[simp] theorem execSqEnable_leavesQueue (rq : Requester) (q : Fin 64) (s : State) : LeavesQueue s (execSqEnable rq q s) := by
  simp [execSqEnable]

@[simp] theorem execRqEnable_leavesQueue (rq : Requester) (q : Fin 64) (s : State) : LeavesQueue s (execRqEnable rq q s) := by
  simp [execRqEnable]

/-! ### WaybillPort -/

@[simp] theorem execWbPost_leavesQueue (t : Fin 768) (o : VOp) (s : State) : LeavesQueue s (execWbPost t o s) := by
  simp [execWbPost]

@[simp] theorem execWbTake_leavesQueue (t : Fin 768) (o : VOp) (s : State) : LeavesQueue s (execWbTake t o s) := by
  simp [execWbTake]

@[simp] theorem execWbGet_leavesQueue (t : Fin 768) (o : VOp) (s : State) : LeavesQueue s (execWbGet t o s) := by simp [execWbGet]

@[simp] theorem execWbSet_leavesQueue (t : Fin 768) (o : VOp) (s : State) : LeavesQueue s (execWbSet t o s) := by simp [execWbSet]

@[simp] theorem execWbSend_leavesQueue (t : Fin 768) (o : VOp) (s : State) : LeavesQueue s (execWbSend t o s) := by
  simp [execWbSend]

@[simp] theorem execSendPayloadLeft_leavesQueue (tile : Fin 768) (s : State) : LeavesQueue s (execSendPayloadLeft tile s) := by
  simp [execSendPayloadLeft]

@[simp] theorem execWbRetire_leavesQueue (t : Fin 768) (o : VOp) (s : State) : LeavesQueue s (execWbRetire t o s) := by
  simp [execWbRetire]

@[simp] theorem execWbCount_leavesQueue (t : Fin 768) (o : VOp) (s : State) : LeavesQueue s (execWbCount t o s) := by
  simp [execWbCount]

/-! ### TileEvents -/

@[simp] theorem execEvWait_leavesQueue (t : Fin 768) (o : VOp) (s : State) : LeavesQueue s (execEvWait t o s) := by
  simp [execEvWait]

@[simp] theorem execEvClr_leavesQueue (t : Fin 768) (o : VOp) (s : State) : LeavesQueue s (execEvClr t o s) := by simp [execEvClr]

@[simp] theorem execEvNote_leavesQueue (t : Fin 768) (o : VOp) (s : State) : LeavesQueue s (execEvNote t o s) := by
  simp [execEvNote]

@[simp] theorem execEvTime_leavesQueue (t : Fin 768) (o : VOp) (s : State) : LeavesQueue s (execEvTime t o s) := by
  simp [execEvTime]

@[simp] theorem execEvTimer_leavesQueue (t : Fin 768) (o : VOp) (s : State) : LeavesQueue s (execEvTimer t o s) := by
  simp [execEvTimer]

@[simp] theorem execMwBurn_leavesQueue (t : Fin 768) (o : VOp) (s : State) : LeavesQueue s (execMwBurn t o s) := by
  simp [execMwBurn]

@[simp] theorem execTileWaitRelease_leavesQueue (t : Fin 768) (s : State) : LeavesQueue s (execTileWaitRelease t s) := by
  simp [execTileWaitRelease]

@[simp] theorem execTileTimerFire_leavesQueue (t : Fin 768) (s : State) : LeavesQueue s (execTileTimerFire t s) := by
  simp [execTileTimerFire]

@[simp] theorem execTileNoteWrite_leavesQueue (rq : Requester) (t : Fin 768) (value : BitVec 32) (s : State) :
    LeavesQueue s (execTileNoteWrite rq t value s) := by
  simp [execTileNoteWrite]

@[simp] theorem execTileSeedHiWrite_leavesQueue (rq : Requester) (t : Fin 768) (value : BitVec 32) (s : State) :
    LeavesQueue s (execTileSeedHiWrite rq t value s) := by
  simp [execTileSeedHiWrite]

/-! ### TimeBase -/

@[simp] theorem execTmbTodArm_leavesQueue (rq : Requester) (high : BitVec 32) (s : State) :
    LeavesQueue s (execTmbTodArm rq high s) := by
  simp [execTmbTodArm]

@[simp] theorem execPpsEdge_leavesQueue (s : State) : LeavesQueue s (execPpsEdge s) := by simp [execPpsEdge]

@[simp] theorem execPpsMiss_leavesQueue (s : State) : LeavesQueue s (execPpsMiss s) := by
  unfold execPpsMiss
  split <;> simp

@[simp] theorem execRefclkLoss_leavesQueue (s : State) : LeavesQueue s (execRefclkLoss s) := by simp [execRefclkLoss]

@[simp] theorem execRefclkRestore_leavesQueue (s : State) : LeavesQueue s (execRefclkRestore s) := by simp [execRefclkRestore]

/-! ### RegisterAccess -/

@[simp] theorem execCounterReadClear_leavesQueue (rq : Requester) (addr size : Nat) (s : State) :
    LeavesQueue s (execCounterReadClear rq addr size s) := by
  simp [execCounterReadClear]

@[simp] theorem execPairLowRead_leavesQueue (rq : Requester) (addr size : Nat) (s : State) :
    LeavesQueue s (execPairLowRead rq addr size s) := by
  simp [execPairLowRead]

@[simp] theorem execTmbStatusRead_leavesQueue (rq : Requester) (s : State) : LeavesQueue s (execTmbStatusRead rq s) := by
  simp [execTmbStatusRead]

@[simp] theorem execPwwStateRead_leavesQueue (rq : Requester) (s : State) : LeavesQueue s (execPwwStateRead rq s) := by
  simp [execPwwStateRead]

@[simp] theorem execRegisterWrite_leavesQueue (rq : Requester) (addr size : Nat) (value : BitVec 32) (s : State) :
    LeavesQueue s (execRegisterWrite rq addr size value s) := by
  simp [execRegisterWrite]

@[simp] theorem execPairLowWrite_leavesQueue (rq : Requester) (addr size : Nat) (value : BitVec 32) (s : State) :
    LeavesQueue s (execPairLowWrite rq addr size value s) := by
  simp [execPairLowWrite]

@[simp] theorem execPairHighWrite_leavesQueue (rq : Requester) (addr size : Nat) (value : BitVec 32) (s : State) :
    LeavesQueue s (execPairHighWrite rq addr size value s) := by
  simp [execPairHighWrite]

@[simp] theorem execFclFaultnDriveWrite_leavesQueue (rq : Requester) (value : BitVec 32) (s : State) :
    LeavesQueue s (execFclFaultnDriveWrite rq value s) := by
  simp [execFclFaultnDriveWrite]

/-! ### Startup -/

@[simp] theorem execStart_leavesQueue (tests : StartTests) (s : State) : LeavesQueue s (execStart tests s) := by simp [execStart]

@[simp] theorem execInrushWave_leavesQueue (s : State) : LeavesQueue s (execInrushWave s) := by simp [execInrushWave]

@[simp] theorem execStartPause_leavesQueue (heat : Bool) (s : State) : LeavesQueue s (execStartPause heat s) := by
  simp [execStartPause]

@[simp] theorem execStartResume_leavesQueue (heat : Bool) (s : State) : LeavesQueue s (execStartResume heat s) := by
  simp [execStartResume]

@[simp] theorem execStartStepTimeout_leavesQueue (s : State) : LeavesQueue s (execStartStepTimeout s) := by
  simp [execStartStepTimeout]

/-! ### Thermal -/

@[simp] theorem execThmConversion_leavesQueue (c : Conversion) (s : State) : LeavesQueue s (execThmConversion c s) := by
  unfold execThmConversion
  split <;> simp

@[simp] theorem execThmCapUpdate_leavesQueue (s : State) : LeavesQueue s (execThmCapUpdate s) := by simp [execThmCapUpdate]

@[simp] theorem execCoolantStale_leavesQueue (s : State) : LeavesQueue s (execCoolantStale s) := by simp [execCoolantStale]

@[simp] theorem execNoflowTimeout_leavesQueue (s : State) : LeavesQueue s (execNoflowTimeout s) := by simp [execNoflowTimeout]

/-! ### Trust -/

@[simp] theorem execSessionOpen_leavesQueue (peer : Nat) (msg : List Byte) (s : State) :
    LeavesQueue s (execSessionOpen peer msg s) := by
  simp [execSessionOpen]

@[simp] theorem execSessionConfirm_leavesQueue (peer : Nat) (msg : List Byte) (s : State) :
    LeavesQueue s (execSessionConfirm peer msg s) := by
  simp [execSessionConfirm]

@[simp] theorem execSessionClose_leavesQueue (peer : Nat) (msg : List Byte) (s : State) :
    LeavesQueue s (execSessionClose peer msg s) := by
  unfold execSessionClose
  rw [leavesQueue_next]
  exact State.serve_commands _ _ _ _ _ _ _ fun t x => by simp

@[simp] theorem execSessionTimeout_leavesQueue (peer : Nat) (s : State) : LeavesQueue s (execSessionTimeout peer s) := by
  simp [execSessionTimeout]

@[simp] theorem execAttest_leavesQueue (peer : Nat) (msg : List Byte) (s : State) : LeavesQueue s (execAttest peer msg s) := by
  simp [execAttest]

@[simp] theorem execSetting_leavesQueue (peer : Nat) (msg : List Byte) (s : State) : LeavesQueue s (execSetting peer msg s) := by
  unfold execSetting
  dsimp only
  rw [leavesQueue_next]
  exact State.serve_commands _ _ _ _ _ _ _ fun t x => by simp

@[simp] theorem execFulltrain_leavesQueue (peer : Nat) (msg : List Byte) (s : State) :
    LeavesQueue s (execFulltrain peer msg s) := by
  unfold execFulltrain
  dsimp only
  rw [leavesQueue_next]
  exact State.serve_commands _ _ _ _ _ _ _ fun t x => by simp

@[simp] theorem execJournalRead_leavesQueue (peer : Nat) (msg : List Byte) (s : State) :
    LeavesQueue s (execJournalRead peer msg s) := by
  simp [execJournalRead]

@[simp] theorem execRegwrite_leavesQueue (peer : Nat) (msg : List Byte) (s : State) : LeavesQueue s (execRegwrite peer msg s) := by
  simp [execRegwrite]

@[simp] theorem execFieldclr_leavesQueue (peer : Nat) (msg : List Byte) (s : State) : LeavesQueue s (execFieldclr peer msg s) := by
  unfold execFieldclr
  dsimp only
  rw [leavesQueue_next]
  exact State.serve_commands _ _ _ _ _ _ _ fun t x => by simp

@[simp] theorem execImageBegin_leavesQueue (peer : Nat) (msg : List Byte) (s : State) :
    LeavesQueue s (execImageBegin peer msg s) := by
  unfold execImageBegin
  dsimp only
  rw [leavesQueue_next]
  exact State.serve_commands _ _ _ _ _ _ _ fun t x => by simp

@[simp] theorem execImageChunk_leavesQueue (peer : Nat) (msg : List Byte) (s : State) :
    LeavesQueue s (execImageChunk peer msg s) := by
  unfold execImageChunk
  dsimp only
  rw [leavesQueue_next]
  exact State.serve_commands _ _ _ _ _ _ _ fun t x => by simp

@[simp] theorem execImageEnd_leavesQueue (peer : Nat) (msg : List Byte) (s : State) : LeavesQueue s (execImageEnd peer msg s) := by
  simp [execImageEnd]

@[simp] theorem execActivate_leavesQueue (peer : Nat) (msg : List Byte) (s : State) : LeavesQueue s (execActivate peer msg s) := by
  unfold execActivate
  dsimp only
  rw [leavesQueue_next]
  exact State.serve_commands _ _ _ _ _ _ _ fun t x => by simp

@[simp] theorem execImageAbort_leavesQueue (peer : Nat) (msg : List Byte) (s : State) :
    LeavesQueue s (execImageAbort peer msg s) := by
  unfold execImageAbort
  rw [leavesQueue_next]
  exact State.serve_commands _ _ _ _ _ _ _ fun t x => by simp

@[simp] theorem execGovActivationStep_leavesQueue (s : State) : LeavesQueue s (execGovActivationStep s) := by
  unfold execGovActivationStep
  split <;> simp

@[simp] theorem execGovActivationTimeout_leavesQueue (s : State) : LeavesQueue s (execGovActivationTimeout s) := by
  unfold execGovActivationTimeout
  split <;> simp

@[simp] theorem execStewardRestart_leavesQueue (s : State) : LeavesQueue s (execStewardRestart s) := by
  unfold execStewardRestart
  split <;> simp

/-! ### All commands -/

/-- The meaning that each arm names leaves the queue alone. -/
theorem exec_leavesQueue (i : Instr) (s : State) : LeavesQueue s (exec i s) := by
  cases i <;> simp [exec]

/-- Settles O55, by cases on the command. -/
theorem everyCommandCompletes : Obligations.EveryCommandCompletes :=
  fun i s => (leavesQueue_iff s _).mp (exec_leavesQueue i s)

end Sys2Proof.Machine
end

section
/-! SUPPORT. The bytes of memory: one lemma for each operation that gives a state, in the order of the model's files, each from the lemmas
of the operations that it calls. An operation that stores nothing leaves the bytes as they are (`_cells`); one that may store, or that
clears, keeps the canonical form (`_canonical`). -/

namespace Sys2Proof.Machine

/-! ### The bytes of memory -/

/-- The bytes that memory lists, under a name of their own: the lemmas about them are equations that simp composes, where a chain of the
lemmas about `mem`, which hold by `rfl`, would have the kernel evaluate what was written into the states. -/
def State.cells (s : State) : SMap (BitVec 8) := s.mem.cells

/-- A record update that does not name `mem` leaves the bytes of memory alone. -/
@[simp] theorem State.mk_cells (x : State) (pending resp out free regs pairs tmb cvn tiles metering gova govb ost ports frt mst cores ic eth
    events prf thm boot rst fcl sec journal) :
    (State.mk pending resp out free regs pairs x.mem tmb cvn tiles metering gova govb ost ports frt mst cores ic eth events prf thm boot
      rst fcl sec journal).cells = x.cells := by
  unfold State.cells
  rfl

/-- A record update of the marks of memory's lines leaves the bytes alone. -/
@[simp] theorem State.mk_marks_cells (x : State) (poison latent scrubbed pending resp out free regs pairs tmb cvn tiles metering gova govb
    ost ports frt mst cores ic eth events prf thm boot rst fcl sec journal) :
    (State.mk pending resp out free regs pairs (Memory.mk x.mem.cells poison latent scrubbed) tmb cvn tiles metering gova govb ost ports
      frt mst cores ic eth events prf thm boot rst fcl sec journal).cells = x.cells := by
  unfold State.cells
  rfl

theorem State.mk_mem_cells (mem : Memory) (pending resp out free regs pairs tmb cvn tiles metering gova govb ost ports frt mst cores ic eth
    events prf thm boot rst fcl sec journal) :
    (State.mk pending resp out free regs pairs mem tmb cvn tiles metering gova govb ost ports frt mst cores ic eth events prf thm boot
      rst fcl sec journal).cells = mem.cells := by
  unfold State.cells
  rfl

/-- The canonical form of a list of bytes. -/
def Canonical (m : SMap (BitVec 8)) : Prop := SMap.wf (fun _ => 0#8) m = true

@[simp] theorem canonical_ite {c : Prop} [Decidable c] (a b : SMap (BitVec 8)) :
    Canonical (if c then a else b) ↔ if c then Canonical a else Canonical b := by split <;> rfl

/-- A fold keeps the canonical form when each of its steps does. -/
@[simp] theorem canonical_foldl {α : Type} (f : State → α → State) (l : List α) (s : State)
    (hf : ∀ t a, Canonical t.cells → Canonical (f t a).cells) (h : Canonical s.cells) : Canonical (l.foldl f s).cells :=
  foldl_keeps (fun t => Canonical t.cells) f hf l s h

@[simp] theorem canonical_nil : Canonical [] := rfl

@[simp] theorem cells_ite {c : Prop} [Decidable c] (a b : State) : (if c then a else b).cells = if c then a.cells else b.cells := by
  split <;> rfl

/-- A fold leaves the bytes alone when each of its steps does. -/
@[simp] theorem cells_foldl {α : Type} (f : State → α → State) (l : List α) (s : State)
    (h : ∀ t a, (f t a).cells = t.cells) : (l.foldl f s).cells = s.cells :=
  foldl_keeps (fun t => t.cells = s.cells) f (fun t a ht => (h t a).trans ht) l s rfl

/-- An operation that also answers a value leaves the bytes alone. -/
def CellsKept {β : Type} (s : State) (r : State × β) : Prop := r.1.cells = s.cells

/-- A further read, with whether any so far met poison. -/
theorem CellsKept.check {s : State} {p r : State × Bool} (h : CellsKept s p) (hr : r.1.cells = p.1.cells) :
    CellsKept s (r.1, p.2 || r.2) :=
  hr.trans h

/-! ### Ops -/

@[simp] theorem State.wr_cells (s : State) (r : Reg) (i v : Nat) : (s.wr r i v).cells = s.cells := by simp [State.wr]

@[simp] theorem State.sf_cells (s : State) (f : Fld) (i v : Nat) : (s.sf f i v).cells = s.cells := by simp [State.sf]

@[simp] theorem State.bump_cells (s : State) (r : Reg) (i n : Nat) : (s.bump r i n).cells = s.cells := by simp [State.bump]

@[simp] theorem State.bumpF_cells (s : State) (f : Fld) (i : Nat) : (s.bumpF f i).cells = s.cells := by simp [State.bumpF]

@[simp] theorem State.setPair_cells (s : State) (lo hi : Reg) (i v : Nat) : (s.setPair lo hi i v).cells = s.cells := by simp [State.setPair]

@[simp] theorem State.err_cells (s : State) (b : Block) (st : Status) : (s.err b st).cells = s.cells := by
  unfold State.err
  repeat' split
  all_goals simp

@[simp] theorem State.answer_cells (s : State) (st : Status) (v : Nat) : (s.answer st v).cells = s.cells := by simp [State.answer]

@[simp] theorem State.take_cells (s : State) : s.take.cells = s.cells := by simp [State.take]

@[simp] theorem State.send_cells (s : State) (o : Out) : (s.send o).cells = s.cells := by simp [State.send]

@[simp] theorem State.setTile_cells (s : State) (t : Nat) (x : Tile) : (s.setTile t x).cells = s.cells := by simp [State.setTile]

@[simp] theorem State.setSlot_cells (s : State) (i : Nat) (x : Slot) : (s.setSlot i x).cells = s.cells := by simp [State.setSlot]

@[simp] theorem State.setPort_cells (s : State) (i : Nat) (x : Port) : (s.setPort i x).cells = s.cells := by simp [State.setPort]

@[simp] theorem State.setCore_cells (s : State) (i : Nat) (x : Core) : (s.setCore i x).cells = s.cells := by simp [State.setCore]

@[simp] theorem State.setGov_cells (s : State) (gb : Bool) (x : Gov) : (s.setGov gb x).cells = s.cells := by simp [State.setGov]

@[simp] theorem State.setMeter_cells (s : State) (mb : Bool) (x : Meter) : (s.setMeter mb x).cells = s.cells := by simp [State.setMeter]

@[simp] theorem State.raise_cells (s : State) (line index : Nat) (st : Status) : (s.raise line index st).cells = s.cells := by
  simp [State.raise]

@[simp] theorem State.sealViolation_cells (s : State) (b : Block) (key : Nat) : (s.sealViolation b key).cells = s.cells := by
  unfold State.sealViolation
  split <;> simp

@[simp] theorem State.prfEvent_cells (s : State) (b : Nat) : (s.prfEvent b).cells = s.cells := by simp [State.prfEvent]

@[simp] theorem State.blkAdd_cells (s : State) (j n : Nat) : (s.blkAdd j n).cells = s.cells := by simp [State.blkAdd]

@[simp] theorem State.blockEvent_cells (s : State) (ev idx n : Nat) : (s.blockEvent ev idx n).cells = s.cells := by simp [State.blockEvent]

@[simp] theorem State.readReg_cells (s : State) (rq : Requester) (r : Reg) (i live liveHi : Nat) :
    (s.readReg rq r i live liveHi).cells = s.cells := by
  unfold State.readReg
  dsimp only
  repeat' split
  all_goals simp

@[simp] theorem State.capture_cells (s : State) (rq : Requester) (r : Reg) (i v : Nat) : (s.capture rq r i v).cells = s.cells := by
  simp [State.capture]

@[simp] theorem State.errAt_cells (s : State) (r : Reg) (i : Nat) (st : Status) : (s.errAt r i st).cells = s.cells := by
  unfold State.errAt
  split <;> simp

@[simp] theorem State.writeWord_cells (s : State) (rq : Requester) (isSealed legal : Bool) (r : Reg) (i v : Nat) :
    (s.writeWord rq isSealed legal r i v).cells = s.cells := by simp [State.writeWord]

@[simp] theorem State.writeUnlessBusy_cells (s : State) (rq : Requester) (legal busy : Bool) (r : Reg) (i v : Nat) :
    (s.writeUnlessBusy rq legal busy r i v).cells = s.cells := by simp [State.writeUnlessBusy]

@[simp] theorem State.dropHeld_cells (s : State) (rq : Requester) (k : Nat) : (s.dropHeld rq k).cells = s.cells := by simp [State.dropHeld]

@[simp] theorem State.holdLow_cells (s : State) (rq : Requester) (lo : Reg) (i v : Nat) : (s.holdLow rq lo i v).cells = s.cells := by
  simp [State.holdLow]

@[simp] theorem State.writeHigh_cells (s : State) (rq : Requester) (legal : Bool) (lo hi : Reg) (i v : Nat) :
    (s.writeHigh rq legal lo hi i v).cells = s.cells := by simp [State.writeHigh]

/-! ### MemOps -/

@[simp] theorem State.storeBytes_canonical (s : State) (a : Nat) (bs : List Byte) (h : Canonical s.cells) :
    Canonical (s.storeBytes a bs).cells :=
  storeBytes_keeps s a bs h

@[simp] theorem State.setPoison_cells (s : State) (line : Nat) (p : Bool) : (s.setPoison line p).cells = s.cells := by
  simp [State.setPoison]

@[simp] theorem State.dropLatent_cells (s : State) (line : Nat) : (s.dropLatent line).cells = s.cells := by simp [State.dropLatent]

@[simp] theorem State.countCe_cells (s : State) (a : Nat) : (s.countCe a).cells = s.cells := by
  unfold State.countCe
  split <;> simp

@[simp] theorem State.errlog_cells (s : State) (a q src : Nat) : (s.errlog a q src).cells = s.cells := by simp [State.errlog]

@[simp] theorem State.countUe_cells (s : State) (a src : Nat) : (s.countUe a src).cells = s.cells := by
  unfold State.countUe
  split <;> simp

@[simp] theorem State.checkLine_cells (s : State) (line src : Nat) : (s.checkLine line src).1.cells = s.cells := by
  unfold State.checkLine
  dsimp only
  repeat' split
  all_goals simp

@[simp] theorem State.checkLines_cells (s : State) (line src n : Nat) : (s.checkLines line src n).1.cells = s.cells := by
  induction n generalizing s line with
  | zero => rfl
  | succ n ih => exact (ih _ _).trans (State.checkLine_cells ..)

@[simp] theorem State.readMem_cells (s : State) (a n src : Nat) : (s.readMem a n src).1.cells = s.cells := by simp [State.readMem]

@[simp] theorem State.writeMem_canonical (s : State) (a : Nat) (bs : List Byte) (marked : Bool) (src : Nat) (h : Canonical s.cells) :
    Canonical (s.writeMem a bs marked src).cells :=
  writeMem_keeps s a bs marked src h

/-! ### CounterOps -/

@[simp] theorem State.tcAdd_cells (s : State) (t k n : Nat) : (s.tcAdd t k n).cells = s.cells := by simp [State.tcAdd]

@[simp] theorem State.tileEvent_cells (s : State) (t ev n : Nat) : (s.tileEvent t ev n).cells = s.cells := by simp [State.tileEvent]

@[simp] theorem State.bwBytes_cells (s : State) (i n : Nat) : (s.bwBytes i n).cells = s.cells := by simp [State.bwBytes]

@[simp] theorem State.setOutGen_cells (s : State) (t : Nat) (x : OutGen) : (s.setOutGen t x).cells = s.cells := by simp [State.setOutGen]

@[simp] theorem State.outriderIssue_cells (s : State) (t cls opc : Nat) : (s.outriderIssue t cls opc).cells = s.cells := by
  unfold State.outriderIssue
  dsimp only
  repeat' split
  all_goals simp

@[simp] theorem State.outriderFlag_cells (s : State) (t b : Nat) : (s.outriderFlag t b).cells = s.cells := by
  unfold State.outriderFlag
  dsimp only
  repeat' split
  all_goals simp

/-! ### CoreOps -/

@[simp] theorem State.setXreg_cells (s : State) (c n v : Nat) : (s.setXreg c n v).cells = s.cells := by simp [State.setXreg]

@[simp] theorem State.coreException_cells (s : State) (c cause tval : Nat) : (s.coreException c cause tval).cells = s.cells := by
  simp [State.coreException]

@[simp] theorem State.cvnResult_cells (s : State) (c rd : Nat) (st : Status) (fields : Nat) :
    (s.cvnResult c rd st fields).cells = s.cells := by simp [State.cvnResult]

/-! ### CvnOps -/

@[simp] theorem State.cvnEvent_cells (s : State) (i b : Nat) : (s.cvnEvent i b).cells = s.cells := by simp [State.cvnEvent]

@[simp] theorem State.endWaits_cells (s : State) (i : Nat) (go : CvnWait → Bool) (st : Status) (fields : Nat) :
    (s.endWaits i go st fields).cells = s.cells := by
  unfold State.endWaits
  refine cells_foldl _ _ _ fun t a => ?_
  repeat' split
  all_goals simp

@[simp] theorem State.wakeWaiters_cells (s : State) (i : Nat) : (s.wakeWaiters i).cells = s.cells := by simp [State.wakeWaiters]

@[simp] theorem State.writeCompletion_canonical (s : State) (i : Nat) (c : Completion) (h : Canonical s.cells) :
    Canonical (s.writeCompletion i c).cells := by simp [State.writeCompletion, h]

@[simp] theorem State.retireDone_cells (s : State) (t : Nat) : (s.retireDone t).cells = s.cells := by simp [State.retireDone]

@[simp] theorem State.complete_canonical (s : State) (i : Nat) (c : Completion) (h : Canonical s.cells) :
    Canonical (s.complete i c).cells := by
  unfold State.complete
  split <;> simp [h]

@[simp] theorem State.stopTile_cells (s : State) (t : Nat) (st : TileState) : (s.stopTile t st).cells = s.cells := by simp [State.stopTile]

@[simp] theorem State.stopStations_cells (s : State) (i : Nat) : (s.stopStations i).cells = s.cells := by simp [State.stopStations]

@[simp] theorem State.removeBales_cells (s : State) (i : Nat) : (s.removeBales i).cells = s.cells := by simp [State.removeBales]

@[simp] theorem State.countAborted_cells (s : State) (i n : Nat) : (s.countAborted i n).cells = s.cells := by simp [State.countAborted]

@[simp] theorem State.faultSlot_cells (s : State) (i station : Nat) (st : Status) : (s.faultSlot i station st).cells = s.cells := by
  unfold State.faultSlot
  dsimp only
  repeat' split
  all_goals simp

@[simp] theorem State.fenceStation_cells (s : State) (t : Nat) : (s.fenceStation t).cells = s.cells := by
  unfold State.fenceStation
  split <;> simp

/-! ### Operands -/

@[simp] theorem State.latch_cells (s : State) (t b : Nat) : (s.latch t b).cells = s.cells := by simp [State.latch]

/-! ### TileOps -/

@[simp] theorem State.tileException_cells (s : State) (t : Nat) (e : Exc) : (s.tileException t e).cells = s.cells := by
  unfold State.tileException
  split <;> simp

@[simp] theorem State.retireTo_cells (s : State) (t pc : Nat) : (s.retireTo t pc).cells = s.cells := by simp [State.retireTo]

@[simp] theorem State.retire_cells (s : State) (t : Nat) : (s.retire t).cells = s.cells := by simp [State.retire]

@[simp] theorem State.setFlags_cells (s : State) (t fl : Nat) : (s.setFlags t fl).cells = s.cells := by simp [State.setFlags]

@[simp] theorem State.poisonSeen_cells (s : State) (t : Nat) (p : Bool) : (s.poisonSeen t p).cells = s.cells := by
  unfold State.poisonSeen
  dsimp only
  repeat' split
  all_goals simp

@[simp] theorem State.finishG_cells (s : State) (t : Nat) (a : BitVec 5) (v : Nat) : (s.finishG t a v).cells = s.cells := by
  simp [State.finishG]

@[simp] theorem State.block_cells (s : State) (t : Nat) (w : TileWait) : (s.block t w).cells = s.cells := by simp [State.block]

@[simp] theorem State.setTimer_cells (s : State) (t v : Nat) : (s.setTimer t v).cells = s.cells := by simp [State.setTimer]

@[simp] theorem State.setNote_cells (s : State) (t v : Nat) : (s.setNote t v).cells = s.cells := by simp [State.setNote]

@[simp] theorem State.seedHi_cells (s : State) (rq : Requester) (t v : Nat) : (s.seedHi rq t v).cells = s.cells := by simp [State.seedHi]

@[simp] theorem State.tileRegWrite_cells (s : State) (rq : Requester) (r : Reg) (i v : Nat) :
    (s.tileRegWrite rq r i v).cells = s.cells := by
  unfold State.tileRegWrite
  split <;> simp

@[simp] theorem State.writeBuffer_canonical (s : State) (t : Nat) (p : Posted) (b : Bale) (h : Canonical s.cells) :
    Canonical (s.writeBuffer t p b).cells :=
  writeBuffer_keeps s t p b h

@[simp] theorem State.fillBuffers_canonical (n : Nat) (s : State) (t : Nat) (h : Canonical s.cells) :
    Canonical (State.fillBuffers n s t).cells := by
  induction n generalizing s with
  | zero => exact h
  | succ n ih =>
    unfold State.fillBuffers
    dsimp only
    split
    · split
      · split
        · exact ih _ (by simp [h])
        · exact h
      · exact h
    · exact h

@[simp] theorem State.takeBale_canonical (s : State) (t : Nat) (a : BitVec 5) (h : Canonical s.cells) :
    Canonical (s.takeBale t a).cells := by
  unfold State.takeBale
  dsimp only
  repeat' split
  all_goals simp [h]

@[simp] theorem State.doRetire_canonical (s : State) (t : Nat) (h : Canonical s.cells) : Canonical (s.doRetire t).cells := by
  unfold State.doRetire
  split <;> simp [h]

@[simp] theorem State.release_canonical (s : State) (t : Nat) (h : Canonical s.cells) : Canonical (s.release t).cells := by
  unfold State.release
  dsimp only
  repeat' split
  all_goals simp [h]

@[simp] theorem State.startTile_cells (s : State) (t : Nat) : (s.startTile t).cells = s.cells := by simp [State.startTile]

/-! ### FrtOps -/

@[simp] theorem State.deriveTopo_cells (s : State) : s.deriveTopo.cells = s.cells := by simp [State.deriveTopo]

@[simp] theorem State.transmit_cells (s : State) (p : Nat) (bs : List Byte) : (s.transmit p bs).cells = s.cells := by simp [State.transmit]

@[simp] theorem State.toPort_cells (s : State) (p : Nat) (bs : List Byte) : (s.toPort p bs).cells = s.cells := by simp [State.toPort]

@[simp] theorem State.unblock_cells (s : State) (p n : Nat) : (s.unblock p n).cells = s.cells := by
  induction n generalizing s with
  | zero => rfl
  | succ n ih =>
    unfold State.unblock
    dsimp only
    split
    · rfl
    · split
      · rfl
      · rw [ih, State.transmit_cells, State.setPort_cells]

@[simp] theorem State.forward_cells (s : State) (f : Frame) (inc : Nat) (escape : Bool) : (s.forward f inc escape).1.cells = s.cells := by
  unfold State.forward
  dsimp only
  repeat' split
  all_goals simp

@[simp] theorem State.routerWrite_canonical (s : State) (a : Nat) (bs : List Byte) (h : Canonical s.cells) :
    Canonical (s.routerWrite a bs).cells := by simp [State.routerWrite, h]

@[simp] theorem State.noteTile_cells (s : State) (t v : Nat) : (s.noteTile t v).cells = s.cells := by simp [State.noteTile]

@[simp] theorem State.deliverRq_canonical (s : State) (f : Frame) (h : Canonical s.cells) : Canonical (s.deliverRq f).1.cells := by
  refine State.deliverRq_cases s f (fun r => Canonical r.1.cells) (fun _ => h) ?_ ?_
  · simp [h]
  · intro q st b
    split <;> simp [h]

@[simp] theorem State.arrive_canonical (s : State) (f : Frame) (h : Canonical s.cells) : Canonical (s.arrive f).1.cells := by
  unfold State.arrive
  dsimp only
  repeat' split
  all_goals simp [h]

@[simp] theorem State.countLoss_cells (s : State) (st : Status) : (s.countLoss st).cells = s.cells := by
  unfold State.countLoss
  split <;> simp

@[simp] theorem State.notify_canonical (s : State) (f : Frame) (st : Status) (mask : Nat) (h : Canonical s.cells) :
    Canonical (s.notify f st mask).cells := by
  unfold State.notify
  dsimp only
  split
  · exact h
  · split
    · simp [h]
    · have hf := State.forward_cells (s.bump .FRT_NOTICES) (s.noticeFor f st mask) 1 false
      split <;> simp_all

@[simp] theorem State.deliver_canonical (s : State) (f : Frame) (h : Canonical s.cells) : Canonical (s.deliver f).cells := by
  unfold State.deliver
  have ha := State.arrive_canonical s f h
  split <;> simp_all

@[simp] theorem State.replicate_canonical (s : State) (f : Frame) (h : Canonical s.cells) : Canonical (s.replicate f).cells := by
  unfold State.replicate
  refine canonical_foldl _ _ _ (fun a d ha => ?_) h
  dsimp only
  generalize hf : a.forward _ 1 false = r
  have hr : r.1.cells = a.cells := hf ▸ State.forward_cells ..
  split <;> simp_all

@[simp] theorem State.route_canonical (s : State) (f : Frame) (inc : Nat) (escape : Bool) (h : Canonical s.cells) :
    Canonical (s.route f inc escape).cells := by
  unfold State.route
  extract_lets +onlyGivenNames g
  split
  · split <;> simp [h]
  · have hf := State.forward_cells s g inc escape
    split <;> simp_all

@[simp] theorem State.inject_canonical (s : State) (f : Frame) (rnd : Nat) (escape : Bool) (h : Canonical s.cells) :
    Canonical (s.inject f rnd escape).cells := by simp [State.inject, h]

@[simp] theorem State.handBackFrame_canonical (s : State) (bs : List Byte) (h : Canonical s.cells) :
    Canonical (s.handBackFrame bs).cells := by simp [State.handBackFrame, h]

@[simp] theorem State.handBack_canonical (s : State) (p : Nat) (h : Canonical s.cells) : Canonical (s.handBack p).cells := by
  unfold State.handBack
  refine canonical_foldl _ _ _ (fun t bs ht => by simp [ht]) (canonical_foldl _ _ _ (fun t f ht => by simp [ht]) ?_)
  rw [State.setPort_cells]
  exact h

/-! ### CoreMemory -/

@[simp] theorem State.flipLine_cells (s : State) (line : Nat) (flip : Option Ecc) : (s.flipLine line flip).cells = s.cells := by
  unfold State.flipLine
  split <;> simp

@[simp] theorem State.accessFault_cells (s : State) (rq : Requester) (store : Bool) (addr : Nat) :
    (s.accessFault rq store addr).cells = s.cells := by
  unfold State.accessFault
  split <;> simp

@[simp] theorem State.countCore_cells (s : State) (rq : Requester) (ev : Nat) : (s.countCore rq ev).cells = s.cells := by
  unfold State.countCore
  split <;> simp

@[simp] theorem State.memFault_cells (s : State) (c : Nat) (k : MemAccess) (addr : Nat) : (s.memFault c k addr).cells = s.cells := by
  simp [State.memFault]

@[simp] theorem State.stackChannels_cells (s : State) (k a b : Nat) : (s.stackChannels k a b).cells = s.cells := by
  simp [State.stackChannels]

@[simp] theorem State.selfRefresh_cells (s : State) : s.selfRefresh.cells = s.cells := by simp [State.selfRefresh]

@[simp] theorem State.wakeStack_cells (s : State) (k : Nat) : (s.wakeStack k).cells = s.cells := by simp [State.wakeStack]

/-! ### JournalOps -/

@[simp] theorem State.putHash_cells (s : State) (r : Reg) (h : List Byte) : (s.putHash r h).cells = s.cells := by simp [State.putHash]

@[simp] theorem State.journalRoom_cells (s : State) : s.journalRoom.cells = s.cells := by simp [State.journalRoom]

@[simp] theorem State.log_cells (s : State) (e : Entry) : (s.log e).cells = s.cells := by simp [State.log]

@[simp] theorem State.audit_cells (s : State) (e : Entry) : (s.audit e).cells = s.cells := by simp [State.audit]

@[simp] theorem State.takeLock_cells (s : State) (x : Session) : (s.takeLock x).cells = s.cells := by simp [State.takeLock]

@[simp] theorem State.releaseLock_cells (s : State) (role : Role) (actor : List Byte) (cause : Nat) :
    (s.releaseLock role actor cause).cells = s.cells := by simp [State.releaseLock]

@[simp] theorem State.endActivation_cells (s : State) (a : Activation) (st : Status) : (s.endActivation a st).cells = s.cells := by
  simp [State.endActivation]

/-! ### RegOps -/

@[simp] theorem State.noWay_cells (s : State) (rq : Requester) (store : Bool) (addr : Nat) : (s.noWay rq store addr).cells = s.cells := by
  simp [State.noWay]

@[simp] theorem State.holdWrite_cells (s : State) (rq : Requester) (key : Nat) (v : BitVec 32) :
    (s.holdWrite rq key v).cells = s.cells := by simp [State.holdWrite]

@[simp] theorem State.logged_cells (s : State) (rq : Requester) (r : Reg) (i : Nat) (a : State) : (s.logged rq r i a).cells = a.cells := by
  unfold State.logged
  split
  · split <;> simp
  · rfl

/-- A write of a register keeps the canonical form when its effect does. -/
@[simp] theorem State.regWrite_canonical (s : State) (rq : Requester) (r : Reg) (i v : Nat) (act : State → State) (h : Canonical s.cells)
    (hact : Canonical (act s).cells) : Canonical (s.regWrite rq r i v act).cells := by
  unfold State.regWrite
  split
  · exact h
  · split
    · simp [h]
    · split
      · simp [h]
      · split
        · simp [h]
        · rw [State.logged_cells]
          exact hact

@[simp] theorem State.tileReg_cells (s : State) (rq : Requester) (t addr : Nat) (store : Bool) (act : State → State)
    (hact : ∀ t, (act t).cells = t.cells) : (s.tileReg rq t addr store act).cells = s.cells := by
  unfold State.tileReg
  split
  · rfl
  · dsimp only
    split <;> simp [hact]

@[simp] theorem State.regRead_cells (s : State) (rq : Requester) (r : Reg) (i : Nat) (act : State → State)
    (hact : ∀ t, (act t).cells = t.cells) : (s.regRead rq r i act).cells = s.cells := by
  unfold State.regRead
  split
  · rfl
  · split <;> simp [hact]

/-! ### MeterOps -/

@[simp] theorem State.noteSync_cells (s : State) (before : Nat) : (s.noteSync before).cells = s.cells := by simp [State.noteSync]

@[simp] theorem State.closeReading_cells (s : State) (mb : Bool) (endT : Nat) : (s.closeReading mb endT).cells = s.cells := by
  simp [State.closeReading]

@[simp] theorem State.snapshot_cells (s : State) (mb : Bool) (sec : Nat) : (s.snapshot mb sec).cells = s.cells := by simp [State.snapshot]

@[simp] theorem State.failMeter_cells (s : State) (mb : Bool) : (s.failMeter mb).cells = s.cells := by
  unfold State.failMeter
  dsimp only
  repeat' split
  all_goals simp

@[simp] theorem State.endAcc_cells (s : State) (st : Status) : (s.endAcc st).cells = s.cells := by
  unfold State.endAcc
  split <;> simp

@[simp] theorem State.crossCheck_cells (s : State) : s.crossCheck.cells = s.cells := by simp [State.crossCheck]

@[simp] theorem State.updateK_cells (s : State) (mb : Bool) : (s.updateK mb).cells = s.cells := by simp [State.updateK]

@[simp] theorem State.newWindow_cells (s : State) (mb : Bool) : (s.newWindow mb).cells = s.cells := by simp [State.newWindow]

@[simp] theorem State.coreTimers_cells (s : State) : s.coreTimers.cells = s.cells := by simp [State.coreTimers]

@[simp] theorem State.tileTimers_cells (s : State) (old : Nat) : (s.tileTimers old).cells = s.cells := by simp [State.tileTimers]

@[simp] theorem State.stepPtime_cells (s : State) (delta : Nat) : (s.stepPtime delta).cells = s.cells := by
  unfold State.stepPtime
  dsimp only
  repeat' split
  all_goals simp

/-! ### GovOps -/

@[simp] theorem State.setGl_cells (s : State) (gb : Bool) (x : GovLink) : (s.setGl gb x).cells = s.cells := by simp [State.setGl]

@[simp] theorem State.setGovSt_cells (s : State) (gb : Bool) (v : Nat) : (s.setGovSt gb v).cells = s.cells := by simp [State.setGovSt]

@[simp] theorem State.setMode_cells (s : State) (gb : Bool) (m : Nat) : (s.setMode gb m).cells = s.cells := by simp [State.setMode]

@[simp] theorem State.refreshGov_cells (s : State) (gb : Bool) : (s.refreshGov gb).cells = s.cells := by simp [State.refreshGov]

@[simp] theorem State.applyOut_cells (s : State) (out : Nat) : (s.applyOut out).cells = s.cells := by simp [State.applyOut]

@[simp] theorem State.ostCommand_cells (s : State) (gb : Bool) (out : Nat) : (s.ostCommand gb out).cells = s.cells := by
  simp [State.ostCommand]

@[simp] theorem State.takeControl_cells (s : State) (gb : Bool) (cause : Nat) : (s.takeControl gb cause).cells = s.cells := by
  simp [State.takeControl]

@[simp] theorem State.dropMakeweight_cells (s : State) : s.dropMakeweight.cells = s.cells := by simp [State.dropMakeweight]

@[simp] theorem State.placeBurn_cells (s : State) (gb : Bool) (n : Nat) : (s.placeBurn gb n).cells = s.cells := by simp [State.placeBurn]

@[simp] theorem State.holdUp_cells (s : State) (gb : Bool) : (s.holdUp gb).cells = s.cells := by
  unfold State.holdUp
  simp only [State.sf_cells]
  refine foldl_keeps (fun p => p.1.cells = s.cells) _ (fun p e h => ?_) _ (s, 0) rfl
  split
  · exact h
  · split <;> simp [h]

@[simp] theorem State.nextGating_cells (s : State) (gb floor : Bool) : (s.nextGating gb floor).cells = s.cells := by
  unfold State.nextGating
  dsimp only
  repeat' split
  all_goals simp

@[simp] theorem State.allocate_cells (s : State) (gb : Bool) (d p : Int) : (s.allocate gb d p).cells = s.cells := by simp [State.allocate]

@[simp] theorem State.tolls_cells (s : State) (common : Nat) : (s.tolls common).cells = s.cells := by
  unfold State.tolls
  refine cells_foldl _ _ _ fun t a => ?_
  dsimp only
  split <;> simp

@[simp] theorem State.floorMode_cells (s : State) (gb : Bool) (b : Int) : (s.floorMode gb b).cells = s.cells := by simp [State.floorMode]

@[simp] theorem State.period_cells (s : State) (gb : Bool) : (s.period gb).cells = s.cells := by simp [State.period]

/-! ### EthOps -/

@[simp] theorem State.setEthPort_cells (s : State) (k : Nat) (x : EthPort) : (s.setEthPort k x).cells = s.cells := by
  simp [State.setEthPort]

@[simp] theorem State.setQp_cells (s : State) (q : Nat) (x : Qp) : (s.setQp q x).cells = s.cells := by simp [State.setQp]

@[simp] theorem State.ethEvent_cells (s : State) (k b : Nat) : (s.ethEvent k b).cells = s.cells := by simp [State.ethEvent]

@[simp] theorem State.netEvent_cells (s : State) (n b : Nat) : (s.netEvent n b).cells = s.cells := by simp [State.netEvent]

@[simp] theorem State.announce_cells (s : State) (n type : Nat) : (s.announce n type).cells = s.cells := by simp [State.announce]

@[simp] theorem State.announceAll_cells (s : State) (type : Nat) : (s.announceAll type).cells = s.cells := by simp [State.announceAll]

@[simp] theorem State.leaveMember_cells (s : State) (k lacp : Nat) : (s.leaveMember k lacp).cells = s.cells := by simp [State.leaveMember]

@[simp] theorem State.ethDown_cells (s : State) (k : Nat) (st : Status) : (s.ethDown k st).cells = s.cells := by simp [State.ethDown]

@[simp] theorem State.ethSent_cells (s : State) (k len : Nat) : (s.ethSent k len).cells = s.cells := by simp [State.ethSent]

@[simp] theorem State.sendRdma_cells (s : State) (q psn : Nat) (op : RdmaOp) : (s.sendRdma q psn op).cells = s.cells := by
  unfold State.sendRdma
  dsimp only
  repeat' split
  all_goals simp

@[simp] theorem State.finishEntry_canonical (s : State) (q idx : Nat) (st : Status) (h : Canonical s.cells) :
    Canonical (s.finishEntry q idx st).cells := by simp [State.finishEntry, h]

@[simp] theorem State.fenceEntries_canonical (s : State) (q : Nat) (ws : List WorkOut) (h : Canonical s.cells) :
    Canonical (s.fenceEntries q ws).cells := by simp +contextual [State.fenceEntries, h]

@[simp] theorem State.drainEntries_canonical (ws : List WorkOut) (s : State) (q : Nat) (h : Canonical s.cells) :
    Canonical (State.drainEntries ws s q).cells := by
  induction ws generalizing s with
  | nil => simp [State.drainEntries, h]
  | cons w ws ih =>
    unfold State.drainEntries
    dsimp only
    split
    · simp [h]
    · split
      · exact ih _ (by simp [h])
      · simp [h]

@[simp] theorem State.concludeEntries_canonical (s : State) (q : Nat) (p : WorkOut → Bool) (st : Status) (h : Canonical s.cells) :
    Canonical (s.concludeEntries q p st).cells := by simp [State.concludeEntries, h]

@[simp] theorem State.resendAll_cells (s : State) (q : Nat) : (s.resendAll q).cells = s.cells := by
  unfold State.resendAll
  refine cells_foldl _ _ _ fun t a => ?_
  repeat' split
  all_goals simp

@[simp] theorem State.migrate_cells (s : State) (q : Nat) : (s.migrate q).cells = s.cells := by simp [State.migrate]

@[simp] theorem State.fillRecv_canonical (s : State) (q : Nat) (place : Bool) (data : List Byte) (imm : Option (BitVec 32))
    (h : Canonical s.cells) : Canonical (s.fillRecv q place data imm).1.cells := by
  unfold State.fillRecv
  dsimp only
  split
  · exact h
  · dsimp only
    refine State.writeMem_canonical _ _ _ _ _ ?_
    rw [State.setQp_cells]
    refine State.writeMem_canonical _ _ _ _ _ ?_
    split <;> simp [h]

@[simp] theorem State.toRaw_canonical (s : State) (n : Nat) (frame : List Byte) (h : Canonical s.cells) :
    Canonical (s.toRaw n frame).cells := by simp [State.toRaw, h]

@[simp] theorem State.putHost_canonical (s : State) (n i serial : Nat) (addr : List Byte) (t : Nat) (h : Canonical s.cells) :
    Canonical (s.putHost n i serial addr t).cells := by simp [State.putHost, h]

@[simp] theorem State.hostMsg_canonical (s : State) (n : Nat) (m : List Byte) (h : Canonical s.cells) :
    Canonical (s.hostMsg n m).cells := by
  unfold State.hostMsg
  dsimp only
  repeat' split
  all_goals simp [h]

/-! ### MusterOps -/

@[simp] theorem State.setMg_cells (s : State) (i : Nat) (x : MgSlot) : (s.setMg i x).cells = s.cells := by simp [State.setMg]

@[simp] theorem State.sendMuster_canonical (s : State) (i kind : Nat) (m : MusterMsg) (dst : Option Nat) (h : Canonical s.cells) :
    Canonical (s.sendMuster i kind m dst).cells := by
  unfold State.sendMuster
  repeat' split
  all_goals simp [h]

@[simp] theorem State.writeLine1_canonical (s : State) (i iseq : Nat) (h : Canonical s.cells) : Canonical (s.writeLine1 i iseq).cells := by
  simp [State.writeLine1, h]

@[simp] theorem State.badWord_cells (s : State) (i old w : Nat) : (s.badWord i old w).cells = s.cells := by simp [State.badWord]

@[simp] theorem State.readLine0_cells (s : State) (i : Nat) : (s.readLine0 i).cells = s.cells := by simp [State.readLine0]

@[simp] theorem State.setPhase_canonical (s : State) (i ph : Nat) (h : Canonical s.cells) :
    Canonical (s.setPhase i ph).cells := by simp [State.setPhase, h]

@[simp] theorem State.mgFault_cells (s : State) (i st coord : Nat) : (s.mgFault i st coord).cells = s.cells := by simp [State.mgFault]

@[simp] theorem State.endMuster_canonical (s : State) (i outcome fault : Nat) (h : Canonical s.cells) :
    Canonical (s.endMuster i outcome fault).cells := by simp [State.endMuster, h]

@[simp] theorem State.decideMuster_canonical (s : State) (i st fault : Nat) (h : Canonical s.cells) :
    Canonical (s.decideMuster i st fault).cells := by simp [State.decideMuster, h]

@[simp] theorem State.askAbort_canonical (s : State) (i st : Nat) (h : Canonical s.cells) :
    Canonical (s.askAbort i st).cells := by simp [State.askAbort, h]

@[simp] theorem State.enter_canonical (s : State) (i : Nat) (h : Canonical s.cells) :
    Canonical (s.enter i).cells := by simp [State.enter, h]

/-- What a slot does next, if anything, keeps the canonical form. -/
def CanonicalIfAny (o : Option State) : Prop := ∀ t, o = some t → Canonical t.cells

theorem CanonicalIfAny.nothing : CanonicalIfAny none := fun _ h => absurd h (by simp)

theorem CanonicalIfAny.just {t : State} (h : Canonical t.cells) : CanonicalIfAny (some t) := fun _ hu => Option.some.inj hu ▸ h

theorem CanonicalIfAny.ite {c : Prop} [Decidable c] {a b : Option State} (ha : CanonicalIfAny a) (hb : CanonicalIfAny b) :
    CanonicalIfAny (if c then a else b) := by
  split
  · exact ha
  · exact hb

theorem State.mgNext_canonical (s : State) (i : Nat) (h : Canonical s.cells) : CanonicalIfAny (s.mgNext i) := by
  unfold State.mgNext
  extract_lets +onlyGivenNames x cur ph lead up
  clear_value x cur ph lead up
  refine .ite .nothing (.ite ?_ ?_)
  · refine .ite (.just (by simp [h])) (.ite ?_ (.ite (.just (by simp [h])) (.ite ?_ ?_)))
    · split
      · exact .just (by simp [h])
      · exact .nothing
    · split
      · exact .just (by simp [h])
      · exact .nothing
    · split
      · refine .ite (.ite (.just (by simp [h])) .nothing) (.ite ?_ (.ite (.just (by simp [h])) .nothing))
        exact .just (by simp [h])
      · exact .ite (.ite (.just (by simp [h])) .nothing) (.ite (.just (by simp [h])) .nothing)
      · exact .ite (.ite (.just (by simp [h])) .nothing) (.ite (.just (by simp [h])) (.ite (.just (by simp [h])) .nothing))
      · exact .ite (.just (by simp [h])) .nothing
      · exact .ite (.ite (.just (by simp [h])) .nothing) (.ite (.just (by simp [h])) .nothing)
  · split
    · exact .ite .nothing (.just (by simp [h]))
    · exact .ite (.just (by simp [h])) .nothing

@[simp] theorem State.mgRun_canonical (n : Nat) (s : State) (i : Nat) (h : Canonical s.cells) : Canonical (State.mgRun n s i).cells := by
  induction n generalizing s with
  | zero => exact h
  | succ n ih =>
    unfold State.mgRun
    split
    · next s1 h1 => exact ih s1 (State.mgNext_canonical s i h s1 h1)
    · exact h

@[simp] theorem State.mgSettle_canonical (s : State) (i : Nat) (h : Canonical s.cells) :
    Canonical (s.mgSettle i).cells := by simp [State.mgSettle, h]

@[simp] theorem State.stray_cells (s : State) : s.stray.cells = s.cells := by simp [State.stray]

@[simp] theorem State.hold_cells (s : State) (i kind : Nat) (m : MusterMsg) : (s.hold i kind m).cells = s.cells := by simp [State.hold]

@[simp] theorem State.slotFrame_canonical (s : State) (i kind : Nat) (m : MusterMsg) (h : Canonical s.cells) :
    Canonical (s.slotFrame i kind m).cells := by
  unfold State.slotFrame
  repeat' split
  all_goals simp [h]

@[simp] theorem State.musterMsg_canonical (s : State) (kind : Nat) (m : MusterMsg) (h : Canonical s.cells) :
    Canonical (s.musterMsg kind m).cells := by
  unfold State.musterMsg
  split <;> simp [h]

@[simp] theorem State.slotNotice_canonical (s : State) (i : Nat) (n : MusterNotice) (h : Canonical s.cells) :
    Canonical (s.slotNotice i n).cells := by simp [State.slotNotice, h]

@[simp] theorem State.musterNotice_canonical (s : State) (n : MusterNotice) (h : Canonical s.cells) : Canonical (s.musterNotice n).cells :=
  canonical_foldl _ _ _ (fun t i ht => by simp [ht]) h

@[simp] theorem State.mstFrame_canonical (s : State) (f : Frame) (h : Canonical s.cells) :
    Canonical (s.mstFrame f).cells := by simp [State.mstFrame, h]

@[simp] theorem State.mstRun_canonical (n : Nat) (s : State) (h : Canonical s.cells) : Canonical (State.mstRun n s).cells := by
  induction n generalizing s with
  | zero => exact h
  | succ n ih =>
    unfold State.mstRun
    split
    · exact h
    · exact ih _ (by simp [h])

@[simp] theorem State.settleMst_canonical (s : State) (h : Canonical s.cells) : Canonical s.settleMst.cells := by simp [State.settleMst, h]

@[simp] theorem State.abortMusters_canonical (s : State) (h : Canonical s.cells) : Canonical s.abortMusters.cells := by
  unfold State.abortMusters
  refine State.settleMst_canonical _ (canonical_foldl _ _ _ (fun t i ht => ?_) h)
  split <;> simp [ht]

/-! ### LinkOps -/

@[simp] theorem State.setPst_cells (s : State) (p : Nat) (st : PortState) : (s.setPst p st).cells = s.cells := by
  unfold State.setPst
  split <;> simp

@[simp] theorem State.portEvent_cells (s : State) (p b : Nat) : (s.portEvent p b).cells = s.cells := by simp [State.portEvent]

@[simp] theorem State.leaveDims_cells (s : State) (p : Nat) : (s.leaveDims p).cells = s.cells := by simp [State.leaveDims]

@[simp] theorem State.sendLink_cells (s : State) (p type : Nat) : (s.sendLink p type).cells = s.cells := by simp [State.sendLink]

@[simp] theorem State.depart_canonical (s : State) (p : Nat) (next : PortState) (reason : Nat) (line : Bool) (h : Canonical s.cells) :
    Canonical (s.depart p next reason line).cells := by simp [State.depart, h]

@[simp] theorem State.arriveUp_cells (s : State) (p : Nat) : (s.arriveUp p).cells = s.cells := by simp [State.arriveUp]

@[simp] theorem State.takeOver_cells (s : State) (p : Nat) : (s.takeOver p).cells = s.cells := by simp [State.takeOver]

@[simp] theorem State.leaveOff_cells (s : State) (p : Nat) : (s.leaveOff p).cells = s.cells := by simp [State.leaveOff]

@[simp] theorem State.leaveOffAll_cells (s : State) : s.leaveOffAll.cells = s.cells := by simp [State.leaveOffAll]

@[simp] theorem State.goOff_canonical (s : State) (p : Nat) (h : Canonical s.cells) :
    Canonical (s.goOff p).cells := by simp [State.goOff, h]

@[simp] theorem State.adminOff_canonical (s : State) (p : Nat) (toSeek : Bool) (h : Canonical s.cells) :
    Canonical (s.adminOff p toSeek).cells := by simp [State.adminOff, h]

@[simp] theorem State.startTraining_cells (s : State) (p : Nat) (full : Bool) : (s.startTraining p full).cells = s.cells := by
  simp [State.startTraining]

@[simp] theorem State.retrainFrom_canonical (s : State) (p reason : Nat) (full : Bool) (h : Canonical s.cells) :
    Canonical (s.retrainFrom p reason full).cells := by simp [State.retrainFrom, h]

@[simp] theorem State.showErrors_cells (s : State) (p : Nat) (errors : List Nat) (bits : Nat) :
    (s.showErrors p errors bits).cells = s.cells := by simp [State.showErrors]

@[simp] theorem State.exchangeDone_cells (s : State) (p : Nat) : (s.exchangeDone p).cells = s.cells := by
  unfold State.exchangeDone
  dsimp only
  repeat' split
  all_goals simp

@[simp] theorem State.tryDone_cells (s : State) (p : Nat) : (s.tryDone p).cells = s.cells := by simp [State.tryDone]

@[simp] theorem State.helloFails_canonical (s : State) (p : Nat) (st : Status) (h : Canonical s.cells) :
    Canonical (s.helloFails p st).cells := by simp [State.helloFails, h]

@[simp] theorem State.helloPasses_cells (s : State) (p : Nat) (m : List Byte) : (s.helloPasses p m).cells = s.cells := by
  simp [State.helloPasses]

@[simp] theorem State.newExchange_cells (s : State) (p : Nat) (re : Bool) : (s.newExchange p re).cells = s.cells := by
  simp [State.newExchange]

/-! ### Links -/

@[simp] theorem State.checkPasses_cells (s : State) (p rx tx : Nat) : (s.checkPasses p rx tx).cells = s.cells := by simp [State.checkPasses]

@[simp] theorem State.checkFails_cells (s : State) (p : Nat) : (s.checkFails p).cells = s.cells := by simp [State.checkFails]

@[simp] theorem State.applyWidth_cells (s : State) (p : Nat) : (s.applyWidth p).cells = s.cells := by
  unfold State.applyWidth
  dsimp only
  repeat' split
  all_goals simp

@[simp] theorem State.fptCtl_canonical (s : State) (rq : Requester) (p v : Nat) (h : Canonical s.cells) :
    Canonical (s.fptCtl rq p v).cells := by simp [State.fptCtl, h]

@[simp] theorem State.fptCtlWrite_canonical (s : State) (rq : Requester) (p v : Nat) (h : Canonical s.cells) :
    Canonical (s.fptCtlWrite rq p v).cells := by simp [State.fptCtlWrite, h]

@[simp] theorem State.fptMap_canonical (s : State) (rq : Requester) (p v : Nat) (h : Canonical s.cells) :
    Canonical (s.fptMap rq p v).cells := by simp [State.fptMap, h]

@[simp] theorem State.fptMapWrite_canonical (s : State) (rq : Requester) (p v : Nat) (h : Canonical s.cells) :
    Canonical (s.fptMapWrite rq p v).cells := by simp [State.fptMapWrite, h]

@[simp] theorem State.fptCoordWrite_cells (s : State) (rq : Requester) (v : Nat) : (s.fptCoordWrite rq v).cells = s.cells := by
  simp [State.fptCoordWrite]

@[simp] theorem State.fptTwistWrite_cells (s : State) (rq : Requester) (d v : Nat) : (s.fptTwistWrite rq d v).cells = s.cells := by
  simp [State.fptTwistWrite]

/-! ### Counters -/

@[simp] theorem State.prfLost_cells (s : State) (r : Reg) : (s.prfLost r).cells = s.cells := by simp [State.prfLost]

@[simp] theorem State.tally_canonical (s : State) (periodic : Bool) (h : Canonical s.cells) :
    Canonical (s.tally periodic).cells := by simp [State.tally, h]

@[simp] theorem State.tallyCtlWrite_canonical (s : State) (rq : Requester) (v : Nat) (h : Canonical s.cells) :
    Canonical (s.tallyCtlWrite rq v).cells := by simp [State.tallyCtlWrite, h]

@[simp] theorem State.bwctlWrite_cells (s : State) (rq : Requester) (v : Nat) : (s.bwctlWrite rq v).cells = s.cells := by
  simp [State.bwctlWrite]

@[simp] theorem State.outCtlWrite_cells (s : State) (rq : Requester) (v : Nat) : (s.outCtlWrite rq v).cells = s.cells := by
  simp [State.outCtlWrite]

@[simp] theorem State.prfBaseWrite_cells (s : State) (rq : Requester) (lo hi : Reg) (on : Bool) (slot order v : Nat) :
    (s.prfBaseWrite rq lo hi on slot order v).cells = s.cells := by
  unfold State.prfBaseWrite
  dsimp only
  repeat' split
  all_goals simp

@[simp] theorem State.prfWrite_canonical (s : State) (rq : Requester) (r : Reg) (i v : Nat) (h : Canonical s.cells) :
    Canonical (s.prfWrite rq r i v).cells := by
  unfold State.prfWrite
  split <;> simp [h]

/-! ### IcOps -/

@[simp] theorem State.notePww_cells (s : State) : s.notePww.cells = s.cells := by simp [State.notePww]

@[simp] theorem State.breakWait_cells (s : State) (c : Nat) : (s.breakWait c).cells = s.cells := by
  unfold State.breakWait
  split <;> simp

@[simp] theorem State.coreSettle_cells (s : State) (c : Nat) : (s.coreSettle c).cells = s.cells := by
  unfold State.coreSettle
  dsimp only
  repeat' split
  all_goals simp

@[simp] theorem State.icCore_cells (s : State) (c : Nat) : (s.icCore c).cells = s.cells := by simp [State.icCore]

@[simp] theorem State.icSettle_cells (s : State) : s.icSettle.cells = s.cells := by simp [State.icSettle]

@[simp] theorem State.coreTimer_cells (s : State) (c : Nat) : (s.coreTimer c).cells = s.cells := by simp [State.coreTimer]

/-! ### BudgetOps -/

@[simp] theorem State.acceptSeq_cells (s : State) (gb : Bool) (m : List Byte) : (s.acceptSeq gb m).cells = s.cells := by
  simp [State.acceptSeq]

@[simp] theorem State.acceptBudget_cells (s : State) (gb : Bool) (m : List Byte) : (s.acceptBudget gb m).cells = s.cells := by
  simp [State.acceptBudget]

@[simp] theorem State.acceptGrid_cells (s : State) (gb : Bool) (m : List Byte) : (s.acceptGrid gb m).cells = s.cells := by
  simp [State.acceptGrid]

@[simp] theorem State.coolantExpired_cells (s : State) : s.coolantExpired.cells = s.cells := by simp [State.coolantExpired]

@[simp] theorem State.acceptCoolant_cells (s : State) (m : List Byte) : (s.acceptCoolant m).cells = s.cells := by simp [State.acceptCoolant]

@[simp] theorem State.ack_cells (s : State) (gb : Bool) (peer : Nat) (m : List Byte) (st : Status) (effT es : Nat) :
    (s.ack gb peer m st effT es).cells = s.cells := by simp [State.ack]

@[simp] theorem State.govMessage_cells (s : State) (gb : Bool) (peer : Nat) (m : List Byte) : (s.govMessage gb peer m).cells = s.cells := by
  unfold State.govMessage
  dsimp only
  repeat' split
  all_goals simp

@[simp] theorem State.message_cells (s : State) (peer : Nat) (m : List Byte) : (s.message peer m).cells = s.cells := by simp [State.message]

@[simp] theorem State.report_cells (s : State) : s.report.cells = s.cells := by
  unfold State.report
  split <;> simp

@[simp] theorem State.newGovWindow_cells (s : State) (gb : Bool) : (s.newGovWindow gb).cells = s.cells := by simp [State.newGovWindow]

/-! ### Metering -/

@[simp] theorem State.captureSnap_cells (s : State) (rq : Requester) (i : Nat) (pww : Bool) : (s.captureSnap rq i pww).cells = s.cells := by
  simp [State.captureSnap]

@[simp] theorem State.snapSeqRead_cells (s : State) (rq : Requester) (i : Nat) (pww : Bool) : (s.snapSeqRead rq i pww).cells = s.cells := by
  simp [State.snapSeqRead]

@[simp] theorem State.powerRead_cells (s : State) (rq : Requester) (i : Nat) : (s.powerRead rq i).cells = s.cells := by
  simp [State.powerRead]

@[simp] theorem State.saveElife_cells (s : State) : s.saveElife.cells = s.cells := by simp [State.saveElife]

@[simp] theorem State.cvnPower_cells (s : State) : s.cvnPower.cells = s.cells := by simp [State.cvnPower]

@[simp] theorem State.accCtlWrite_cells (s : State) (rq : Requester) (v : Nat) : (s.accCtlWrite rq v).cells = s.cells := by
  unfold State.accCtlWrite
  dsimp only
  split
  · split
    · split <;> simp
    · simp
    · simp
  · simp

/-! ### PowerOps -/

@[simp] theorem State.faultPin_cells (s : State) : s.faultPin.cells = s.cells := by simp [State.faultPin]

@[simp] theorem State.pulse_cells (s : State) : s.pulse.cells = s.cells := by simp [State.pulse]

/-- With the rails off memory lists nothing. -/
@[simp] theorem State.railsOff_cells (s : State) : s.railsOff.cells = [] := by
  unfold State.railsOff
  dsimp only
  rw [State.mk_mem_cells]

@[simp] theorem State.vauxOff_cells (s : State) : s.vauxOff.cells = s.cells := by simp [State.vauxOff]

@[simp] theorem State.logCause_cells (s : State) (event cause : Nat) (st : Status) : (s.logCause event cause st).cells = s.cells := by
  simp [State.logCause]

@[simp] theorem State.orderedShutdown_canonical (s : State) (cause : Nat) (h : Canonical s.cells) :
    Canonical (s.orderedShutdown cause).cells := by simp [State.orderedShutdown, h]

@[simp] theorem State.thermalTrip_canonical (s : State) (sensor : Nat) (h : Canonical s.cells) :
    Canonical (s.thermalTrip sensor).cells := by
  unfold State.thermalTrip
  dsimp only
  split
  · exact h
  · split
    · rw [State.vauxOff_cells, State.railsOff_cells]
      exact canonical_nil
    · rw [State.logCause_cells, State.saveElife_cells, State.railsOff_cells]
      exact canonical_nil

/-- A cold reset leaves memory with nothing listed. -/
@[simp] theorem State.cold_cells (s : State) : s.cold.cells = [] := by simp [State.cold, State.mk_mem_cells]

@[simp] theorem State.beginStart_cells (s : State) (retried : Bool) : (s.beginStart retried).cells = [] := by simp [State.beginStart]

/-! ### RstOps -/

@[simp] theorem State.rstEvent_cells (s : State) (b : Nat) : (s.rstEvent b).cells = s.cells := by simp [State.rstEvent]

@[simp] theorem State.setDom_cells (s : State) (l i st : Nat) : (s.setDom l i st).cells = s.cells := by simp [State.setDom]

@[simp] theorem State.setDomStatus_cells (s : State) (l i : Nat) (st : Status) : (s.setDomStatus l i st).cells = s.cells := by
  simp [State.setDomStatus]

@[simp] theorem State.setDomCause_cells (s : State) (l i kind : Nat) : (s.setDomCause l i kind).cells = s.cells := by
  simp [State.setDomCause]

@[simp] theorem State.setStuck_cells (s : State) (l i : Nat) : (s.setStuck l i).cells = s.cells := by simp [State.setStuck]

@[simp] theorem State.putHrec_cells (s : State) (b : List Byte) : (s.putHrec b).cells = s.cells := by simp [State.putHrec]

@[simp] theorem State.writeHang_canonical (s : State) (b : List Byte) (h : Canonical s.cells) : Canonical (s.writeHang b).1.cells := by
  unfold State.writeHang
  dsimp only
  repeat' split
  all_goals simp [h]

@[simp] theorem State.reviseHang_canonical (s : State) (old new : List Byte) (place : Option Nat) (h : Canonical s.cells) :
    Canonical (s.reviseHang old new place).cells := by
  unfold State.reviseHang
  repeat' split
  all_goals simp [h]

@[simp] theorem State.noteHang_canonical (s : State) (kind l action i : Nat) (addr : optParam (Option Nat) none) (h : Canonical s.cells) :
    Canonical (s.noteHang kind l action i addr).cells := by simp [State.noteHang, h]

@[simp] theorem State.stopCore_cells (s : State) (c : Nat) : (s.stopCore c).cells = s.cells := by simp [State.stopCore]

@[simp] theorem State.closeFence_cells (s : State) (l i : Nat) : (s.closeFence l i).cells = s.cells := by simp [State.closeFence]

@[simp] theorem State.setCode_cells (s : State) (t code : Nat) : (s.setCode t code).cells = s.cells := by simp [State.setCode]

@[simp] theorem State.countTiles_cells (s : State) : s.countTiles.cells = s.cells := by simp [State.countTiles]

@[simp] theorem State.markRuntime_cells (s : State) (t : Nat) : (s.markRuntime t).cells = s.cells := by simp [State.markRuntime]

@[simp] theorem State.holdDomain_cells (s : State) (l i : Nat) : (s.holdDomain l i).cells = s.cells := by simp [State.holdDomain]

@[simp] theorem State.preparePackage_canonical (s : State) (kind : Nat) (h : Canonical s.cells) :
    Canonical (s.preparePackage kind).cells := by simp [State.preparePackage, h]

@[simp] theorem State.packageReset_canonical (s : State) (kind : Nat) (h : Canonical s.cells) : Canonical (s.packageReset kind).cells := by
  simp [State.packageReset, h]

@[simp] theorem State.powerCycle_cells (s : State) : s.powerCycle.cells = s.cells := by simp [State.powerCycle]

@[simp] theorem State.countEscalation_cells (s : State) (l : Nat) : (s.countEscalation l).cells = s.cells := by simp [State.countEscalation]

@[simp] theorem State.escalateHeld_canonical (s : State) (l i : Nat) (h : Canonical s.cells) : Canonical (s.escalateHeld l i).cells := by
  simp [State.escalateHeld, h]

@[simp] theorem State.escalatePackage_canonical (s : State) (h : Canonical s.cells) :
    Canonical s.escalatePackage.cells := by simp [State.escalatePackage, h]

@[simp] theorem State.mergeInner_canonical (s : State) (l i : Nat) (h : Canonical s.cells) : Canonical (s.mergeInner l i).cells := by
  unfold State.mergeInner
  dsimp only
  repeat' split
  all_goals simp [h]

@[simp] theorem State.startReset_canonical (s : State) (l i kind : Nat) (record : List Byte) (place : Option Nat)
    (h : Canonical s.cells) : Canonical (s.startReset l i kind record place).cells := by simp +contextual [State.startReset, h]

@[simp] theorem State.beginReset_canonical (s : State) (l i kind : Nat) (addr : Option Nat) (h : Canonical s.cells) :
    Canonical (s.beginReset l i kind addr).cells := by simp [State.beginReset, h]

@[simp] theorem State.requestWith_canonical (s : State) (up : State → State) (l i kind : Nat) (addr : Option Nat)
    (hup : ∀ t, Canonical t.cells → Canonical (up t).cells) (h : Canonical s.cells) :
    Canonical (s.requestWith up l i kind addr).cells := by
  unfold State.requestWith
  split
  · simp [h]
  · split
    · simp [h]
    · split
      · refine hup _ ?_
        split <;> simp [h]
      · simp [h]

@[simp] theorem State.resetPart_canonical (s : State) (i kind : Nat) (addr : Option Nat) (h : Canonical s.cells) :
    Canonical (s.resetPart i kind addr).cells := by simp +contextual [State.resetPart, h]

@[simp] theorem State.escalateCluster_canonical (s : State) (i : Nat) (h : Canonical s.cells) : Canonical (s.escalateCluster i).cells := by
  simp [State.escalateCluster, h]

@[simp] theorem State.requestReset_canonical (s : State) (l i kind : Nat) (addr : optParam (Option Nat) none)
    (h : Canonical s.cells) : Canonical (s.requestReset l i kind addr).cells := by
  unfold State.requestReset
  split <;> simp +contextual [h]

@[simp] theorem State.startQueued_canonical (s : State) (h : Canonical s.cells) : Canonical s.startQueued.cells := by
  unfold State.startQueued
  refine canonical_foldl _ _ _ (fun t q ht => ?_) h
  dsimp only
  split <;> simp [ht]

@[simp] theorem State.salvageTile_canonical (s : State) (t state : Nat) (h : Canonical s.cells) :
    Canonical (s.salvageTile t state).1.cells := by
  unfold State.salvageTile
  dsimp only
  split
  · exact h
  · split
    · simp [h]
    · simp +contextual [h]

@[simp] theorem State.salvage_canonical (s : State) (states : SMap Nat) (h : Canonical s.cells) : Canonical (s.salvage states).1.cells := by
  unfold State.salvage
  exact foldl_keeps (fun r : State × Option Nat => Canonical r.1.cells) _
    (fun r e hr => State.salvageTile_canonical r.1 e.1 e.2 hr) _ (s, none) h

@[simp] theorem State.clearStore_canonical (s : State) (t : Nat) (h : Canonical s.cells) : Canonical (s.clearStore t).cells :=
  clearStore_keeps s t h

@[simp] theorem State.clearTileRegs_cells (s : State) (t : Nat) : (s.clearTileRegs t).cells = s.cells := by simp [State.clearTileRegs]

@[simp] theorem State.resetTile_cells (s : State) (t : Nat) : (s.resetTile t).cells = s.cells := by simp [State.resetTile]

@[simp] theorem State.resetCore_cells (s : State) (c : Nat) : (s.resetCore c).cells = s.cells := by simp [State.resetCore]

/-! ### Caravans -/

@[simp] theorem State.admitOne_canonical (s : State) (i : Nat) (timeout : Bool) (h : Canonical s.cells) :
    Canonical (s.admitOne i timeout).cells := by
  unfold State.admitOne
  dsimp only
  repeat' split
  all_goals simp [h]

@[simp] theorem State.admitMany_canonical (s : State) (i n : Nat) (h : Canonical s.cells) : Canonical (s.admitMany i n).cells := by
  induction n generalizing s with
  | zero => exact h
  | succ n ih =>
    unfold State.admitMany
    split
    · exact h
    · exact ih _ (by simp [h])

@[simp] theorem State.release0_canonical (s : State) (i : Nat) (c : Cadence) (now : Nat) (h : Canonical s.cells) :
    Canonical (s.release0 i c now).cells := by simp [State.release0, h]

@[simp] theorem State.firstRelease_canonical (s : State) (i : Nat) (c : Cadence) (now : Nat) (h : Canonical s.cells) :
    Canonical (s.firstRelease i c now).cells := by simp [State.firstRelease, h]

@[simp] theorem State.resetFanout_cells (s : State) (t : Nat) : (s.resetFanout t).cells = s.cells := by simp [State.resetFanout]

@[simp] theorem State.takeTile_cells (s : State) (i : Nat) (xs : List Station) (k : Nat) (x : Station) :
    (s.takeTile i xs k x).cells = s.cells := by simp [State.takeTile]

@[simp] theorem State.fillSlot_cells (s : State) (i : Nat) (h : Header) (xs : List Station) : (s.fillSlot i h xs).cells = s.cells := by
  simp [State.fillSlot]

@[simp] theorem State.startStations_cells (s : State) (i : Nat) : (s.startStations i).cells = s.cells := by simp [State.startStations]

@[simp] theorem State.enterRunning_canonical (s : State) (i : Nat) (h : Canonical s.cells) : Canonical (s.enterRunning i).cells := by
  unfold State.enterRunning
  dsimp only
  repeat' split
  all_goals simp [h]

@[simp] theorem State.abortSlot_cells (s : State) (i : Nat) : (s.abortSlot i).cells = s.cells := by simp [State.abortSlot]

@[simp] theorem State.releaseTiles_cells (s : State) (i : Nat) : (s.releaseTiles i).cells = s.cells := by simp [State.releaseTiles]

@[simp] theorem State.loadPrograms_canonical (s : State) (l : List (Station × Nat)) (h : Canonical s.cells) :
    Canonical (s.loadPrograms l).1.cells :=
  loadPrograms_keeps s l h

@[simp] theorem State.ringRdWrite_cells (s : State) (rq : Requester) (i v : Nat) : (s.ringRdWrite rq i v).cells = s.cells := by
  simp [State.ringRdWrite]

@[simp] theorem State.threshWrite_cells (s : State) (rq : Requester) (i v : Nat) : (s.threshWrite rq i v).cells = s.cells := by
  simp [State.threshWrite]

@[simp] theorem State.foWrite_cells (s : State) (rq : Requester) (r : Reg) (i t v : Nat) : (s.foWrite rq r i t v).cells = s.cells := by
  unfold State.foWrite
  split <;> simp

/-! ### CheckUnits -/

@[simp] theorem State.setCvuRun_cells (s : State) (u v : Nat) : (s.setCvuRun u v).cells = s.cells := by simp [State.setCvuRun]

@[simp] theorem State.cvuFeed_cells (s : State) (u : Nat) (bs : List Byte) : (s.cvuFeed u bs).cells = s.cells := by simp [State.cvuFeed]

@[simp] theorem State.cvuGuard_cells (s : State) (rq : Requester) (u : Nat) (event : Bool) (go : State → State)
    (hgo : ∀ t, (go t).cells = t.cells) : (s.cvuGuard rq u event go).cells = s.cells := by
  unfold State.cvuGuard
  split
  · exact hgo s
  · simp

@[simp] theorem State.cvuInit_cells (s : State) (u : Nat) : (s.cvuInit u).cells = s.cells := by
  unfold State.cvuInit
  split <;> simp

@[simp] theorem State.cvuDone_cells (s : State) (u : Nat) (st : Status) (n : Nat) : (s.cvuDone u st n).cells = s.cells := by
  simp [State.cvuDone]

@[simp] theorem State.cvuScan_cells (s : State) (rq : Requester) (u : Nat) (init : Bool) : (s.cvuScan rq u init).cells = s.cells := by
  unfold State.cvuScan
  split <;> simp

@[simp] theorem State.cvuCmd_cells (s : State) (rq : Requester) (u v : Nat) : (s.cvuCmd rq u v).cells = s.cells := by simp [State.cvuCmd]

@[simp] theorem State.scanLines_cells (u src len : Nat) (quiet : Option Nat) (n k : Nat) (s : State) (fed : Nat) :
    (State.scanLines u src len quiet n k s fed).1.cells = s.cells := by
  induction n generalizing k s fed with
  | zero => rfl
  | succ n ih =>
    unfold State.scanLines
    dsimp only
    split
    · rfl
    · split
      · rfl
      · split
        · exact State.readMem_cells ..
        · rw [ih, State.cvuFeed_cells, State.readMem_cells]

@[simp] theorem State.endScan_cells (s : State) (u : Nat) (quiet : Option Nat) : (s.endScan u quiet).cells = s.cells := by
  simp [State.endScan]

@[simp] theorem State.cvuFeedWrite_cells (s : State) (rq : Requester) (r : Reg) (u n v : Nat) :
    (s.cvuFeedWrite rq r u n v).cells = s.cells := by simp [State.cvuFeedWrite]

@[simp] theorem State.cvuRunWrite_cells (s : State) (rq : Requester) (u v : Nat) : (s.cvuRunWrite rq u v).cells = s.cells := by
  simp [State.cvuRunWrite]

@[simp] theorem State.cvuWrite_cells (s : State) (rq : Requester) (r : Reg) (u v : Nat) : (s.cvuWrite rq r u v).cells = s.cells := by
  unfold State.cvuWrite
  split <;> simp

/-! ### Ethernet -/

@[simp] theorem State.ethPctlWrite_cells (s : State) (rq : Requester) (k v : Nat) : (s.ethPctlWrite rq k v).cells = s.cells := by
  simp [State.ethPctlWrite]

@[simp] theorem State.inSequence_canonical (s : State) (q n : Nat) (p : RdmaPkt) (act : State → State × RdmaOp × Bool)
    (hact : Canonical (act s).1.cells) (h : Canonical s.cells) : Canonical (s.inSequence q n p act).cells := by
  unfold State.inSequence
  dsimp only
  split
  · split <;> simp [hact]
  · split <;> simp [h]

@[simp] theorem State.rdmaRx_canonical (s : State) (q : Nat) (p : RdmaPkt) (h : Canonical s.cells) : Canonical (s.rdmaRx q p).cells := by
  unfold State.rdmaRx
  dsimp only
  split
  · refine State.inSequence_canonical _ _ _ _ _ ?_ h
    split
    · exact h
    · split <;> simp [h]
  · refine State.inSequence_canonical _ _ _ _ _ ?_ h
    split
    · split
      · simp [h]
      · split <;> simp [h]
    · exact h
  · split
    · split
      · split <;> simp [h]
      · simp [h]
    · simp [h]
  · simp [h]
  · split
    · exact State.concludeEntries_canonical _ _ _ _ (by simp [h])
    · exact h
  · split <;> simp [h]
  · simp [h]
  · split
    · simp [h]
    · split <;> simp [h]
  · exact h

@[simp] theorem State.pfcLevel_cells (s : State) (k prio held : Nat) : (s.pfcLevel k prio held).cells = s.cells := by simp [State.pfcLevel]

@[simp] theorem State.pausePrios_cells (s : State) (k mask quanta : Nat) : (s.pausePrios k mask quanta).cells = s.cells := by
  simp [State.pausePrios]

@[simp] theorem State.ethBody_canonical (s : State) (k : Nat) (b : EthBody) (h : Canonical s.cells) : Canonical (s.ethBody k b).cells := by
  unfold State.ethBody
  split <;> simp [h]

@[simp] theorem State.pushWork_canonical (s : State) (q : Nat) (w : WorkOut) (h : Canonical s.cells) :
    Canonical (s.pushWork q w).cells := by simp [State.pushWork, h]

@[simp] theorem State.rawEntry_canonical (s : State) (q k idx a len laddr : Nat) (h : Canonical s.cells) :
    Canonical (s.rawEntry q k idx a len laddr).cells := by
  unfold State.rawEntry
  dsimp only
  repeat' split
  all_goals simp [h]

@[simp] theorem State.rdmaEntry_canonical (s : State) (q idx : Nat) (e : List Byte) (h : Canonical s.cells) :
    Canonical (s.rdmaEntry q idx e).cells := by
  unfold State.rdmaEntry
  dsimp only
  repeat' split
  all_goals simp [h]

@[simp] theorem State.qpEnable_cells (s : State) (q : Nat) : (s.qpEnable q).1.cells = s.cells := by
  unfold State.qpEnable
  dsimp only
  repeat' split
  all_goals simp

@[simp] theorem State.qpDisable_canonical (s : State) (q : Nat) (h : Canonical s.cells) :
    Canonical (s.qpDisable q).cells := by simp [State.qpDisable, h]

@[simp] theorem State.qpMigrate_cells (s : State) (q : Nat) : (s.qpMigrate q).1.cells = s.cells := by
  unfold State.qpMigrate
  dsimp only
  repeat' split
  all_goals simp

@[simp] theorem State.qpCmd_canonical (s : State) (rq : Requester) (v : Nat) (h : Canonical s.cells) : Canonical (s.qpCmd rq v).cells := by
  unfold State.qpCmd
  dsimp only
  repeat' split
  all_goals simp [h]

/-! ### Pair -/

@[simp] theorem State.extendMeas_cells (s : State) (k : Nat) (digest : List Byte) : (s.extendMeas k digest).cells = s.cells := by
  simp [State.extendMeas]

@[simp] theorem State.resetGov_cells (s : State) (gb : Bool) : (s.resetGov gb).cells = s.cells := by
  unfold State.resetGov
  split <;> simp

@[simp] theorem State.failGov_cells (s : State) (a : Activation) : (s.failGov a).cells = s.cells := by simp [State.failGov]

@[simp] theorem State.afterSwitch_cells (s : State) (cause : Nat) : (s.afterSwitch cause).cells = s.cells := by
  unfold State.afterSwitch
  split <;> simp

@[simp] theorem State.switchOver_cells (s : State) (gb : Bool) (cause : Nat) : (s.switchOver gb cause).cells = s.cells := by
  simp [State.switchOver]

@[simp] theorem State.adopt_cells (s : State) (gb : Bool) (f : List Byte) : (s.adopt gb f).cells = s.cells := by simp [State.adopt]

@[simp] theorem State.compareFrames_cells (s : State) (gb : Bool) (f : List Byte) : (s.compareFrames gb f).cells = s.cells := by
  simp [State.compareFrames]

@[simp] theorem State.ostStatus_cells (s : State) (st : Status) : (s.ostStatus st).cells = s.cells := by simp [State.ostStatus]

@[simp] theorem State.swapCommand_cells (s : State) : s.swapCommand.cells = s.cells := by simp [State.swapCommand]

@[simp] theorem State.resetCommand_cells (s : State) (gb : Bool) : (s.resetCommand gb).cells = s.cells := by simp [State.resetCommand]

@[simp] theorem State.ostCmdWrite_cells (s : State) (v : Nat) : (s.ostCmdWrite v).cells = s.cells := by
  unfold State.ostCmdWrite
  split <;> simp

/-! ### FclOps -/

@[simp] theorem State.enterSafe_canonical (s : State) (line cls : Nat) (st : Status) (self : Bool) (h : Canonical s.cells) :
    Canonical (s.enterSafe line cls st self).cells := by
  have calm (a : State) (gb : Bool) : (if a.mode gb = 1 then a.setMode gb 0 else a).cells = a.cells := by split <;> simp
  unfold State.enterSafe
  dsimp only
  rw [State.announceAll_cells, State.log_cells, calm, calm]
  refine State.abortMusters_canonical _ ?_
  rw [State.endAcc_cells, cells_foldl _ _ _ fun a i => by split <;> simp, State.faultPin_cells, State.sf_cells, State.pulse_cells,
    State.setPair_cells, State.wr_cells]
  exact h

@[simp] theorem State.leaveSafe_cells (s : State) : s.leaveSafe.cells = s.cells := by simp [State.leaveSafe]

@[simp] theorem State.latchEvent_cells (s : State) (line index : Nat) (st : Status) (cls : Nat) :
    (s.latchEvent line index st cls).cells = s.cells := by simp [State.latchEvent]

@[simp] theorem State.classify_cells (s : State) (line : Nat) : (s.classify line).1.cells = s.cells := by
  unfold State.classify
  dsimp only
  repeat' split
  all_goals simp

@[simp] theorem State.recover_canonical (s : State) (line index : Nat) (h : Canonical s.cells) :
    Canonical (s.recover line index).cells := by
  unfold State.recover
  split <;> simp [h]

@[simp] theorem State.react_canonical (s : State) (line index cls : Nat) (st : Status) (level : Nat) (h : Canonical s.cells) :
    Canonical (s.react line index cls st level).cells := by simp [State.react, h]

@[simp] theorem State.safeExit_cells (s : State) (rq : Requester) : (s.safeExit rq).cells = s.cells := by
  unfold State.safeExit
  dsimp only
  repeat' split
  all_goals simp

@[simp] theorem State.fclTake_canonical (s : State) (e : LineEvent) (h : Canonical s.cells) :
    Canonical (s.fclTake e).cells := by simp [State.fclTake, h]

@[simp] theorem State.ownFault_canonical (s : State) (h : Canonical s.cells) : Canonical s.ownFault.cells := by simp [State.ownFault, h]

/-! ### Recovery -/

@[simp] theorem State.startCore_cells (s : State) (c pc : Nat) : (s.startCore c pc).cells = s.cells := by simp [State.startCore]

@[simp] theorem State.holdCmd_canonical (s : State) (l i : Nat) (h : Canonical s.cells) : Canonical (s.holdCmd l i).cells := by
  unfold State.holdCmd
  rw [State.holdDomain_cells]
  exact State.noteHang_canonical _ _ _ _ _ _ (canonical_foldl _ _ _ (fun t d ht => by simp [ht]) h)

@[simp] theorem State.rstRun_canonical (s : State) (l action i : Nat) (h : Canonical s.cells) : Canonical (s.rstRun l action i).cells := by
  unfold State.rstRun
  split <;> simp [h]

@[simp] theorem State.rstCmd_canonical (s : State) (rq : Requester) (v : Nat) (h : Canonical s.cells) :
    Canonical (s.rstCmd rq v).cells := by
  unfold State.rstCmd
  dsimp only
  repeat' split
  all_goals simp [h]

@[simp] theorem State.patchRecord_canonical (s : State) (l i o : Nat) (x : List Byte) (h : Canonical s.cells) :
    Canonical (s.patchRecord l i o x).cells := by
  unfold State.patchRecord
  split <;> simp [h]

@[simp] theorem State.endTest_canonical (s : State) (l i : Nat) (passed : Bool) (failed : List Nat) (h : Canonical s.cells) :
    Canonical (s.endTest l i passed failed).cells := by
  unfold State.endTest
  extract_lets +onlyGivenNames bad ok st s1 good s2 src s3 s4 s5 s6
  have h1 : Canonical s1.cells := by simp [s1, h]
  have h2 : Canonical s2.cells := canonical_foldl _ _ _ (fun t a ht => by simp [ht]) h1
  have h5 : Canonical s5.cells := canonical_foldl _ _ _ (fun t a ht => by simp [ht]) (by simp [s4, s3, h2])
  refine State.startQueued_canonical _ ?_
  simp only [s6]
  split
  · exact h5
  · split <;> simp [h5]

@[simp] theorem State.detect_canonical (s : State) (kind l i : Nat) (addr : Option Nat) (h : Canonical s.cells) :
    Canonical (s.detect kind l i addr).cells := by simp [State.detect, h]

@[simp] theorem State.stewardSafe_canonical (s : State) (h : Canonical s.cells) :
    Canonical s.stewardSafe.cells := by simp [State.stewardSafe, h]

@[simp] theorem State.endTimedOut_canonical (s : State) (addr : Nat) (req : TimedOut) (h : Canonical s.cells) :
    Canonical (s.endTimedOut addr req).cells := by
  unfold State.endTimedOut
  repeat' split
  all_goals simp [h]

/-! ### Faults -/

@[simp] theorem State.faultnWrite_cells (s : State) (rq : Requester) (isSealed : Bool) (v : Nat) :
    (s.faultnWrite rq isSealed v).cells = s.cells := by simp [State.faultnWrite]

/-! ### Interrupts -/

@[simp] theorem State.cacheError_cells (s : State) (c : Nat) (e : Ecc) : (s.cacheError c e).cells = s.cells := by
  unfold State.cacheError
  split <;> simp

@[simp] theorem State.icClaim_cells (s : State) (rq : Requester) (c : Nat) : (s.icClaim rq c).cells = s.cells := by
  unfold State.icClaim
  dsimp only
  repeat' split
  all_goals simp

@[simp] theorem State.icClaimWrite_cells (s : State) (rq : Requester) (c v : Nat) : (s.icClaimWrite rq c v).cells = s.cells := by
  simp [State.icClaimWrite]

@[simp] theorem State.icSvcWrite_cells (s : State) (rq : Requester) (c v : Nat) : (s.icSvcWrite rq c v).cells = s.cells := by
  simp [State.icSvcWrite]

@[simp] theorem State.vector_cells (s : State) (c n : Nat) : (s.vector c n).1.cells = s.cells := by
  unfold State.vector
  dsimp only
  repeat' split
  all_goals simp

/-! ### Vector -/

@[simp] theorem State.vectorWrite_cells (s : State) (t : Nat) (o : VOp) (srcPois : Bool) (f : Nat → Rounded) :
    (s.vectorWrite t o srcPois f).cells = s.cells := by simp [State.vectorWrite]

@[simp] theorem State.checkRanges_cells (s : State) (t : Nat) (rs : List (Nat × Nat)) : (s.checkRanges t rs).1.cells = s.cells := by
  change CellsKept s (s.checkRanges t rs)
  unfold State.checkRanges
  exact foldl_keeps (CellsKept s) _ (fun p l h => h.check (State.checkLine_cells p.1 (spadAddr t (l * 64) / 64) 4)) _ (s, false) rfl

@[simp] theorem State.loadLanes_cells (s : State) (t : Nat) (o : VOp) (f : Nat → Nat) : (s.loadLanes t o f).cells = s.cells := by
  simp [State.loadLanes]

@[simp] theorem State.storeLine_canonical (s : State) (t a : Nat) (vals : List (Option Nat)) (marked : Bool) (h : Canonical s.cells) :
    Canonical (s.storeLine t a vals marked).cells :=
  storeLine_keeps s t a vals marked h

/-! ### MatrixOps -/

@[simp] theorem State.checkAll_cells (s : State) (t : Nat) (rs : List (Nat × Nat)) : (s.checkAll t rs).1.cells = s.cells := by
  change CellsKept s (s.checkAll t rs)
  unfold State.checkAll
  exact foldl_keeps (CellsKept s) _ (fun p r h => h.check (State.checkLines_cells p.1 ..)) _ (s, false) rfl

@[simp] theorem State.runMac_cells (s : State) (t : Nat) (acc : Bool) (a b k fmt : Nat) (clr : Bool) (kind m : Nat) :
    (s.runMac t acc a b k fmt clr kind m).cells = s.cells := by simp [State.runMac]

@[simp] theorem State.runDrain_canonical (s : State) (t : Nat) (acc : Bool) (dst fmt : Nat) (stoch clr : Bool) (g : Nat)
    (h : Canonical s.cells) : Canonical (s.runDrain t acc dst fmt stoch clr g).cells := by simp [State.runDrain, h]

@[simp] theorem State.runLoad_cells (s : State) (t : Nat) (acc : Bool) (src : Nat) (fp : Bool) :
    (s.runLoad t acc src fp).cells = s.cells := by simp [State.runLoad]

@[simp] theorem State.runMx_canonical (s : State) (t : Nat) (x2 : MxOp) (h : Canonical s.cells) : Canonical (s.runMx t x2).cells := by
  unfold State.runMx
  split <;> simp [h]

/-! ### Matrix -/

@[simp] theorem State.queueMx_cells (s : State) (t : Nat) (op : MxOp) : (s.queueMx t op).cells = s.cells := by simp [State.queueMx]

/-! ### Movement -/

@[simp] theorem State.copyMove_canonical (s : State) (t : Nat) (m : Movement) (h : Canonical s.cells) :
    Canonical (s.copyMove t m).1.cells := by
  unfold State.copyMove
  split <;> simp [h]

/-! ### Musters -/

@[simp] theorem State.mgStart_cells (s : State) (i : Nat) : (s.mgStart i).cells = s.cells := by simp [State.mgStart]

@[simp] theorem State.mgStop_canonical (s : State) (i : Nat) (h : Canonical s.cells) :
    Canonical (s.mgStop i).cells := by simp [State.mgStop, h]

@[simp] theorem State.mgCtlWrite_canonical (s : State) (rq : Requester) (i v : Nat) (h : Canonical s.cells) :
    Canonical (s.mgCtlWrite rq i v).cells := by
  unfold State.mgCtlWrite
  dsimp only
  repeat' split
  all_goals simp [h]

@[simp] theorem State.lineWrite_canonical (s : State) (i off : Nat) (bs : Option (List Byte)) (h : Canonical s.cells) :
    Canonical (s.lineWrite i off bs).cells := by
  unfold State.lineWrite
  dsimp only
  split
  · exact h
  · refine State.settleMst_canonical _ (State.mgSettle_canonical _ _ ?_)
    split <;> simp [h]

/-! ### Power -/

@[simp] theorem State.supplyShutdown_canonical (s : State) (gb : Bool) (cause : Nat) (h : Canonical s.cells) :
    Canonical (s.supplyShutdown gb cause).cells := by simp [State.supplyShutdown, h]

/-! ### Routing -/

@[simp] theorem State.sqCtlWrite_cells (s : State) (rq : Requester) (q v : Nat) : (s.sqCtlWrite rq q v).cells = s.cells := by
  simp [State.sqCtlWrite]

@[simp] theorem State.sqSliceWrite_cells (s : State) (rq : Requester) (q v : Nat) : (s.sqSliceWrite rq q v).cells = s.cells := by
  simp [State.sqSliceWrite]

@[simp] theorem State.rqCtlWrite_cells (s : State) (rq : Requester) (q v : Nat) : (s.rqCtlWrite rq q v).cells = s.cells := by
  simp [State.rqCtlWrite]

@[simp] theorem State.police_cells (s : State) (f : Frame) : (s.police f).1.cells = s.cells := by
  unfold State.police
  repeat' split
  all_goals simp

@[simp] theorem State.sendDesc_canonical (s : State) (q : Nat) (d : List Byte) (rnd : Nat) (escape : Bool) (h : Canonical s.cells) :
    Canonical (s.sendDesc q d rnd escape).cells := by simp [State.sendDesc, h]

/-! ### WaybillPort -/

@[simp] theorem State.takeSlot_cells (s : State) (t seq k : Nat) : (s.takeSlot t seq k).1.cells = s.cells := by
  unfold State.takeSlot
  dsimp only
  repeat' split
  all_goals simp

@[simp] theorem State.sendLeft_cells (s : State) (t : Nat) : (s.sendLeft t).cells = s.cells := by
  unfold State.sendLeft
  dsimp only
  repeat' split
  all_goals simp

/-! ### TimeBase -/

@[simp] theorem State.todHiWrite_cells (s : State) (rq : Requester) (v : Nat) : (s.todHiWrite rq v).cells = s.cells := by
  simp [State.todHiWrite]

@[simp] theorem State.correctTo_cells (s : State) (ref : Nat) : (s.correctTo ref).cells = s.cells := by simp [State.correctTo]

@[simp] theorem State.firstTod_cells (s : State) (tod : Nat) : (s.firstTod tod).cells = s.cells := by simp [State.firstTod]

@[simp] theorem State.portOff_cells (s : State) (p : Nat) : (s.portOff p).cells = s.cells := by simp [State.portOff]

@[simp] theorem State.portsOff_canonical (s : State) (h : Canonical s.cells) : Canonical s.portsOff.cells := by
  simp +contextual [State.portsOff, h]

@[simp] theorem State.ethOff_cells (s : State) : s.ethOff.cells = s.cells := by simp [State.ethOff]

@[simp] theorem State.ethNegotiate_cells (s : State) : s.ethNegotiate.cells = s.cells := by simp [State.ethNegotiate]

/-! ### RegisterAccess -/

@[simp] theorem State.tmbStatusRead_cells (s : State) (rq : Requester) : (s.tmbStatusRead rq).cells = s.cells := by
  simp [State.tmbStatusRead]

@[simp] theorem State.pwwStateRead_cells (s : State) (rq : Requester) : (s.pwwStateRead rq).cells = s.cells := by simp [State.pwwStateRead]

@[simp] theorem State.chainRead_cells (s : State) (rq : Requester) (r : Reg) (i : Nat) (chained : Bool) :
    (s.chainRead rq r i chained).cells = s.cells := by simp [State.chainRead]

@[simp] theorem State.readOf_cells (s : State) (rq : Requester) (r : Reg) (i : Nat) : (s.readOf rq r i).cells = s.cells := by
  unfold State.readOf
  split <;> simp

@[simp] theorem State.readAt_cells (s : State) (rq : Requester) (addr size : Nat) : (s.readAt rq addr size).cells = s.cells := by
  unfold State.readAt
  dsimp only
  repeat' split
  all_goals simp

@[simp] theorem State.highUnlessBusy_cells (s : State) (rq : Requester) (legal : Nat → Bool) (busy : Bool) (lo hi : Reg) (i v : Nat) :
    (s.highUnlessBusy rq legal busy lo hi i v).cells = s.cells := by
  unfold State.highUnlessBusy
  dsimp only
  repeat' split
  all_goals simp

@[simp] theorem State.clsWrite_cells (s : State) (rq : Requester) (i v : Nat) : (s.clsWrite rq i v).cells = s.cells := by
  simp [State.clsWrite]

@[simp] theorem State.swiWrite_cells (s : State) (c v : Nat) (on : Bool) : (s.swiWrite c v on).cells = s.cells := by simp [State.swiWrite]

@[simp] theorem State.icWrite_cells (s : State) (rq : Requester) (r : Reg) (i v : Nat) : (s.icWrite rq r i v).cells = s.cells := by
  unfold State.icWrite
  split <;> simp

@[simp] theorem State.routeWrite_canonical (s : State) (rq : Requester) (r : Reg) (i v : Nat) (h : Canonical s.cells) :
    Canonical (s.routeWrite rq r i v).cells := by
  unfold State.routeWrite
  split <;> simp [h]

@[simp] theorem State.fptWrite_canonical (s : State) (rq : Requester) (r : Reg) (i v : Nat) (h : Canonical s.cells) :
    Canonical (s.fptWrite rq r i v).cells := by
  unfold State.fptWrite
  split <;> simp [h]

@[simp] theorem State.ethRefresh_cells (s : State) : s.ethRefresh.cells = s.cells := by simp [State.ethRefresh]

@[simp] theorem State.ethWrite_canonical (s : State) (rq : Requester) (r : Reg) (i v : Nat) (h : Canonical s.cells) :
    Canonical (s.ethWrite rq r i v).cells := by
  unfold State.ethWrite
  split <;> simp [h]

@[simp] theorem State.rstFclWrite_canonical (s : State) (rq : Requester) (r : Reg) (i v : Nat) (h : Canonical s.cells) :
    Canonical (s.rstFclWrite rq r i v).cells := by
  unfold State.rstFclWrite
  split <;> simp [h]

@[simp] theorem State.cvnWrite_cells (s : State) (rq : Requester) (r : Reg) (i v : Nat) : (s.cvnWrite rq r i v).cells = s.cells := by
  unfold State.cvnWrite
  split <;> simp

@[simp] theorem State.settleChannel_cells (s : State) : s.settleChannel.cells = s.cells := by simp [State.settleChannel]

@[simp] theorem State.plainWrite_cells (s : State) (rq : Requester) (r : Reg) (i v : Nat) : (s.plainWrite rq r i v).cells = s.cells := by
  unfold State.plainWrite
  split <;> simp

@[simp] theorem State.writeOf_canonical (s : State) (rq : Requester) (r : Reg) (i v : Nat) (h : Canonical s.cells) :
    Canonical (s.writeOf rq r i v).cells := by
  unfold State.writeOf
  split <;> simp [h]

@[simp] theorem State.writeAt_canonical (s : State) (rq : Requester) (addr size v : Nat) (h : Canonical s.cells) :
    Canonical (s.writeAt rq addr size v).cells := by
  unfold State.writeAt
  dsimp only
  split
  · exact h
  · split
    · exact h
    · simp [h]
    · rw [State.tileReg_cells _ _ _ _ _ _ fun t => by split <;> simp]
      exact h
    · split <;> simp [h]
    · simp [h]
    · simp [h]
    · split
      · exact State.regWrite_canonical _ _ _ _ _ _ h (by simp [h])
      · simp [h]

/-! ### TrustOps -/

@[simp] theorem State.tell_cells (s : State) (peer type : Nat) (m body : List Byte) (key : Option (List Byte)) :
    (s.tell peer type m body key).cells = s.cells := by simp [State.tell]

@[simp] theorem State.answerTo_cells (s : State) (peer : Nat) (m : List Byte) (st : Status) (data : List Byte)
    (key : Option (List Byte)) : (s.answerTo peer m st data key).cells = s.cells := by simp [State.answerTo]

@[simp] theorem State.putSession_cells (s : State) (x : Session) : (s.putSession x).cells = s.cells := by simp [State.putSession]

@[simp] theorem State.closeSession_cells (s : State) (x : Session) : (s.closeSession x).cells = s.cells := by simp [State.closeSession]

@[simp] theorem State.closePeer_cells (s : State) (peer : Nat) : (s.closePeer peer).cells = s.cells := by
  unfold State.closePeer
  split <;> simp

@[simp] theorem State.keepSeq_cells (s : State) (peer seq : Nat) : (s.keepSeq peer seq).cells = s.cells := by simp [State.keepSeq]

@[simp] theorem State.serve_cells (s : State) (peer : Nat) (m : List Byte) (type len : Nat) (rules : Session → List (Bool × Status))
    (act : State → Session → State × Status × List Byte) (hact : ∀ t x, (act t x).1.cells = t.cells) :
    (s.serve peer m type len rules act).cells = s.cells := by
  unfold State.serve
  split
  · rfl
  · split
    · simp
    · split
      · simp
      · dsimp only
        split
        · split <;> simp [hact]
        · simp

@[simp] theorem State.openReply_cells (s : State) (peer : Nat) (m : List Byte) : (s.openReply peer m).cells = s.cells := by
  simp [State.openReply]

@[simp] theorem State.openMessage_cells (s : State) (peer : Nat) (m : List Byte) : (s.openMessage peer m).cells = s.cells := by
  unfold State.openMessage
  repeat' split
  all_goals simp

@[simp] theorem State.dropShake_cells (s : State) (peer : Nat) : (s.dropShake peer).cells = s.cells := by simp [State.dropShake]

@[simp] theorem State.newBudget_cells (s : State) : s.newBudget.cells = s.cells := by
  unfold State.newBudget
  split <;> simp

@[simp] theorem State.openSession_cells (s : State) (h : Handshake) : (s.openSession h).cells = s.cells := by simp [State.openSession]

@[simp] theorem State.confirmMessage_cells (s : State) (peer : Nat) (m : List Byte) : (s.confirmMessage peer m).cells = s.cells := by
  unfold State.confirmMessage
  dsimp only
  repeat' split
  all_goals simp

@[simp] theorem State.attestOutside_cells (s : State) (peer : Nat) (m : List Byte) : (s.attestOutside peer m).cells = s.cells := by
  unfold State.attestOutside
  split <;> simp

@[simp] theorem State.storeSetting_cells (s : State) (x : Session) (addr v : Nat) : (s.storeSetting x addr v).cells = s.cells := by
  unfold State.storeSetting
  split <;> simp

@[simp] theorem State.liveWrite_canonical (s : State) (x : Session) (addr v : Nat) (h : Canonical s.cells) :
    Canonical (s.liveWrite x addr v).1.cells := by
  unfold State.liveWrite
  split <;> simp [h]

@[simp] theorem State.showStaged_cells (s : State) (k : Nat) (on : Bool) : (s.showStaged k on).cells = s.cells := by simp [State.showStaged]

@[simp] theorem State.raiseSvn_cells (s : State) (k : Nat) (m : List Byte) : (s.raiseSvn k m).cells = s.cells := by simp [State.raiseSvn]

@[simp] theorem State.beginImage_cells (s : State) (x : Session) (m : List Byte) : (s.beginImage x m).cells = s.cells := by
  simp [State.beginImage]

@[simp] theorem State.takeChunk_cells (s : State) (off : Nat) (data : List Byte) : (s.takeChunk off data).cells = s.cells := by
  unfold State.takeChunk
  split <;> simp

@[simp] theorem State.finishImage_cells (s : State) (x : Session) : (s.finishImage x).1.cells = s.cells := by
  unfold State.finishImage
  split
  · rfl
  · split
    · simp [done]
    · simp

@[simp] theorem State.abortImages_cells (s : State) (x : Session) : (s.abortImages x).cells = s.cells := by simp [State.abortImages]

@[simp] theorem State.copyAndScan_canonical (s : State) (a : Nat) (payload : List Byte) (h : Canonical s.cells) :
    Canonical (s.copyAndScan a payload).1.cells := by simp [State.copyAndScan, h]

@[simp] theorem State.setActivation_cells (s : State) (a : Activation) : (s.setActivation a).cells = s.cells := by
  simp [State.setActivation]

@[simp] theorem State.writeRunning_cells (s : State) (k : Nat) : (s.writeRunning k).cells = s.cells := by
  unfold State.writeRunning
  split <;> simp

@[simp] theorem State.scanStaged_canonical (s : State) (k : Nat) (h : Canonical s.cells) : Canonical (s.scanStaged k).1.cells := by
  unfold State.scanStaged
  repeat' split
  all_goals simp [h]

@[simp] theorem State.finishActivation_canonical (s : State) (a : Activation) (h : Canonical s.cells) :
    Canonical (s.finishActivation a).cells := by simp [State.finishActivation, h]

@[simp] theorem State.beginGov_cells (s : State) (a : Activation) : (s.beginGov a).cells = s.cells := by simp [State.beginGov]

@[simp] theorem State.activateFrom_canonical (s : State) (a : Activation) (ks : List Nat) (h : Canonical s.cells) :
    Canonical (s.activateFrom a ks).cells := by
  induction ks generalizing s a with
  | nil => exact State.finishActivation_canonical _ _ h
  | cons k ks ih =>
    unfold State.activateFrom
    dsimp only
    split
    · simp [h]
    · split
      · simp [h]
      · split
        · exact ih _ _ (by simp [h])
        · simp [h]

@[simp] theorem State.startActivation_canonical (s : State) (x : Session) (w : Nat) (restart : Bool) (h : Canonical s.cells) :
    Canonical (s.startActivation x w restart).cells := by
  unfold State.startActivation
  dsimp only
  repeat' split
  all_goals simp [h]

/-! ### Startup -/

@[simp] theorem State.stepDone_cells (s : State) (k : Nat) : (s.stepDone k).cells = s.cells := by simp [State.stepDone]

@[simp] theorem State.startFail_canonical (s : State) (st : Status) : Canonical (s.startFail st).cells := by simp [State.startFail]

@[simp] theorem State.startVaux_cells (s : State) : s.startVaux.cells = s.cells := by simp [State.startVaux]

@[simp] theorem State.resumeCopies_cells (s : State) : s.resumeCopies.cells = s.cells := by
  unfold State.resumeCopies
  split <;> simp

@[simp] theorem State.repairSlot_cells (s : State) (k : Nat) : (s.repairSlot k).cells = s.cells := by
  unfold State.repairSlot
  dsimp only
  repeat' split
  all_goals simp

@[simp] theorem State.loadImage_cells (s : State) (k : Nat) : (s.loadImage k).cells = s.cells := by
  unfold State.loadImage
  split <;> simp

@[simp] theorem State.startImages_canonical (s : State) (h : Canonical s.cells) : Canonical s.startImages.cells := by
  unfold State.startImages
  dsimp only
  repeat' split
  all_goals simp [h]

@[simp] theorem State.loadCalibration_cells (s : State) : s.loadCalibration.cells = s.cells := by
  unfold State.loadCalibration
  split <;> simp

@[simp] theorem State.govTested_cells (s : State) (gb pass : Bool) : (s.govTested gb pass).cells = s.cells := by simp [State.govTested]

@[simp] theorem State.startSupply_canonical (s : State) (t : StartTests) (h : Canonical s.cells) : Canonical (s.startSupply t).cells := by
  simp [State.startSupply, h]

@[simp] theorem State.startRails_canonical (s : State) (h : Canonical s.cells) : Canonical s.startRails.cells := by
  simp +contextual [State.startRails, h]

@[simp] theorem State.startLinks_cells (s : State) (t : StartTests) : (s.startLinks t).cells = s.cells := by simp [State.startLinks]

@[simp] theorem State.startMemory_cells (s : State) (t : StartTests) : (s.startMemory t).cells = s.cells := by simp [State.startMemory]

@[simp] theorem State.startClear_canonical (s : State) (h : Canonical s.cells) : Canonical s.startClear.cells :=
  startClear_keeps s h

@[simp] theorem State.firstWave_cells (s : State) : s.firstWave.cells = s.cells := by simp [State.firstWave]

@[simp] theorem State.nextWave_cells (s : State) : s.nextWave.cells = s.cells := by simp [State.nextWave]

@[simp] theorem State.mergePlan_canonical (s : State) (t : StartTests) (h : Canonical s.cells) :
    Canonical (s.mergePlan t).cells := by simp [State.mergePlan, h]

@[simp] theorem State.startTiles_canonical (s : State) (t : StartTests) (h : Canonical s.cells) :
    Canonical (s.startTiles t).cells := by simp [State.startTiles, h]

@[simp] theorem State.heldCore_cells (s : State) (c : Nat) (bad : Bool) : (s.heldCore c bad).cells = s.cells := by simp [State.heldCore]

@[simp] theorem State.startCores_canonical (s : State) (t : StartTests) (h : Canonical s.cells) : Canonical (s.startCores t).cells := by
  unfold State.startCores
  split <;> simp [h]

@[simp] theorem State.checkFormat_cells (s : State) : s.checkFormat.cells = s.cells := by simp [State.checkFormat]

@[simp] theorem State.applySetting_cells (s : State) (k : Nat) (v : BitVec 32) : (s.applySetting k v).cells = s.cells := by
  unfold State.applySetting
  split <;> simp

@[simp] theorem State.sealLine_cells (s : State) (n : Nat) : (s.sealLine n).cells = s.cells := by simp [State.sealLine]

@[simp] theorem State.sealCurve_cells (s : State) (gb : Bool) : (s.sealCurve gb).cells = s.cells := by simp [State.sealCurve]

@[simp] theorem State.sealRegions_cells (s : State) : s.sealRegions.cells = s.cells := by simp [State.sealRegions]

@[simp] theorem State.growFieldMap_cells (s : State) : s.growFieldMap.cells = s.cells := by simp [State.growFieldMap]

@[simp] theorem State.firstClaim_cells (s : State) (gb : Bool) : (s.firstClaim gb).cells = s.cells := by simp [State.firstClaim]

@[simp] theorem State.firstClaims_cells (s : State) : s.firstClaims.cells = s.cells := by simp [State.firstClaims]

@[simp] theorem State.sealAll_cells (s : State) : s.sealAll.cells = s.cells := by simp [State.sealAll]

@[simp] theorem State.raiseCounters_cells (s : State) : s.raiseCounters.cells = s.cells := by
  unfold State.raiseCounters
  refine cells_foldl _ _ _ fun t a => ?_
  repeat' split
  all_goals simp

@[simp] theorem State.declareReady_cells (s : State) : s.declareReady.cells = s.cells := by
  unfold State.declareReady
  dsimp only
  rw [State.raiseCounters_cells]
  split
  · rw [State.startCore_cells, State.mk_cells, State.send_cells, State.announceAll_cells, State.setPair_cells,
      State.sf_cells,
      State.sf_cells]
  · rw [State.mk_cells, State.send_cells, State.announceAll_cells, State.setPair_cells, State.sf_cells, State.sf_cells]

@[simp] theorem State.startReady_cells (s : State) : s.startReady.cells = s.cells := by simp [State.startReady]

@[simp] theorem State.startStep_canonical (s : State) (t : StartTests) (h : Canonical s.cells) : Canonical (s.startStep t).cells := by
  unfold State.startStep
  split <;> simp [h]

/-! ### Thermal -/

@[simp] theorem State.setSensor_cells (s : State) (j : Nat) (x : Sensor) : (s.setSensor j x).cells = s.cells := by simp [State.setSensor]

@[simp] theorem State.thmEvent_cells (s : State) (b : Nat) : (s.thmEvent b).cells = s.cells := by simp [State.thmEvent]

@[simp] theorem State.failSensor_cells (s : State) (j : Nat) : (s.failSensor j).cells = s.cells := by simp [State.failSensor]

@[simp] theorem State.convert_cells (s : State) (j : Nat) (code : Int) (other : Option Int) : (s.convert j code other).cells = s.cells := by
  simp [State.convert]

@[simp] theorem State.compareTrip_canonical (s : State) (j : Nat) (code : Int) (limit : Nat) (h : Canonical s.cells) :
    Canonical (s.compareTrip j code limit).cells := by simp [State.compareTrip, h]

@[simp] theorem State.pairDiffer_cells (s : State) (p : Nat) : (s.pairDiffer p).cells = s.cells := by simp [State.pairDiffer]

@[simp] theorem State.convertPair_canonical (s : State) (p : Nat) (c0 c1 : Int) (h : Canonical s.cells) :
    Canonical (s.convertPair p c0 c1).cells := by simp [State.convertPair, h]

@[simp] theorem State.convertStack_canonical (s : State) (k : Nat) (dies : List Int) (h : Canonical s.cells) :
    Canonical (s.convertStack k dies).cells := by
  unfold State.convertStack
  dsimp only
  repeat' split
  all_goals simp +contextual [h]

/-! ### Trust -/

@[simp] theorem State.finishGov_canonical (s : State) (a : Activation) (h : Canonical s.cells) : Canonical (s.finishGov a).cells := by
  unfold State.finishGov
  split <;> simp [h]

end Sys2Proof.Machine
end

section
/-! SUPPORT. Every step keeps memory in its canonical form (O59): one lemma for each meaning, the case split over the commands, and time. -/

namespace Sys2Proof.Machine

/-! ### What instructions go through -/

/-- A command that completes leaves memory in its canonical form. -/
def CanonicalAfter (o : Host.Outcome State Fault Refusal) : Prop := ∀ t, o = .next t → Canonical t.cells

@[simp] theorem canonicalAfter_next (t : State) : CanonicalAfter (.next t) ↔ Canonical t.cells :=
  ⟨fun h => h t rfl, fun h _ hu => Host.Outcome.next.inj hu ▸ h⟩

@[simp] theorem canonicalAfter_ite {c : Prop} [Decidable c] (a b : Host.Outcome State Fault Refusal) :
    CanonicalAfter (if c then a else b) ↔ if c then CanonicalAfter a else CanonicalAfter b := by split <;> rfl

/-- An instruction keeps the canonical form when its effect does (R161). -/
@[simp] theorem State.issue_canonical (s : State) (t cls opc : Nat) (o : VOp) (legal : Bool) (causes : List (Bool × Cause × Nat))
    (stall : Bool) (body : State → State) (h : Canonical s.cells) (hb : ∀ u, Canonical u.cells → Canonical (body u).cells) :
    CanonicalAfter (s.issue t cls opc o legal causes stall body) := by
  unfold State.issue
  dsimp only
  split
  · simp [h]
  · split
    · simp [h]
    · split <;> simp [hb, h]

@[simp] theorem State.issueSeq_canonical (s : State) (t cls opc : Nat) (o : VOp) (legal : Bool) (causes : List (Bool × Cause × Nat))
    (stall : Bool) (body : State → State) (h : Canonical s.cells) (hb : ∀ u, Canonical u.cells → Canonical (body u).cells) :
    CanonicalAfter (s.issueSeq t cls opc o legal causes stall body) :=
  State.issue_canonical _ _ _ _ _ _ _ _ _ h fun u hu => by simp [hb u hu]

@[simp] theorem State.scalar_canonical (s : State) (t : Fin 768) (opc : Nat) (o : VOp) (f : Nat → Nat → Nat) (h : Canonical s.cells) :
    CanonicalAfter (s.scalar t opc o f) := by simp [State.scalar, h]

@[simp] theorem State.scalarImm_canonical (s : State) (t : Fin 768) (opc : Nat) (o : VOp) (legal : Bool) (f : Nat → Nat)
    (h : Canonical s.cells) : CanonicalAfter (s.scalarImm t opc o legal f) := by simp [State.scalarImm, h]

@[simp] theorem State.vector3_canonical (s : State) (t : Fin 768) (opc : Nat) (o : VOp) (legal draws useC useD : Bool)
    (h : Canonical s.cells) : CanonicalAfter (s.vector3 t opc o legal draws useC useD) := by simp [State.vector3, h]

@[simp] theorem State.issueMove_canonical (s : State) (t : Fin 768) (opc : Nat) (put : Bool) (o : VOp) (h : Canonical s.cells) :
    CanonicalAfter (s.issueMove t opc put o) := by simp [State.issueMove, h]

/-- A caravan instruction keeps the canonical form when its effect does. -/
@[simp] theorem State.cvn1_canonical (s : State) (o : CvnOp) (funct7 : Nat) (two : Bool) (f : State → Nat → State × Status × Nat)
    (h : Canonical s.cells) (hf : ∀ u i, Canonical u.cells → Canonical (f u i).1.cells) : CanonicalAfter (s.cvn1 o funct7 two f) := by
  unfold State.cvn1
  dsimp only
  split <;> simp [hf, h]

@[simp] theorem State.routeOf_cells (s : State) (t sel len : Nat) : (s.routeOf t sel len).st.cells = s.cells := by
  unfold State.routeOf
  dsimp only
  repeat' split
  all_goals simp

@[simp] theorem done_cells (s : State) : (done s).1.cells = s.cells := rfl

@[simp] theorem refuse_cells (s : State) (e : Status) : (refuse s e).1.cells = s.cells := rfl

theorem State.coreOperand_trap_cells {s t : State} {va n cause : Nat} {x : Xlate} (h : s.coreOperand va n x = .trap t cause) :
    t.cells = s.cells := by
  unfold State.coreOperand at h
  dsimp only at h
  repeat' split at h
  all_goals simp_all
  all_goals obtain ⟨rfl, -⟩ := h
  all_goals simp

theorem State.coreOperand_bytes_cells {s t : State} {va n : Nat} {x : Xlate} {b : List Byte} (h : s.coreOperand va n x = .bytes t b) :
    t.cells = s.cells := by
  unfold State.coreOperand at h
  dsimp only at h
  repeat' split at h
  all_goals simp_all
  obtain ⟨rfl, -⟩ := h
  simp

/-! ### CoreMemory -/

@[simp] theorem execCoreWindowAccess_canonical (rq : Requester) (addr size : Nat) (write : Option (BitVec 64)) (flip : Option Ecc)
    (s : State) (h : Canonical s.cells) : CanonicalAfter (execCoreWindowAccess rq addr size write flip s) := by
  unfold execCoreWindowAccess
  dsimp only
  repeat' split
  all_goals simp [h]

@[simp] theorem execCoreMemoryAccess_canonical (c : Fin 32) (k : MemAccess) (addr size : Nat) (hit : Bool) (flip : Option Ecc)
    (s : State) (h : Canonical s.cells) : CanonicalAfter (execCoreMemoryAccess c k addr size hit flip s) := by
  unfold execCoreMemoryAccess
  repeat' split
  all_goals simp [h]

@[simp] theorem execPatrolScrubLine_canonical (line : Fin 8589934592) (flip : Option Ecc) (s : State) (h : Canonical s.cells) :
    CanonicalAfter (execPatrolScrubLine line flip s) := by simp [execPatrolScrubLine, h]

@[simp] theorem execChannelFail_canonical (q : Fin 768) (s : State) (h : Canonical s.cells) : CanonicalAfter (execChannelFail q s) := by
  simp [execChannelFail, h]

@[simp] theorem execStackBandUpdate_canonical (k : Fin 8) (s : State) (h : Canonical s.cells) :
    CanonicalAfter (execStackBandUpdate k s) := by simp [execStackBandUpdate, h]

@[simp] theorem execStackSelfrefWake_canonical (k : Fin 8) (s : State) (h : Canonical s.cells) :
    CanonicalAfter (execStackSelfrefWake k s) := by simp [execStackSelfrefWake, h]

/-! ### Links -/

@[simp] theorem execLightDetect_canonical (port : Fin 20) (lanes : BitVec 8) (s : State) (h : Canonical s.cells) :
    CanonicalAfter (execLightDetect port lanes s) := by simp [execLightDetect, h]

@[simp] theorem execTrainDone_canonical (port : Fin 20) (s : State) (h : Canonical s.cells) : CanonicalAfter (execTrainDone port s) := by
  simp [execTrainDone, h]

@[simp] theorem execLinkCheckDone_canonical (port : Fin 20) (errors : List Nat) (peerPass : BitVec 8) (s : State) (h : Canonical s.cells) :
    CanonicalAfter (execLinkCheckDone port errors peerPass s) := by simp [execLinkCheckDone, h]

@[simp] theorem execCertRx_canonical (port : Fin 20) (msg : List Byte) (s : State) (h : Canonical s.cells) :
    CanonicalAfter (execCertRx port msg s) := by simp [execCertRx, h]

@[simp] theorem execHelloTx_canonical (port : Fin 20) (s : State) (h : Canonical s.cells) :
    CanonicalAfter (execHelloTx port s) := by simp [execHelloTx, h]

@[simp] theorem execHelloRx_canonical (port : Fin 20) (msg : List Byte) (s : State) (h : Canonical s.cells) :
    CanonicalAfter (execHelloRx port msg s) := by
  unfold execHelloRx
  dsimp only
  repeat' split
  all_goals simp [h]

@[simp] theorem execHelloTimeout_canonical (port : Fin 20) (s : State) (h : Canonical s.cells) :
    CanonicalAfter (execHelloTimeout port s) := by simp [execHelloTimeout, h]

@[simp] theorem execRehelloStart_canonical (port : Fin 20) (s : State) (h : Canonical s.cells) :
    CanonicalAfter (execRehelloStart port s) := by simp [execRehelloStart, h]

@[simp] theorem execRehelloTimeout_canonical (port : Fin 20) (s : State) (h : Canonical s.cells) :
    CanonicalAfter (execRehelloTimeout port s) := by simp [execRehelloTimeout, h]

@[simp] theorem execLightLoss_canonical (port : Fin 20) (lanes : BitVec 8) (s : State) (h : Canonical s.cells) :
    CanonicalAfter (execLightLoss port lanes s) := by simp [execLightLoss, h]

@[simp] theorem execGoodbyeRx_canonical (port : Fin 20) (s : State) (h : Canonical s.cells) : CanonicalAfter (execGoodbyeRx port s) := by
  simp [execGoodbyeRx, h]

@[simp] theorem execUncorrectableCodeword_canonical (port : Fin 20) (s : State) (h : Canonical s.cells) :
    CanonicalAfter (execUncorrectableCodeword port s) := by simp [execUncorrectableCodeword, h]

@[simp] theorem execResendRequest_canonical (port : Fin 20) (seq : BitVec 32) (s : State) (h : Canonical s.cells) :
    CanonicalAfter (execResendRequest port seq s) := by simp [execResendRequest, h]

@[simp] theorem execLinkAck_canonical (port : Fin 20) (seq : BitVec 32) (s : State) (h : Canonical s.cells) :
    CanonicalAfter (execLinkAck port seq s) := by simp [execLinkAck, h]

@[simp] theorem execFptAdminDown_canonical (rq : Requester) (port : Fin 20) (s : State) (h : Canonical s.cells) :
    CanonicalAfter (execFptAdminDown rq port s) := by simp [execFptAdminDown, h]

@[simp] theorem execAdminDrainEnd_canonical (port : Fin 20) (s : State) (h : Canonical s.cells) :
    CanonicalAfter (execAdminDrainEnd port s) := by simp [execAdminDrainEnd, h]

@[simp] theorem execFptAdminUp_canonical (rq : Requester) (port : Fin 20) (s : State) (h : Canonical s.cells) :
    CanonicalAfter (execFptAdminUp rq port s) := by simp [execFptAdminUp, h]

@[simp] theorem execFptRetrain_canonical (rq : Requester) (port : Fin 20) (s : State) (h : Canonical s.cells) :
    CanonicalAfter (execFptRetrain rq port s) := by simp [execFptRetrain, h]

@[simp] theorem execFptMapWrite_canonical (rq : Requester) (port : Fin 20) (value : BitVec 32) (s : State) (h : Canonical s.cells) :
    CanonicalAfter (execFptMapWrite rq port value s) := by simp [execFptMapWrite, h]

@[simp] theorem execFptCoordWrite_canonical (rq : Requester) (value : BitVec 32) (s : State) (h : Canonical s.cells) :
    CanonicalAfter (execFptCoordWrite rq value s) := by simp [execFptCoordWrite, h]

@[simp] theorem execFptMachineWrite_canonical (rq : Requester) (value : BitVec 32) (s : State) (h : Canonical s.cells) :
    CanonicalAfter (execFptMachineWrite rq value s) := by simp [execFptMachineWrite, h]

@[simp] theorem execFptTwistWrite_canonical (rq : Requester) (dim : Fin 18) (value : BitVec 32) (s : State) (h : Canonical s.cells) :
    CanonicalAfter (execFptTwistWrite rq dim value s) := by simp [execFptTwistWrite, h]

@[simp] theorem execLaneAudit_canonical (port : Fin 20) (errors : List Nat) (bits uncorr : Nat) (peerPass : BitVec 8) (s : State)
    (h : Canonical s.cells) : CanonicalAfter (execLaneAudit port errors bits uncorr peerPass s) := by simp [execLaneAudit, h]

@[simp] theorem execWidthRx_canonical (port : Fin 20) (mask : BitVec 8) (s : State) (h : Canonical s.cells) :
    CanonicalAfter (execWidthRx port mask s) := by simp [execWidthRx, h]

@[simp] theorem execTakeoverRx_canonical (port : Fin 20) (s : State) (h : Canonical s.cells) : CanonicalAfter (execTakeoverRx port s) := by
  simp [execTakeoverRx, h]

@[simp] theorem execTakeoverAckRx_canonical (port : Fin 20) (s : State) (h : Canonical s.cells) :
    CanonicalAfter (execTakeoverAckRx port s) := by simp [execTakeoverAckRx, h]

@[simp] theorem execTakeoverTimeout_canonical (port : Fin 20) (s : State) (h : Canonical s.cells) :
    CanonicalAfter (execTakeoverTimeout port s) := by simp [execTakeoverTimeout, h]

/-! ### Counters -/

@[simp] theorem execTallyPeriodic_canonical (s : State) (h : Canonical s.cells) :
    CanonicalAfter (execTallyPeriodic s) := by simp [execTallyPeriodic, h]

@[simp] theorem execTallyNow_canonical (rq : Requester) (value : BitVec 32) (s : State) (h : Canonical s.cells) :
    CanonicalAfter (execTallyNow rq value s) := by simp [execTallyNow, h]

@[simp] theorem execBwWindowEnd_canonical (s : State) (h : Canonical s.cells) :
    CanonicalAfter (execBwWindowEnd s) := by simp [execBwWindowEnd, h]

@[simp] theorem execOutriderComplete_canonical (tile : Fin 768) (fetch engine run : BitVec 32) (poison conflict : Bool)
    (s : State) (h : Canonical s.cells) : CanonicalAfter (execOutriderComplete tile fetch engine run poison conflict s) := by
  unfold execOutriderComplete
  dsimp only
  repeat' split
  all_goals simp [h]

@[simp] theorem execPrfOutEnable_canonical (rq : Requester) (value : BitVec 32) (s : State) (h : Canonical s.cells) :
    CanonicalAfter (execPrfOutEnable rq value s) := by simp [execPrfOutEnable, h]

/-! ### Metering -/

@[simp] theorem execMeterSample_canonical (mb : Bool) (icode vcode temp : BitVec 24) (s : State) (h : Canonical s.cells) :
    CanonicalAfter (execMeterSample mb icode vcode temp s) := by simp [execMeterSample, h]

@[simp] theorem execMeterReading_canonical (mb : Bool) (s : State) (h : Canonical s.cells) : CanonicalAfter (execMeterReading mb s) := by
  simp [execMeterReading, h]

@[simp] theorem execMeterSelfcheck_canonical (mb : Bool) (refCode offsetNa : Nat) (s : State) (h : Canonical s.cells) :
    CanonicalAfter (execMeterSelfcheck mb refCode offsetNa s) := by simp [execMeterSelfcheck, h]

@[simp] theorem execMeterWarmupEnd_canonical (mb : Bool) (s : State) (h : Canonical s.cells) :
    CanonicalAfter (execMeterWarmupEnd mb s) := by simp [execMeterWarmupEnd, h]

@[simp] theorem execMeterSnapshot_canonical (mb : Bool) (s : State) (h : Canonical s.cells) : CanonicalAfter (execMeterSnapshot mb s) := by
  simp [execMeterSnapshot, h]

@[simp] theorem execMtrSnapSeqRead_canonical (rq : Requester) (ch : Option Bool) (s : State) (h : Canonical s.cells) :
    CanonicalAfter (execMtrSnapSeqRead rq ch s) := by
  unfold execMtrSnapSeqRead
  split <;> simp [h]

@[simp] theorem execMtrPRead_canonical (rq : Requester) (mb : Bool) (s : State) (h : Canonical s.cells) :
    CanonicalAfter (execMtrPRead rq mb s) := by simp [execMtrPRead, h]

@[simp] theorem execElifeSave_canonical (s : State) (h : Canonical s.cells) : CanonicalAfter (execElifeSave s) := by simp [execElifeSave, h]

@[simp] theorem execCrossCheckWindow_canonical (s : State) (h : Canonical s.cells) : CanonicalAfter (execCrossCheckWindow s) := by
  simp [execCrossCheckWindow, h]

@[simp] theorem execAccRunStart_canonical (rq : Requester) (value : BitVec 32) (s : State) (h : Canonical s.cells) :
    CanonicalAfter (execAccRunStart rq value s) := by simp [execAccRunStart, h]

@[simp] theorem execAccRunBegin_canonical (s : State) (h : Canonical s.cells) : CanonicalAfter (execAccRunBegin s) := by
  unfold execAccRunBegin
  split <;> simp [h]

@[simp] theorem execAccRunEnd_canonical (s : State) (h : Canonical s.cells) : CanonicalAfter (execAccRunEnd s) := by
  unfold execAccRunEnd
  split <;> simp [h]

/-! ### Caravans -/

/-- A request keeps the canonical form when what it asks for does (R672). -/
theorem State.serve_canonical (s : State) (peer : Nat) (m : List Byte) (type len : Nat) (rules : Session → List (Bool × Status))
    (act : State → Session → State × Status × List Byte) (h : Canonical s.cells)
    (hact : ∀ t x, Canonical t.cells → Canonical (act t x).1.cells) : Canonical (s.serve peer m type len rules act).cells := by
  unfold State.serve
  split
  · exact h
  · split
    · simp [h]
    · split
      · simp [h]
      · dsimp only
        split
        · split <;> simp [hact, h]
        · simp [h]

@[simp] theorem execCvnOpen_canonical (o : CvnOp) (x : Xlate) (s : State) (h : Canonical s.cells) : CanonicalAfter (execCvnOpen o x s) := by
  unfold execCvnOpen
  dsimp only
  split
  · simp [h]
  · simp [h]
  · split
    · simp [h]
    · next s1 cause ho => simp [State.coreOperand_trap_cells ho, h]
    · next s1 b ho =>
      have hs : Canonical s1.cells := State.coreOperand_bytes_cells ho ▸ h
      split
      · simp [hs]
      · split
        · split <;> simp [hs]
        · split <;> simp [hs]

@[simp] theorem execCvnStart_canonical (o : CvnOp) (s : State) (h : Canonical s.cells) : CanonicalAfter (execCvnStart o s) := by
  unfold execCvnStart
  refine State.cvn1_canonical _ _ _ _ _ h fun u i hu => ?_
  dsimp only
  split
  · split <;> simp [hu]
  · simp [hu]

@[simp] theorem execCvnPush_canonical (o : CvnOp) (x : Xlate) (s : State) (h : Canonical s.cells) : CanonicalAfter (execCvnPush o x s) := by
  unfold execCvnPush
  dsimp only
  split
  · simp [h]
  · simp [h]
  · split
    · simp [h]
    · next s1 cause ho => simp [State.coreOperand_trap_cells ho, h]
    · next s1 b ho =>
      have hs : Canonical s1.cells := State.coreOperand_bytes_cells ho ▸ h
      split
      · split <;> simp [hs]
      · simp [hs]

@[simp] theorem execCvnPause_canonical (o : CvnOp) (s : State) (h : Canonical s.cells) : CanonicalAfter (execCvnPause o s) := by
  unfold execCvnPause
  refine State.cvn1_canonical _ _ _ _ _ h fun u i hu => ?_
  dsimp only
  split <;> simp [hu]

@[simp] theorem execCvnAbort_canonical (o : CvnOp) (s : State) (h : Canonical s.cells) : CanonicalAfter (execCvnAbort o s) := by
  unfold execCvnAbort
  refine State.cvn1_canonical _ _ _ _ _ h fun u i hu => ?_
  dsimp only
  split <;> simp [hu]

@[simp] theorem execCvnClose_canonical (o : CvnOp) (s : State) (h : Canonical s.cells) : CanonicalAfter (execCvnClose o s) := by
  unfold execCvnClose
  refine State.cvn1_canonical _ _ _ _ _ h fun u i hu => ?_
  dsimp only
  split <;> simp [hu]

@[simp] theorem execCvnStat_canonical (o : CvnOp) (s : State) (h : Canonical s.cells) : CanonicalAfter (execCvnStat o s) := by
  unfold execCvnStat
  refine State.cvn1_canonical _ _ _ _ _ h fun u i hu => ?_
  dsimp only
  split <;> simp [hu]

@[simp] theorem execCvnWait_canonical (o : CvnOp) (s : State) (h : Canonical s.cells) : CanonicalAfter (execCvnWait o s) := by
  unfold execCvnWait
  dsimp only
  repeat' split
  all_goals simp [h]

@[simp] theorem execCvnWaitTimeout_canonical (core : Fin 32) (s : State) (h : Canonical s.cells) :
    CanonicalAfter (execCvnWaitTimeout core s) := by
  unfold execCvnWaitTimeout
  split <;> simp [h]

@[simp] theorem execCvnToll_canonical (o : CvnOp) (s : State) (h : Canonical s.cells) : CanonicalAfter (execCvnToll o s) := by
  unfold execCvnToll
  refine State.cvn1_canonical _ _ _ _ _ h fun u i hu => ?_
  dsimp only
  split <;> simp [hu]

@[simp] theorem execCvnCad_canonical (o : CvnOp) (s : State) (h : Canonical s.cells) : CanonicalAfter (execCvnCad o s) := by
  unfold execCvnCad
  refine State.cvn1_canonical _ _ _ _ _ h fun u i hu => ?_
  dsimp only
  split
  · split
    · simp [hu]
    · split <;> simp [hu]
  · simp [hu]

@[simp] theorem execStationLoadDone_canonical (slot : Fin 64) (s : State) (h : Canonical s.cells) :
    CanonicalAfter (execStationLoadDone slot s) := by
  unfold execStationLoadDone
  dsimp only
  repeat' split
  all_goals simp [h]

@[simp] theorem execStationLoadFault_canonical (slot : Fin 64) (s : State) (h : Canonical s.cells) :
    CanonicalAfter (execStationLoadFault slot s) := by
  unfold execStationLoadFault
  dsimp only
  repeat' split
  all_goals simp [h]

@[simp] theorem execAbortDone_canonical (slot : Fin 64) (s : State) (h : Canonical s.cells) : CanonicalAfter (execAbortDone slot s) := by
  simp [execAbortDone, h]

@[simp] theorem execSeqAdmit_canonical (slot : Fin 64) (timeout : Bool) (s : State) (h : Canonical s.cells) :
    CanonicalAfter (execSeqAdmit slot timeout s) := by simp [execSeqAdmit, h]

@[simp] theorem execCadenceRelease_canonical (slot : Fin 64) (s : State) (h : Canonical s.cells) :
    CanonicalAfter (execCadenceRelease slot s) := by
  unfold execCadenceRelease
  dsimp only
  repeat' split
  all_goals simp [h]

@[simp] theorem execLatePeriod_canonical (slot : Fin 64) (s : State) (h : Canonical s.cells) : CanonicalAfter (execLatePeriod slot s) := by
  simp [execLatePeriod, h]

@[simp] theorem execBaleArrive_canonical (tile : Fin 768) (s : State) (h : Canonical s.cells) : CanonicalAfter (execBaleArrive tile s) := by
  unfold execBaleArrive
  dsimp only
  repeat' split
  all_goals simp [h]

@[simp] theorem execCompletionResume_canonical (slot : Fin 64) (s : State) (h : Canonical s.cells) :
    CanonicalAfter (execCompletionResume slot s) := by
  unfold execCompletionResume
  dsimp only
  repeat' split
  all_goals simp [h]

@[simp] theorem execCvnSlotRingRdWrite_canonical (rq : Requester) (slot : Fin 64) (value : BitVec 32) (s : State) (h : Canonical s.cells) :
    CanonicalAfter (execCvnSlotRingRdWrite rq slot value s) := by simp [execCvnSlotRingRdWrite, h]

@[simp] theorem execCvnSlotThreshWrite_canonical (rq : Requester) (slot : Fin 64) (value : BitVec 32) (s : State) (h : Canonical s.cells) :
    CanonicalAfter (execCvnSlotThreshWrite rq slot value s) := by simp [execCvnSlotThreshWrite, h]

@[simp] theorem execFoRegisterWrite_canonical (rq : Requester) (tile : Fin 768) (offset : Nat) (value : BitVec 32) (s : State)
    (h : Canonical s.cells) : CanonicalAfter (execFoRegisterWrite rq tile offset value s) := by
  unfold execFoRegisterWrite
  dsimp only
  repeat' split
  all_goals simp [h]

/-! ### CheckUnits -/

@[simp] theorem execCvuInit_canonical (rq : Requester) (unit : Fin 16) (s : State) (h : Canonical s.cells) :
    CanonicalAfter (execCvuInit rq unit s) := by simp [execCvuInit, h]

@[simp] theorem execCvuScan_canonical (rq : Requester) (unit : Fin 16) (init : Bool) (s : State) (h : Canonical s.cells) :
    CanonicalAfter (execCvuScan rq unit init s) := by simp [execCvuScan, h]

@[simp] theorem execCvuScanEnd_canonical (unit : Fin 16) (noAnswer : Option Nat) (s : State) (h : Canonical s.cells) :
    CanonicalAfter (execCvuScanEnd unit noAnswer s) := by simp [execCvuScanEnd, h]

@[simp] theorem execCvuFeed8_canonical (rq : Requester) (unit : Fin 16) (value : BitVec 32) (s : State) (h : Canonical s.cells) :
    CanonicalAfter (execCvuFeed8 rq unit value s) := by simp [execCvuFeed8, h]

@[simp] theorem execCvuFeed16_canonical (rq : Requester) (unit : Fin 16) (value : BitVec 32) (s : State) (h : Canonical s.cells) :
    CanonicalAfter (execCvuFeed16 rq unit value s) := by simp [execCvuFeed16, h]

@[simp] theorem execCvuFeed32_canonical (rq : Requester) (unit : Fin 16) (value : BitVec 32) (s : State) (h : Canonical s.cells) :
    CanonicalAfter (execCvuFeed32 rq unit value s) := by simp [execCvuFeed32, h]

@[simp] theorem execCvuRunWrite_canonical (rq : Requester) (unit : Fin 16) (high : BitVec 32) (s : State) (h : Canonical s.cells) :
    CanonicalAfter (execCvuRunWrite rq unit high s) := by simp [execCvuRunWrite, h]

/-! ### Ethernet -/

@[simp] theorem execEthLinkUp_canonical (port : Fin 8) (phy : Fin 5) (s : State) (h : Canonical s.cells) :
    CanonicalAfter (execEthLinkUp port phy s) := by simp [execEthLinkUp, h]

@[simp] theorem execEthLinkDown_canonical (port : Fin 8) (rawLost : Nat) (s : State) (h : Canonical s.cells) :
    CanonicalAfter (execEthLinkDown port rawLost s) := by simp [execEthLinkDown, h]

@[simp] theorem execEthLacpMember_canonical (port : Fin 8) (s : State) (h : Canonical s.cells) :
    CanonicalAfter (execEthLacpMember port s) := by simp [execEthLacpMember, h]

@[simp] theorem execEthLacpTimeout_canonical (port : Fin 8) (s : State) (h : Canonical s.cells) :
    CanonicalAfter (execEthLacpTimeout port s) := by simp [execEthLacpTimeout, h]

@[simp] theorem execEthRetrain_canonical (rq : Requester) (port : Fin 8) (s : State) (h : Canonical s.cells) :
    CanonicalAfter (execEthRetrain rq port s) := by simp [execEthRetrain, h]

@[simp] theorem execEthFrameRx_canonical (port : Fin 8) (frame : EthRx) (s : State) (h : Canonical s.cells) :
    CanonicalAfter (execEthFrameRx port frame s) := by simp [execEthFrameRx, h]

@[simp] theorem execEthHostExpire_canonical (net : Fin 2) (entry : Fin 256) (s : State) (h : Canonical s.cells) :
    CanonicalAfter (execEthHostExpire net entry s) := by simp [execEthHostExpire, h]

@[simp] theorem execEthWorkProducer_canonical (q : Fin 4096) (recv : Bool) (value : Option (BitVec 32)) (s : State)
    (h : Canonical s.cells) : CanonicalAfter (execEthWorkProducer q recv value s) := by
  unfold execEthWorkProducer
  repeat' split
  all_goals simp [h]

@[simp] theorem execEthWorkEntry_canonical (q : Fin 4096) (s : State) (h : Canonical s.cells) : CanonicalAfter (execEthWorkEntry q s) := by
  unfold execEthWorkEntry
  dsimp only
  repeat' split
  all_goals simp [h]

@[simp] theorem execEthAckTimeout_canonical (q : Fin 4096) (s : State) (h : Canonical s.cells) :
    CanonicalAfter (execEthAckTimeout q s) := by
  unfold execEthAckTimeout
  dsimp only
  repeat' split
  all_goals simp [h]

@[simp] theorem execEthNetFailover_canonical (net : Fin 2) (s : State) (h : Canonical s.cells) :
    CanonicalAfter (execEthNetFailover net s) := by
  unfold execEthNetFailover
  dsimp only
  split
  · simp [h]
  · rw [canonicalAfter_next]
    refine canonical_foldl _ _ _ (fun a q ha => ?_) h
    split
    · simp [ha]
    · split <;> simp [ha]

@[simp] theorem execEthQpEnable_canonical (rq : Requester) (q : Fin 4096) (s : State) (h : Canonical s.cells) :
    CanonicalAfter (execEthQpEnable rq q s) := by simp [execEthQpEnable, h]

@[simp] theorem execEthQpDisable_canonical (rq : Requester) (q : Fin 4096) (s : State) (h : Canonical s.cells) :
    CanonicalAfter (execEthQpDisable rq q s) := by simp [execEthQpDisable, h]

@[simp] theorem execEthQpMigrate_canonical (rq : Requester) (q : Fin 4096) (s : State) (h : Canonical s.cells) :
    CanonicalAfter (execEthQpMigrate rq q s) := by simp [execEthQpMigrate, h]

@[simp] theorem execEthAnnounce_canonical (net : Fin 2) (s : State) (h : Canonical s.cells) : CanonicalAfter (execEthAnnounce net s) := by
  simp [execEthAnnounce, h]

/-! ### Governor -/

@[simp] theorem execControlPeriod_canonical (gb : Bool) (s : State) (h : Canonical s.cells) : CanonicalAfter (execControlPeriod gb s) := by
  simp [execControlPeriod, h]

@[simp] theorem execFloorRecompute_canonical (s : State) (h : Canonical s.cells) :
    CanonicalAfter (execFloorRecompute s) := by simp [execFloorRecompute, h]

@[simp] theorem execPartitionGateDone_canonical (p : Fin 4) (s : State) (h : Canonical s.cells) :
    CanonicalAfter (execPartitionGateDone p s) := by
  unfold execPartitionGateDone
  dsimp only
  repeat' split
  all_goals simp [h]

@[simp] theorem execBudgetMessage_canonical (peer : Nat) (msg : List Byte) (s : State) (h : Canonical s.cells) :
    CanonicalAfter (execBudgetMessage peer msg s) := by simp [execBudgetMessage, h]

@[simp] theorem execGridMessage_canonical (peer : Nat) (msg : List Byte) (s : State) (h : Canonical s.cells) :
    CanonicalAfter (execGridMessage peer msg s) := by simp [execGridMessage, h]

@[simp] theorem execCoolantMessage_canonical (peer : Nat) (msg : List Byte) (s : State) (h : Canonical s.cells) :
    CanonicalAfter (execCoolantMessage peer msg s) := by simp [execCoolantMessage, h]

@[simp] theorem execHoldExpiry_canonical (gb : Bool) (s : State) (h : Canonical s.cells) :
    CanonicalAfter (execHoldExpiry gb s) := by simp [execHoldExpiry, h]

@[simp] theorem execFrStale_canonical (gb : Bool) (s : State) (h : Canonical s.cells) :
    CanonicalAfter (execFrStale gb s) := by simp [execFrStale, h]

@[simp] theorem execVcoreDroop_canonical (gb : Bool) (s : State) (h : Canonical s.cells) :
    CanonicalAfter (execVcoreDroop gb s) := by simp [execVcoreDroop, h]

@[simp] theorem execDroopResume_canonical (gb : Bool) (s : State) (h : Canonical s.cells) : CanonicalAfter (execDroopResume gb s) := by
  simp [execDroopResume, h]

@[simp] theorem execSupplyDip_canonical (gb : Bool) (s : State) (h : Canonical s.cells) :
    CanonicalAfter (execSupplyDip gb s) := by simp [execSupplyDip, h]

@[simp] theorem execDipRecover_canonical (gb : Bool) (s : State) (h : Canonical s.cells) :
    CanonicalAfter (execDipRecover gb s) := by simp [execDipRecover, h]

/-! ### Pair -/

@[simp] theorem execHeartbeatStop_canonical (gb : Bool) (s : State) (h : Canonical s.cells) : CanonicalAfter (execHeartbeatStop gb s) := by
  simp [execHeartbeatStop, h]

@[simp] theorem execClaimLapse_canonical (gb : Bool) (s : State) (h : Canonical s.cells) :
    CanonicalAfter (execClaimLapse gb s) := by simp [execClaimLapse, h]

@[simp] theorem execClaimWrite_canonical (gb : Bool) (s : State) (h : Canonical s.cells) : CanonicalAfter (execClaimWrite gb s) := by
  unfold execClaimWrite
  repeat' split
  all_goals simp [h]

@[simp] theorem execOstCommand_canonical (gb : Bool) (out : BitVec 32) (s : State) (h : Canonical s.cells) :
    CanonicalAfter (execOstCommand gb out s) := by simp [execOstCommand, h]

@[simp] theorem execSwitchOver_canonical (s : State) (h : Canonical s.cells) : CanonicalAfter (execSwitchOver s) := by
  unfold execSwitchOver
  split <;> simp [h]

@[simp] theorem execOrphanEntry_canonical (s : State) (h : Canonical s.cells) :
    CanonicalAfter (execOrphanEntry s) := by simp [execOrphanEntry, h]

@[simp] theorem execMirrorFrame_canonical (gb : Bool) (frame : List Byte) (s : State) (h : Canonical s.cells) :
    CanonicalAfter (execMirrorFrame gb frame s) := by simp [execMirrorFrame, h]

@[simp] theorem execMirrorLost_canonical (gb : Bool) (s : State) (h : Canonical s.cells) :
    CanonicalAfter (execMirrorLost gb s) := by simp [execMirrorLost, h]

@[simp] theorem execTrajectoryFrame_canonical (gb : Bool) (frame : List Byte) (s : State) (h : Canonical s.cells) :
    CanonicalAfter (execTrajectoryFrame gb frame s) := by simp [execTrajectoryFrame, h]

@[simp] theorem execOstSwap_canonical (rq : Requester) (s : State) (h : Canonical s.cells) :
    CanonicalAfter (execOstSwap rq s) := by simp [execOstSwap, h]

@[simp] theorem execOstResetA_canonical (rq : Requester) (s : State) (h : Canonical s.cells) : CanonicalAfter (execOstResetA rq s) := by
  simp [execOstResetA, h]

@[simp] theorem execOstResetB_canonical (rq : Requester) (s : State) (h : Canonical s.cells) : CanonicalAfter (execOstResetB rq s) := by
  simp [execOstResetB, h]

@[simp] theorem execGovRestartDone_canonical (gb pass : Bool) (s : State) (h : Canonical s.cells) :
    CanonicalAfter (execGovRestartDone gb pass s) := by simp [execGovRestartDone, h]

@[simp] theorem execLapsedGovReset_canonical (gb : Bool) (s : State) (h : Canonical s.cells) :
    CanonicalAfter (execLapsedGovReset gb s) := by simp [execLapsedGovReset, h]

@[simp] theorem execGovRevert_canonical (s : State) (h : Canonical s.cells) : CanonicalAfter (execGovRevert s) := by simp [execGovRevert, h]

/-! ### Recovery -/

@[simp] theorem execRstReset_canonical (rq : Requester) (level : Fin 16) (index : Fin 1024) (s : State) (h : Canonical s.cells) :
    CanonicalAfter (execRstReset rq level index s) := by simp [execRstReset, h]

@[simp] theorem execRstHold_canonical (rq : Requester) (level : Fin 16) (index : Fin 1024) (s : State) (h : Canonical s.cells) :
    CanonicalAfter (execRstHold rq level index s) := by simp [execRstHold, h]

@[simp] theorem execRstRelease_canonical (rq : Requester) (level : Fin 16) (index : Fin 1024) (s : State) (h : Canonical s.cells) :
    CanonicalAfter (execRstRelease rq level index s) := by simp [execRstRelease, h]

@[simp] theorem execDrainEnd_canonical (level : Fin 5) (index : Fin 768) (s : State) (h : Canonical s.cells) :
    CanonicalAfter (execDrainEnd level index s) := by simp [execDrainEnd, h]

@[simp] theorem execSalvageDone_canonical (level : Fin 5) (index : Fin 768) (s : State) (h : Canonical s.cells) :
    CanonicalAfter (execSalvageDone level index s) := by
  unfold execSalvageDone
  dsimp only
  repeat' split
  all_goals simp [h]

@[simp] theorem execDomainResetDone_canonical (level : Fin 5) (index : Fin 768) (s : State) (h : Canonical s.cells) :
    CanonicalAfter (execDomainResetDone level index s) := by simp [execDomainResetDone, h]

@[simp] theorem execDomainTestDone_canonical (level : Fin 5) (index : Fin 768) (passed : Bool) (failed : List Nat) (s : State)
    (h : Canonical s.cells) : CanonicalAfter (execDomainTestDone level index passed failed s) := by simp [execDomainTestDone, h]

@[simp] theorem execTileStall_canonical (tile : Fin 768) (s : State) (h : Canonical s.cells) : CanonicalAfter (execTileStall tile s) := by
  simp [execTileStall, h]

@[simp] theorem execEngineStall_canonical (tile : Fin 768) (s : State) (h : Canonical s.cells) :
    CanonicalAfter (execEngineStall tile s) := by simp [execEngineStall, h]

@[simp] theorem execCaravanStall_canonical (slot : Fin 64) (s : State) (h : Canonical s.cells) :
    CanonicalAfter (execCaravanStall slot s) := by
  unfold execCaravanStall
  split <;> simp [h]

@[simp] theorem execCoreStall_canonical (core : Fin 32) (s : State) (h : Canonical s.cells) : CanonicalAfter (execCoreStall core s) := by
  simp [execCoreStall, h]

@[simp] theorem execReqTimeout_canonical (level : Fin 6) (index : Fin 768) (addr : Nat) (req : TimedOut) (s : State)
    (h : Canonical s.cells) : CanonicalAfter (execReqTimeout level index addr req s) := by simp [execReqTimeout, h]

@[simp] theorem execStopFail_canonical (tile : Fin 768) (s : State) (h : Canonical s.cells) : CanonicalAfter (execStopFail tile s) := by
  simp [execStopFail, h]

@[simp] theorem execPackageResetRampDone_canonical (s : State) (h : Canonical s.cells) : CanonicalAfter (execPackageResetRampDone s) := by
  simp [execPackageResetRampDone, h]

/-! ### Faults -/

@[simp] theorem execFclErrorEvent_canonical (s : State) (h : Canonical s.cells) : CanonicalAfter (execFclErrorEvent s) := by
  unfold execFclErrorEvent
  split <;> simp [h]

@[simp] theorem execFclWindowEnd_canonical (line : Fin 31) (s : State) (h : Canonical s.cells) :
    CanonicalAfter (execFclWindowEnd line s) := by simp [execFclWindowEnd, h]

@[simp] theorem execFclSelfCheck_canonical (upset : Option (Fin 31 × BitVec 32)) (s : State) (h : Canonical s.cells) :
    CanonicalAfter (execFclSelfCheck upset s) := by
  unfold execFclSelfCheck
  split <;> simp [h]

@[simp] theorem execFclSafeExit_canonical (rq : Requester) (s : State) (h : Canonical s.cells) : CanonicalAfter (execFclSafeExit rq s) := by
  simp [execFclSafeExit, h]

@[simp] theorem execFaultNPulseEnd_canonical (s : State) (h : Canonical s.cells) :
    CanonicalAfter (execFaultNPulseEnd s) := by simp [execFaultNPulseEnd, h]

@[simp] theorem execFclOwnFault_canonical (s : State) (h : Canonical s.cells) :
    CanonicalAfter (execFclOwnFault s) := by simp [execFclOwnFault, h]

/-! ### Interrupts -/

@[simp] theorem execIcSourceChange_canonical (cache : Option (Fin 32 × Ecc)) (s : State) (h : Canonical s.cells) :
    CanonicalAfter (execIcSourceChange cache s) := by
  unfold execIcSourceChange
  split <;> simp [h]

@[simp] theorem execIcClaimRead_canonical (rq : Requester) (bank : Fin 32) (s : State) (h : Canonical s.cells) :
    CanonicalAfter (execIcClaimRead rq bank s) := by simp [execIcClaimRead, h]

@[simp] theorem execIcClaimWrite_canonical (rq : Requester) (bank : Fin 32) (value : BitVec 32) (s : State) (h : Canonical s.cells) :
    CanonicalAfter (execIcClaimWrite rq bank value s) := by simp [execIcClaimWrite, h]

@[simp] theorem execIcSvcWrite_canonical (rq : Requester) (bank : Fin 32) (value : BitVec 32) (s : State) (h : Canonical s.cells) :
    CanonicalAfter (execIcSvcWrite rq bank value s) := by simp [execIcSvcWrite, h]

@[simp] theorem execMachineExternalInterrupt_canonical (core : Fin 32) (s : State) (h : Canonical s.cells) :
    CanonicalAfter (execMachineExternalInterrupt core s) := by
  unfold execMachineExternalInterrupt
  dsimp only
  repeat' split
  all_goals simp [h]

@[simp] theorem execModerationEnd_canonical (core : Fin 32) (s : State) (h : Canonical s.cells) :
    CanonicalAfter (execModerationEnd core s) := by simp [execModerationEnd, h]

@[simp] theorem execCoreIdle_canonical (core : Fin 32) (s : State) (h : Canonical s.cells) :
    CanonicalAfter (execCoreIdle core s) := by simp [execCoreIdle, h]

@[simp] theorem execTimerCompare_canonical (core : Fin 32) (s : State) (h : Canonical s.cells) :
    CanonicalAfter (execTimerCompare core s) := by simp [execTimerCompare, h]

/-! ### Scalar -/

@[simp] theorem execScAdd_canonical (t : Fin 768) (o : VOp) (s : State) (h : Canonical s.cells) :
    CanonicalAfter (execScAdd t o s) := by simp [execScAdd, h]

@[simp] theorem execScSub_canonical (t : Fin 768) (o : VOp) (s : State) (h : Canonical s.cells) :
    CanonicalAfter (execScSub t o s) := by simp [execScSub, h]

@[simp] theorem execScAnd_canonical (t : Fin 768) (o : VOp) (s : State) (h : Canonical s.cells) :
    CanonicalAfter (execScAnd t o s) := by simp [execScAnd, h]

@[simp] theorem execScOr_canonical (t : Fin 768) (o : VOp) (s : State) (h : Canonical s.cells) :
    CanonicalAfter (execScOr t o s) := by simp [execScOr, h]

@[simp] theorem execScXor_canonical (t : Fin 768) (o : VOp) (s : State) (h : Canonical s.cells) :
    CanonicalAfter (execScXor t o s) := by simp [execScXor, h]

@[simp] theorem execScSll_canonical (t : Fin 768) (o : VOp) (s : State) (h : Canonical s.cells) :
    CanonicalAfter (execScSll t o s) := by simp [execScSll, h]

@[simp] theorem execScSrl_canonical (t : Fin 768) (o : VOp) (s : State) (h : Canonical s.cells) :
    CanonicalAfter (execScSrl t o s) := by simp [execScSrl, h]

@[simp] theorem execScSra_canonical (t : Fin 768) (o : VOp) (s : State) (h : Canonical s.cells) :
    CanonicalAfter (execScSra t o s) := by simp [execScSra, h]

@[simp] theorem execScMul_canonical (t : Fin 768) (o : VOp) (s : State) (h : Canonical s.cells) :
    CanonicalAfter (execScMul t o s) := by simp [execScMul, h]

@[simp] theorem execScMulh_canonical (t : Fin 768) (o : VOp) (s : State) (h : Canonical s.cells) : CanonicalAfter (execScMulh t o s) := by
  simp [execScMulh, h]

@[simp] theorem execScDiv_canonical (t : Fin 768) (o : VOp) (s : State) (h : Canonical s.cells) :
    CanonicalAfter (execScDiv t o s) := by simp [execScDiv, h]

@[simp] theorem execScRem_canonical (t : Fin 768) (o : VOp) (s : State) (h : Canonical s.cells) :
    CanonicalAfter (execScRem t o s) := by simp [execScRem, h]

@[simp] theorem execScSlt_canonical (t : Fin 768) (o : VOp) (s : State) (h : Canonical s.cells) :
    CanonicalAfter (execScSlt t o s) := by simp [execScSlt, h]

@[simp] theorem execScSltu_canonical (t : Fin 768) (o : VOp) (s : State) (h : Canonical s.cells) : CanonicalAfter (execScSltu t o s) := by
  simp [execScSltu, h]

@[simp] theorem execScMin_canonical (t : Fin 768) (o : VOp) (s : State) (h : Canonical s.cells) :
    CanonicalAfter (execScMin t o s) := by simp [execScMin, h]

@[simp] theorem execScMax_canonical (t : Fin 768) (o : VOp) (s : State) (h : Canonical s.cells) :
    CanonicalAfter (execScMax t o s) := by simp [execScMax, h]

@[simp] theorem execScAddi_canonical (t : Fin 768) (o : VOp) (s : State) (h : Canonical s.cells) : CanonicalAfter (execScAddi t o s) := by
  simp [execScAddi, h]

@[simp] theorem execScAndi_canonical (t : Fin 768) (o : VOp) (s : State) (h : Canonical s.cells) : CanonicalAfter (execScAndi t o s) := by
  simp [execScAndi, h]

@[simp] theorem execScOri_canonical (t : Fin 768) (o : VOp) (s : State) (h : Canonical s.cells) :
    CanonicalAfter (execScOri t o s) := by simp [execScOri, h]

@[simp] theorem execScXori_canonical (t : Fin 768) (o : VOp) (s : State) (h : Canonical s.cells) : CanonicalAfter (execScXori t o s) := by
  simp [execScXori, h]

@[simp] theorem execScSlli_canonical (t : Fin 768) (o : VOp) (s : State) (h : Canonical s.cells) : CanonicalAfter (execScSlli t o s) := by
  simp [execScSlli, h]

@[simp] theorem execScSrli_canonical (t : Fin 768) (o : VOp) (s : State) (h : Canonical s.cells) : CanonicalAfter (execScSrli t o s) := by
  simp [execScSrli, h]

@[simp] theorem execScSrai_canonical (t : Fin 768) (o : VOp) (s : State) (h : Canonical s.cells) : CanonicalAfter (execScSrai t o s) := by
  simp [execScSrai, h]

@[simp] theorem execScSlti_canonical (t : Fin 768) (o : VOp) (s : State) (h : Canonical s.cells) : CanonicalAfter (execScSlti t o s) := by
  simp [execScSlti, h]

@[simp] theorem execScLi_canonical (t : Fin 768) (o : VOp) (s : State) (h : Canonical s.cells) :
    CanonicalAfter (execScLi t o s) := by simp [execScLi, h]

@[simp] theorem execScLih_canonical (t : Fin 768) (o : VOp) (s : State) (h : Canonical s.cells) :
    CanonicalAfter (execScLih t o s) := by simp [execScLih, h]

@[simp] theorem execScLd_canonical (t : Fin 768) (o : VOp) (s : State) (h : Canonical s.cells) :
    CanonicalAfter (execScLd t o s) := by simp [execScLd, h]

@[simp] theorem execScSt_canonical (t : Fin 768) (o : VOp) (s : State) (h : Canonical s.cells) :
    CanonicalAfter (execScSt t o s) := by simp +contextual [execScSt, h]

@[simp] theorem execScTr_canonical (t : Fin 768) (o : VOp) (s : State) (h : Canonical s.cells) : CanonicalAfter (execScTr t o s) := by
  unfold execScTr
  refine State.issueSeq_canonical _ _ _ _ _ _ _ _ _ h fun u hu => ?_
  split <;> simp [hu]

@[simp] theorem execScTw_canonical (t : Fin 768) (o : VOp) (s : State) (h : Canonical s.cells) : CanonicalAfter (execScTw t o s) := by
  unfold execScTw
  dsimp only
  repeat' split
  all_goals simp [h]

@[simp] theorem execCtBr_canonical (t : Fin 768) (o : VOp) (s : State) (h : Canonical s.cells) :
    CanonicalAfter (execCtBr t o s) := by simp [execCtBr, h]

@[simp] theorem execCtJal_canonical (t : Fin 768) (o : VOp) (s : State) (h : Canonical s.cells) :
    CanonicalAfter (execCtJal t o s) := by simp [execCtJal, h]

@[simp] theorem execCtJr_canonical (t : Fin 768) (o : VOp) (s : State) (h : Canonical s.cells) :
    CanonicalAfter (execCtJr t o s) := by simp [execCtJr, h]

@[simp] theorem execCtFence_canonical (t : Fin 768) (o : VOp) (s : State) (h : Canonical s.cells) : CanonicalAfter (execCtFence t o s) := by
  simp +contextual [execCtFence, h]

@[simp] theorem execCtNop_canonical (t : Fin 768) (o : VOp) (s : State) (h : Canonical s.cells) :
    CanonicalAfter (execCtNop t o s) := by simp [execCtNop, h]

/-! ### Vector -/

@[simp] theorem execVAdd_canonical (t : Fin 768) (o : VOp) (s : State) (h : Canonical s.cells) :
    CanonicalAfter (execVAdd t o s) := by simp [execVAdd, h]

@[simp] theorem execVSub_canonical (t : Fin 768) (o : VOp) (s : State) (h : Canonical s.cells) :
    CanonicalAfter (execVSub t o s) := by simp [execVSub, h]

@[simp] theorem execVMul_canonical (t : Fin 768) (o : VOp) (s : State) (h : Canonical s.cells) :
    CanonicalAfter (execVMul t o s) := by simp [execVMul, h]

@[simp] theorem execVFma_canonical (t : Fin 768) (o : VOp) (s : State) (h : Canonical s.cells) :
    CanonicalAfter (execVFma t o s) := by simp [execVFma, h]

@[simp] theorem execVMin_canonical (t : Fin 768) (o : VOp) (s : State) (h : Canonical s.cells) :
    CanonicalAfter (execVMin t o s) := by simp [execVMin, h]

@[simp] theorem execVMax_canonical (t : Fin 768) (o : VOp) (s : State) (h : Canonical s.cells) :
    CanonicalAfter (execVMax t o s) := by simp [execVMax, h]

@[simp] theorem execVAnd_canonical (t : Fin 768) (o : VOp) (s : State) (h : Canonical s.cells) :
    CanonicalAfter (execVAnd t o s) := by simp [execVAnd, h]

@[simp] theorem execVOr_canonical (t : Fin 768) (o : VOp) (s : State) (h : Canonical s.cells) :
    CanonicalAfter (execVOr t o s) := by simp [execVOr, h]

@[simp] theorem execVXor_canonical (t : Fin 768) (o : VOp) (s : State) (h : Canonical s.cells) :
    CanonicalAfter (execVXor t o s) := by simp [execVXor, h]

@[simp] theorem execVShl_canonical (t : Fin 768) (o : VOp) (s : State) (h : Canonical s.cells) :
    CanonicalAfter (execVShl t o s) := by simp [execVShl, h]

@[simp] theorem execVCmp_canonical (t : Fin 768) (o : VOp) (s : State) (h : Canonical s.cells) :
    CanonicalAfter (execVCmp t o s) := by simp [execVCmp, h]

@[simp] theorem execVSel_canonical (t : Fin 768) (o : VOp) (s : State) (h : Canonical s.cells) :
    CanonicalAfter (execVSel t o s) := by simp [execVSel, h]

@[simp] theorem execVCvt_canonical (t : Fin 768) (o : VOp) (s : State) (h : Canonical s.cells) :
    CanonicalAfter (execVCvt t o s) := by simp [execVCvt, h]

@[simp] theorem execVRed_canonical (t : Fin 768) (o : VOp) (s : State) (h : Canonical s.cells) :
    CanonicalAfter (execVRed t o s) := by simp [execVRed, h]

@[simp] theorem execVSpec_canonical (t : Fin 768) (o : VOp) (s : State) (h : Canonical s.cells) :
    CanonicalAfter (execVSpec t o s) := by simp [execVSpec, h]

@[simp] theorem execVLd_canonical (t : Fin 768) (o : VOp) (s : State) (h : Canonical s.cells) :
    CanonicalAfter (execVLd t o s) := by simp [execVLd, h]

@[simp] theorem execVSt_canonical (t : Fin 768) (o : VOp) (s : State) (h : Canonical s.cells) : CanonicalAfter (execVSt t o s) := by
  unfold execVSt
  refine State.issueSeq_canonical _ _ _ _ _ _ _ _ _ h fun u hu => ?_
  dsimp only
  rw [State.retire_cells, State.tileEvent_cells]
  exact canonical_foldl _ _ _ (fun a k ha => by simp [ha]) hu

@[simp] theorem execVGath_canonical (t : Fin 768) (o : VOp) (s : State) (h : Canonical s.cells) :
    CanonicalAfter (execVGath t o s) := by simp [execVGath, h]

@[simp] theorem execVScat_canonical (t : Fin 768) (o : VOp) (s : State) (h : Canonical s.cells) : CanonicalAfter (execVScat t o s) := by
  unfold execVScat
  refine State.issueSeq_canonical _ _ _ _ _ _ _ _ _ h fun u hu => ?_
  dsimp only
  rw [State.retire_cells, State.tileEvent_cells]
  refine canonical_foldl _ _ _ (fun a l ha => ?_) hu
  split <;> simp [ha]

@[simp] theorem execVBcast_canonical (t : Fin 768) (o : VOp) (s : State) (h : Canonical s.cells) : CanonicalAfter (execVBcast t o s) := by
  simp [execVBcast, h]

@[simp] theorem execVGet_canonical (t : Fin 768) (o : VOp) (s : State) (h : Canonical s.cells) :
    CanonicalAfter (execVGet t o s) := by simp [execVGet, h]

@[simp] theorem execVPut_canonical (t : Fin 768) (o : VOp) (s : State) (h : Canonical s.cells) :
    CanonicalAfter (execVPut t o s) := by simp [execVPut, h]

@[simp] theorem execVPerm_canonical (t : Fin 768) (o : VOp) (s : State) (h : Canonical s.cells) :
    CanonicalAfter (execVPerm t o s) := by simp [execVPerm, h]

@[simp] theorem execPMov_canonical (t : Fin 768) (o : VOp) (s : State) (h : Canonical s.cells) :
    CanonicalAfter (execPMov t o s) := by simp [execPMov, h]

@[simp] theorem execPGet_canonical (t : Fin 768) (o : VOp) (s : State) (h : Canonical s.cells) :
    CanonicalAfter (execPGet t o s) := by simp [execPGet, h]

@[simp] theorem execPOp_canonical (t : Fin 768) (o : VOp) (s : State) (h : Canonical s.cells) :
    CanonicalAfter (execPOp t o s) := by simp [execPOp, h]

@[simp] theorem execPCnt_canonical (t : Fin 768) (o : VOp) (s : State) (h : Canonical s.cells) :
    CanonicalAfter (execPCnt t o s) := by simp [execPCnt, h]

/-! ### Matrix -/

@[simp] theorem execMxMac_canonical (t : Fin 768) (o : VOp) (s : State) (h : Canonical s.cells) :
    CanonicalAfter (execMxMac t o s) := by simp [execMxMac, h]

@[simp] theorem execMxMacs_canonical (t : Fin 768) (o : VOp) (s : State) (h : Canonical s.cells) : CanonicalAfter (execMxMacs t o s) := by
  simp [execMxMacs, h]

@[simp] theorem execMxDrain_canonical (t : Fin 768) (o : VOp) (s : State) (h : Canonical s.cells) : CanonicalAfter (execMxDrain t o s) := by
  simp [execMxDrain, h]

@[simp] theorem execMxLoad_canonical (t : Fin 768) (o : VOp) (s : State) (h : Canonical s.cells) : CanonicalAfter (execMxLoad t o s) := by
  simp [execMxLoad, h]

@[simp] theorem execMxZero_canonical (t : Fin 768) (o : VOp) (s : State) (h : Canonical s.cells) : CanonicalAfter (execMxZero t o s) := by
  simp [execMxZero, h]

@[simp] theorem execMxWait_canonical (t : Fin 768) (o : VOp) (s : State) (h : Canonical s.cells) : CanonicalAfter (execMxWait t o s) := by
  simp +contextual [execMxWait, h]

@[simp] theorem execMxOpComplete_canonical (t : Fin 768) (drainPath : Bool) (s : State) (h : Canonical s.cells) :
    CanonicalAfter (execMxOpComplete t drainPath s) := by
  unfold execMxOpComplete
  dsimp only
  repeat' split
  all_goals simp [h]

/-! ### Movement -/

@[simp] theorem execMvGet_canonical (t : Fin 768) (o : VOp) (s : State) (h : Canonical s.cells) :
    CanonicalAfter (execMvGet t o s) := by simp [execMvGet, h]

@[simp] theorem execMvPut_canonical (t : Fin 768) (o : VOp) (s : State) (h : Canonical s.cells) :
    CanonicalAfter (execMvPut t o s) := by simp [execMvPut, h]

@[simp] theorem execMvWait_canonical (t : Fin 768) (o : VOp) (s : State) (h : Canonical s.cells) : CanonicalAfter (execMvWait t o s) := by
  simp +contextual [execMvWait, h]

@[simp] theorem execMvPoll_canonical (t : Fin 768) (o : VOp) (s : State) (h : Canonical s.cells) : CanonicalAfter (execMvPoll t o s) := by
  unfold execMvPoll
  refine State.issueSeq_canonical _ _ _ _ _ _ _ _ _ h fun u hu => ?_
  dsimp only
  split <;> simp [hu]

@[simp] theorem execMvComplete_canonical (t : Fin 768) (tag : BitVec 4) (timeout : Bool) (s : State) (h : Canonical s.cells) :
    CanonicalAfter (execMvComplete t tag timeout s) := by
  unfold execMvComplete
  dsimp only
  repeat' split
  all_goals simp [h]

/-! ### Musters -/

@[simp] theorem execMgEnable_canonical (rq : Requester) (g : Fin 64) (s : State) (h : Canonical s.cells) :
    CanonicalAfter (execMgEnable rq g s) := by simp [execMgEnable, h]

@[simp] theorem execMgDisable_canonical (rq : Requester) (g : Fin 64) (s : State) (h : Canonical s.cells) :
    CanonicalAfter (execMgDisable rq g s) := by simp [execMgDisable, h]

@[simp] theorem execMusterEnter_canonical (g : Fin 64) (line : Option (List Byte)) (s : State) (h : Canonical s.cells) :
    CanonicalAfter (execMusterEnter g line s) := by simp [execMusterEnter, h]

@[simp] theorem execMusterReadyWord_canonical (g : Fin 64) (word : Option (BitVec 32)) (s : State) (h : Canonical s.cells) :
    CanonicalAfter (execMusterReadyWord g word s) := by simp [execMusterReadyWord, h]

@[simp] theorem execMusterDoneWord_canonical (g : Fin 64) (word : Option (BitVec 32)) (s : State) (h : Canonical s.cells) :
    CanonicalAfter (execMusterDoneWord g word s) := by simp [execMusterDoneWord, h]

@[simp] theorem execMusterAbortWord_canonical (g : Fin 64) (word : Option (BitVec 32)) (s : State) (h : Canonical s.cells) :
    CanonicalAfter (execMusterAbortWord g word s) := by simp [execMusterAbortWord, h]

@[simp] theorem execMusterArrive_canonical (m : MusterMsg) (s : State) (h : Canonical s.cells) : CanonicalAfter (execMusterArrive m s) := by
  simp [execMusterArrive, h]

@[simp] theorem execMusterGo_canonical (m : MusterMsg) (s : State) (h : Canonical s.cells) :
    CanonicalAfter (execMusterGo m s) := by simp [execMusterGo, h]

@[simp] theorem execMusterReady_canonical (m : MusterMsg) (s : State) (h : Canonical s.cells) : CanonicalAfter (execMusterReady m s) := by
  simp [execMusterReady, h]

@[simp] theorem execMusterGo2_canonical (m : MusterMsg) (s : State) (h : Canonical s.cells) :
    CanonicalAfter (execMusterGo2 m s) := by simp [execMusterGo2, h]

@[simp] theorem execMusterDone_canonical (m : MusterMsg) (s : State) (h : Canonical s.cells) : CanonicalAfter (execMusterDone m s) := by
  simp [execMusterDone, h]

@[simp] theorem execMusterDecide_canonical (m : MusterMsg) (s : State) (h : Canonical s.cells) : CanonicalAfter (execMusterDecide m s) := by
  simp [execMusterDecide, h]

@[simp] theorem execMusterAbortReq_canonical (m : MusterMsg) (s : State) (h : Canonical s.cells) :
    CanonicalAfter (execMusterAbortReq m s) := by simp [execMusterAbortReq, h]

@[simp] theorem execMusterQuery_canonical (m : MusterMsg) (s : State) (h : Canonical s.cells) : CanonicalAfter (execMusterQuery m s) := by
  simp [execMusterQuery, h]

@[simp] theorem execLeaderDeadline_canonical (g : Fin 64) (s : State) (h : Canonical s.cells) :
    CanonicalAfter (execLeaderDeadline g s) := by
  unfold execLeaderDeadline
  dsimp only
  split
  · rw [canonicalAfter_next]
    exact State.settleMst_canonical _ (State.mgSettle_canonical _ _ (by simp [h]))
  · exact (canonicalAfter_next s).mpr h

@[simp] theorem execMusterQueryTimer_canonical (g : Fin 64) (s : State) (h : Canonical s.cells) :
    CanonicalAfter (execMusterQueryTimer g s) := by simp [execMusterQueryTimer, h]

@[simp] theorem execMusterGraceExpiry_canonical (g : Fin 64) (s : State) (h : Canonical s.cells) :
    CanonicalAfter (execMusterGraceExpiry g s) := by
  unfold execMusterGraceExpiry
  dsimp only
  split
  · rw [canonicalAfter_next]
    exact State.settleMst_canonical _ (State.mgSettle_canonical _ _ (by simp [h]))
  · exact (canonicalAfter_next s).mpr h

@[simp] theorem execMusterNotice_canonical (n : MusterNotice) (s : State) (h : Canonical s.cells) :
    CanonicalAfter (execMusterNotice n s) := by simp [execMusterNotice, h]

/-! ### Power -/

@[simp] theorem execSupplyLowShutdown_canonical (gb : Bool) (s : State) (h : Canonical s.cells) :
    CanonicalAfter (execSupplyLowShutdown gb s) := by simp [execSupplyLowShutdown, h]

@[simp] theorem execSupplyHighShutdown_canonical (gb : Bool) (s : State) (h : Canonical s.cells) :
    CanonicalAfter (execSupplyHighShutdown gb s) := by simp [execSupplyHighShutdown, h]

@[simp] theorem execOrphanTimeout_canonical (s : State) (h : Canonical s.cells) :
    CanonicalAfter (execOrphanTimeout s) := by simp [execOrphanTimeout, h]

@[simp] theorem execPwrGoodAssert_canonical (s : State) (h : Canonical s.cells) :
    CanonicalAfter (execPwrGoodAssert s) := by simp [execPwrGoodAssert, h]

@[simp] theorem execPwrGoodDeassert_canonical (s : State) (h : Canonical s.cells) :
    CanonicalAfter (execPwrGoodDeassert s) := by simp [execPwrGoodDeassert, h]

@[simp] theorem execPkgResetAssert_canonical (s : State) (h : Canonical s.cells) :
    CanonicalAfter (execPkgResetAssert s) := by simp [execPkgResetAssert, h]

@[simp] theorem execPkgResetRelease_canonical (s : State) (h : Canonical s.cells) :
    CanonicalAfter (execPkgResetRelease s) := by simp [execPkgResetRelease, h]

@[simp] theorem execInputPowerRise_canonical (s : State) (h : Canonical s.cells) :
    CanonicalAfter (execInputPowerRise s) := by simp [execInputPowerRise, h]

@[simp] theorem execInputPowerLoss_canonical (s : State) : CanonicalAfter (execInputPowerLoss s) := by
  unfold execInputPowerLoss
  dsimp only
  rw [canonicalAfter_next, State.mk_cells, State.sf_cells, State.sf_cells, State.vauxOff_cells, State.railsOff_cells]
  exact canonical_nil

/-! ### Routing -/

@[simp] theorem execSqProducerWrite_canonical (q : Fin 64) (value : Option (BitVec 32)) (s : State) (h : Canonical s.cells) :
    CanonicalAfter (execSqProducerWrite q value s) := by
  unfold execSqProducerWrite
  split <;> simp [h]

@[simp] theorem execSqDescriptor_canonical (q : Fin 64) (rnd : BitVec 18) (escape : Bool) (s : State) (h : Canonical s.cells) :
    CanonicalAfter (execSqDescriptor q rnd escape s) := by
  unfold execSqDescriptor
  dsimp only
  split
  · exact (canonicalAfter_next s).mpr h
  · rw [canonicalAfter_next]
    refine State.settleMst_canonical _ (State.routerWrite_canonical _ _ _ ?_)
    rw [State.wr_cells]
    refine State.writeMem_canonical _ _ _ _ _ ?_
    split <;> simp [h]

@[simp] theorem execFrameRx_canonical (port : Fin 20) (frame : List Byte) (escape : Bool) (s : State) (h : Canonical s.cells) :
    CanonicalAfter (execFrameRx port frame escape s) := by simp [execFrameRx, h]

@[simp] theorem execCmapPeriod_canonical (levels : List (BitVec 8)) (s : State) (h : Canonical s.cells) :
    CanonicalAfter (execCmapPeriod levels s) := by
  unfold execCmapPeriod
  dsimp only
  split
  · rw [canonicalAfter_next]
    exact State.settleMst_canonical _ (State.inject_canonical _ _ _ _ (by simp [h]))
  · simp [h]

@[simp] theorem execFrtAvoidWrite_canonical (rq : Requester) (value : BitVec 32) (s : State) (h : Canonical s.cells) :
    CanonicalAfter (execFrtAvoidWrite rq value s) := by simp [execFrtAvoidWrite, h]

@[simp] theorem execSqSliceWrite_canonical (rq : Requester) (q : Fin 64) (value : BitVec 32) (s : State) (h : Canonical s.cells) :
    CanonicalAfter (execSqSliceWrite rq q value s) := by simp [execSqSliceWrite, h]

@[simp] theorem execSqEnable_canonical (rq : Requester) (q : Fin 64) (s : State) (h : Canonical s.cells) :
    CanonicalAfter (execSqEnable rq q s) := by simp [execSqEnable, h]

@[simp] theorem execRqEnable_canonical (rq : Requester) (q : Fin 64) (s : State) (h : Canonical s.cells) :
    CanonicalAfter (execRqEnable rq q s) := by simp [execRqEnable, h]

/-! ### WaybillPort -/

@[simp] theorem execWbPost_canonical (t : Fin 768) (o : VOp) (s : State) (h : Canonical s.cells) : CanonicalAfter (execWbPost t o s) := by
  simp +contextual [execWbPost, h]

@[simp] theorem execWbTake_canonical (t : Fin 768) (o : VOp) (s : State) (h : Canonical s.cells) : CanonicalAfter (execWbTake t o s) := by
  simp +contextual [execWbTake, h]

@[simp] theorem execWbGet_canonical (t : Fin 768) (o : VOp) (s : State) (h : Canonical s.cells) :
    CanonicalAfter (execWbGet t o s) := by simp [execWbGet, h]

@[simp] theorem execWbSet_canonical (t : Fin 768) (o : VOp) (s : State) (h : Canonical s.cells) :
    CanonicalAfter (execWbSet t o s) := by simp [execWbSet, h]

@[simp] theorem execWbSend_canonical (t : Fin 768) (o : VOp) (s : State) (h : Canonical s.cells) : CanonicalAfter (execWbSend t o s) := by
  simp [execWbSend, h]

@[simp] theorem execSendPayloadLeft_canonical (tile : Fin 768) (s : State) (h : Canonical s.cells) :
    CanonicalAfter (execSendPayloadLeft tile s) := by simp [execSendPayloadLeft, h]

@[simp] theorem execWbRetire_canonical (t : Fin 768) (o : VOp) (s : State) (h : Canonical s.cells) :
    CanonicalAfter (execWbRetire t o s) := by simp +contextual [execWbRetire, h]

@[simp] theorem execWbCount_canonical (t : Fin 768) (o : VOp) (s : State) (h : Canonical s.cells) : CanonicalAfter (execWbCount t o s) := by
  simp [execWbCount, h]

/-! ### TileEvents -/

@[simp] theorem execEvWait_canonical (t : Fin 768) (o : VOp) (s : State) (h : Canonical s.cells) : CanonicalAfter (execEvWait t o s) := by
  simp +contextual [execEvWait, h]

@[simp] theorem execEvClr_canonical (t : Fin 768) (o : VOp) (s : State) (h : Canonical s.cells) :
    CanonicalAfter (execEvClr t o s) := by simp [execEvClr, h]

@[simp] theorem execEvNote_canonical (t : Fin 768) (o : VOp) (s : State) (h : Canonical s.cells) : CanonicalAfter (execEvNote t o s) := by
  simp [execEvNote, h]

@[simp] theorem execEvTime_canonical (t : Fin 768) (o : VOp) (s : State) (h : Canonical s.cells) : CanonicalAfter (execEvTime t o s) := by
  simp [execEvTime, h]

@[simp] theorem execEvTimer_canonical (t : Fin 768) (o : VOp) (s : State) (h : Canonical s.cells) : CanonicalAfter (execEvTimer t o s) := by
  simp [execEvTimer, h]

@[simp] theorem execMwBurn_canonical (t : Fin 768) (o : VOp) (s : State) (h : Canonical s.cells) : CanonicalAfter (execMwBurn t o s) := by
  simp [execMwBurn, h]

@[simp] theorem execTileWaitRelease_canonical (t : Fin 768) (s : State) (h : Canonical s.cells) :
    CanonicalAfter (execTileWaitRelease t s) := by simp [execTileWaitRelease, h]

@[simp] theorem execTileTimerFire_canonical (t : Fin 768) (s : State) (h : Canonical s.cells) : CanonicalAfter (execTileTimerFire t s) := by
  simp [execTileTimerFire, h]

@[simp] theorem execTileNoteWrite_canonical (rq : Requester) (t : Fin 768) (value : BitVec 32) (s : State) (h : Canonical s.cells) :
    CanonicalAfter (execTileNoteWrite rq t value s) := by simp [execTileNoteWrite, h]

@[simp] theorem execTileSeedHiWrite_canonical (rq : Requester) (t : Fin 768) (value : BitVec 32) (s : State) (h : Canonical s.cells) :
    CanonicalAfter (execTileSeedHiWrite rq t value s) := by simp [execTileSeedHiWrite, h]

/-! ### TimeBase -/

@[simp] theorem execTmbTodArm_canonical (rq : Requester) (high : BitVec 32) (s : State) (h : Canonical s.cells) :
    CanonicalAfter (execTmbTodArm rq high s) := by simp [execTmbTodArm, h]

@[simp] theorem execPpsEdge_canonical (s : State) (h : Canonical s.cells) : CanonicalAfter (execPpsEdge s) := by simp [execPpsEdge, h]

@[simp] theorem execPpsMiss_canonical (s : State) (h : Canonical s.cells) : CanonicalAfter (execPpsMiss s) := by
  unfold execPpsMiss
  split <;> simp [h]

@[simp] theorem execRefclkLoss_canonical (s : State) (h : Canonical s.cells) :
    CanonicalAfter (execRefclkLoss s) := by simp [execRefclkLoss, h]

@[simp] theorem execRefclkRestore_canonical (s : State) (h : Canonical s.cells) :
    CanonicalAfter (execRefclkRestore s) := by simp [execRefclkRestore, h]

/-! ### RegisterAccess -/

@[simp] theorem execCounterReadClear_canonical (rq : Requester) (addr size : Nat) (s : State) (h : Canonical s.cells) :
    CanonicalAfter (execCounterReadClear rq addr size s) := by simp [execCounterReadClear, h]

@[simp] theorem execPairLowRead_canonical (rq : Requester) (addr size : Nat) (s : State) (h : Canonical s.cells) :
    CanonicalAfter (execPairLowRead rq addr size s) := by simp [execPairLowRead, h]

@[simp] theorem execTmbStatusRead_canonical (rq : Requester) (s : State) (h : Canonical s.cells) :
    CanonicalAfter (execTmbStatusRead rq s) := by simp [execTmbStatusRead, h]

@[simp] theorem execPwwStateRead_canonical (rq : Requester) (s : State) (h : Canonical s.cells) :
    CanonicalAfter (execPwwStateRead rq s) := by simp [execPwwStateRead, h]

@[simp] theorem execRegisterWrite_canonical (rq : Requester) (addr size : Nat) (value : BitVec 32) (s : State) (h : Canonical s.cells) :
    CanonicalAfter (execRegisterWrite rq addr size value s) := by simp [execRegisterWrite, h]

@[simp] theorem execPairLowWrite_canonical (rq : Requester) (addr size : Nat) (value : BitVec 32) (s : State) (h : Canonical s.cells) :
    CanonicalAfter (execPairLowWrite rq addr size value s) := by simp [execPairLowWrite, h]

@[simp] theorem execPairHighWrite_canonical (rq : Requester) (addr size : Nat) (value : BitVec 32) (s : State) (h : Canonical s.cells) :
    CanonicalAfter (execPairHighWrite rq addr size value s) := by simp [execPairHighWrite, h]

@[simp] theorem execFclFaultnDriveWrite_canonical (rq : Requester) (value : BitVec 32) (s : State) (h : Canonical s.cells) :
    CanonicalAfter (execFclFaultnDriveWrite rq value s) := by simp [execFclFaultnDriveWrite, h]

/-! ### Startup -/

@[simp] theorem execStart_canonical (tests : StartTests) (s : State) (h : Canonical s.cells) :
    CanonicalAfter (execStart tests s) := by simp [execStart, h]

@[simp] theorem execInrushWave_canonical (s : State) (h : Canonical s.cells) :
    CanonicalAfter (execInrushWave s) := by simp [execInrushWave, h]

@[simp] theorem execStartPause_canonical (heat : Bool) (s : State) (h : Canonical s.cells) : CanonicalAfter (execStartPause heat s) := by
  simp [execStartPause, h]

@[simp] theorem execStartResume_canonical (heat : Bool) (s : State) (h : Canonical s.cells) : CanonicalAfter (execStartResume heat s) := by
  simp [execStartResume, h]

@[simp] theorem execStartStepTimeout_canonical (s : State) (h : Canonical s.cells) : CanonicalAfter (execStartStepTimeout s) := by
  simp [execStartStepTimeout, h]

/-! ### Thermal -/

@[simp] theorem execThmConversion_canonical (c : Conversion) (s : State) (h : Canonical s.cells) :
    CanonicalAfter (execThmConversion c s) := by
  unfold execThmConversion
  split <;> simp [h]

@[simp] theorem execThmCapUpdate_canonical (s : State) (h : Canonical s.cells) :
    CanonicalAfter (execThmCapUpdate s) := by simp [execThmCapUpdate, h]

@[simp] theorem execCoolantStale_canonical (s : State) (h : Canonical s.cells) :
    CanonicalAfter (execCoolantStale s) := by simp [execCoolantStale, h]

@[simp] theorem execNoflowTimeout_canonical (s : State) (h : Canonical s.cells) :
    CanonicalAfter (execNoflowTimeout s) := by simp [execNoflowTimeout, h]

/-! ### Trust -/

@[simp] theorem execSessionOpen_canonical (peer : Nat) (msg : List Byte) (s : State) (h : Canonical s.cells) :
    CanonicalAfter (execSessionOpen peer msg s) := by simp [execSessionOpen, h]

@[simp] theorem execSessionConfirm_canonical (peer : Nat) (msg : List Byte) (s : State) (h : Canonical s.cells) :
    CanonicalAfter (execSessionConfirm peer msg s) := by simp [execSessionConfirm, h]

@[simp] theorem execSessionClose_canonical (peer : Nat) (msg : List Byte) (s : State) (h : Canonical s.cells) :
    CanonicalAfter (execSessionClose peer msg s) := by
  unfold execSessionClose
  rw [canonicalAfter_next]
  exact State.serve_canonical _ _ _ _ _ _ _ h fun t x ht => by simp [ht]

@[simp] theorem execSessionTimeout_canonical (peer : Nat) (s : State) (h : Canonical s.cells) :
    CanonicalAfter (execSessionTimeout peer s) := by simp [execSessionTimeout, h]

@[simp] theorem execAttest_canonical (peer : Nat) (msg : List Byte) (s : State) (h : Canonical s.cells) :
    CanonicalAfter (execAttest peer msg s) := by simp [execAttest, h]

@[simp] theorem execSetting_canonical (peer : Nat) (msg : List Byte) (s : State) (h : Canonical s.cells) :
    CanonicalAfter (execSetting peer msg s) := by
  unfold execSetting
  dsimp only
  rw [canonicalAfter_next]
  exact State.serve_canonical _ _ _ _ _ _ _ h fun t x ht => by simp [ht]

@[simp] theorem execFulltrain_canonical (peer : Nat) (msg : List Byte) (s : State) (h : Canonical s.cells) :
    CanonicalAfter (execFulltrain peer msg s) := by
  unfold execFulltrain
  dsimp only
  rw [canonicalAfter_next]
  exact State.serve_canonical _ _ _ _ _ _ _ h fun t x ht => by simp [ht]

@[simp] theorem execJournalRead_canonical (peer : Nat) (msg : List Byte) (s : State) (h : Canonical s.cells) :
    CanonicalAfter (execJournalRead peer msg s) := by simp [execJournalRead, h]

@[simp] theorem execRegwrite_canonical (peer : Nat) (msg : List Byte) (s : State) (h : Canonical s.cells) :
    CanonicalAfter (execRegwrite peer msg s) := by
  unfold execRegwrite
  dsimp only
  rw [canonicalAfter_next]
  exact State.serve_canonical _ _ _ _ _ _ _ h fun t x ht => by simp [ht]

@[simp] theorem execFieldclr_canonical (peer : Nat) (msg : List Byte) (s : State) (h : Canonical s.cells) :
    CanonicalAfter (execFieldclr peer msg s) := by
  unfold execFieldclr
  dsimp only
  rw [canonicalAfter_next]
  exact State.serve_canonical _ _ _ _ _ _ _ h fun t x ht => by simp [ht]

@[simp] theorem execImageBegin_canonical (peer : Nat) (msg : List Byte) (s : State) (h : Canonical s.cells) :
    CanonicalAfter (execImageBegin peer msg s) := by
  unfold execImageBegin
  dsimp only
  rw [canonicalAfter_next]
  exact State.serve_canonical _ _ _ _ _ _ _ h fun t x ht => by simp [ht]

@[simp] theorem execImageChunk_canonical (peer : Nat) (msg : List Byte) (s : State) (h : Canonical s.cells) :
    CanonicalAfter (execImageChunk peer msg s) := by
  unfold execImageChunk
  dsimp only
  rw [canonicalAfter_next]
  exact State.serve_canonical _ _ _ _ _ _ _ h fun t x ht => by simp [ht]

@[simp] theorem execImageEnd_canonical (peer : Nat) (msg : List Byte) (s : State) (h : Canonical s.cells) :
    CanonicalAfter (execImageEnd peer msg s) := by simp [execImageEnd, h]

@[simp] theorem execActivate_canonical (peer : Nat) (msg : List Byte) (s : State) (h : Canonical s.cells) :
    CanonicalAfter (execActivate peer msg s) := by
  unfold execActivate
  dsimp only
  rw [canonicalAfter_next]
  exact State.serve_canonical _ _ _ _ _ _ _ h fun t x ht => by simp [ht]

@[simp] theorem execImageAbort_canonical (peer : Nat) (msg : List Byte) (s : State) (h : Canonical s.cells) :
    CanonicalAfter (execImageAbort peer msg s) := by
  unfold execImageAbort
  rw [canonicalAfter_next]
  exact State.serve_canonical _ _ _ _ _ _ _ h fun t x ht => by simp [ht]

@[simp] theorem execGovActivationStep_canonical (s : State) (h : Canonical s.cells) : CanonicalAfter (execGovActivationStep s) := by
  unfold execGovActivationStep
  split <;> simp [h]

@[simp] theorem execGovActivationTimeout_canonical (s : State) (h : Canonical s.cells) : CanonicalAfter (execGovActivationTimeout s) := by
  unfold execGovActivationTimeout
  split <;> simp [h]

@[simp] theorem execStewardRestart_canonical (s : State) (h : Canonical s.cells) : CanonicalAfter (execStewardRestart s) := by
  unfold execStewardRestart
  split <;> simp [h]

/-! ### Time -/

@[simp] theorem State.ptimeTick_cells (s : State) : s.ptimeTick.cells = s.cells := by simp [State.ptimeTick]

@[simp] theorem State.holdTick_cells (s : State) (gb : Bool) : (s.holdTick gb).cells = s.cells := by simp [State.holdTick]

@[simp] theorem State.coreTick_cells (s : State) (c : Nat) : (s.coreTick c).cells = s.cells := by simp [State.coreTick]

@[simp] theorem State.policerTick_cells (s : State) : s.policerTick.cells = s.cells := by simp [State.policerTick]

@[simp] theorem State.stewardTick_cells (s : State) : s.stewardTick.cells = s.cells := by simp [State.stewardTick]

@[simp] theorem State.tileTick_cells (s : State) (t : Nat) : (s.tileTick t).cells = s.cells := by simp [State.tileTick]

@[simp] theorem State.blockTick_cells (s : State) (j : Nat) : (s.blockTick j).cells = s.cells := by simp [State.blockTick]

@[simp] theorem State.prfTick_cells (s : State) : s.prfTick.cells = s.cells := by simp [State.prfTick]

@[simp] theorem State.tick_cells (s : State) : s.tick.cells = s.cells := by simp [State.tick]

/-! ### All commands, and a step -/

/-- The meaning that each arm names keeps the canonical form. -/
theorem exec_canonical (i : Instr) (s : State) (h : Canonical s.cells) : CanonicalAfter (exec i s) := by cases i <;> simp [exec, h]

/-- A step is a command's meaning, or a nanosecond, which leaves the bytes of memory alone. -/
theorem step_canonical (s : State) (h : Canonical s.cells) : CanonicalAfter (step s) := by
  unfold step
  split
  · simp [h]
  · exact exec_canonical _ _ h

/-- Settles O59: a command stores into memory by writes that keep the canonical form, or leaves its bytes alone, and so does time. -/
theorem memoryStaysCanonical : Obligations.MemoryStaysCanonical :=
  fun s t hs ht => step_canonical s hs t ht

/-- Settles O60: memory lists nothing after reset. -/
theorem resetMemoryCanonical : Obligations.ResetMemoryCanonical :=
  canonical_nil

end Sys2Proof.Machine
end

section
/-! SUPPORT. The places of registers (O58): a key of one register is no key of another, and the register map finds each copy at its own. -/

namespace Sys2Proof.Machine

/-! ### One register -/

/-- The rows of a register's copies do not run into each other, and a dimension with no step has one copy. -/
def RegDesc.regular (d : RegDesc) : Bool :=
  decide (0 < d.c1) && decide (0 < d.c2) && (d.s1 != 0 || d.c1 == 1) && (d.s2 != 0 || d.c2 == 1) &&
    (d.c1 == 1 || decide ((d.c2 - 1) * d.s2 < d.s1))

theorem RegDesc.regular_iff (d : RegDesc) :
    d.regular = true ↔
      0 < d.c1 ∧ 0 < d.c2 ∧ (d.s1 = 0 → d.c1 = 1) ∧ (d.s2 = 0 → d.c2 = 1) ∧ (d.c1 = 1 ∨ (d.c2 - 1) * d.s2 < d.s1) := by
  simp [RegDesc.regular, and_assoc, imp_iff_not_or]

/-- The copy of row `a` and column `b`. -/
theorem Reg.key_row (r : Reg) (a b : Nat) (hb : b < r.desc.c2) :
    r.key (a * r.desc.c2 + b) = r.desc.base + a * r.desc.s1 + b * r.desc.s2 := by
  have h1 : (a * r.desc.c2 + b) / r.desc.c2 = a := by
    rw [Nat.mul_comm, Nat.mul_add_div (by omega), Nat.div_eq_of_lt hb, Nat.add_zero]
  have h2 : (a * r.desc.c2 + b) % r.desc.c2 = b := by rw [Nat.mul_comm, Nat.mul_add_mod, Nat.mod_eq_of_lt hb]
  simp only [Reg.key, h1, h2]

/-- A copy has a row and a column. -/
theorem Reg.row_and_column (r : Reg) (i : Nat) (hi : i < r.copies) :
    ∃ a b, a < r.desc.c1 ∧ b < r.desc.c2 ∧ i = a * r.desc.c2 + b :=
  ⟨i / r.desc.c2, i % r.desc.c2, Nat.div_lt_of_lt_mul (by rw [Nat.mul_comm]; exact hi),
    Nat.mod_lt _ (Nat.pos_of_mul_pos_left (Nat.zero_lt_of_lt hi)), (Nat.div_add_mod' _ _).symm⟩

/-- What the map takes for copy `j` of a register at a key is a copy of it, with that key. -/
theorem Reg.key_of_index? {r : Reg} {k j : Nat} (hr : r.desc.regular = true) (h : r.index? k = some j) :
    j < r.copies ∧ r.key j = k := by
  obtain ⟨h1, -⟩ := r.desc.regular_iff.mp hr
  unfold Reg.index? at h
  extract_lets d o a o' b at h
  split at h
  · exact absurd h (by simp)
  · split at h
    · next hlo hc =>
      obtain ⟨⟨⟨hb, ho⟩, -⟩, -⟩ : ((b < d.c2 ∧ o' = b * d.s2) ∧ _) ∧ _ := by simpa using hc
      have ha : a ≤ d.c1 - 1 := by
        unfold a
        split
        · exact Nat.zero_le _
        · exact Nat.min_le_right _ _
      have hao : a * d.s1 ≤ o := by
        unfold a
        split
        · simp
        · exact (Nat.mul_le_mul_right _ (Nat.min_le_left _ _)).trans (Nat.div_mul_le_self _ _)
      rw [← Option.some.inj h]
      constructor
      · calc a * d.c2 + b < a * d.c2 + d.c2 := Nat.add_lt_add_left hb _
          _ = (a + 1) * d.c2 := by rw [Nat.add_mul, Nat.one_mul]
          _ ≤ d.c1 * d.c2 := Nat.mul_le_mul_right _ (Nat.lt_of_le_pred h1 ha)
      · calc r.key (a * d.c2 + b) = d.base + a * d.s1 + b * d.s2 := Reg.key_row r a b hb
          _ = d.base + (a * d.s1 + o') := by rw [ho, Nat.add_assoc]
          _ = d.base + o := by rw [Nat.add_sub_cancel' hao]
          _ = k := Nat.add_sub_cancel' (Nat.le_of_not_lt hlo)
    · exact absurd h (by simp)

/-- The row that the map reads off a place is the copy's. -/
theorem RegDesc.row_of_offset (d : RegDesc) (a b : Nat) (hd : d.regular = true) (ha : a < d.c1) (hb : b < d.c2) :
    (if d.s1 = 0 then 0 else min ((a * d.s1 + b * d.s2) / d.s1) (d.c1 - 1)) = a := by
  obtain ⟨-, -, hs1, -, hrow⟩ := d.regular_iff.mp hd
  split
  · next h0 => have := hs1 h0; omega
  · next h0 =>
    rcases hrow with hc | hlt
    · rw [hc, Nat.sub_self, Nat.min_zero]
      omega
    · have hcol : b * d.s2 < d.s1 := (Nat.mul_le_mul_right _ (Nat.le_pred_of_lt hb)).trans_lt hlt
      rw [Nat.mul_comm a, Nat.mul_add_div (Nat.pos_of_ne_zero h0), Nat.div_eq_of_lt hcol, Nat.add_zero,
        Nat.min_eq_left (by omega)]

/-- The column that the map reads off a place is the copy's. -/
theorem RegDesc.column_of_offset (d : RegDesc) (b : Nat) (hd : d.regular = true) (hb : b < d.c2) :
    (if d.s2 = 0 then 0 else b * d.s2 / d.s2) = b := by
  obtain ⟨-, -, -, hs2, -⟩ := d.regular_iff.mp hd
  split
  · next h0 => have := hs2 h0; omega
  · next h0 => exact Nat.mul_div_cancel _ (Nat.pos_of_ne_zero h0)

/-- The map finds a copy at its own key. -/
theorem Reg.index?_key (r : Reg) (i : Nat) (hr : r.desc.regular = true) (hi : i < r.copies) (hsrc : r = .IC_SRC → 32 ≤ i)
    (hpsrc : r = .IC_PSRC → i % 32 ≠ 0) : r.index? (r.key i) = some i := by
  obtain ⟨a, b, ha, hb, rfl⟩ := r.row_and_column i hi
  have hsrc' : ¬(r = .IC_SRC ∧ a < 32) := by
    rintro ⟨rfl, h⟩
    have hb' : b < 1 := hb
    have h32 : 32 ≤ a * 1 + b := hsrc rfl
    omega
  have hpsrc' : ¬(r = .IC_PSRC ∧ b = 0) := by
    rintro ⟨rfl, rfl⟩
    exact hpsrc rfl (Nat.mul_mod_left a 32)
  unfold Reg.index?
  dsimp only
  rw [Reg.key_row r a b hb, Nat.add_assoc, if_neg (by omega), Nat.add_sub_cancel_left, RegDesc.row_of_offset _ a b hr ha hb,
    Nat.add_sub_cancel_left, RegDesc.column_of_offset _ b hr hb, if_pos]
  simp only [Bool.and_eq_true, decide_eq_true_eq, Bool.not_eq_true', ← Bool.not_eq_true]
  exact ⟨⟨⟨hb, trivial⟩, hsrc'⟩, hpsrc'⟩

/-! ### Two registers -/

/-- The place of the last copy. -/
def RegDesc.last (d : RegDesc) : Nat := d.base + (d.c1 - 1) * d.s1 + (d.c2 - 1) * d.s2

/-- Two registers share no place: one lies past the other, or their columns differ by no multiple of what both rows step by. -/
def RegDesc.apart (d e : RegDesc) : Bool :=
  decide (d.last < e.base) || decide (e.last < d.base) ||
    (List.range d.c2).all fun m => (List.range e.c2).all fun n =>
      (d.base + m * d.s2) % Nat.gcd d.s1 e.s1 != (e.base + n * e.s2) % Nat.gcd d.s1 e.s1

theorem Reg.base_le_key (r : Reg) (i : Nat) : r.desc.base ≤ r.key i := by
  unfold Reg.key
  dsimp only
  omega

theorem Reg.key_le_last (r : Reg) (i : Nat) (hi : i < r.copies) : r.key i ≤ r.desc.last := by
  obtain ⟨a, b, ha, hb, rfl⟩ := r.row_and_column i hi
  rw [Reg.key_row r a b hb]
  exact Nat.add_le_add (Nat.add_le_add_left (Nat.mul_le_mul_right _ (Nat.le_pred_of_lt ha)) _)
    (Nat.mul_le_mul_right _ (Nat.le_pred_of_lt hb))

/-- A key tells its column, up to the step of the rows. -/
theorem Reg.key_mod (r : Reg) (i g : Nat) (hg : g ∣ r.desc.s1) :
    r.key i % g = (r.desc.base + i % r.desc.c2 * r.desc.s2) % g := by
  obtain ⟨m, hm⟩ := hg
  have h : r.key i = r.desc.base + i % r.desc.c2 * r.desc.s2 + g * (m * (i / r.desc.c2)) := by
    unfold Reg.key
    dsimp only
    rw [hm, Nat.mul_left_comm, Nat.mul_comm m, Nat.add_right_comm]
  rw [h, Nat.add_mul_mod_self_left]

theorem Reg.key_ne_of_apart {q r : Reg} {i j : Nat} (h : q.desc.apart r.desc = true) (hj : j < q.copies) (hi : i < r.copies) :
    q.key j ≠ r.key i := by
  have hq := q.key_le_last j hj
  have hr := r.key_le_last i hi
  have hq' := q.base_le_key j
  have hr' := r.base_le_key i
  simp only [RegDesc.apart, Bool.or_eq_true, decide_eq_true_eq, List.all_eq_true, List.mem_range, bne_iff_ne] at h
  rcases h with (h | h) | h
  · omega
  · omega
  · intro he
    have hne := h (j % q.desc.c2) (Nat.mod_lt _ (Nat.pos_of_mul_pos_left (Nat.zero_lt_of_lt hj))) (i % r.desc.c2)
      (Nat.mod_lt _ (Nat.pos_of_mul_pos_left (Nat.zero_lt_of_lt hi)))
    rw [← Reg.key_mod q j _ (Nat.gcd_dvd_left _ _), ← Reg.key_mod r i _ (Nat.gcd_dvd_right _ _), he] at hne
    exact hne rfl

/-! ### The tables -/

/-- Where a block's registers lie: its first place and the one past its last (R36, R37, R35). -/
def Block.span : Block → Nat × Nat
  | .cvn => (0x0, 0x100000)
  | .ic => (0x100000, 0x200000)
  | .cvu => (0x200000, 0x300000)
  | .prf => (0x300000, 0x400000)
  | .fpt => (0x400000, 0x500000)
  | .frt => (0x500000, 0x600000)
  | .mst => (0x600000, 0x700000)
  | .eth => (0x700000, 0x800000)
  | .mem => (0x800000, 0x900000)
  | .fcl => (0x900000, 0xA00000)
  | .rst => (0xA00000, 0xB00000)
  | .pww => (0xB00000, 0xC00000)
  | .thm => (0xC00000, 0xD00000)
  | .idt => (0xD00000, 0xE00000)
  | .tmb => (0xE00000, 0xF00000)
  | .gov => (0x40000000, 0x42000000)
  | .ost => (0x42000000, 0x43000000)
  | .mtr => (0x43000000, 0x44000000)
  | .sec => (0x45000000, 0x46000000)
  | .jnl => (0x46000000, 0x47000000)
  | .tile => (0x10000000000, 0x10030000000)

theorem Block.ofKey_of_span (b : Block) (k : Nat) (hlo : b.span.1 ≤ k) (hhi : k < b.span.2) : Block.ofKey k = some b := by
  unfold Block.ofKey
  cases b <;> simp only [Block.span] at hlo hhi <;> grind

/-- Each register of a block's table is regular and lies in the block's span, and no other of the table shares a place with it. -/
def Block.wellPlaced (b : Block) : Bool :=
  b.regs.all fun r =>
    r.desc.regular && decide (b.span.1 ≤ r.desc.base) && decide (r.desc.last < b.span.2) &&
      b.regs.all fun q => decide (q = r) || q.desc.apart r.desc

/-- The tables, read as they are: descriptors are compared, not copies. -/
theorem Block.wellPlaced_all (b : Block) : b.wellPlaced = true := by
  cases b <;> rfl

theorem Block.place_of_mem {b : Block} {r : Reg} (h : r ∈ b.regs) :
    r.desc.regular = true ∧ b.span.1 ≤ r.desc.base ∧ r.desc.last < b.span.2 ∧
      ∀ q ∈ b.regs, q ≠ r → q.desc.apart r.desc = true := by
  have hr := List.all_eq_true.mp b.wellPlaced_all r h
  simp only [Bool.and_eq_true, decide_eq_true_eq, List.all_eq_true, Bool.or_eq_true] at hr
  obtain ⟨⟨⟨hreg, hlo⟩, hhi⟩, hapart⟩ := hr
  exact ⟨hreg, hlo, hhi, fun q hq hne => (hapart q hq).resolve_left hne⟩

theorem Reg.mem_regs (r : Reg) : r ∈ r.desc.blk.regs := by
  cases r <;> decide

/-! ### The map -/

/-- Settles O58: the block of a key is its register's, and in the block's table no other register has that key. -/
theorem registerPlaces : Obligations.RegisterPlaces := by
  intro r i hi hsrc hpsrc
  obtain ⟨hreg, hlo, hhi, hapart⟩ := Block.place_of_mem r.mem_regs
  have hown := r.index?_key i hreg hi hsrc hpsrc
  unfold Reg.at
  rw [Block.ofKey_of_span r.desc.blk (r.key i) (hlo.trans (r.base_le_key i)) ((r.key_le_last i hi).trans_lt hhi)]
  dsimp only
  cases hp : r.desc.blk.regs.findSome? (fun q => (q.index? (r.key i)).map (fun j => (q, j))) with
  | none => exact absurd (List.findSome?_eq_none_iff.mp hp r r.mem_regs) (by simp [hown])
  | some p =>
    obtain ⟨q, hq, hfound⟩ := List.exists_of_findSome?_eq_some hp
    obtain ⟨j, hj, rfl⟩ := Option.map_eq_some_iff.mp hfound
    obtain ⟨hcopy, hkey⟩ := Reg.key_of_index? (Block.place_of_mem hq).1 hj
    by_cases hne : q = r
    · rw [hne, hown] at hj
      rw [hne, Option.some.inj hj]
    · exact absurd hkey (Reg.key_ne_of_apart (hapart q hq hne) hcopy hi)

end Sys2Proof.Machine
end

section
/-! SUPPORT. One nanosecond of time (O54): what each part of a tick changes, and PTIME and the cycles of the cores after it. -/

namespace Sys2Proof.Machine

/-! ### Cores -/

/-- Nothing but cores and the answer of an instruction differs. -/
def CoresOnly (s t : State) : Prop := { t with cores := s.cores, resp := s.resp } = s

theorem CoresOnly.trans {s t u : State} (h1 : CoresOnly s t) (h2 : CoresOnly t u) : CoresOnly s u := by
  unfold CoresOnly at *
  have h3 : ({ u with cores := s.cores, resp := s.resp } : State) =
      { ({ u with cores := t.cores, resp := t.resp } : State) with cores := s.cores, resp := s.resp } := rfl
  rw [h3, h2, h1]

/-- Core `c` has acted: no other core differs, and its cycles have not moved. -/
def CoreActs (c : Nat) (s t : State) : Prop := CoresOnly s t ∧ CoreOnly s t c ∧ (t.core c).mcycle = (s.core c).mcycle

theorem CoreActs.refl (c : Nat) (s : State) : CoreActs c s s := ⟨rfl, fun _ _ => rfl, rfl⟩

theorem CoreActs.trans {c : Nat} {s t u : State} (h1 : CoreActs c s t) (h2 : CoreActs c t u) : CoreActs c s u :=
  ⟨h1.1.trans h2.1, fun d hd => (h2.2.1 d hd).trans (h1.2.1 d hd), h2.2.2.trans h1.2.2⟩

theorem CoreActs.setCore (s : State) (c : Nat) (x : Core) (h : x.mcycle = (s.core c).mcycle) : CoreActs c s (s.setCore c x) :=
  ⟨rfl, fun d hd => State.core_setCore_ne s c d x hd, by rw [State.core_setCore_same, h]⟩

@[simp] theorem Core.event_mcycle (k : Core) (ev : Nat) : (k.event ev).mcycle = k.mcycle := by
  unfold Core.event
  refine foldl_keeps (fun a : Core => a.mcycle = k.mcycle) _ (fun a j ha => ?_) _ k rfl
  dsimp only
  split
  · exact ha
  · exact ha

@[simp] theorem Core.interrupt_mcycle (k : Core) (toS : Bool) (n : Nat) : (k.interrupt toS n).mcycle = k.mcycle := by
  unfold Core.interrupt
  cases toS <;> rfl

theorem CoreActs.setXreg (s : State) (c n v : Nat) : CoreActs c s (s.setXreg c n v) := by
  unfold State.setXreg
  split
  · exact .refl c s
  · exact .setCore s c _ rfl

theorem CoreActs.answer (c : Nat) (s : State) (st : Status) (v : Nat) : CoreActs c s (s.answer st v) := ⟨rfl, fun _ _ => rfl, rfl⟩

theorem CoreActs.cvnResult (s : State) (c rd : Nat) (st : Status) (fields : Nat) : CoreActs c s (s.cvnResult c rd st fields) := by
  unfold State.cvnResult
  dsimp only
  refine ((CoreActs.setXreg s c rd _).trans (.setCore _ c _ ?_)).trans (.answer c _ st _)
  dsimp only
  exact Core.event_mcycle _ 7

theorem CoreActs.breakWait (s : State) (c : Nat) : CoreActs c s (s.breakWait c) := by
  unfold State.breakWait
  split
  · exact .cvnResult s c _ _ _
  · exact .refl c s

theorem CoreActs.coreSettle (s : State) (c : Nat) : CoreActs c s (s.coreSettle c) := by
  unfold State.coreSettle
  extract_lets k wake s1
  have h1 : CoreActs c s s1 := by
    unfold s1
    split
    · exact .setCore s c _ rfl
    · exact .refl c s
  split
  · exact .refl c s
  · split
    · exact (h1.trans (.breakWait s1 c)).trans (.setCore _ c _ (Core.interrupt_mcycle _ _ _))
    · exact h1

theorem CoreActs.coreTimer (s : State) (c : Nat) : CoreActs c s (s.coreTimer c) := by
  unfold State.coreTimer
  extract_lets k
  refine CoreActs.trans (.setCore s c _ ?_) (.coreSettle _ c)
  rfl

/-- A core after a nanosecond in which it ran: its cycles, unless it is idle (R502), and those of a wait on the caravan port (R652). -/
def Core.ticked (k : Core) : Core :=
  let k1 := if k.idle then k else { k with mcycle := k.mcycle + 1 }
  if k.wait.isSome then k1.event 8 else k1

theorem Core.ticked_mcycle (k : Core) : k.ticked.mcycle = if k.idle = true then k.mcycle else k.mcycle + 1 := by
  unfold Core.ticked
  dsimp only
  split
  · rw [Core.event_mcycle]
    split <;> rfl
  · split <;> rfl

theorem State.coreTick_off (s : State) (c : Nat) (h : (s.core c).on = false) : s.coreTick c = s := by
  simp [State.coreTick, h]

theorem State.coreTick_on (s : State) (c : Nat) (h : (s.core c).on = true) :
    s.coreTick c = (s.setCore c (s.core c).ticked).coreTimer c := by
  unfold State.coreTick Core.ticked
  dsimp only
  rw [if_neg (by simp [h])]

theorem State.coreTick_coresOnly (s : State) (c : Nat) : CoresOnly s (s.coreTick c) := by
  cases h : (s.core c).on with
  | false =>
    rw [s.coreTick_off c h]
    exact rfl
  | true =>
    rw [s.coreTick_on c h]
    have hset : CoresOnly s (s.setCore c (s.core c).ticked) := rfl
    exact hset.trans (CoreActs.coreTimer _ c).1

theorem State.coreTick_coreOnly (s : State) (c : Nat) : CoreOnly s (s.coreTick c) c := by
  intro d hd
  cases h : (s.core c).on with
  | false => rw [s.coreTick_off c h]
  | true =>
    rw [s.coreTick_on c h, (CoreActs.coreTimer _ c).2.1 d hd, State.core_setCore_ne _ _ _ _ hd]

theorem State.coreTick_mcycle (s : State) (c : Nat) (h : (s.core c).on = true) :
    ((s.coreTick c).core c).mcycle = (s.core c).ticked.mcycle := by
  rw [s.coreTick_on c h, (CoreActs.coreTimer _ c).2.2, State.core_setCore_same]

theorem coreTicks_coresOnly (l : List Nat) (s : State) : CoresOnly s (l.foldl (fun a c => a.coreTick c) s) :=
  foldl_keeps (CoresOnly s) _ (fun a c ha => ha.trans (a.coreTick_coresOnly c)) l s rfl

theorem coreTicks_core_of_notMem (l : List Nat) (s : State) (c : Nat) (hc : c ∉ l) :
    (l.foldl (fun a c => a.coreTick c) s).core c = s.core c :=
  foldl_keeps_mem (fun a => a.core c = s.core c) _ l s
    (fun a d hd ha => (a.coreTick_coreOnly d c fun h => hc (h ▸ hd)).trans ha) rfl

/-- Each core of a list takes its nanosecond. -/
theorem coreTicks_mcycle (l : List Nat) (s : State) (hl : l.Nodup) (c : Nat) (hc : c ∈ l) (hon : (s.core c).on = true) :
    ((l.foldl (fun a c => a.coreTick c) s).core c).mcycle = (s.core c).ticked.mcycle := by
  induction l generalizing s with
  | nil => exact absurd hc (by simp)
  | cons d l ih =>
    obtain ⟨hd, hl⟩ := List.nodup_cons.mp hl
    rw [List.foldl_cons]
    by_cases hcd : c = d
    · rw [hcd, coreTicks_core_of_notMem l _ d hd, s.coreTick_mcycle d (hcd ▸ hon)]
    · have hkept := s.coreTick_coreOnly d c hcd
      rw [ih _ hl ((List.mem_cons.mp hc).resolve_left hcd) (by rw [hkept, hon]), hkept]

/-! ### PRF -/

theorem RegsOnly.tileTick (s : State) (t : Nat) : RegsOnly s (s.tileTick t) := by
  unfold State.tileTick
  extract_lets x s1 s2
  have h1 : RegsOnly s s1 := by
    unfold s1
    split
    · exact RegsOnly.tileEvent s t _ _
    · exact RegsOnly.refl s
  have h2 : RegsOnly s s2 := by
    unfold s2
    split
    · exact h1.trans (RegsOnly.tileEvent s1 t _ _)
    · exact h1
  split
  · exact h2
  · refine foldl_keeps (RegsOnly s) _ (fun a k ha => ?_) _ s2 h2
    extract_lets n m
    split
    · exact ha.trans (RegsOnly.tcAdd a t k _)
    · exact ha

theorem RegsOnly.blockTick (s : State) (j : Nat) : RegsOnly s (s.blockTick j) := by
  unfold State.blockTick
  split
  · exact RegsOnly.refl s
  · extract_lets i n
    split
    · exact RegsOnly.refl s
    · exact RegsOnly.blkAdd s j _

theorem RegsOnly.prfTick (s : State) : RegsOnly s s.prfTick := by
  unfold State.prfTick
  dsimp only
  split
  · exact RegsOnly.refl s
  · refine foldl_keeps (RegsOnly s) _ (fun a j ha => ha.trans (RegsOnly.blockTick a j)) _ _ ?_
    split
    · exact RegsOnly.refl s
    · exact foldl_keeps (RegsOnly s) _ (fun a e ha => ha.trans (RegsOnly.tileTick a e.1)) _ s (RegsOnly.refl s)

/-! ### A tick -/

/-- Nothing but what a nanosecond may change differs: registers, cores, the time base, the policer, the governors, the steward's clock. -/
def TickOnly (s t : State) : Prop :=
  { t with
    regs := s.regs, resp := s.resp, tmb := s.tmb, gova := s.gova, govb := s.govb, frt := s.frt, cores := s.cores, boot := s.boot } = s

theorem TickOnly.trans {s t u : State} (h1 : TickOnly s t) (h2 : TickOnly t u) : TickOnly s u := by
  unfold TickOnly at *
  rw [← h1, ← h2]

theorem RegsOnly.tickOnly {s t : State} (h : RegsOnly s t) : TickOnly s t := by
  unfold RegsOnly at h
  unfold TickOnly
  rw [← h]

theorem CoresOnly.tickOnly {s t : State} (h : CoresOnly s t) : TickOnly s t := by
  unfold CoresOnly at h
  unfold TickOnly
  rw [← h]

theorem TickOnly.stewardTick (s : State) : TickOnly s s.stewardTick := by
  unfold State.stewardTick
  split <;> rfl

theorem TickOnly.ptimeTick (s : State) : TickOnly s s.ptimeTick := by
  unfold State.ptimeTick
  dsimp only
  repeat' split
  all_goals rfl

theorem TickOnly.noteSync (s : State) (before : Nat) : TickOnly s (s.noteSync before) := by
  unfold State.noteSync
  split <;> rfl

theorem TickOnly.policerTick (s : State) : TickOnly s s.policerTick := rfl

theorem TickOnly.holdTick (s : State) (gb : Bool) : TickOnly s (s.holdTick gb) := by
  unfold State.holdTick State.setGov
  dsimp only
  repeat' split
  all_goals rfl

/-- The state in which the cores take their nanosecond. -/
def State.clockTick (s : State) : State :=
  ((((s.stewardTick.ptimeTick).noteSync s.sync).policerTick).holdTick false).holdTick true

theorem State.tick_eq (s : State) : s.tick = ((List.range 32).foldl (fun a c => a.coreTick c) s.clockTick).prfTick := rfl

theorem TickOnly.clockTick (s : State) : TickOnly s s.clockTick :=
  (((((TickOnly.stewardTick s).trans (.ptimeTick _)).trans (.noteSync _ _)).trans (.policerTick _)).trans (.holdTick _ false)).trans
    (.holdTick _ true)

theorem TickOnly.tick (s : State) : TickOnly s s.tick := by
  rw [s.tick_eq]
  exact ((TickOnly.clockTick s).trans (coreTicks_coresOnly _ _).tickOnly).trans (RegsOnly.prfTick _).tickOnly

@[simp] theorem State.stewardTick_tmb (s : State) : s.stewardTick.tmb = s.tmb := by
  unfold State.stewardTick
  split <;> rfl

@[simp] theorem State.stewardTick_rails (s : State) : s.stewardTick.boot.rails = s.boot.rails := by
  unfold State.stewardTick
  split <;> rfl

@[simp] theorem State.stewardTick_cores (s : State) : s.stewardTick.cores = s.cores := by
  unfold State.stewardTick
  split <;> rfl

@[simp] theorem State.ptimeTick_cores (s : State) : s.ptimeTick.cores = s.cores := by
  unfold State.ptimeTick
  dsimp only
  repeat' split
  all_goals rfl

@[simp] theorem State.noteSync_ptime (s : State) (before : Nat) : (s.noteSync before).tmb.ptime = s.tmb.ptime := by
  unfold State.noteSync
  split <;> rfl

@[simp] theorem State.noteSync_slew (s : State) (before : Nat) : (s.noteSync before).tmb.slew = s.tmb.slew := by
  unfold State.noteSync
  split <;> rfl

@[simp] theorem State.noteSync_cores (s : State) (before : Nat) : (s.noteSync before).cores = s.cores := by
  unfold State.noteSync
  split <;> rfl

@[simp] theorem State.stewardTick_frt (s : State) : s.stewardTick.frt = s.frt := by
  unfold State.stewardTick
  split <;> rfl

@[simp] theorem State.ptimeTick_frt (s : State) : s.ptimeTick.frt = s.frt := by
  unfold State.ptimeTick
  dsimp only
  repeat' split
  all_goals rfl

@[simp] theorem State.noteSync_frt (s : State) (before : Nat) : (s.noteSync before).frt = s.frt := by
  unfold State.noteSync
  split <;> rfl

/-- The ageing of a hold is a matter of its governor alone. -/
theorem State.holdTick_only (s : State) (gb : Bool) : { s.holdTick gb with gova := s.gova, govb := s.govb } = s := by
  unfold State.holdTick State.setGov
  dsimp only
  repeat' split
  all_goals rfl

@[simp] theorem State.holdTick_tmb (s : State) (gb : Bool) : (s.holdTick gb).tmb = s.tmb := (congrArg State.tmb (s.holdTick_only gb) :)
@[simp] theorem State.holdTick_frt (s : State) (gb : Bool) : (s.holdTick gb).frt = s.frt := (congrArg State.frt (s.holdTick_only gb) :)
@[simp] theorem State.holdTick_cores (s : State) (gb : Bool) : (s.holdTick gb).cores = s.cores :=
  (congrArg State.cores (s.holdTick_only gb) :)
@[simp] theorem State.policerTick_tmb (s : State) : s.policerTick.tmb = s.tmb := rfl
@[simp] theorem State.policerTick_cores (s : State) : s.policerTick.cores = s.cores := rfl

@[simp] theorem State.clockTick_cores (s : State) : s.clockTick.cores = s.cores := by simp [State.clockTick]

@[simp] theorem State.clockTick_tokens (s : State) : s.clockTick.frt.tokens = min 4096 (s.frt.tokens + 4) := by
  simp [State.clockTick, State.policerTick]

@[simp] theorem State.clockTick_ptime (s : State) : s.clockTick.tmb.ptime = s.stewardTick.ptimeTick.tmb.ptime := by
  simp [State.clockTick]

@[simp] theorem State.clockTick_slew (s : State) : s.clockTick.tmb.slew = s.stewardTick.ptimeTick.tmb.slew := by
  simp [State.clockTick]

theorem RegsOnly.tmb_eq {s t : State} (h : RegsOnly s t) : t.tmb = s.tmb := (congrArg State.tmb h :)
theorem RegsOnly.frt_eq {s t : State} (h : RegsOnly s t) : t.frt = s.frt := (congrArg State.frt h :)
theorem CoresOnly.tmb_eq {s t : State} (h : CoresOnly s t) : t.tmb = s.tmb := (congrArg State.tmb h :)
theorem CoresOnly.frt_eq {s t : State} (h : CoresOnly s t) : t.frt = s.frt := (congrArg State.frt h :)
theorem RegsOnly.core_eq {s t : State} (h : RegsOnly s t) (c : Nat) : t.core c = s.core c :=
  (congrArg (fun u : State => u.core c) h :)

@[simp] theorem State.tick_tmb (s : State) : s.tick.tmb = s.clockTick.tmb := by
  rw [s.tick_eq, (RegsOnly.prfTick _).tmb_eq, (coreTicks_coresOnly _ _).tmb_eq]

@[simp] theorem State.tick_frt (s : State) : s.tick.frt = s.clockTick.frt := by
  rw [s.tick_eq, (RegsOnly.prfTick _).frt_eq, (coreTicks_coresOnly _ _).frt_eq]

theorem State.tick_mcycle (s : State) (c : Nat) (hc : c < 32) (hon : (s.core c).on = true) :
    (s.tick.core c).mcycle = if (s.core c).idle = true then (s.core c).mcycle else (s.core c).mcycle + 1 := by
  have hkept : s.clockTick.core c = s.core c := by simp only [State.core, State.clockTick_cores]
  rw [s.tick_eq, (RegsOnly.prfTick _).core_eq,
    coreTicks_mcycle _ s.clockTick List.nodup_range c (List.mem_range.mpr hc) (by rw [hkept, hon]), hkept, Core.ticked_mcycle]

/-! ### PTIME -/

theorem State.ptimeTick_off (s : State) (h : s.boot.rails = false) : s.ptimeTick = s := by simp [State.ptimeTick, h]

/-- With no offset to slew in, or no reference clock, PTIME goes on by one (R42). -/
theorem State.ptimeTick_plain (s : State) (h : s.boot.rails = true) (hp : s.tmb.slew = 0 ∨ s.tmb.refclk = false) :
    s.ptimeTick.tmb.ptime = s.tmb.ptime + 1 := by
  have hp' : s.tmb.slew = 0 ∨ (!s.tmb.refclk) = true := by simpa using hp
  simp only [State.ptimeTick, h, Bool.not_true, if_pos hp']
  rfl

/-- The last tick of a slew period takes one nanosecond of the offset in (R715). -/
theorem State.ptimeTick_forward (s : State) (h : s.boot.rails = true) (hr : s.tmb.refclk = true) (he : s.tmb.slewTick + 1 = 10000)
    (hs : 0 < s.tmb.slew) : s.ptimeTick.tmb.ptime = s.tmb.ptime + 2 ∧ s.ptimeTick.tmb.slew = s.tmb.slew - 1 := by
  have h0 : ¬ (s.tmb.slew = 0 ∨ (!s.tmb.refclk) = true) := by simp [hr]; omega
  have h1 : ¬ s.tmb.slewTick + 1 < 10000 := by omega
  simp only [State.ptimeTick, h, Bool.not_true, if_neg h0, if_neg h1, if_pos hs]
  exact ⟨rfl, rfl⟩

theorem State.ptimeTick_backward (s : State) (h : s.boot.rails = true) (hr : s.tmb.refclk = true) (he : s.tmb.slewTick + 1 = 10000)
    (hs : s.tmb.slew < 0) : s.ptimeTick.tmb.ptime = s.tmb.ptime ∧ s.ptimeTick.tmb.slew = s.tmb.slew + 1 := by
  have h0 : ¬ (s.tmb.slew = 0 ∨ (!s.tmb.refclk) = true) := by simp [hr]; omega
  have h1 : ¬ s.tmb.slewTick + 1 < 10000 := by omega
  have h2 : ¬ 0 < s.tmb.slew := by omega
  simp only [State.ptimeTick, h, Bool.not_true, if_neg h0, if_neg h1, if_neg h2]
  exact ⟨rfl, rfl⟩

theorem step_idle (s : State) (h : s.pending = []) : step s = .next s.tick := by simp only [step, h]

/-- Settles O54: a step with no command waiting is a tick, which `TickOnly.tick` frames; PTIME by the cases of a slew. -/
theorem idleNanosecond : Obligations.IdleNanosecond := by
  intro s hp
  have hframe : TickOnly s s.tick := .tick s
  have hrails := s.stewardTick_rails
  refine ⟨s.tick, step_idle s hp, (congrArg State.pending hframe :).trans hp, (congrArg State.mem hframe :),
    (congrArg State.cvn hframe :), (congrArg State.sec hframe :), (congrArg State.journal hframe :), (congrArg State.ports hframe :),
    (congrArg State.out hframe :), (congrArg State.tiles hframe :), fun h hs => ?plain, fun h hr he hs => ?forward,
    fun h hr he hs => ?backward, fun h => ?off, fun c hc hon => s.tick_mcycle c hc hon, ?tokens⟩
  case plain => simpa using s.stewardTick.ptimeTick_plain (hrails.trans h) (by simpa using hs)
  case forward => simpa using s.stewardTick.ptimeTick_forward (hrails.trans h) (by simpa using hr) (by simpa using he) (by simpa using hs)
  case backward => simpa using s.stewardTick.ptimeTick_backward (hrails.trans h) (by simpa using hr) (by simpa using he) (by simpa using hs)
  case off => simp [s.stewardTick.ptimeTick_off (hrails.trans h)]
  case tokens => simp

end Sys2Proof.Machine
end

section
/-! SUPPORT. Accesses of cores and of the steward to windows, depots and memory (O20): what a read and a write of clean lines leave. -/

namespace Sys2Proof.Machine

/-! ### What counting in PRF leaves -/

theorem prfCnt_key (j : Nat) (hj : j < 32) : prfKey (Reg.PRF_CNT.key j) = true := by
  have hkey : Reg.PRF_CNT.key j = 0x300200 + j / 1 * 4 + j % 1 * 0 := rfl
  simp only [hkey, prfKey, Bool.and_eq_true, decide_eq_true_eq]
  omega

theorem PrfOnly.blkAdd (s : State) (j n : Nat) (hj : j < 32) : PrfOnly s (s.blkAdd j n) := by
  unfold State.blkAdd
  dsimp only
  have h1 := PrfOnly.wr s .PRF_CNT j (s.rr .PRF_CNT j + n) (prfCnt_key j hj)
  split
  · exact h1
  · split
    · next hc =>
      have hj2 : j + 1 < 32 := by
        simp only [Bool.and_eq_true, decide_eq_true_eq] at hc
        omega
      have h2 := fun v => h1.trans (PrfOnly.wr _ .PRF_CNT (j + 1) v (prfCnt_key (j + 1) hj2))
      split
      · exact h2 _
      · exact ((h2 _).trans (PrfOnly.wr _ .PRF_OVF 0 _ (by decide))).trans (PrfOnly.prfEvent _ _)
    · exact (h1.trans (PrfOnly.wr _ .PRF_OVF 0 _ (by decide))).trans (PrfOnly.prfEvent _ _)

theorem PrfOnly.blockEvent (s : State) (ev idx n : Nat) : PrfOnly s (s.blockEvent ev idx n) := by
  unfold State.blockEvent
  split
  · exact PrfOnly.refl s
  · refine foldl_keeps_mem (PrfOnly s) _ _ s (fun b j hj hb => ?_) (PrfOnly.refl s)
    split
    · exact hb.trans (PrfOnly.blkAdd b j n (List.mem_range.mp hj))
    · exact hb

/-! ### The channel of an address -/

/-- Every register but those of PRF reads as it did. -/
def SameRegs (s t : State) : Prop := ∀ (r : Reg) (i : Nat), prfKey (r.key i) = false → t.rr r i = s.rr r i

theorem Reg.key_above_prf (r : Reg) (i : Nat) (h : 0x400000 ≤ r.desc.base) : prfKey (r.key i) = false := by
  have hk : r.desc.base ≤ r.key i := by
    unfold Reg.key
    dsimp only
    omega
  simp only [prfKey, Bool.and_eq_false_iff, decide_eq_false_iff_not]
  omega

theorem SameRegs.f {s t : State} (h : SameRegs s t) (g : Fld) (i : Nat) (hb : 0x400000 ≤ g.reg.desc.base) : t.f g i = s.f g i := by
  unfold State.f
  rw [h g.reg i (g.reg.key_above_prf i hb)]

theorem SameRegs.region {s t : State} (h : SameRegs s t) (i : Nat) : t.region i = s.region i := by
  unfold State.region
  rw [h.f F.MEM_STATUS_RGN_STAT 0 (by decide), h.f F.MEM_STATUS_SEALED 0 (by decide), h.f F.MEM_RGN_BASE_BASE i (by decide),
    h.f F.MEM_RGN_SIZE_SIZE i (by decide)]

theorem SameRegs.channelOf {s t : State} (h : SameRegs s t) (a : Nat) : t.channelOf a = s.channelOf a := by
  have hstacks : ∀ i, t.f F.MEM_RGN_CTL_STACKS i = s.f F.MEM_RGN_CTL_STACKS i := fun i => h.f _ i (by decide)
  have hgran : ∀ i, t.f F.MEM_RGN_CTL_GRAN i = s.f F.MEM_RGN_CTL_GRAN i := fun i => h.f _ i (by decide)
  unfold State.channelOf
  simp only [h.region, hstacks, hgran]

theorem SameRegs.channelFailed {s t : State} (h : SameRegs s t) (q : Nat) : t.channelFailed q = s.channelFailed q := by
  unfold State.channelFailed
  rw [h.f F.MEM_CH_STAT_STATE q (by decide)]

theorem State.region_aligned (s : State) (i : Nat) : ∃ p q, s.region i = (64 * p, 64 * q) := by
  unfold State.region
  split
  · exact ⟨s.f F.MEM_RGN_BASE_BASE i * 2 ^ 24, s.f F.MEM_RGN_SIZE_SIZE i * (3 * 2 ^ 14), by rw [Prod.mk.injEq]; omega⟩
  · exact ⟨0, 0, rfl⟩

/-- A line lies whole in one channel: regions begin and end at lines, and channels interleave by more than a line (R279 to R283). -/
theorem State.channelOf_line (s : State) (a : Nat) : s.channelOf (a / 64 * 64) = s.channelOf a := by
  have hin : ∀ i, (decide ((s.region i).1 ≤ a / 64 * 64) && decide (a / 64 * 64 < (s.region i).1 + (s.region i).2)) =
      (decide ((s.region i).1 ≤ a) && decide (a < (s.region i).1 + (s.region i).2)) := by
    intro i
    obtain ⟨p, q, hpq⟩ := s.region_aligned i
    rw [Bool.eq_iff_iff]
    simp only [hpq, Bool.and_eq_true, decide_eq_true_eq]
    omega
  have hbelow : ∀ i, (s.region i).1 + (s.region i).2 ≤ a / 64 * 64 ↔ (s.region i).1 + (s.region i).2 ≤ a := by
    intro i
    obtain ⟨p, q, hpq⟩ := s.region_aligned i
    simp only [hpq]
    omega
  unfold State.channelOf
  simp only [hin, hbelow]
  split
  · next i _ =>
    obtain ⟨p, q, hpq⟩ := s.region_aligned i
    have hu : ∀ g, g = 4096 ∨ g = 256 → (a / 64 * 64 - (s.region i).1) / g = (a - (s.region i).1) / g := by
      rintro g (rfl | rfl) <;> simp only [hpq] <;> omega
    rw [hu _ (by split <;> simp)]
  · have hfold : ∃ p, (List.range 8).foldl (fun acc i =>
        if (s.region i).1 + (s.region i).2 ≤ a then acc + (s.region i).2 else acc) 0 = 64 * p := by
      refine foldl_keeps (fun acc => ∃ p, acc = 64 * p) _ (fun acc i hacc => ?_) _ 0 ⟨0, rfl⟩
      obtain ⟨p, rfl⟩ := hacc
      obtain ⟨b, q, hbq⟩ := s.region_aligned i
      split
      · exact ⟨p + q, by simp only [hbq]; omega⟩
      · exact ⟨p, rfl⟩
    obtain ⟨p, hp⟩ := hfold
    have hl : (a / 64 * 64 - 64 * p) / 256 = (a - 64 * p) / 256 := by omega
    rw [hp, hl]

/-! ### Clean lines -/

/-- A line that is not poisoned, holds no error and does not lie on a failed channel. -/
def LineClean (s : State) (l : Nat) : Prop :=
  s.poisoned l = false ∧ s.latentAt l = none ∧ (l * 64 < memEnd → s.channelFailed (s.channelOf (l * 64)) = false)

theorem CleanAt.line {s : State} {a n : Nat} (h : CleanAt s a n) (l : Nat) (hl : a / 64 ≤ l) (hu : l * 64 < a + n) (hn : 0 < n) :
    LineClean s l := by
  obtain ⟨b, hb, hab, hbn⟩ : ∃ b, b / 64 = l ∧ a ≤ b ∧ b < a + n := ⟨max a (l * 64), by omega, by omega, by omega⟩
  obtain ⟨hp, he, hc⟩ := h b hab hbn
  rw [hb] at hp he hc
  refine ⟨hp, he, fun hm => hc ?_⟩
  unfold memEnd at *
  omega

theorem LineClean.channel {s : State} {a : Nat} (h : LineClean s (a / 64)) (ha : a < memEnd) : s.channelFailed (s.channelOf a) = false := by
  rw [← s.channelOf_line a]
  exact h.2.2 (by omega)

theorem placeOf_dram (a : Nat) : placeOf a = .dram ↔ a < memEnd := by
  unfold placeOf
  dsimp only
  constructor
  · intro h
    by_contra hn
    rw [if_neg hn] at h
    repeat' split at h
    all_goals exact absurd h (by simp)
  · exact fun h => if_pos h

theorem LineClean.not_failed {s : State} {a : Nat} (h : LineClean s (a / 64)) :
    ¬ (decide (placeOf a = .dram) && s.channelFailed (s.channelOf a)) = true := by
  by_cases hm : a < memEnd
  · simp [h.channel hm]
  · simp [placeOf_dram, hm]

/-! ### What a write of clean lines leaves -/

/-- Nothing but bytes of memory, the answer and what PRF counts differs. -/
def BytesOnly (s t : State) : Prop :=
  (∀ l, t.poisoned l = s.poisoned l ∧ t.latentAt l = s.latentAt l) ∧ SameRegs s t ∧
    { t with regs := s.regs, prf := s.prf, mem := s.mem, resp := s.resp } = s

/-- Bytes `bs` stand at `a`, and nothing else differs but the answer and what PRF counts. -/
def Writes (s t : State) (a : Nat) (bs : List Byte) : Prop :=
  BytesOnly s t ∧ ∀ x, t.byte x = if a ≤ x ∧ x < a + bs.length then bs.getD (x - a) 0 else s.byte x

theorem BytesOnly.trans {s t u : State} (h1 : BytesOnly s t) (h2 : BytesOnly t u) : BytesOnly s u := by
  obtain ⟨hm1, hr1, he1⟩ := h1
  obtain ⟨hm2, hr2, he2⟩ := h2
  refine ⟨fun l => ⟨(hm2 l).1.trans (hm1 l).1, (hm2 l).2.trans (hm1 l).2⟩, fun r i h => (hr2 r i h).trans (hr1 r i h), ?_⟩
  rw [← he1, ← he2]

theorem LineClean.of_bytesOnly {s t : State} {l : Nat} (h : LineClean s l) (ht : BytesOnly s t) : LineClean t l := by
  obtain ⟨hp, he, hc⟩ := h
  obtain ⟨hm, hr, -⟩ := ht
  refine ⟨(hm l).1.trans hp, (hm l).2.trans he, fun hl => ?_⟩
  rw [hr.channelFailed, hr.channelOf]
  exact hc hl

/-- Two writes, the second where the first ends, are one. -/
theorem Writes.append {s t u : State} {a : Nat} {bs cs : List Byte} (h1 : Writes s t a bs) (h2 : Writes t u (a + bs.length) cs) :
    Writes s u a (bs ++ cs) := by
  refine ⟨h1.1.trans h2.1, fun x => ?_⟩
  rw [h2.2 x, h1.2 x, List.length_append]
  by_cases hc : a + bs.length ≤ x ∧ x < a + bs.length + cs.length
  · rw [if_pos hc, if_pos (by omega), List.getD_append_right _ _ _ _ (by omega), Nat.sub_add_eq]
  · rw [if_neg hc]
    by_cases hb : a ≤ x ∧ x < a + bs.length
    · rw [if_pos hb, if_pos (by omega), List.getD_append _ _ _ _ (by omega)]
    · rw [if_neg hb, if_neg (by omega)]

/-- A step that stores nothing, before a write. -/
theorem Writes.after {s t u : State} {a : Nat} {bs : List Byte} (h1 : Writes s t a []) (h2 : Writes t u a bs) : Writes s u a bs :=
  Writes.append h1 h2

theorem Writes.of_cells {s t : State} (a : Nat) (h : BytesOnly s t) (hc : t.mem.cells = s.mem.cells) : Writes s t a [] := by
  refine ⟨h, fun x => ?_⟩
  rw [if_neg (by simp)]
  unfold State.byte
  rw [hc]

theorem Writes.of_prfOnly {s t : State} (a : Nat) (h : PrfOnly s t) : Writes s t a [] := by
  refine .of_cells a ⟨fun l => ?_, h.2, ?_⟩ (by rw [h.mem])
  · unfold State.poisoned State.latentAt
    rw [h.mem]
    exact ⟨rfl, rfl⟩
  · have he := h.1
    rw [← he]

theorem Writes.refl (s : State) (a : Nat) : Writes s s a [] := .of_prfOnly a (PrfOnly.refl s)

theorem Writes.setPoison (s : State) (a l : Nat) (h : s.poisoned l = false) : Writes s (s.setPoison l false) a [] := by
  refine .of_cells a ⟨fun j => ⟨?_, rfl⟩, fun _ _ _ => rfl, rfl⟩ rfl
  unfold State.poisoned State.setPoison
  rw [SMap.get_set]
  split
  · next hj => exact hj ▸ h.symm
  · rfl

theorem Writes.dropLatent (s : State) (a l : Nat) (h : s.latentAt l = none) : Writes s (s.dropLatent l) a [] := by
  refine .of_cells a ⟨fun j => ⟨rfl, ?_⟩, fun _ _ _ => rfl, rfl⟩ rfl
  unfold State.latentAt State.dropLatent
  by_cases hj : j = l
  · rw [hj, SMap.find?_del_same]
    exact h.symm
  · exact SMap.find?_del_ne _ _ _ hj

theorem Writes.storeBytes (s : State) (a : Nat) (bs : List Byte) : Writes s (s.storeBytes a bs) a bs := by
  refine ⟨?_, s.byte_storeBytes a bs⟩
  rw [s.storeBytes_only a bs]
  exact ⟨fun _ => ⟨rfl, rfl⟩, fun _ _ _ => rfl, rfl⟩

theorem Writes.accessEvent (s : State) (a b ev : Nat) :
    Writes s (if placeOf b = .dram then s.blockEvent ev (s.channelOf b) 1 else s) a [] := by
  split
  · exact .of_prfOnly a (PrfOnly.blockEvent _ _ _ _)
  · exact .refl s a

/-! ### Reads and writes of clean lines -/

/-- The check of a clean line finds nothing and counts the read. -/
theorem checkLine_clean {s : State} {l : Nat} (h : LineClean s l) (src : Nat) :
    PrfOnly s (s.checkLine l src).1 ∧ (s.checkLine l src).2 = false := by
  unfold State.checkLine
  dsimp only
  have hu : PrfOnly s (if placeOf (l * 64) = .dram then s.blockEvent 0x01 (s.channelOf (l * 64)) 1 else s) := by
    split
    · exact PrfOnly.blockEvent _ _ _ _
    · exact PrfOnly.refl s
  revert hu
  generalize (if placeOf (l * 64) = Place.dram then s.blockEvent 0x01 (s.channelOf (l * 64)) 1 else s) = u
  intro hu
  have hclean : LineClean u l := h.of_bytesOnly (Writes.of_prfOnly 0 hu).1
  have hfail := LineClean.not_failed (s := u) (a := l * 64) (by rwa [Nat.mul_div_cancel l (by omega)])
  obtain ⟨hp, he, -⟩ := hclean
  rw [if_neg hfail, if_neg (by simp [hp]), he]
  exact ⟨hu, rfl⟩

theorem checkLines_clean (n : Nat) (s : State) (l src : Nat) (h : ∀ j < n, LineClean s (l + j)) :
    PrfOnly s (s.checkLines l src n).1 ∧ (s.checkLines l src n).2 = false := by
  induction n generalizing s l with
  | zero => exact ⟨PrfOnly.refl s, rfl⟩
  | succ n ih =>
    unfold State.checkLines
    dsimp only
    have hfirst : LineClean s l := h 0 (by omega)
    obtain ⟨h1, hm1⟩ := checkLine_clean hfirst src
    have hrest : ∀ j < n, LineClean (s.checkLine l src).1 (l + 1 + j) := fun j hj => by
      have hj' := h (j + 1) (by omega)
      rw [Nat.add_assoc, Nat.add_comm 1 j]
      exact hj'.of_bytesOnly (Writes.of_prfOnly 0 h1).1
    obtain ⟨h2, hm2⟩ := ih _ (l + 1) hrest
    exact ⟨h1.trans h2, by rw [hm1, hm2]; rfl⟩

theorem State.bytes_of_mem {s t : State} (h : t.mem = s.mem) (a n : Nat) : t.bytes a n = s.bytes a n := by
  induction n generalizing a with
  | zero => rfl
  | succ n ih =>
    unfold State.bytes
    rw [ih (a + 1)]
    unfold State.byte
    rw [h]

/-- Bytes read one by one are read together. -/
theorem State.bytes_eq_of_getD (t : State) (a : Nat) (bs : List Byte) (h : ∀ i < bs.length, t.byte (a + i) = bs.getD i 0) :
    t.bytes a bs.length = bs := by
  induction bs generalizing a with
  | nil => rfl
  | cons b bs ih =>
    have hhead : t.byte a = b := h 0 (by simp)
    have htail : t.bytes (a + 1) bs.length = bs := ih (a + 1) fun i hi => by
      have hi' := h (i + 1) (by simpa using hi)
      rw [Nat.add_assoc, Nat.add_comm 1 i]
      simpa using hi'
    rw [List.length_cons, State.bytes, hhead, htail]

theorem Writes.bytes_eq {s t : State} {a : Nat} {bs : List Byte} (h : Writes s t a bs) : t.bytes a bs.length = bs := by
  refine t.bytes_eq_of_getD a bs fun i hi => ?_
  rw [h.2 (a + i), if_pos (by omega), Nat.add_sub_cancel_left]

theorem Writes.byte_outside {s t : State} {a : Nat} {bs : List Byte} (h : Writes s t a bs) (x : Nat)
    (hx : x < a ∨ a + bs.length ≤ x) : t.byte x = s.byte x := by
  rw [h.2 x, if_neg (by omega)]

/-- A write within a clean line stores its bytes. -/
theorem writeLine_clean {s : State} {a : Nat} {bs : List Byte} (h : LineClean s (a / 64)) (src : Nat) :
    Writes s (s.writeLine a bs false src) a bs := by
  unfold State.writeLine
  dsimp only
  have hu := Writes.accessEvent s a a 0x02
  revert hu
  generalize (if placeOf a = Place.dram then s.blockEvent 0x02 (s.channelOf a) 1 else s) = u
  intro hu
  have hclean : LineClean u (a / 64) := h.of_bytesOnly hu.1
  rw [if_neg hclean.not_failed]
  have ⟨hp, he, _⟩ := hclean
  split
  · have h1 := Writes.dropLatent u a _ he
    exact ((hu.after h1).after (.setPoison _ a _ hp)).after (.storeBytes _ a bs)
  · obtain ⟨h1, hm⟩ := checkLine_clean hclean src
    have h1' := Writes.of_prfOnly a h1
    rw [if_neg (by simp [hp]), hm]
    exact ((hu.after h1').after (.setPoison _ a _ (hclean.of_bytesOnly h1'.1).1)).after (.storeBytes _ a bs)

/-- A write over clean lines stores its bytes, line by line. -/
theorem writeLines_clean (k : Nat) (s : State) (a : Nat) (bs : List Byte) (src : Nat) (hk : linesOf a bs.length ≤ k)
    (h : ∀ l, a / 64 ≤ l → l * 64 < a + bs.length → LineClean s l) : Writes s (s.writeLines k a bs false src) a bs := by
  induction k generalizing s a bs with
  | zero =>
    have hlen : bs.length = 0 := by
      by_contra hn
      rw [linesOf, if_neg hn] at hk
      omega
    rw [List.eq_nil_of_length_eq_zero hlen]
    exact .refl s a
  | succ k ih =>
    unfold State.writeLines
    dsimp only
    split
    · next hn =>
      have hlen : bs.length = 0 := by omega
      rw [List.eq_nil_of_length_eq_zero hlen]
      exact .refl s a
    · next hn =>
      generalize hm : min (64 - a % 64) bs.length = n at *
      have htake : (bs.take n).length = n := by rw [List.length_take]; omega
      have hdrop : (bs.drop n).length = bs.length - n := List.length_drop
      have h1 : Writes s (s.writeLine a (bs.take n) false src) a (bs.take n) := writeLine_clean (h (a / 64) (by omega) (by omega)) src
      have h2 := ih (s.writeLine a (bs.take n) false src) (a + n) (bs.drop n) (by
        unfold linesOf at *
        rw [hdrop]
        split at hk
        · omega
        · split
          · omega
          · omega) fun l hl hu => (h l (by omega) (by omega)).of_bytesOnly h1.1
      have h12 := h1.append (by rw [htake]; exact h2)
      rwa [List.take_append_drop] at h12

theorem CleanAt.lines {s : State} {a n : Nat} (h : CleanAt s a n) : ∀ j < linesOf a n, LineClean s (a / 64 + j) := by
  intro j hj
  unfold linesOf at hj
  split at hj
  · omega
  · exact h.line _ (by omega) (by omega) (by omega)

theorem writeMem_clean {s : State} {a : Nat} {bs : List Byte} (hpos : 0 < bs.length) (h : CleanAt s a bs.length) (src : Nat) :
    Writes s (s.writeMem a bs false src) a bs :=
  writeLines_clean _ s a bs src (Nat.le_refl _) fun l hl hu => h.line l hl hu hpos

/-- A read of clean lines gives the stored bytes, unmarked. -/
theorem readMem_clean {s : State} {a n : Nat} (h : CleanAt s a n) (src : Nat) :
    PrfOnly s (s.readMem a n src).1 ∧ (s.readMem a n src).2 = (s.bytes a n, false) := by
  obtain ⟨h1, hm⟩ := checkLines_clean (linesOf a n) s (a / 64) src h.lines
  refine ⟨h1, ?_⟩
  unfold State.readMem
  dsimp only
  rw [hm, State.bytes_of_mem h1.mem]

theorem touchesFailed_clean (n : Nat) (s : State) (a : Nat) (h : ∀ j < n, LineClean s (a / 64 + j)) : s.touchesFailed a n = false := by
  induction n generalizing a with
  | zero => rfl
  | succ n ih =>
    have hnext : (a / 64 * 64 + 64) / 64 = a / 64 + 1 := by omega
    have hrest : s.touchesFailed (a / 64 * 64 + 64) n = false := ih _ fun j hj => by
      rw [hnext, Nat.add_assoc, Nat.add_comm 1 j]
      exact h (j + 1) (by omega)
    rw [State.touchesFailed, hrest, Bool.or_false]
    by_cases hm : a < memEnd
    · simp [(h 0 (by omega)).channel hm]
    · simp [hm]

@[simp] theorem leBytes_length (k n : Nat) : (leBytes k n).length = k := by
  induction k generalizing n with
  | zero => rfl
  | succ k ih => rw [leBytes, List.length_cons, ih]

/-! ### Memory as a core sees it -/

theorem exec_coreMemoryAccess (c : Fin 32) (k : MemAccess) (a n : Nat) (hit : Bool) (s : State) :
    exec (.coreMemoryAccess c k a n hit none) s = execCoreMemoryAccess c k a n hit none s := rfl

theorem Writes.answer {s t : State} {a : Nat} {bs : List Byte} (h : Writes s t a bs) (st : Status) (v : Nat) :
    Writes s (t.answer st v) a bs := by
  obtain ⟨⟨hm, hr, he⟩, hb⟩ := h
  exact ⟨⟨hm, hr, he⟩, hb⟩

theorem Writes.storedOnly {s t : State} {a : Nat} {bs : List Byte} (h : Writes s t a bs) : StoredOnly s t a bs.length := by
  obtain ⟨hm, hr, he⟩ := h.1
  exact ⟨h.byte_outside, hm, fun r i hk _ => hr r i hk, he⟩

/-- What a store that answers OK leaves. -/
theorem Writes.stored {s t : State} {a n v : Nat} (h : Writes s t a (leBytes n v)) :
    (t.answer .ok 0).bytes a n = leBytes n v ∧ StoredOnly s (t.answer .ok 0) a n ∧ (t.answer .ok 0).resp = ⟨.ok, 0⟩ := by
  have hb := (h.answer .ok 0).bytes_eq
  have ho := (h.answer .ok 0).storedOnly
  rw [leBytes_length] at hb ho
  exact ⟨hb, ho, rfl⟩

section
variable {s : State} {c : Fin 32} {k : MemAccess} {a n : Nat} {hit : Bool}

theorem execCoreMemory_store_failed (hi : (s.core c).issues = true) (ha : a < memEnd) (hn : a + n ≤ memEnd) (v : BitVec 64)
    (hf : s.touchesFailed a (linesOf a n) = true) :
    exec (.coreMemoryAccess c (.store v) a n false none) s = .next ((s.setCore c ((s.core c).exception 7 a)).answer .poison 0) := by
  rw [exec_coreMemoryAccess]
  simp [execCoreMemoryAccess, hi, (placeOf_dram a).mpr ha, inMem, hn, State.flipLine, hf, State.memFault, State.coreException,
    excStoreAccess]

theorem execCoreMemory_store_miss (hi : (s.core c).issues = true) (ha : a < memEnd) (hn : a + n ≤ memEnd) (v : BitVec 64)
    (hf : s.touchesFailed a (linesOf a n) = false) :
    exec (.coreMemoryAccess c (.store v) a n false none) s = .next ((s.writeMem a (leBytes n v.toNat) false 0).answer .ok 0) := by
  rw [exec_coreMemoryAccess]
  simp [execCoreMemoryAccess, hi, (placeOf_dram a).mpr ha, inMem, hn, State.flipLine, hf]

theorem execCoreMemory_store_hit (hi : (s.core c).issues = true) (ha : a < memEnd) (hn : a + n ≤ memEnd) (v : BitVec 64) :
    exec (.coreMemoryAccess c (.store v) a n true none) s = .next ((s.storeBytes a (leBytes n v.toNat)).answer .ok 0) := by
  rw [exec_coreMemoryAccess]
  simp [execCoreMemoryAccess, hi, (placeOf_dram a).mpr ha, inMem, hn, State.flipLine]

theorem execCoreMemory_read (hi : (s.core c).issues = true) (ha : a < memEnd) (hn : a + n ≤ memEnd) (hk : k = .load ∨ k = .fetch)
    (hr : (s.readMem a n 0).2 = (s.bytes a n, false)) :
    exec (.coreMemoryAccess c k a n false none) s = .next ((s.readMem a n 0).1.answer .ok (leNat (s.bytes a n))) := by
  rw [exec_coreMemoryAccess]
  rcases hk with rfl | rfl <;>
    simp [execCoreMemoryAccess, hi, (placeOf_dram a).mpr ha, inMem, hn, State.flipLine, hr]

theorem execCoreMemory_bounds (hi : (s.core c).issues = true)
    (h : memEnd ≤ a ∧ placeOf a = .unmapped ∨ a < memEnd ∧ memEnd < a + n) :
    exec (.coreMemoryAccess c k a n hit none) s = .next ((s.memFault c k a).answer .bounds 0) := by
  rw [exec_coreMemoryAccess]
  rcases h with ⟨-, hp⟩ | ⟨ha, hn⟩
  · simp [execCoreMemoryAccess, hi, hp]
  · simp [execCoreMemoryAccess, hi, (placeOf_dram a).mpr ha, inMem, hn]

end

theorem coreMemory : CoreMemory := by
  intro s c k a n hi
  dsimp only
  refine ⟨fun ha hn => ⟨fun hpos hclean => ⟨?_, fun hk => ?_⟩, ?_, ?_⟩, fun h hit => ?_⟩
  · rintro v rfl
    have hw := writeMem_clean (s := s) (a := a) (bs := leBytes n v.toNat) (by simpa) (by simpa) 0
    exact ⟨_, execCoreMemory_store_miss hi ha hn v (touchesFailed_clean _ s a hclean.lines), hw.stored⟩
  · obtain ⟨hprf, hbytes⟩ := readMem_clean hclean 0
    have hw := (Writes.of_prfOnly a hprf).answer .ok (leNat (s.bytes a n))
    exact ⟨_, execCoreMemory_read hi ha hn hk hbytes, hprf.mem, hw.storedOnly, rfl⟩
  · rintro v rfl
    exact ⟨_, execCoreMemory_store_hit hi ha hn v, (Writes.storeBytes s a _).stored⟩
  · rintro v rfl hf
    exact ⟨_, execCoreMemory_store_failed hi ha hn v hf, rfl⟩
  · refine ⟨_, execCoreMemory_bounds hi h, ?_⟩
    cases k <;> rfl

/-! ### Windows and depots -/

theorem exec_coreWindowAccess (rq : Requester) (a n : Nat) (w : Option (BitVec 64)) (s : State) :
    exec (.coreWindowAccess rq a n w none) s = execCoreWindowAccess rq a n w none s := rfl

theorem window_above_memory {a : Nat} (h : (placeOf a).window = true) : memEnd ≤ a := by
  by_contra hn
  rw [(placeOf_dram a).mpr (by omega)] at h
  exact absurd h (by decide)

/-- A naturally aligned access lies within one line. -/
theorem natural_within_line {a n : Nat} (h : natural a n = true) : 0 < n ∧ n ≤ 8 ∧ a % 64 + n ≤ 64 := by
  simp only [natural, Bool.and_eq_true, Bool.or_eq_true, beq_iff_eq] at h
  obtain ⟨((rfl | rfl) | rfl) | rfl, hal⟩ := h <;> omega

theorem linesOf_natural {a n : Nat} (h : natural a n = true) : linesOf a n = 1 := by
  obtain ⟨hpos, -, hline⟩ := natural_within_line h
  rw [linesOf, if_neg (by omega)]
  omega

/-- A clean line of a window is read as it stands. -/
theorem checkLine_window {s : State} {l : Nat} (h : memEnd ≤ l * 64) (hp : s.poisoned l = false) (he : s.latentAt l = none) (src : Nat) :
    s.checkLine l src = (s, false) := by
  have hd : placeOf (l * 64) ≠ .dram := fun hd => absurd ((placeOf_dram _).mp hd) (by omega)
  simp [State.checkLine, hd, hp, he]

section
variable {s : State} {a n : Nat}

theorem readMem_window (hw : (placeOf a).window = true) (hn : natural a n = true) (hc : CleanAt s a n) (src : Nat) :
    s.readMem a n src = (s, s.bytes a n, false) := by
  obtain ⟨hpos, -, -⟩ := natural_within_line hn
  have habove := window_above_memory hw
  obtain ⟨hp, he, -⟩ := hc a (Nat.le_refl a) (by omega)
  unfold State.readMem
  rw [linesOf_natural hn, State.checkLines, State.checkLines,
    checkLine_window (by unfold memEnd at *; omega) hp he]
  rfl

theorem writeMem_window (hw : (placeOf a).window = true) (hn : natural a n = true) (hc : CleanAt s a n) (v src : Nat) :
    s.writeMem a (leBytes n v) false src = (s.setPoison (a / 64) false).storeBytes a (leBytes n v) := by
  obtain ⟨hpos, hle, hline⟩ := natural_within_line hn
  have habove := window_above_memory hw
  have hd : placeOf a ≠ .dram := fun hd => absurd ((placeOf_dram _).mp hd) (by omega)
  obtain ⟨hp, he, -⟩ := hc a (Nat.le_refl a) (by omega)
  have hmin : min (64 - a % 64) n = n := by omega
  have hcheck := checkLine_window (by unfold memEnd at *; omega) hp he src
  have htake : (leBytes n v).take n = leBytes n v := List.take_of_length_le (by simp)
  rw [State.writeMem, leBytes_length, linesOf_natural hn, State.writeLines, leBytes_length, hmin, if_neg (by omega), htake]
  simp [State.writeLine, hd, hp, hcheck, show n ≠ 64 by omega]
  rfl

end

/-! ### Cores that count -/

theorem State.countCore_core (s : State) (c : Fin 32) (ev : Nat) : s.countCore (.core c) ev = s.setCore c ((s.core c).event ev) := by
  rw [State.countCore]

theorem State.accessFault_core (s : State) (c : Fin 32) (store : Bool) (a : Nat) :
    s.accessFault (.core c) store a = s.setCore c ((s.core c).exception (if store then 7 else 5) a) := by
  rw [State.accessFault, State.coreException, excStoreAccess, excLoadAccess]

theorem State.setCore_eq (s : State) (c : Nat) (x : Core) : s.setCore c x = { s with cores := SMap.set (fun _ => {}) s.cores c x } := rfl

theorem State.countCore_eq (s : State) (rq : Requester) (ev : Nat) : ∃ m, s.countCore rq ev = { s with cores := m } := by
  cases rq with
  | core c => exact ⟨_, (s.countCore_core c ev).trans (s.setCore_eq c _)⟩
  | steward _ => exact ⟨s.cores, rfl⟩
  | tile _ => exact ⟨s.cores, rfl⟩

theorem State.accessFault_eq (s : State) (rq : Requester) (store : Bool) (a : Nat) :
    ∃ m, s.accessFault rq store a = { s with cores := m } := by
  cases rq with
  | core c => exact ⟨_, (s.accessFault_core c store a).trans (s.setCore_eq c _)⟩
  | steward _ => exact ⟨s.cores, rfl⟩
  | tile _ => exact ⟨s.cores, rfl⟩

@[simp] theorem State.windowStatus_countCore (s : State) (rq : Requester) (ev a : Nat) (store : Bool) :
    (s.countCore rq ev).windowStatus a store = s.windowStatus a store := by
  obtain ⟨m, hm⟩ := s.countCore_eq rq ev
  rw [hm]
  rfl

theorem CleanAt.countCore {s : State} {a n : Nat} (h : CleanAt s a n) (rq : Requester) (ev : Nat) : CleanAt (s.countCore rq ev) a n := by
  obtain ⟨m, hm⟩ := s.countCore_eq rq ev
  rw [hm]
  exact h

/-- The cores after an access that takes no fault: one event counted. -/
theorem coreCounts_access {s t : State} {rq : Requester} (h : t.cores = (s.countCore rq 9).cores) : CoreCounts s t rq id := by
  cases rq with
  | core c =>
    have hcore : ∀ d, t.core d = (s.setCore c ((s.core c).event 9)).core d := fun d => by
      rw [State.core, State.core, h, s.countCore_core]
    exact ⟨by rw [hcore, State.core_setCore_same, id], fun d hd => by rw [hcore, State.core_setCore_ne _ _ _ _ hd]⟩
  | steward _ => exact h
  | tile _ => exact h

/-- A refused access: two events counted, and the access fault taken. -/
def State.refuseAccess (s : State) (rq : Requester) (store : Bool) (a : Nat) (st : Status) : State :=
  (((s.countCore rq 9).countCore rq 10).accessFault rq store a).answer st 0

theorem State.refuseAccess_only (s : State) (rq : Requester) (store : Bool) (a : Nat) (st : Status) :
    { s.refuseAccess rq store a st with cores := s.cores, resp := s.resp } = s := by
  rw [State.refuseAccess]
  obtain ⟨m1, h1⟩ := s.countCore_eq rq 9
  obtain ⟨m2, h2⟩ := (s.countCore rq 9).countCore_eq rq 10
  obtain ⟨m3, h3⟩ := ((s.countCore rq 9).countCore rq 10).accessFault_eq rq store a
  rw [h3, h2, h1]
  rfl

theorem State.refuseAccess_counts (s : State) (rq : Requester) (store : Bool) (a : Nat) (st : Status) :
    CoreCounts s (s.refuseAccess rq store a st) rq fun k => (k.event 10).exception (if store then 7 else 5) a := by
  cases rq with
  | core c =>
    rw [State.refuseAccess, State.countCore_core, State.countCore_core, State.accessFault_core]
    refine ⟨?_, fun d hd => ?_⟩
    · rw [State.core_answer, State.core_setCore_same, State.core_setCore_same, State.core_setCore_same]
    · rw [State.core_answer, State.core_setCore_ne _ _ _ _ hd, State.core_setCore_ne _ _ _ _ hd, State.core_setCore_ne _ _ _ _ hd]
  | steward _ => rfl
  | tile _ => rfl

/-! ### An access, by its status -/

theorem windowStatus_unmapped {s : State} {a : Nat} (h : placeOf a = .unmapped) (store : Bool) : s.windowStatus a store = .bounds := by
  simp [State.windowStatus, h]

theorem windowStatus_fenced {s : State} {a : Nat} (h : (placeOf a).window = true) (hf : s.placeFenced (placeOf a) = true) (store : Bool) :
    s.windowStatus a store = .fenced := by
  have hp : placeOf a ≠ .unmapped := fun hp => by simp [hp, Place.window] at h
  simp [State.windowStatus, hp, hf]

theorem windowStatus_busy {s : State} {a t o : Nat} (h : placeOf a = .imem t o) (hf : s.tileFenced t = false)
    (hr : (s.tile t).st = .run ∨ (s.tile t).st = .wait ∨ (s.tile t).st = .makeweight) : s.windowStatus a true = .busy := by
  rcases hr with hr | hr | hr <;> simp [State.windowStatus, h, State.placeFenced, hf, hr]

section
variable {s : State} {rq : Requester} {a n : Nat} {w : Option (BitVec 64)}

/-- The places that the instruction answers for. -/
theorem place_cases (h : (placeOf a).window = true ∨ placeOf a = .unmapped) :
    (∃ t o, placeOf a = .spad t o) ∨ (∃ t o, placeOf a = .imem t o) ∨ (∃ g o, placeOf a = .depot g o) ∨
      placeOf a = .unmapped := by
  rcases h with h | h
  · cases hp : placeOf a <;> simp_all [Place.window]
  · exact .inr (.inr (.inr h))

theorem execWindow_unnatural (hi : s.accessIdle rq = false) (hp : (placeOf a).window = true ∨ placeOf a = .unmapped)
    (hn : natural a n = false) : exec (.coreWindowAccess rq a n w none) s = .next (s.refuseAccess rq w.isSome a .bounds) := by
  rw [exec_coreWindowAccess, State.refuseAccess]
  obtain ⟨t, o, hp⟩ | ⟨t, o, hp⟩ | ⟨g, o, hp⟩ | hp := place_cases hp <;> simp [execCoreWindowAccess, hi, hp, hn]

theorem execWindow_refused (hi : s.accessIdle rq = false) (hp : (placeOf a).window = true ∨ placeOf a = .unmapped)
    (hn : natural a n = true) {st : Status} (hst : s.windowStatus a w.isSome = st) (hr : st = .bounds ∨ st = .fenced) :
    exec (.coreWindowAccess rq a n w none) s = .next (s.refuseAccess rq w.isSome a st) := by
  rw [exec_coreWindowAccess, State.refuseAccess]
  rcases hr with rfl | rfl <;>
    obtain ⟨t, o, hp⟩ | ⟨t, o, hp⟩ | ⟨g, o, hp⟩ | hp := place_cases hp <;> simp [execCoreWindowAccess, hi, hp, hn, hst]

theorem execWindow_busy (hi : s.accessIdle rq = false) (hp : (placeOf a).window = true) (hn : natural a n = true)
    (hst : s.windowStatus a w.isSome = .busy) :
    exec (.coreWindowAccess rq a n w none) s = .next ((s.countCore rq 9).answer .busy 0) := by
  rw [exec_coreWindowAccess]
  obtain ⟨t, o, hp⟩ | ⟨t, o, hp⟩ | ⟨g, o, hp⟩ | hp := place_cases (.inl hp) <;> simp [execCoreWindowAccess, hi, hp, hn, hst]

theorem execWindow_write (hi : s.accessIdle rq = false) (hp : (placeOf a).window = true) (hn : natural a n = true) (v : BitVec 64)
    (hst : s.windowStatus a true = .ok) (hc : CleanAt s a n) :
    exec (.coreWindowAccess rq a n (some v) none) s =
      .next ((((s.countCore rq 9).setPoison (a / 64) false).storeBytes a (leBytes n v.toNat)).answer .ok 0) := by
  have hwrite := fun src => writeMem_window hp hn (hc.countCore rq 9) v.toNat src
  rw [exec_coreWindowAccess]
  obtain ⟨t, o, hp⟩ | ⟨t, o, hp⟩ | ⟨g, o, hp⟩ | hp := place_cases (.inl hp) <;>
    simp [execCoreWindowAccess, hi, hp, hn, hst, State.flipLine, hwrite]

theorem execWindow_read (hi : s.accessIdle rq = false) (hp : (placeOf a).window = true) (hn : natural a n = true)
    (hst : s.windowStatus a false = .ok) (hc : CleanAt s a n) :
    exec (.coreWindowAccess rq a n none none) s =
      .next ((s.countCore rq 9).answer .ok (leNat ((s.countCore rq 9).bytes a n))) := by
  have hread := fun src => readMem_window hp hn (hc.countCore rq 9) src
  rw [exec_coreWindowAccess]
  obtain ⟨t, o, hp⟩ | ⟨t, o, hp⟩ | ⟨g, o, hp⟩ | hp := place_cases (.inl hp) <;>
    simp [execCoreWindowAccess, hi, hp, hn, hst, State.flipLine, hread]

end

/-- Counting an access changes only cores. -/
theorem countCore_answer_only (s : State) (rq : Requester) (ev : Nat) (st : Status) (v : Nat) :
    { (s.countCore rq ev).answer st v with cores := s.cores, resp := s.resp } = s := by
  obtain ⟨m, hm⟩ := s.countCore_eq rq ev
  rw [hm]
  rfl

theorem State.countCore_mem (s : State) (rq : Requester) (ev : Nat) : (s.countCore rq ev).mem = s.mem := by
  obtain ⟨m, hm⟩ := s.countCore_eq rq ev
  rw [hm]

/-- Bytes stored through a window: the lines keep their marks, and nothing else of the state differs but the cores that counted. -/
theorem window_stored {s : State} {a : Nat} (rq : Requester) (bs : List Byte) (hp : s.poisoned (a / 64) = false) :
    let t := (((s.countCore rq 9).setPoison (a / 64) false).storeBytes a bs).answer .ok 0
    { t with cores := s.cores, mem := s.mem, resp := s.resp } = s ∧ CoreCounts s t rq id ∧
      t.bytes a bs.length = bs ∧ (∀ b, b < a ∨ a + bs.length ≤ b → t.byte b = s.byte b) ∧
        ∀ l, t.poisoned l = s.poisoned l ∧ t.latentAt l = s.latentAt l := by
  dsimp only
  have hcores : CoreCounts s ((((s.countCore rq 9).setPoison (a / 64) false).storeBytes a bs).answer .ok 0) rq id := by
    refine coreCounts_access ?_
    rw [State.storeBytes_only]
    rfl
  obtain ⟨m, hm⟩ := s.countCore_eq rq 9
  rw [hm] at hcores ⊢
  have hw := ((Writes.setPoison { s with cores := m } a _ hp).after (.storeBytes _ a bs)).answer .ok 0
  refine ⟨?_, hcores, hw.bytes_eq, hw.byte_outside, hw.1.1⟩
  rw [State.storeBytes_only]
  rfl

theorem windowAccess : WindowAccess := by
  intro s rq a n w hi
  refine ⟨fun hp hn => ⟨fun hst hc => ?_, fun hf => ?_, fun t o v hpl hw hf hr => ?_⟩, fun h => ?_⟩
  · cases w with
    | none =>
      obtain ⟨m, hm⟩ := s.countCore_eq rq 9
      refine ⟨_, execWindow_read hi hp hn hst hc, ?_, coreCounts_access rfl, fun _ => ⟨s.countCore_mem rq 9, ?_⟩, by simp⟩
      · rw [hm]
        rfl
      · rw [State.bytes_of_mem (s.countCore_mem rq 9)]
        rfl
    | some v =>
      have ⟨hpos, _, _⟩ := natural_within_line hn
      have ⟨hpois, _, _⟩ := hc a (Nat.le_refl a) (by omega)
      obtain ⟨hframe, hcores, hbytes, hout, hmarks⟩ := window_stored rq (leBytes n v.toNat) hpois
      rw [leBytes_length] at hbytes hout
      refine ⟨_, execWindow_write hi hp hn v hst hc, hframe, hcores, by simp, fun u hu => ?_⟩
      cases hu
      exact ⟨hbytes, hout, hmarks, rfl⟩
  · exact ⟨_, execWindow_refused hi (.inl hp) hn (windowStatus_fenced hp hf _) (.inr rfl), s.refuseAccess_only _ _ _ _, rfl,
      s.refuseAccess_counts _ _ _ _⟩
  · subst hw
    exact ⟨_, execWindow_busy hi hp hn (windowStatus_busy hpl hf hr), countCore_answer_only s rq 9 _ _, rfl, coreCounts_access rfl⟩
  · have hrefused : exec (.coreWindowAccess rq a n w none) s = .next (s.refuseAccess rq w.isSome a .bounds) := by
      have hplace : (placeOf a).window = true ∨ placeOf a = .unmapped := h.imp_left And.left
      cases hn : natural a n with
      | false => exact execWindow_unnatural hi hplace hn
      | true =>
        have hpl : placeOf a = .unmapped := h.resolve_left (by simp [hn])
        exact execWindow_refused hi hplace hn (windowStatus_unmapped hpl _) (.inl rfl)
    exact ⟨_, hrefused, s.refuseAccess_only _ _ _ _, rfl, s.refuseAccess_counts _ _ _ _⟩

/-- Settles O20: a window or a depot by the status of the access, memory by the lemmas on clean lines. -/
theorem coreAccesses : Obligations.CoreAccesses := ⟨windowAccess, coreMemory⟩

end Sys2Proof.Machine
end

section
/-! SUPPORT. The waybill port (O18): a running tile that holds a wait, of which the statement on `wb.take` says too much. -/

namespace Sys2Proof.Machine

/-- A running tile with a bale in its head buffer, that still lists a `ct.fence` to wait for: no instruction leaves a running tile so. -/
def strayWaitTile : Tile := { st := .run, waiting := some .fence, posted := [⟨0, 64, some {}⟩] }

/-- Tile 0 works and is `strayWaitTile`; all else is as after reset. -/
def strayWait : State := (State.reset.wr .IDT_GOOD 0 1).setTile 0 strayWaitTile

theorem strayWait_executes : Executes strayWait (0 : Fin 768) := ⟨by decide, by decide⟩

/-- The end of a `wb.take` clears what the tile waits for (R152). -/
theorem strayWait_take :
    ∃ t, exec (.wbTake 0 { a := 0, b := 0, c := 0, d := 0, pr := 0, pm := 0, fn := 0 }) strayWait = .next t ∧
      (t.tile 0).waiting = none := ⟨_, rfl, by decide⟩

theorem not_waybillPort : ¬ WaybillPort := by
  intro h
  obtain ⟨hport, -⟩ := h strayWait 0 { a := 0, b := 0, c := 0, d := 0, pr := 0, pm := 0, fn := 0 }
  obtain ⟨-, htake, -⟩ := hport strayWait_executes rfl rfl
  obtain ⟨hfilled, -⟩ := htake rfl rfl rfl rfl
  obtain ⟨t, ht, -, -, htile⟩ := hfilled ⟨0, 64, some {}⟩ {} [] (by decide) rfl (by decide) (by decide)
  obtain ⟨u, hu, hwait⟩ := strayWait_take
  obtain rfl : u = t := Host.Outcome.next.inj (hu.symm.trans ht)
  have hkept : (u.tile 0).waiting = (strayWait.tile 0).waiting := (congrArg Tile.waiting htile :)
  rw [hwait] at hkept
  exact absurd hkept (by decide)

/-- Refutes O18: the clause on `wb.take` of a filled head buffer asks of every state that the tile's `waiting` stay as it is, and the end
of the instruction clears it. Of a running tile that holds a wait (`strayWait`) the two differ. No instruction leaves a running tile
with one; the statement lacks the premise that `waiting` is none. -/
theorem not_waybills : ¬ Obligations.Waybills := fun h => not_waybillPort h.1

end Sys2Proof.Machine
end

section
/-! SUPPORT. What a caravan instruction goes through: the core's gate (R118, R123), the handle (R101, R102), the result in rd (R117), the
waits that end (R131). -/

namespace Sys2Proof.Machine

/-! ### Parts of the state that an update leaves -/

theorem CoresOnly.regs_eq {s t : State} (h : CoresOnly s t) : t.regs = s.regs := (congrArg State.regs h :)
theorem CoresOnly.cvn_eq {s t : State} (h : CoresOnly s t) : t.cvn = s.cvn := (congrArg State.cvn h :)
theorem CoresOnly.tiles_eq {s t : State} (h : CoresOnly s t) : t.tiles = s.tiles := (congrArg State.tiles h :)
theorem CoresOnly.mem_eq {s t : State} (h : CoresOnly s t) : t.mem = s.mem := (congrArg State.mem h :)

theorem State.rr_of_regs {s t : State} (h : t.regs = s.regs) (r : Reg) (i : Nat) : t.rr r i = s.rr r i := by
  rw [State.rr, State.rr, h]

theorem State.slot_of_cvn {s t : State} (h : t.cvn = s.cvn) (i : Nat) : t.slot i = s.slot i := by
  rw [State.slot, State.slot, h]

theorem State.tile_of_tiles {s t : State} (h : t.tiles = s.tiles) (n : Nat) : t.tile n = s.tile n := by
  rw [State.tile, State.tile, h]

/-! ### The result of an instruction -/

/-- A core that counts an event changes its counters alone. -/
theorem Core.event_eq (k : Core) (ev : Nat) : ∃ p e, k.event ev = { k with hpm := p, hpmEvent := e } := by
  unfold Core.event
  refine foldl_keeps (fun a : Core => ∃ p e, a = { k with hpm := p, hpmEvent := e }) _ (fun a j ha => ?_) _ k ⟨k.hpm, k.hpmEvent, rfl⟩
  obtain ⟨p, e, rfl⟩ := ha
  dsimp only
  split
  · exact ⟨_, _, rfl⟩
  · exact ⟨p, e, rfl⟩

theorem State.setXreg_core (s : State) (c n v : Nat) :
    ∃ m, (s.setXreg c n v).core c = { s.core c with x := m } ∧
      ∀ j, SMap.get (fun _ => 0#64) m j = if j = n ∧ j ≠ 0 then BitVec.ofNat 64 v else SMap.get (fun _ => 0#64) (s.core c).x j := by
  unfold State.setXreg
  split
  · next hn => exact ⟨(s.core c).x, rfl, fun j => by rw [if_neg (by omega)]⟩
  · next hn =>
    refine ⟨_, State.core_setCore_same s c _, fun j => ?_⟩
    rw [SMap.get_set]
    by_cases hj : j = n
    · rw [if_pos hj, if_pos ⟨hj, by omega⟩]
    · rw [if_neg hj, if_neg (fun h => hj h.1)]

/-- The core after its result: rd written, the instruction counted, the program counter past it, and no wait (R117). -/
theorem State.cvnResult_core (s : State) (c rd : Nat) (st : Status) (fields : Nat) :
    ∃ m p e, (s.cvnResult c rd st fields).core c =
        { s.core c with x := m, hpm := p, hpmEvent := e, pc := (s.core c).pc + 4, minstret := (s.core c).minstret + 1, wait := none } ∧
      ∀ j, SMap.get (fun _ => 0#64) m j =
        if j = rd ∧ j ≠ 0 then BitVec.ofNat 64 (st.code + fields) else SMap.get (fun _ => 0#64) (s.core c).x j := by
  obtain ⟨m, hm, hget⟩ := s.setXreg_core c rd (st.code + fields)
  obtain ⟨p, e, hev⟩ := ((s.setXreg c rd (st.code + fields)).core c).event_eq 7
  unfold State.cvnResult
  dsimp only
  rw [State.core_answer, State.core_setCore_same, hev, hm]
  exact ⟨m, p, e, rfl, hget⟩

theorem State.cvnResult_xreg (s : State) (c rd : Nat) (st : Status) (fields n : Nat) :
    (s.cvnResult c rd st fields).xreg c n = if n = rd ∧ n ≠ 0 then (st.code + fields) % 2 ^ 64 else s.xreg c n := by
  obtain ⟨m, p, e, hcore, hget⟩ := s.cvnResult_core c rd st fields
  unfold State.xreg
  rw [hcore]
  dsimp only
  rw [hget]
  by_cases h0 : n = 0
  · rw [if_pos h0, if_pos h0, if_neg (fun h => h.2 h0)]
  · rw [if_neg h0, if_neg h0]
    split
    · exact BitVec.toNat_ofNat _ _
    · rfl

theorem State.cvnResult_wait (s : State) (c rd : Nat) (st : Status) (fields : Nat) : ((s.cvnResult c rd st fields).core c).wait = none := by
  obtain ⟨m, p, e, hcore, -⟩ := s.cvnResult_core c rd st fields
  rw [hcore]

theorem Core.issues_wait {k : Core} (h : k.issues = true) : k.wait = none := by
  simp only [Core.issues, Bool.and_eq_true, Option.isNone_iff_eq_none] at h
  exact h.2

/-- R117: what the result of a core's instruction says in the words of the statements. `u` is what the instruction has made of the
state, which leaves its core alone. -/
theorem cvnResult_done {s u : State} {o : CvnOp} (hi : (s.core o.core).issues = true) (hc : u.core o.core = s.core o.core) (st : Status)
    (fields : Nat) (hf : st.code + fields < 2 ^ 64) : CvnDone s (u.cvnResult o.core o.rd.toNat st fields) o st fields := by
  obtain ⟨m, p, e, hcore, -⟩ := u.cvnResult_core o.core o.rd.toNat st fields
  have hx : u.xreg o.core = s.xreg o.core := funext fun n => by rw [State.xreg, State.xreg, hc]
  have hw := Core.issues_wait hi
  rw [hc] at hcore
  refine ⟨fun n _ => ?_, by rw [hcore], by rw [hcore], rfl, ?_⟩
  · rw [State.cvnResult_xreg, Nat.mod_eq_of_lt hf, hx]
  · rw [hcore]
    generalize s.core o.core = k at hw
    cases k
    cases hw
    rfl

/-- An instruction that ends with a status and changes nothing else (R119). -/
theorem refused_gives {s : State} {o : CvnOp} {st : Status} {c : Instr} (hi : (s.core o.core).issues = true)
    (h : exec c s = .next (s.cvnResult o.core o.rd.toNat st 0)) :
    Gives (exec c s) (fun t => CvnDone s t o st 0 ∧ CoreOnly s t o.core ∧ { t with cores := s.cores, resp := s.resp } = s) := by
  obtain ⟨honly, hothers, -⟩ := CoreActs.cvnResult s o.core o.rd.toNat st 0
  exact ⟨_, h, cvnResult_done hi rfl st 0 (by cases st <;> decide), hothers, honly⟩

/-! ### The core's gate -/

theorem MayCvn.two {s : State} {o : CvnOp} (h : MayCvn s o false) : MayCvn s o true := ⟨h.1, h.2.1, .inl rfl, h.2.2.2⟩

theorem MayCvn.gate {s : State} {o : CvnOp} {two : Bool} (h : MayCvn s o two) : cvnGate (s.core o.core) o two = .go := by
  obtain ⟨hi, hf, hr, hvs, hvu, hu⟩ := h
  have hform : ¬ (o.funct3 ≠ 0 ∨ ((!two) = true ∧ o.rs2 ≠ 0)) := by
    rintro (h | ⟨ht, h⟩)
    · exact h hf
    · rcases hr with rfl | hr
      · exact absurd ht (by decide)
      · exact h hr
  have hvirt : (s.core o.core).mode.virt = false := by cases hm : (s.core o.core).mode <;> simp_all [Mode.virt]
  have huser : ¬ ((s.core o.core).mode = .u ∧ (!(s.core o.core).ucvn) = true) := fun h => by simp [hu h.1] at h
  rw [cvnGate, hi, if_neg (by decide), if_neg hform, hvirt, if_neg (by decide), if_neg huser]

section
variable {k : Core} {o : CvnOp} (two : Bool) (hi : k.issues = true) (hf : o.funct3 = 0) (hr : o.rs2 = 0)
include hi hf hr

theorem cvnGate_virtual (hm : k.mode = .vs ∨ k.mode = .vu) : cvnGate k o two = .trap 22 := by
  rcases hm with hm | hm <;> simp [cvnGate, hi, hf, hr, hm, Mode.virt, excVirtual]

theorem cvnGate_user (hm : k.mode = .u) (hu : k.ucvn = false) : cvnGate k o two = .trap 2 := by
  simp [cvnGate, hi, hf, hr, hm, hu, Mode.virt, excIllegal]

end

theorem State.cvn1_go {s : State} {o : CvnOp} {two : Bool} (h : MayCvn s o two) (f7 : Nat) (f : State → Nat → State × Status × Nat) :
    s.cvn1 o f7 two f =
      .next ((f s (s.xreg o.core o.rs1.toNat)).1.cvnResult o.core o.rd.toNat (f s (s.xreg o.core o.rs1.toNat)).2.1
        (f s (s.xreg o.core o.rs1.toNat)).2.2) := by
  rw [State.cvn1, h.gate]

theorem State.cvn1_trap {s : State} {o : CvnOp} {two : Bool} {cause : Nat} (h : cvnGate (s.core o.core) o two = .trap cause) (f7 : Nat)
    (f : State → Nat → State × Status × Nat) : s.cvn1 o f7 two f = .next (s.coreException o.core cause (cvnWord o f7)) := by
  rw [State.cvn1, h]

/-! ### Handles -/

section
variable (s : State) (g : Nat) (i : Fin 64)

theorem handle_parts (hg : g < 1024) : (64 * g + i) % 64 = i ∧ (64 * g + i) / 64 % 1024 = g ∧ 64 * g + i < 2 ^ 16 := by
  have := i.isLt
  omega

/-- What a handle alone gives, by its generation and the state of its slot (R101, R102). -/
theorem State.handleStatus_eq (hg : g < 1024) :
    s.handleStatus (64 * g + i) =
      if g = 0 ∨ (s.slot i).state = .free then .badHandle else if g ≠ s.f F.CVN_SLOT_GEN i then .stale else .ok := by
  obtain ⟨h1, h2, h3⟩ := handle_parts g i hg
  have hb : decide (2 ^ 16 ≤ 64 * g + i.val) = false := by simpa using h3
  unfold State.handleStatus State.gen
  dsimp only
  rw [h1, h2, hb]
  by_cases h0 : g = 0
  · simp [h0, firstStatus, Status.rank]
  · by_cases hs : (s.slot i).state = .free
    · simp [hs, firstStatus, Status.rank]
    · by_cases hgen : g = s.f F.CVN_SLOT_GEN i
      · simp [h0, hs, ← hgen, firstStatus]
      · simp [h0, hs, hgen, firstStatus, Status.rank]

end

theorem State.refusal_handle {s : State} {h : Nat} {st : Status} (hs : s.handleStatus h = st) (hst : st = .badHandle ∨ st = .stale)
    (l : List (Bool × Status)) : s.refusal h l = st := by
  rw [State.refusal, hs]
  rcases hst with rfl | rfl <;> rfl

theorem NamesSlot.index {s : State} {o : CvnOp} {i : Fin 64} (h : NamesSlot s o i) : s.xreg o.core o.rs1.toNat % 64 = i := by
  rw [h.1]
  have := i.isLt
  omega

/-- A handle that names a slot in use leaves the status to the other conditions (R21). -/
theorem NamesSlot.refusal {s : State} {o : CvnOp} {i : Fin 64} (h : NamesSlot s o i) (l : List (Bool × Status)) :
    s.refusal (s.xreg o.core o.rs1.toNat) l = firstStatus l := by
  obtain ⟨hx, hg, hfree⟩ := h
  have hlt : s.f F.CVN_SLOT_GEN i < 1024 := bits_lt _ _ _
  have hok : s.handleStatus (s.xreg o.core o.rs1.toNat) = .ok := by
    rw [hx, s.handleStatus_eq _ i hlt, if_neg (by simp [hfree]; omega), if_neg (by simp)]
  rw [State.refusal, hok]

/-! ### Waits that end -/

section
variable (s : State) (i : Nat) (go : CvnWait → Bool) (st : Status) (fields : Nat)

theorem State.endWaits_coresOnly : CoresOnly s (s.endWaits i go st fields) := by
  unfold State.endWaits
  refine foldl_keeps (CoresOnly s) _ (fun a c ha => ?_) _ s rfl
  split
  · split
    · exact ha.trans (CoreActs.cvnResult a c _ st fields).1
    · exact ha
  · exact ha

/-- One core let go, if it waits on the slot. -/
def State.endWait (a : State) (c : Nat) : State :=
  match (a.core c).wait with
  | some w => if w.slot = i && go w then a.cvnResult c w.rd.toNat st fields else a
  | none => a

theorem State.endWait_coreOnly (a : State) (c : Nat) : CoreOnly a (State.endWait i go st fields a c) c := by
  intro d hd
  unfold State.endWait
  split
  · split
    · exact (CoreActs.cvnResult a c _ st fields).2.1 d hd
    · rfl
  · rfl

theorem endWait_fold_kept (l : List Nat) (d : Nat) (h : d ∉ l ∨ ∀ w, (s.core d).wait = some w → w.slot ≠ i ∨ go w = false) :
    (l.foldl (State.endWait i go st fields) s).core d = s.core d := by
  refine foldl_keeps_mem (fun a => a.core d = s.core d) _ l s (fun a c hc ha => ?_) rfl
  by_cases hd : d = c
  · have hstay : State.endWait i go st fields a c = a := by
      subst hd
      have hw := h.resolve_left (fun hn => hn hc)
      unfold State.endWait
      split
      · next w hwait =>
        rw [if_neg]
        rcases hw w (ha ▸ hwait) with hw | hw <;> simp [hw]
      · rfl
    rw [hstay, ha]
  · exact (State.endWait_coreOnly i go st fields a c d hd).trans ha

/-- A core that does not wait on the slot stays as it is. -/
theorem State.endWaits_core_kept (d : Nat) (h : ∀ w, (s.core d).wait = some w → w.slot ≠ i ∨ go w = false) :
    (s.endWaits i go st fields).core d = s.core d := endWait_fold_kept s i go st fields _ d (.inr h)

theorem endWait_fold_ended (l : List Nat) (hl : l.Nodup) (d : Nat) (hd : d ∈ l) (w : CvnWait) (hw : (s.core d).wait = some w)
    (hs : w.slot = i) (hg : go w = true) :
    ((l.foldl (State.endWait i go st fields) s).core d).wait = none ∧
      (l.foldl (State.endWait i go st fields) s).xreg d w.rd.toNat = if w.rd = 0 then 0 else (st.code + fields) % 2 ^ 64 := by
  induction l generalizing s with
  | nil => exact absurd hd (by simp)
  | cons c l ih =>
    obtain ⟨hc, hl⟩ := List.nodup_cons.mp hl
    rw [List.foldl_cons]
    by_cases hdc : d = c
    · subst hdc
      have hstep : State.endWait i go st fields s d = s.cvnResult d w.rd.toNat st fields := by
        rw [State.endWait, hw]
        simp [hs, hg]
      have hkept := endWait_fold_kept (s.cvnResult d w.rd.toNat st fields) i go st fields l d (.inl hc)
      have hx := s.cvnResult_xreg d w.rd.toNat st fields w.rd.toNat
      rw [hstep]
      refine ⟨by rw [hkept, State.cvnResult_wait], ?_⟩
      rw [State.xreg, hkept, ← State.xreg, hx]
      by_cases h0 : w.rd = 0
      · simp [h0, State.xreg]
      · have h0' : w.rd.toNat ≠ 0 := fun h => h0 (BitVec.eq_of_toNat_eq h)
        rw [if_pos ⟨rfl, h0'⟩, if_neg h0]
    · have hcore := State.endWait_coreOnly i go st fields s c d hdc
      exact ih _ hl ((List.mem_cons.mp hd).resolve_left hdc) (hcore ▸ hw)

/-- A core that waits on the slot, and is let go, has its result and waits no more (R130, R131). -/
theorem State.endWaits_ended (d : Fin 32) (w : CvnWait) (hw : (s.core d).wait = some w) (hs : w.slot = i) (hg : go w = true) :
    ((s.endWaits i go st fields).core d).wait = none ∧
      (s.endWaits i go st fields).xreg d w.rd.toNat = if w.rd = 0 then 0 else (st.code + fields) % 2 ^ 64 :=
  endWait_fold_ended s i go st fields _ List.nodup_range d (List.mem_range.mpr d.isLt) w hw hs hg

end

/-! ### The tiles of a caravan -/

/-- Each step of a fold over stations changes the tile of its station alone: tiles of no station stay, and a tile of one is related to what
it was by any transitive relation that each step respects. -/
theorem stations_fold {R : Tile → Tile → Prop} {f : State → Station → State} (hother : ∀ a x n, n ≠ x.tile → (f a x).tile n = a.tile n)
    (hown : ∀ a x, R (a.tile x.tile) ((f a x).tile x.tile)) (htrans : ∀ p q r, R p q → R q r → R p r) (l : List Station) (s : State) :
    (∀ n, n ∉ l.map (·.tile) → (l.foldl f s).tile n = s.tile n) ∧ ∀ n ∈ l.map (·.tile), R (s.tile n) ((l.foldl f s).tile n) := by
  induction l generalizing s with
  | nil => exact ⟨fun _ _ => rfl, fun n hn => absurd hn (by simp)⟩
  | cons x l ih =>
    obtain ⟨hout, hin⟩ := ih (f s x)
    simp only [List.map_cons, List.mem_cons, not_or, List.foldl_cons]
    refine ⟨fun n hn => (hout n hn.2).trans (hother s x n hn.1), fun n hn => ?_⟩
    have hstep : n = x.tile → R (s.tile n) ((f s x).tile n) := fun h => h ▸ hown s x
    by_cases hl : n ∈ l.map (·.tile)
    · by_cases hx : n = x.tile
      · exact htrans _ _ _ (hstep hx) (hin n hl)
      · exact hother s x n hx ▸ hin n hl
    · rw [hout n hl]
      exact hstep (hn.resolve_right hl)

/-- Nothing but tiles and the records of PRF differs. -/
def TilesAndPrf (s t : State) : Prop := { t with tiles := s.tiles, prf := s.prf } = s

theorem TilesAndPrf.trans {s t u : State} (h1 : TilesAndPrf s t) (h2 : TilesAndPrf t u) : TilesAndPrf s u := by
  unfold TilesAndPrf at *
  rw [← h1, ← h2]

theorem TilesAndPrf.stopTile (s : State) (n : Nat) (st : TileState) : TilesAndPrf s (s.stopTile n st) := by
  unfold TilesAndPrf State.stopTile State.outriderFlag
  dsimp only
  split <;> rfl

theorem State.stopTile_tile (s : State) (n : Nat) (st : TileState) (m : Nat) :
    (s.stopTile n st).tile m = if m = n then (s.tile n).stop st else s.tile m := by
  have hflag : (s.outriderFlag n 4).tiles = s.tiles := by
    unfold State.outriderFlag
    dsimp only
    split <;> rfl
  rw [State.stopTile]
  split
  · next h => rw [h, State.tile_setTile_same]
  · next h => rw [State.tile_setTile_ne _ _ _ _ h, State.tile_of_tiles hflag]

theorem State.stopStations_only (s : State) (i : Nat) : TilesAndPrf s (s.stopStations i) := by
  unfold State.stopStations
  refine foldl_keeps (TilesAndPrf s) _ (fun a x ha => ?_) _ s rfl
  split
  · exact ha
  · exact ha.trans (.stopTile a _ _)

/-- The stations of a slot after they have stopped (R164): a tile that took an exception keeps FAULT. -/
theorem State.stopStations_tiles (s : State) (i : Nat) :
    (∀ n, n ∉ (s.slot i).stations.map (·.tile) → (s.stopStations i).tile n = s.tile n) ∧
      ∀ n ∈ (s.slot i).stations.map (·.tile),
        ((s.stopStations i).tile n).st = .stopped ∨ (s.stopStations i).tile n = s.tile n ∧ (s.tile n).st = .fault := by
  unfold State.stopStations
  refine stations_fold (R := fun p q => q.st = .stopped ∨ q = p ∧ p.st = .fault) (fun a x n hn => ?_) (fun a x => ?_)
    (fun p q r hpq hqr => ?_) _ s
  · split
    · rfl
    · rw [State.stopTile_tile, if_neg hn]
  · split
    · next h => exact .inr ⟨rfl, h⟩
    · rw [State.stopTile_tile, if_pos rfl]
      exact .inl rfl
  · rcases hqr with h | ⟨rfl, hq⟩
    · exact .inl h
    · exact hpq

/-- Nothing but tiles differs. -/
def TilesOnly (s t : State) : Prop := { t with tiles := s.tiles } = s

theorem State.releaseTiles_only (s : State) (i : Nat) : TilesOnly s (s.releaseTiles i) := by
  unfold State.releaseTiles
  refine foldl_keeps (TilesOnly s) _ (fun a x ha => ?_) _ s rfl
  exact ha

/-- The tiles of a slot after their release (R164): IDLE, of no caravan, with the registers that they had. -/
theorem State.releaseTiles_tiles (s : State) (i : Nat) :
    (∀ n, n ∉ (s.slot i).stations.map (·.tile) → (s.releaseTiles i).tile n = s.tile n) ∧
      ∀ n ∈ (s.slot i).stations.map (·.tile), ((s.releaseTiles i).tile n).st = .idle ∧ ((s.releaseTiles i).tile n).handle = 0 ∧
        ((s.releaseTiles i).tile n).g = (s.tile n).g ∧ ((s.releaseTiles i).tile n).v = (s.tile n).v := by
  unfold State.releaseTiles
  refine stations_fold (R := fun p q => q.st = .idle ∧ q.handle = 0 ∧ q.g = p.g ∧ q.v = p.v) (fun a x n hn => ?_) (fun a x => ?_)
    (fun p q r hpq hqr => ?_) _ s
  · exact State.tile_setTile_ne _ _ _ _ hn
  · rw [State.tile_setTile_same]
    exact ⟨rfl, rfl, rfl, rfl⟩
  · obtain ⟨-, -, hg, hv⟩ := hpq
    obtain ⟨hst, hh, hg', hv'⟩ := hqr
    exact ⟨hst, hh, hg'.trans hg, hv'.trans hv⟩

end Sys2Proof.Machine
end

section
/-! SUPPORT. The ends of a caravan and the refusals of its instructions (O5). -/

namespace Sys2Proof.Machine

/-! ### `cvn.abort` -/

theorem exec_cvnAbort (o : CvnOp) (s : State) : exec (.cvnAbort o) s = execCvnAbort o s := rfl

theorem State.handle_eq (s : State) (i : Nat) : s.handle i = 64 * s.f F.CVN_SLOT_GEN i + i := by
  rw [State.handle, State.gen, Nat.mul_comm]

/-- A slot that enters ABORTING (R114). -/
def Slot.aborted (x : Slot) : Slot :=
  { x with state := .aborting, queue := [], dropped := x.unadmitted, waiting := [], relOpen := [] }

section
variable (s : State) (i : Nat)

theorem State.abortSlot_eq : s.abortSlot i = ((s.stopStations i).removeBales i).setSlot i (s.slot i).aborted := by
  have hslot : ((s.stopStations i).removeBales i).slot i = s.slot i :=
    State.slot_of_cvn (s := s) (congrArg State.cvn (s.stopStations_only i) :) i
  unfold State.abortSlot
  dsimp only
  rw [hslot]
  rfl

theorem State.abortSlot_slot : (s.abortSlot i).slot i = (s.slot i).aborted := by
  rw [s.abortSlot_eq, State.slot_setSlot_same]

theorem State.abortSlot_slot_ne (j : Nat) (hj : j ≠ i) : (s.abortSlot i).slot j = s.slot j := by
  rw [s.abortSlot_eq, State.slot_setSlot_ne _ _ _ _ hj]
  exact State.slot_of_cvn (s := s) (congrArg State.cvn (s.stopStations_only i) :) j

theorem State.abortSlot_trail :
    (s.abortSlot i).cvn.trail = s.cvn.trail.filter (fun b => b.wb.handle ≠ BitVec.ofNat 16 (64 * s.f F.CVN_SLOT_GEN i + i)) := by
  have hcvn : (s.stopStations i).cvn = s.cvn := (congrArg State.cvn (s.stopStations_only i) :)
  have hregs : (s.stopStations i).regs = s.regs := (congrArg State.regs (s.stopStations_only i) :)
  have hhandle : (s.stopStations i).handle i = 64 * s.f F.CVN_SLOT_GEN i + i := by
    rw [State.handle_eq, State.f, State.rr_of_regs hregs, ← State.f]
  have htrail : (s.abortSlot i).cvn.trail = ((s.stopStations i).removeBales i).cvn.trail := by rw [s.abortSlot_eq]; rfl
  rw [htrail, State.removeBales, hhandle, hcvn]

theorem State.abortSlot_tiles : (s.abortSlot i).tiles = (s.stopStations i).tiles := by rw [s.abortSlot_eq]; rfl

theorem State.abortSlot_only : { s.abortSlot i with cvn := s.cvn, tiles := s.tiles, prf := s.prf } = s := by
  rw [s.abortSlot_eq]
  exact (congrArg (fun u : State => { u with cvn := s.cvn }) (s.stopStations_only i) :)

/-- A slot that enters ABORTING, and the result of the core that aborted it. -/
theorem abortSlot_result_only (t : State) (h : CoresOnly (s.abortSlot i) t) :
    { t with cores := s.cores, resp := s.resp, cvn := s.cvn, tiles := s.tiles, prf := s.prf } = s :=
  (congrArg (fun u : State => { u with cores := s.cores, resp := s.resp, cvn := s.cvn, tiles := s.tiles, prf := s.prf }) h :).trans
    (congrArg (fun u : State => { u with cores := s.cores, resp := s.resp }) (s.abortSlot_only i) :)

end

theorem execCvnAbort_active {s : State} {o : CvnOp} {i : Fin 64} (hn : NamesSlot s o i) (hm : MayCvn s o false)
    (hs : (s.slot i).state = .running ∨ (s.slot i).state = .paused) :
    exec (.cvnAbort o) s = .next ((s.abortSlot i).cvnResult o.core o.rd.toNat .ok 0) := by
  have hst : firstStatus [((s.slot i).state == .faulted, .fenced), ((s.slot i).state == .loading || (s.slot i).state == .aborting, .busy)] =
      .ok := by rcases hs with hs | hs <;> rw [hs] <;> rfl
  have hactive : (s.slot i).state.active = true := by rcases hs with hs | hs <;> rw [hs] <;> rfl
  rw [exec_cvnAbort, execCvnAbort, State.cvn1_go hm]
  dsimp only
  rw [hn.refusal, hn.index, hst]
  dsimp only
  rw [if_pos hactive]

/-! ### `cvn.close` -/

theorem exec_cvnClose (o : CvnOp) (s : State) : exec (.cvnClose o) s = execCvnClose o s := rfl

/-- The slot free, its queue counted as aborted, its tiles released, and the waits on it ended (R114, R115, R131). -/
def State.closeSlot (s : State) (i : Nat) : State :=
  ((((s.countAborted i (s.slot i).unadmitted).releaseTiles i).setSlot i {}).endWaits i (fun _ => true) .badHandle 0)

section
variable (s : State) (i : Nat)

theorem State.releasedSlot_only : { ((s.countAborted i (s.slot i).unadmitted).releaseTiles i).setSlot i {} with
    cvn := s.cvn, tiles := s.tiles, regs := s.regs } = s :=
  (congrArg (fun u : State => { u with cvn := s.cvn, regs := s.regs })
    ((s.countAborted i (s.slot i).unadmitted).releaseTiles_only i) :)

theorem State.closeSlot_coresOnly :
    CoresOnly (((s.countAborted i (s.slot i).unadmitted).releaseTiles i).setSlot i {}) (s.closeSlot i) :=
  State.endWaits_coresOnly _ i _ _ _

theorem State.closeSlot_cvn : (s.closeSlot i).cvn = (s.setSlot i {}).cvn := by
  rw [(s.closeSlot_coresOnly i).cvn_eq]
  have hcvn : ((s.countAborted i (s.slot i).unadmitted).releaseTiles i).cvn = s.cvn := (congrArg State.cvn (State.releaseTiles_only _ i) :)
  simp only [State.setSlot, hcvn]

theorem State.closeSlot_regs : (s.closeSlot i).regs = (s.bump .CVN_SLOT_ABORTED i (s.slot i).unadmitted).regs := by
  rw [(s.closeSlot_coresOnly i).regs_eq]
  exact (congrArg State.regs (State.releaseTiles_only _ i) :)

theorem State.closeSlot_tiles : (s.closeSlot i).tiles = ((s.countAborted i (s.slot i).unadmitted).releaseTiles i).tiles :=
  (s.closeSlot_coresOnly i).tiles_eq

/-- A slot that closes, and the result of the core that closed it. -/
theorem closeSlot_result_only (t : State) (h : CoresOnly (s.closeSlot i) t) :
    { t with cores := s.cores, resp := s.resp, cvn := s.cvn, tiles := s.tiles, regs := s.regs } = s :=
  (congrArg (fun u : State => { u with cores := s.cores, resp := s.resp, cvn := s.cvn, tiles := s.tiles, regs := s.regs })
    ((s.closeSlot_coresOnly i).trans h) :).trans
    (congrArg (fun u : State => { u with cores := s.cores, resp := s.resp }) (s.releasedSlot_only i) :)

/-- The cores when a slot closes: those that waited on it go on with BAD_HANDLE (R131). -/
theorem State.closeSlot_core_kept (d : Nat) (h : ∀ w, (s.core d).wait = some w → w.slot ≠ i) : (s.closeSlot i).core d = s.core d := by
  have hcores : (((s.countAborted i (s.slot i).unadmitted).releaseTiles i).setSlot i {}).core d = s.core d :=
    (congrArg (fun u : State => u.core d) (s.releasedSlot_only i) :)
  rw [State.closeSlot, State.endWaits_core_kept _ i _ _ _ d (fun w hw => .inl (h w (hcores ▸ hw))), hcores]

theorem State.closeSlot_core_ended (d : Fin 32) (w : CvnWait) (hw : (s.core d).wait = some w) (hs : w.slot = i) :
    ((s.closeSlot i).core d).wait = none ∧ (s.closeSlot i).xreg d w.rd.toNat = if w.rd = 0 then 0 else 1 := by
  have hcores : (((s.countAborted i (s.slot i).unadmitted).releaseTiles i).setSlot i {}).core d = s.core d :=
    (congrArg (fun u : State => u.core d) (s.releasedSlot_only i) :)
  exact State.endWaits_ended _ i _ .badHandle 0 d w (hcores ▸ hw) hs rfl

end

theorem execCvnClose_idle {s : State} {o : CvnOp} {i : Fin 64} (hn : NamesSlot s o i) (hm : MayCvn s o false)
    (hs : (s.slot i).state = .ready ∨ (s.slot i).state = .faulted ∨ (s.slot i).state = .paused ∧ (s.slot i).inflight = []) :
    exec (.cvnClose o) s =
      .next ((s.closeSlot i).cvnResult o.core o.rd.toNat .ok
        ((s.bump .CVN_SLOT_ABORTED i (s.slot i).unadmitted).rr .CVN_SLOT_ABORTED i * 2 ^ 32)) := by
  have hidle : ∀ b, b = false → firstStatus [(b, .busy)] = .ok := by rintro _ rfl; rfl
  have hrr : ((s.countAborted i (s.slot i).unadmitted).releaseTiles i).rr .CVN_SLOT_ABORTED i =
      (s.bump .CVN_SLOT_ABORTED i (s.slot i).unadmitted).rr .CVN_SLOT_ABORTED i :=
    (congrArg (fun u : State => u.rr .CVN_SLOT_ABORTED i) (State.releaseTiles_only _ i) :)
  rw [exec_cvnClose, execCvnClose, State.cvn1_go hm]
  dsimp only
  rw [hn.refusal, hn.index, hidle]
  · dsimp only
    rw [hrr]
    rfl
  · rcases hs with hs | hs | ⟨hs, he⟩
    · rw [hs]
    · rw [hs]
    · rw [hs, he]
      rfl

theorem caravanEnd : CaravanEnd := by
  intro s o i hn hm
  dsimp only
  refine ⟨fun hs => ?_, fun hs => ?_⟩
  · obtain ⟨honly, hothers, -⟩ := CoreActs.cvnResult (s.abortSlot i) o.core o.rd.toNat .ok 0
    obtain ⟨hout, hin⟩ := s.stopStations_tiles i
    have hcore : ∀ d, (s.abortSlot i).core d = s.core d := fun d => (congrArg (fun u : State => u.core d) (s.abortSlot_only i) :)
    have htile := State.tile_of_tiles (honly.tiles_eq.trans (s.abortSlot_tiles i))
    refine ⟨_, execCvnAbort_active hn hm hs, cvnResult_done hm.1 (hcore _) .ok 0 (by decide), fun d hd => (hothers d hd).trans (hcore d),
      ?_, fun j hj => ?_, ?_, fun n hn => ?_, fun n hn => ?_, ?_⟩
    · rw [State.slot_of_cvn honly.cvn_eq, State.abortSlot_slot]
      rfl
    · rw [State.slot_of_cvn honly.cvn_eq, s.abortSlot_slot_ne i j hj]
    · rw [honly.cvn_eq, State.abortSlot_trail]
    · rw [htile, hout n hn]
    · rw [htile]
      exact hin n hn
    · exact abortSlot_result_only s i _ honly
  · have hrr : (s.bump .CVN_SLOT_ABORTED i (s.slot i).unadmitted).rr .CVN_SLOT_ABORTED i =
        min (s.rr .CVN_SLOT_ABORTED i + (s.slot i).unadmitted) 0xFFFFFFFF := State.rr_bump_same _ _ _ _
    have hexec := execCvnClose_idle hn hm hs
    rw [hrr] at hexec
    generalize hab : min (s.rr .CVN_SLOT_ABORTED i + (s.slot i).unadmitted) 0xFFFFFFFF = ab at *
    obtain ⟨honly, hothers, -⟩ := CoreActs.cvnResult (s.closeSlot i) o.core o.rd.toNat .ok (ab * 2 ^ 32)
    have hwait := Core.issues_wait hm.1
    have hself : (s.closeSlot i).core o.core = s.core o.core := s.closeSlot_core_kept i o.core (by simp [hwait])
    have hcvn := honly.cvn_eq.trans (s.closeSlot_cvn i)
    have hregs := honly.regs_eq.trans (s.closeSlot_regs i)
    have htile := State.tile_of_tiles (honly.tiles_eq.trans (s.closeSlot_tiles i))
    obtain ⟨hout, hin⟩ := (s.countAborted i (s.slot i).unadmitted).releaseTiles_tiles i
    refine ⟨_, hexec, cvnResult_done hm.1 hself .ok _ ?_, ?_, ⟨?_, fun j hj => ?_⟩, fun r j hr => ?_, ?_, fun n hn => ?_, fun n hn => ?_,
      fun d hd h => ?_, fun d w hw hs => ?_, closeSlot_result_only s i _ honly⟩
    · have : ab ≤ 0xFFFFFFFF := by omega
      simp only [Status.code]
      omega
    · rw [State.slot_of_cvn hcvn, State.slot_setSlot_same]
    · rw [hcvn]
      rfl
    · rw [State.slot_of_cvn hcvn, State.slot_setSlot_ne _ _ _ _ hj]
    · rw [State.rr_of_regs hregs, State.rr_bump_ne _ _ _ _ _ _ (hr (.CVN_SLOT_ABORTED, i) (by simp)).symm]
    · rw [State.rr_of_regs hregs, hrr]
    · rw [htile]
      exact hout n hn
    · rw [htile]
      exact hin n hn
    · rw [hothers d (fun h => hd (Fin.ext h)), s.closeSlot_core_kept i d h]
    · have hd : d.val ≠ o.core := fun h => by rw [h, hwait] at hw; exact absurd hw (by simp)
      have hcore := hothers d hd
      rw [hcore, State.xreg, hcore, ← State.xreg]
      exact s.closeSlot_core_ended i d w hw hs

/-! ### Refusals -/

theorem exec_cvnStart (o : CvnOp) (s : State) : exec (.cvnStart o) s = execCvnStart o s := rfl
theorem exec_cvnPause (o : CvnOp) (s : State) : exec (.cvnPause o) s = execCvnPause o s := rfl
theorem exec_cvnStat (o : CvnOp) (s : State) : exec (.cvnStat o) s = execCvnStat o s := rfl
theorem exec_cvnWait (o : CvnOp) (s : State) : exec (.cvnWait o) s = execCvnWait o s := rfl
theorem exec_cvnToll (o : CvnOp) (s : State) : exec (.cvnToll o) s = execCvnToll o s := rfl
theorem exec_cvnCad (o : CvnOp) (s : State) : exec (.cvnCad o) s = execCvnCad o s := rfl

/-- A free slot, generation 0 and another generation refuse every instruction with a handle (R101, R102). -/
theorem handleRow_refused {s : State} {o : CvnOp} {c : Instr} {st : Status} (hm : MayCvn s o false) (hc : c ∈ handleRows o)
    (hs : s.handleStatus (s.xreg o.core o.rs1.toNat) = st) (hst : st = .badHandle ∨ st = .stale) :
    exec c s = .next (s.cvnResult o.core o.rd.toNat st 0) := by
  have href := State.refusal_handle hs hst
  have hgo := hm.two.gate
  simp only [handleRows, List.mem_cons, List.not_mem_nil, or_false] at hc
  rcases hc with rfl | rfl | rfl | rfl | rfl | rfl | rfl | rfl
  all_goals
    simp only [exec_cvnStart, execCvnStart, exec_cvnPause, execCvnPause, exec_cvnAbort, execCvnAbort, exec_cvnClose, execCvnClose,
      exec_cvnStat, execCvnStat, exec_cvnWait, execCvnWait, exec_cvnToll, execCvnToll, exec_cvnCad, execCvnCad, State.cvn1_go hm,
      State.cvn1_go hm.two, hgo, href]
    rcases hst with rfl | rfl <;> rfl

/-- The exception that the gate raises is all that an instruction with a handle then does (R118, R123). -/
theorem handleRow_trap {s : State} {o : CvnOp} {c : Instr} {cause : Nat} (hc : c ∈ handleRows o)
    (hg : ∀ two, cvnGate (s.core o.core) o two = .trap cause) : ∃ w, exec c s = .next (s.coreException o.core cause w) := by
  simp only [handleRows, List.mem_cons, List.not_mem_nil, or_false] at hc
  rcases hc with rfl | rfl | rfl | rfl | rfl | rfl | rfl | rfl
  all_goals
    simp only [exec_cvnStart, execCvnStart, exec_cvnPause, execCvnPause, exec_cvnAbort, execCvnAbort, exec_cvnClose, execCvnClose,
      exec_cvnStat, execCvnStat, exec_cvnWait, execCvnWait, exec_cvnToll, execCvnToll, exec_cvnCad, execCvnCad,
      State.cvn1_trap (hg _), hg]
    exact ⟨_, rfl⟩

theorem trapped_gives {s : State} {o : CvnOp} {c : Instr} {cause : Nat} (h : ∃ w, exec c s = .next (s.coreException o.core cause w)) :
    Gives (exec c s) (fun t => CoreOnly s t o.core ∧ { t with cores := s.cores } = s ∧
      ∃ w, t.core o.core = (s.core o.core).exception cause w) := by
  obtain ⟨w, h⟩ := h
  exact ⟨_, h, fun d hd => State.core_setCore_ne _ _ _ _ hd, rfl, w, State.core_setCore_same _ _ _⟩

/-- The states in which an instruction is refused (R114). -/
theorem caravanRefusal_exec {s : State} {o : CvnOp} {i : Fin 64} (hn : NamesSlot s o i) (hm : MayCvn s o false)
    (hsafe : s.f F.FCL_STAT_SAFE = 0) {p : Instr × List SlotState × Status} (hp : p ∈ caravanRefusals o)
    (hs : (s.slot i).state ∈ p.2.1) : exec p.1 s = .next (s.cvnResult o.core o.rd.toNat p.2.2 0) := by
  have hsafe : s.safe = false := by simp [State.safe, State.fb, hsafe]
  simp only [caravanRefusals, List.mem_cons, List.not_mem_nil, or_false] at hp
  rcases hp with rfl | rfl | rfl | rfl | rfl | rfl | rfl
  all_goals
    simp only [List.mem_cons, List.not_mem_nil, or_false] at hs
    simp only [exec_cvnStart, execCvnStart, exec_cvnPause, execCvnPause, exec_cvnAbort, execCvnAbort, exec_cvnClose, execCvnClose,
      State.cvn1_go hm, hn.refusal, hn.index, hsafe]
  · rcases hs with hs | hs <;> rw [hs] <;> rfl
  · rw [hs]; rfl
  · rw [hs]; rfl
  · rw [hs]; rfl
  · rcases hs with hs | hs | hs <;> rw [hs] <;> rfl
  · rcases hs with hs | hs <;> rw [hs] <;> rfl
  · rcases hs with hs | hs | hs <;> rw [hs] <;> rfl

theorem caravanRefused : CaravanRefused := by
  intro s o
  refine ⟨fun i hn hm hsafe p hp hs => refused_gives hm.1 (caravanRefusal_exec hn hm hsafe hp hs),
    fun hm c hc g i hx hg => ⟨fun h => ?_, fun h0 hfree hgen => ?_⟩, fun hi hf hr c hc => ⟨fun hmode => ?_, fun hmode hu => ?_⟩⟩
  · have hst : s.handleStatus (s.xreg o.core o.rs1.toNat) = .badHandle := by rw [hx, s.handleStatus_eq g i hg, if_pos h]
    exact refused_gives hm.1 (handleRow_refused hm hc hst (.inl rfl))
  · have hst : s.handleStatus (s.xreg o.core o.rs1.toNat) = .stale := by
      rw [hx, s.handleStatus_eq g i hg, if_neg (by simp [hfree]; omega), if_pos hgen]
    exact refused_gives hm.1 (handleRow_refused hm hc hst (.inr rfl))
  · exact trapped_gives (handleRow_trap hc fun two => cvnGate_virtual two hi hf hr hmode)
  · exact trapped_gives (handleRow_trap hc fun two => cvnGate_user two hi hf hr hmode hu)

/-- Settles O5: `cvn.abort` and `cvn.close` by what they leave of stations, slot and waits; refusals by the gate, the handle, the state. -/
theorem caravanEndings : Obligations.CaravanEndings := ⟨caravanEnd, caravanRefused⟩

end Sys2Proof.Machine
end

section
/-! SUPPORT. What reads and writes of memory can change, whatever the lines hold, and what those of clean lines leave. -/

namespace Sys2Proof.Machine

/-! ### Whatever the lines hold -/

/-- Nothing but registers, memory and the events of the error lines differs. -/
def LinesOnly (s t : State) : Prop := { t with regs := s.regs, mem := s.mem, events := s.events } = s

theorem LinesOnly.refl (s : State) : LinesOnly s s := rfl

theorem LinesOnly.trans {s t u : State} (h1 : LinesOnly s t) (h2 : LinesOnly t u) : LinesOnly s u :=
  (congrArg (fun x : State => { x with regs := s.regs, mem := s.mem, events := s.events }) h2 :).trans h1

theorem RegsOnly.linesOnly {s t : State} (h : RegsOnly s t) : LinesOnly s t :=
  (congrArg (fun x : State => { x with mem := s.mem, events := s.events }) h :)

theorem LinesOnly.bump (s : State) (r : Reg) (i n : Nat) : LinesOnly s (s.bump r i n) := rfl
theorem LinesOnly.raise (s : State) (line index : Nat) (st : Status) : LinesOnly s (s.raise line index st) := rfl
theorem LinesOnly.dropLatent (s : State) (line : Nat) : LinesOnly s (s.dropLatent line) := rfl
theorem LinesOnly.setPoison (s : State) (line : Nat) (p : Bool) : LinesOnly s (s.setPoison line p) := rfl

theorem LinesOnly.storeBytes (s : State) (a : Nat) (bs : List Byte) : LinesOnly s (s.storeBytes a bs) := by
  rw [s.storeBytes_only a bs]
  rfl

theorem LinesOnly.countCe (s : State) (a : Nat) : LinesOnly s (s.countCe a) := by
  unfold State.countCe
  split <;> rfl

theorem LinesOnly.countUe (s : State) (a src : Nat) : LinesOnly s (s.countUe a src) := by
  unfold State.countUe
  split
  · exact ((LinesOnly.bump s _ _ _).trans (errlog_only _ _ _ _).linesOnly).trans (.raise _ _ _ _)
  all_goals rfl

theorem LinesOnly.accessEvent (s : State) (a ev : Nat) :
    LinesOnly s (if placeOf a = .dram then s.blockEvent ev (s.channelOf a) 1 else s) := by
  split
  · exact (RegsOnly.blockEvent _ _ _ _).linesOnly
  · exact .refl s

theorem LinesOnly.checkLine (s : State) (line src : Nat) : LinesOnly s (s.checkLine line src).1 := by
  unfold State.checkLine
  dsimp only
  have hu := LinesOnly.accessEvent s (line * 64) 0x01
  revert hu
  generalize (if placeOf (line * 64) = Place.dram then s.blockEvent 0x01 (s.channelOf (line * 64)) 1 else s) = u
  intro hu
  split
  · exact hu
  · split
    · split
      · exact hu.trans (.bump _ _ _ _)
      · exact hu
    · split
      · exact hu
      · exact (hu.trans (.dropLatent u line)).trans (.countCe _ _)
      · exact ((hu.trans (.dropLatent u line)).trans (.setPoison _ line true)).trans (.countUe _ _ _)

theorem LinesOnly.checkLines (n : Nat) (s : State) (line src : Nat) : LinesOnly s (s.checkLines line src n).1 := by
  induction n generalizing s line with
  | zero => exact .refl s
  | succ n ih => exact (LinesOnly.checkLine s line src).trans (ih _ _)

theorem LinesOnly.readMem (s : State) (a n src : Nat) : LinesOnly s (s.readMem a n src).1 := .checkLines _ _ _ _

theorem LinesOnly.writeLine (s : State) (a : Nat) (bs : List Byte) (marked : Bool) (src : Nat) :
    LinesOnly s (s.writeLine a bs marked src) := by
  unfold State.writeLine
  dsimp only
  have hu := LinesOnly.accessEvent s a 0x02
  revert hu
  generalize (if placeOf a = Place.dram then s.blockEvent 0x02 (s.channelOf a) 1 else s) = u
  intro hu
  have hcheck : LinesOnly u (if u.poisoned (a / 64) then (u, true) else u.checkLine (a / 64) src).1 := by
    split
    · exact .refl u
    · exact .checkLine u _ _
  split
  · exact hu
  · split
    · exact ((hu.trans (.dropLatent u _)).trans (.setPoison _ _ _)).trans (.storeBytes _ _ _)
    · exact ((hu.trans hcheck).trans (.setPoison _ _ _)).trans (.storeBytes _ _ _)

theorem LinesOnly.writeLines (k : Nat) (s : State) (a : Nat) (bs : List Byte) (marked : Bool) (src : Nat) :
    LinesOnly s (s.writeLines k a bs marked src) := by
  induction k generalizing s a bs with
  | zero => exact .refl s
  | succ k ih =>
    unfold State.writeLines
    dsimp only
    split
    · exact .refl s
    · exact (LinesOnly.writeLine s a _ marked src).trans (ih _ _ _)

theorem LinesOnly.writeMem (s : State) (a : Nat) (bs : List Byte) (marked : Bool) (src : Nat) :
    LinesOnly s (s.writeMem a bs marked src) := .writeLines _ _ _ _ _ _

/-! ### Clean lines -/

theorem PrfOnly.regsOnly {s t : State} (h : PrfOnly s t) (hp : t.prf = s.prf) : RegsOnly s t := by
  have h1 := h.1
  rw [← hp] at h1
  exact h1

/-- What PRF counts of a block's event stands in registers alone. -/
theorem blockEvent_prf (s : State) (ev idx n : Nat) : (s.blockEvent ev idx n).prf = s.prf :=
  (congrArg State.prf (RegsOnly.blockEvent s ev idx n) :)

/-- A read of clean lines changes what PRF counts alone, in registers. -/
theorem readMem_clean_regsOnly {s : State} {a n : Nat} (h : CleanAt s a n) (src : Nat) : RegsOnly s (s.readMem a n src).1 :=
  (readMem_clean h src).1.regsOnly (congrArg State.prf (LinesOnly.readMem s a n src) :)

/-- Bytes `bs` stand at `a`; nothing else differs but what PRF counts, in registers. -/
def Stores (s t : State) (a : Nat) (bs : List Byte) : Prop :=
  Writes s t a bs ∧ { t with regs := s.regs, mem := s.mem } = s

/-- A write of clean lines, or of nothing, stores its bytes. -/
theorem writeMem_stores {s : State} {a : Nat} {bs : List Byte} (h : CleanAt s a bs.length) (src : Nat) :
    Stores s (s.writeMem a bs false src) a bs := by
  have hlines := LinesOnly.writeMem s a bs false src
  have hw : Writes s (s.writeMem a bs false src) a bs := by
    rcases Nat.eq_zero_or_pos bs.length with h0 | hpos
    · rw [List.eq_nil_of_length_eq_zero h0]
      exact .refl s a
    · exact writeMem_clean hpos h src
  have hevents : (s.writeMem a bs false src).events = s.events := (congrArg State.events hw.1.2.2 :)
  refine ⟨hw, ?_⟩
  unfold LinesOnly at hlines
  rwa [← hevents] at hlines

theorem CleanAt.mono {s : State} {a n m : Nat} (h : CleanAt s a n) (hm : m ≤ n) : CleanAt s a m :=
  fun b hb hbm => h b hb (by omega)

/-- Lines are clean as before where neither their marks nor the registers outside PRF have changed. -/
theorem CleanAt.of_sameRegs {s t : State} {a n : Nat} (h : CleanAt s a n) (hm : ∀ l, t.poisoned l = s.poisoned l ∧ t.latentAt l = s.latentAt l)
    (hr : SameRegs s t) : CleanAt t a n := by
  intro b hb hbn
  obtain ⟨hp, he, hc⟩ := h b hb hbn
  exact ⟨(hm _).1.trans hp, (hm _).2.trans he, fun hlt => by rw [hr.channelFailed, hr.channelOf]; exact hc hlt⟩

end Sys2Proof.Machine
end

section
/-! SUPPORT. Cadence releases, late periods and bales that arrive (O8). -/

namespace Sys2Proof.Machine

/-! ### Registers that an update leaves -/

section
variable {l : List (Reg × Nat)} {s t u : State}

theorem RegsKept.refl (l : List (Reg × Nat)) (s : State) : RegsKept l s s := fun _ _ _ => rfl

theorem RegsKept.of_regs (h : RegsKept l s t) (hr : u.regs = t.regs) : RegsKept l s u :=
  fun r i hq => (State.rr_of_regs hr r i).trans (h r i hq)

/-- A register of the list written. -/
theorem RegsKept.wr (h : RegsKept l s t) (r : Reg) (i v : Nat) (hm : (r, i) ∈ l) : RegsKept l s (t.wr r i v) :=
  fun q j hq => (State.rr_wr_ne t r q i j v (hq (r, i) hm).symm).trans (h q j hq)

theorem RegsKept.prf (h : RegsKept l s t) : RegsKeptPrf l s t := fun r i _ hq => h r i hq

theorem RegsKeptPrf.of_regs (h : RegsKeptPrf l s t) (hr : u.regs = t.regs) : RegsKeptPrf l s u :=
  fun r i hk hq => (State.rr_of_regs hr r i).trans (h r i hk hq)

theorem RegsKeptPrf.wr (h : RegsKeptPrf l s t) (r : Reg) (i v : Nat) (hm : (r, i) ∈ l) : RegsKeptPrf l s (t.wr r i v) :=
  fun q j hk hq => (State.rr_wr_ne t r q i j v (hq (r, i) hm).symm).trans (h q j hk hq)

/-- What PRF counts leaves the other registers. -/
theorem RegsKeptPrf.count (h : RegsKeptPrf l s t) (hc : SameRegs t u) : RegsKeptPrf l s u :=
  fun r i hk hq => (hc r i hk).trans (h r i hk hq)

theorem SameRegs.kept (h : SameRegs s t) : RegsKeptPrf l s t := fun r i hk _ => h r i hk

end

/-- Nothing but registers and the caravan controller differs. -/
def CvnAndRegs (s t : State) : Prop := { t with cvn := s.cvn, regs := s.regs } = s

section
variable {s t u : State}

theorem CvnAndRegs.refl (s : State) : CvnAndRegs s s := rfl

theorem CvnAndRegs.trans (h1 : CvnAndRegs s t) (h2 : CvnAndRegs t u) : CvnAndRegs s u :=
  (congrArg (fun x : State => { x with cvn := s.cvn, regs := s.regs }) h2 :).trans h1

theorem RegsOnly.cvnAndRegs (h : RegsOnly s t) : CvnAndRegs s t := (congrArg (fun x : State => { x with cvn := s.cvn }) h :)

theorem CvnAndRegs.setSlot (s : State) (i : Nat) (x : Slot) : CvnAndRegs s (s.setSlot i x) := rfl
theorem CvnAndRegs.wr (s : State) (r : Reg) (i v : Nat) : CvnAndRegs s (s.wr r i v) := rfl
theorem CvnAndRegs.bump (s : State) (r : Reg) (i n : Nat) : CvnAndRegs s (s.bump r i n) := rfl
theorem CvnAndRegs.cvnEvent (s : State) (i b : Nat) : CvnAndRegs s (s.cvnEvent i b) := rfl

end

section
variable (s : State)

@[simp] theorem State.wr_slot (r : Reg) (i v j : Nat) : (s.wr r i v).slot j = s.slot j := rfl
@[simp] theorem State.bump_slot (r : Reg) (i n j : Nat) : (s.bump r i n).slot j = s.slot j := rfl
@[simp] theorem State.cvnEvent_slot (i b j : Nat) : (s.cvnEvent i b).slot j = s.slot j := rfl
@[simp] theorem State.cvnEvent_cvn (i b : Nat) : (s.cvnEvent i b).cvn = s.cvn := rfl
@[simp] theorem State.setSlot_rr (i : Nat) (x : Slot) (r : Reg) (j : Nat) : (s.setSlot i x).rr r j = s.rr r j := rfl
@[simp] theorem State.setSlot_trail (i : Nat) (x : Slot) : (s.setSlot i x).cvn.trail = s.cvn.trail := rfl

end

/-- A register of the caravan controller is none of PRF. -/
theorem Reg.key_of_cvn {r : Reg} (hb : r.desc.blk = .cvn) {i : Nat} (hi : i < r.copies) : prfKey (r.key i) = false := by
  obtain ⟨-, -, hlast, -⟩ := Block.place_of_mem r.mem_regs
  rw [hb] at hlast
  have hspan : Block.cvn.span.2 = 0x100000 := rfl
  have hkey := r.key_le_last i hi
  simp only [prfKey, Bool.and_eq_false_iff, decide_eq_false_iff_not]
  omega

/-- Two registers of the slots have different places. -/
theorem Reg.key_ne_of_cvn {q r : Reg} (hq : q.desc.blk = .cvn) (hr : r.desc.blk = .cvn) (hne : q ≠ r) {i j : Nat} (hj : j < q.copies)
    (hi : i < r.copies) : q.key j ≠ r.key i := by
  obtain ⟨-, -, -, hapart⟩ := Block.place_of_mem (b := .cvn) (r := r) (hr ▸ r.mem_regs)
  exact Reg.key_ne_of_apart (hapart q (hq ▸ q.mem_regs) hne) hj hi

theorem State.cvnEvent_rr (s : State) (i b : Nat) (hb : b < 32) :
    (s.cvnEvent i b).rr .CVN_SLOT_EVENT i = s.rr .CVN_SLOT_EVENT i ||| 2 ^ b := by
  rw [State.cvnEvent, State.rr_wr_same]
  exact Nat.mod_eq_of_lt (Nat.or_lt_two_pow (s.rr_lt _ _) (Nat.pow_lt_pow_right (by decide) hb))

/-! ### Cadence -/

theorem exec_cadenceRelease (i : Fin 64) (s : State) : exec (.cadenceRelease i) s = execCadenceRelease i s := rfl
theorem exec_latePeriod (i : Fin 64) (s : State) : exec (.latePeriod i) s = execLatePeriod i s := rfl

theorem State.admitMany_empty {s : State} {i : Nat} (h : (s.slot i).queue = []) (n : Nat) : s.admitMany i n = s := by
  cases n with
  | zero => rfl
  | succ n => simp [State.admitMany, h]

/-- A slot after a release that admits nothing (R145, R146). -/
def Slot.released (x : Slot) (c : Cadence) (now : Nat) : Slot :=
  { x with release := x.release + 1, sched := now + c.period - min (now - (x.t0 + x.release * c.period)) c.most, relLate := false }

/-- A release with nothing queued counts as short and admits nothing (R148). -/
theorem State.release0_empty {s : State} {i : Nat} {c : Cadence} (hq : (s.slot i).queue = []) (ho : (s.slot i).relOpen = []) (hb : 0 < c.batch)
    (now : Nat) :
    let u := (s.wr .CVN_SLOT_DEBT i (min (now - ((s.slot i).t0 + (s.slot i).release * c.period)) 0xFFFFFFFF)).bump .CVN_SLOT_SHORT i
    s.release0 i c now = (u.setSlot i ((s.slot i).released c now)).setSlot i ((s.slot i).released c now) := by
  intro u
  unfold State.release0
  extract_lets x nominal debt before s1 s2 s3 s4 y
  have hnone : x.unadmitted = 0 := by rw [Slot.unadmitted, hq, List.foldl_nil]
  have h2 : s2 = u := if_pos (by rw [hnone]; exact hb)
  have h3 : s3 = u.setSlot i (x.released c now) := congrArg (fun v : State => v.setSlot i (x.released c now)) h2
  have h4 : s4 = u.setSlot i (x.released c now) := by
    refine (State.admitMany_empty ?_ _).trans h3
    rw [h3, State.slot_setSlot_same]
    exact hq
  have hy : y = x.released c now := by
    unfold y
    rw [h4, State.slot_setSlot_same]
  have hopen : x.inflight.filter (fun q => !before.contains q) = x.relOpen := by
    rw [ho, List.filter_eq_nil_iff]
    simp [before]
  rw [h4, hy]
  exact (congrArg (fun l => (u.setSlot i (x.released c now)).setSlot i { x.released c now with relOpen := l }) hopen :)

theorem execCadenceRelease_empty {s : State} {i : Fin 64} {c : Cadence} (hc : (s.slot i).cadence = some c)
    (hn : (s.slot i).cadenceNext = none) (ha : s.admissionStopped = false) (hs : (s.slot i).state = .running)
    (ho : (s.slot i).relOpen = []) (hq : (s.slot i).queue = []) (hb : 0 < c.batch) :
    let now := max s.tmb.ptime.toNat (s.slot i).sched
    let u := (s.wr .CVN_SLOT_DEBT i (min (now - ((s.slot i).t0 + (s.slot i).release * c.period)) 0xFFFFFFFF)).bump .CVN_SLOT_SHORT i
    exec (.cadenceRelease i) s = .next ((u.setSlot i ((s.slot i).released c now)).setSlot i ((s.slot i).released c now)) := by
  intro now u
  have hrel := State.release0_empty hq ho hb now
  rw [exec_cadenceRelease, ← hrel, execCadenceRelease]
  simp [hc, hn, ha, hs, ho, now, State.now]

theorem execLatePeriod_late {s : State} {i : Fin 64} {c : Cadence} (hc : (s.slot i).cadence = some c) (ho : (s.slot i).relOpen ≠ [])
    (hl : (s.slot i).relLate = false) :
    exec (.latePeriod i) s = .next (((s.setSlot i { s.slot i with relLate := true }).bump .CVN_SLOT_LATE i).cvnEvent i 5) := by
  rw [exec_latePeriod, execLatePeriod]
  simp [hc, ho, hl]

theorem cadenceRelease : CadenceRelease := by
  intro s i c
  refine ⟨fun hc hn ha hs ho hq hb => ?_, fun hc ho hl => ?_⟩
  · have hne : Reg.CVN_SLOT_DEBT.key i ≠ Reg.CVN_SLOT_SHORT.key i := Reg.key_ne_of_cvn rfl rfl (by decide) i.isLt i.isLt
    refine ⟨_, execCadenceRelease_empty hc hn ha hs ho hq hb, ?_, ⟨?_, fun j hj => ?_⟩, ?_, ?_, ?_, ?_⟩
    · rw [State.slot_setSlot_same]
      rfl
    · rw [State.setSlot_trail, State.setSlot_trail, State.bump_cvn, State.wr_cvn]
    · rw [State.slot_setSlot_ne _ _ _ _ hj, State.slot_setSlot_ne _ _ _ _ hj, State.bump_slot, State.wr_slot]
    · refine RegsKept.of_regs (RegsKept.of_regs ?_ (State.setSlot_regs _ _ _)) (State.setSlot_regs _ _ _)
      exact ((RegsKept.refl _ s).wr .CVN_SLOT_DEBT i _ (by simp)).wr .CVN_SLOT_SHORT i _ (by simp)
    · rw [State.setSlot_rr, State.setSlot_rr, State.rr_bump_ne _ _ _ _ _ _ hne, State.rr_wr_same]
      exact Nat.mod_eq_of_lt (lt_of_le_of_lt (Nat.min_le_right _ _) (by decide))
    · rw [State.setSlot_rr, State.setSlot_rr, State.rr_bump_same, State.rr_wr_ne _ _ _ _ _ _ hne.symm]
    · show CvnAndRegs s _
      exact (((CvnAndRegs.wr s _ _ _).trans (.bump _ _ _ _)).trans (.setSlot _ _ _)).trans (.setSlot _ _ _)
  · have hne : Reg.CVN_SLOT_LATE.key i ≠ Reg.CVN_SLOT_EVENT.key i := Reg.key_ne_of_cvn rfl rfl (by decide) i.isLt i.isLt
    refine ⟨_, execLatePeriod_late hc ho hl, ?_, ⟨?_, fun j hj => ?_⟩, ?_, ?_, ?_, ?_⟩
    · rw [State.cvnEvent_slot, State.bump_slot, State.slot_setSlot_same]
    · rw [State.cvnEvent_cvn, State.bump_cvn, State.setSlot_trail]
    · rw [State.cvnEvent_slot, State.bump_slot, State.slot_setSlot_ne _ _ _ _ hj]
    · exact (((RegsKept.refl _ s).of_regs (State.setSlot_regs s _ _)).wr .CVN_SLOT_LATE i _ (by simp)).wr .CVN_SLOT_EVENT i _ (by simp)
    · rw [State.cvnEvent, State.rr_wr_ne _ _ _ _ _ _ hne, State.rr_bump_same, State.setSlot_rr]
    · rw [State.cvnEvent_rr _ _ _ (by decide), State.rr_bump_ne _ _ _ _ _ _ hne.symm, State.setSlot_rr]
      rfl
    · show CvnAndRegs s _
      exact ((CvnAndRegs.setSlot s _ _).trans (.bump _ _ _ _)).trans (.cvnEvent _ _ _)

/-! ### Bales that arrive -/

theorem exec_baleArrive (n : Fin 768) (s : State) : exec (.baleArrive n) s = execBaleArrive n s := rfl

/-- The trail without the bale that has arrived at tile `n`, and the arrival counted. -/
def State.arrived (s : State) (n : Nat) (rest : List Bale) : State := ({ s with cvn := { s.cvn with trail := rest } }).blockEvent 0x30 n 1

/-- A bale after its hop: one more, unless it is an entry bale (R108). -/
def Bale.hops (b : Bale) : Nat := if b.wb.origin = 0xFFFF then b.wb.hops.toNat else b.wb.hops.toNat + 1
def Bale.hopped (b : Bale) : Bale := { b with wb := { b.wb with hops := BitVec.ofNat 8 b.hops } }

section
variable (s : State) (n : Nat) (rest : List Bale)

theorem State.arrived_regsOnly : RegsOnly { s with cvn := { s.cvn with trail := rest } } (s.arrived n rest) := RegsOnly.blockEvent _ _ _ _
theorem State.arrived_prfOnly : PrfOnly { s with cvn := { s.cvn with trail := rest } } (s.arrived n rest) := PrfOnly.blockEvent _ _ _ _
theorem State.arrived_sameRegs : SameRegs s (s.arrived n rest) := (s.arrived_prfOnly n rest).2
theorem State.arrived_cvn : (s.arrived n rest).cvn = { s.cvn with trail := rest } := (congrArg State.cvn (s.arrived_regsOnly n rest) :)
theorem State.arrived_mem : (s.arrived n rest).mem = s.mem := (s.arrived_regsOnly n rest).mem
@[simp] theorem State.arrived_tile (m : Nat) : (s.arrived n rest).tile m = s.tile m := (s.arrived_regsOnly n rest).tile m

@[simp] theorem State.arrived_slot (i : Nat) : (s.arrived n rest).slot i = s.slot i := by
  rw [State.slot, s.arrived_cvn]
  rfl

theorem State.arrived_cvnAndRegs : CvnAndRegs s (s.arrived n rest) :=
  (congrArg (fun u : State => { u with cvn := s.cvn, regs := s.regs }) (s.arrived_regsOnly n rest) :)

theorem State.arrived_rr {r : Reg} (hb : r.desc.blk = .cvn) {i : Nat} (hi : i < r.copies) : (s.arrived n rest).rr r i = s.rr r i :=
  s.arrived_sameRegs n rest r i (Reg.key_of_cvn hb hi)

end

section
variable {s : State} {n : Fin 768} {b : Bale} {rest : List Bale} (ht : s.cvn.trail = b :: rest) (hd : b.dest = n.val)
include ht hd

/-- What the arrival of the trail's first bale gives, from the state in which it is off the trail. -/
theorem execBaleArrive_first :
    let u := s.arrived n rest
    let i := b.wb.handle.toNat % 64
    exec (.baleArrive n) s =
      if (u.tile n).handle ≠ b.wb.handle then .next (u.bump .CVN_STALE_BALES)
      else if (u.slot i).hopMax < b.hops then
        if ((u.bump .CVN_SLOT_HOPDROP i).slot i).inflight.contains b.wb.seq.toNat then
          .next ((u.bump .CVN_SLOT_HOPDROP i).complete i { seq := b.wb.seq.toNat, status := .bounds, flags := 0, length := 0, sink := none })
        else .next (u.bump .CVN_SLOT_HOPDROP i)
      else .next ((u.setTile n { u.tile n with inbox := (u.tile n).inbox ++ [b.hopped] }).fillBuffers 1 n) := by
  have hfirst : takeFirst n (b :: rest) = some (b, rest) := if_pos hd
  rw [exec_baleArrive, execBaleArrive, ht, hfirst]
  rfl

theorem execBaleArrive_stale (hh : (s.tile n).handle ≠ b.wb.handle) :
    exec (.baleArrive n) s = .next ((s.arrived n rest).bump .CVN_STALE_BALES) := by
  rw [execBaleArrive_first ht hd, State.arrived_tile, if_pos hh]

variable (hh : (s.tile n).handle = b.wb.handle)
include hh

theorem execBaleArrive_tooFar (hhop : (s.slot (b.wb.handle.toNat % 64)).hopMax < b.hops)
    (hf : b.wb.seq.toNat ∉ (s.slot (b.wb.handle.toNat % 64)).inflight) :
    exec (.baleArrive n) s = .next ((s.arrived n rest).bump .CVN_SLOT_HOPDROP (b.wb.handle.toNat % 64)) := by
  rw [execBaleArrive_first ht hd, State.arrived_tile, if_neg (not_not.mpr hh), State.bump_slot, State.arrived_slot, if_pos hhop,
    if_neg (by simpa using hf)]

theorem execBaleArrive_fits (hhop : b.hops ≤ (s.slot (b.wb.handle.toNat % 64)).hopMax) :
    exec (.baleArrive n) s =
      .next (((s.arrived n rest).setTile n { s.tile n with inbox := (s.tile n).inbox ++ [b.hopped] }).fillBuffers 1 n) := by
  rw [execBaleArrive_first ht hd, State.arrived_tile, if_neg (not_not.mpr hh), State.arrived_slot, if_neg (Nat.not_lt.mpr hhop)]

end

/-! ### Posted buffers -/

/-- With every posted buffer filled, bales wait in the inbox (R197). -/
theorem State.fillBuffers_full {s : State} {t : Nat} (h : ∀ p ∈ (s.tile t).posted, p.bale ≠ none) (k : Nat) : s.fillBuffers k t = s := by
  cases k with
  | zero => rfl
  | succ k =>
    have hnone : emptyBuffer (s.tile t).posted = none := by
      rw [emptyBuffer, List.findIdx?_eq_none_iff]
      intro p hp
      simpa [Option.isSome_iff_ne_none] using h p hp
    simp [State.fillBuffers, hnone]

/-- An empty head buffer takes the bale at the head of the inbox (R197). -/
theorem State.fillBuffers_head {s : State} {t : Nat} {p : Posted} {more : List Posted} {b : Bale} {later : List Bale}
    (hp : (s.tile t).posted = p :: more) (he : p.bale = none) (hi : (s.tile t).inbox = b :: later) (hfit : b.payload.length ≤ p.cap) :
    s.fillBuffers 1 t =
      (s.writeBuffer t p b).setTile t
        { (s.writeBuffer t p b).tile t with posted := { p with bale := some b.wb } :: more, inbox := later } := by
  have hempty : emptyBuffer (p :: more) = some 0 := by simp [emptyBuffer, List.findIdx?_cons, he]
  unfold State.fillBuffers
  dsimp only
  rw [hp, hi, hempty]
  dsimp only [List.getElem?_cons_zero]
  rw [if_pos hfit]
  rfl

/-- A bale that is not poisoned is written into its buffer as it is (R197). -/
theorem writeBuffer_stores {s : State} {t : Nat} {p : Posted} {b : Bale} (hflag : b.wb.flag 3 = false)
    (hc : CleanAt s (spadAddr t p.addr) b.payload.length) :
    Stores s (s.writeBuffer t p b) (spadAddr t p.addr) b.payload := by
  unfold State.writeBuffer
  dsimp only
  rw [hflag, if_neg (by decide)]
  exact writeMem_stores hc 4

theorem Bale.flag_three {b : Bale} (h : b.wb.flags &&& 8 = 0) : b.hopped.wb.flag 3 = false := by
  have h3 := congrArg (fun v : BitVec 8 => v.getLsbD 3) h
  show b.wb.flags.getLsbD 3 = false
  simpa using h3

theorem TileOnly.arrived (s : State) (n : Fin 768) (rest : List Bale) (x : Tile) :
    TileOnly n { s with cvn := { s.cvn with trail := rest } } ((s.arrived n rest).setTile n x) :=
  (TileOnly.of_prf n (s.arrived_prfOnly n rest)).trans (.setTile _ n x)

/-- A store leaves a tile's state, but for its memory. -/
theorem TileOnly.stores {n : Nat} {s t u : State} {a : Nat} {bs : List Byte} (h : TileOnly n s t) (hs : Stores t u a bs) (x : Tile)
    (hm : t.mem = s.mem) : TileOnly n s { u.setTile n x with mem := s.mem } := by
  obtain ⟨honly, hother, hregs⟩ := h
  obtain ⟨⟨⟨-, hsame, -⟩, -⟩, hframe⟩ := hs
  refine ⟨?_, fun v hv => ?_, fun r i hk => ?_⟩
  · exact (congrArg (fun v : State => { v with regs := s.regs, prf := s.prf, tiles := s.tiles, mem := s.mem }) hframe :).trans
      ((congrArg (fun m => { t with regs := s.regs, prf := s.prf, tiles := s.tiles, mem := m }) hm.symm :).trans honly)
  · have htiles : u.tiles = t.tiles := (congrArg State.tiles hframe :)
    exact ((State.tile_setTile_ne u n v x hv).trans (State.tile_of_tiles htiles v)).trans (hother v hv)
  · exact (hsame r i hk).trans (hregs r i hk)

theorem baleArrive : BaleArrive := by
  intro s n b rest ht hd
  refine ⟨fun hh => ?_, fun hh hhop hf => ?_, fun hh hhop => ⟨fun hwait => ?_, fun p more hp he hi hfit hflag _ _ hclean => ?_⟩⟩
  · refine ⟨_, execBaleArrive_stale ht hd hh, ?_, ?_, ?_, ?_⟩
    · rw [State.rr_bump_same, s.arrived_rr n rest rfl (by decide)]
    · exact (s.arrived_sameRegs n rest).kept.wr .CVN_STALE_BALES 0 _ (by simp)
    · rw [State.bump_cvn, State.arrived_cvn]
    · show CvnAndRegs s _
      exact (s.arrived_cvnAndRegs n rest).trans (.bump _ _ _ _)
  · have hi : b.wb.handle.toNat % 64 < 64 := Nat.mod_lt _ (by decide)
    refine ⟨_, execBaleArrive_tooFar ht hd hh hhop hf, ?_, ?_, ?_, ?_⟩
    · rw [State.rr_bump_same, s.arrived_rr n rest rfl hi]
    · exact (s.arrived_sameRegs n rest).kept.wr .CVN_SLOT_HOPDROP _ _ (by simp)
    · rw [State.bump_cvn, State.arrived_cvn]
    · show CvnAndRegs s _
      exact (s.arrived_cvnAndRegs n rest).trans (.bump _ _ _ _)
  · have hfull : ∀ p ∈ (s.tile n).posted, p.bale ≠ none := by
      rcases hwait with h | ⟨-, h⟩
      · simp [h]
      · exact h
    have hkept : ∀ u : State, (u.tile n).posted = (s.tile n).posted → u.fillBuffers 1 n = u :=
      fun u hu => State.fillBuffers_full (by rw [hu]; exact hfull) 1
    refine ⟨_, execBaleArrive_fits ht hd hh hhop, ?_⟩
    rw [hkept _ (by rw [State.tile_setTile_same])]
    exact ⟨State.tile_setTile_same _ _ _, .arrived s n rest _, s.arrived_mem n rest⟩
  · have htile := State.tile_setTile_same (s.arrived n rest) n { s.tile n with inbox := (s.tile n).inbox ++ [b.hopped] }
    have honly := TileOnly.arrived s n rest { s.tile n with inbox := (s.tile n).inbox ++ [b.hopped] }
    have hmem : ((s.arrived n rest).setTile n { s.tile n with inbox := (s.tile n).inbox ++ [b.hopped] }).mem = s.mem := s.arrived_mem n rest
    have hexec := execBaleArrive_fits ht hd hh hhop
    generalize (s.arrived n rest).setTile n { s.tile n with inbox := (s.tile n).inbox ++ [b.hopped] } = u at htile honly hmem hexec
    have hclean' : CleanAt u (spadAddr n p.addr) b.payload.length := (hclean.mono hfit).of_sameRegs
      (fun l => by rw [State.poisoned, State.latentAt, hmem]; exact ⟨rfl, rfl⟩) honly.2.2
    have hstore : Stores u (u.writeBuffer n p b.hopped) (spadAddr n p.addr) b.payload :=
      writeBuffer_stores (Bale.flag_three hflag) hclean'
    have hpost : (u.tile n).posted = p :: more := by rw [htile]; exact hp
    have hin : (u.tile n).inbox = [b.hopped] := by rw [htile]; simp [hi]
    rw [State.fillBuffers_head hpost he hin hfit] at hexec
    have htiles : (u.writeBuffer n p b.hopped).tile n = u.tile n :=
      State.tile_of_tiles (congrArg State.tiles hstore.2 :) n
    refine ⟨_, hexec, ?_, ?_, fun a ha => ?_, honly.stores hstore _ hmem⟩
    · rw [State.tile_setTile_same, htiles, htile]
      rfl
    · exact (State.bytes_of_mem (State.setTile_mem _ _ _) _ _).trans hstore.1.bytes_eq
    · refine (hstore.1.byte_outside a ha).trans ?_
      rw [State.byte, State.byte, hmem]

/-- Settles O8: a release with nothing queued and a late period by what they write; a bale that arrives by the handle, the hops and the
buffers of its tile. -/
theorem cadenceAndTrail : Obligations.CadenceAndTrail := ⟨cadenceRelease, baleArrive⟩

end Sys2Proof.Machine
end

section
/-! SUPPORT. The loading of station programs and the end of an abort (O7). -/

namespace Sys2Proof.Machine

/-! ### Fences and marks -/

theorem SameRegs.rr {s t : State} (h : SameRegs s t) (r : Reg) (i : Nat) (hb : 0x400000 ≤ r.desc.base) : t.rr r i = s.rr r i :=
  h r i (r.key_above_prf i hb)

theorem SameRegs.tileFenced {s t : State} (h : SameRegs s t) (n : Nat) : t.tileFenced n = s.tileFenced n := by
  unfold State.tileFenced State.working State.tileFence State.gated
  rw [h.rr .IDT_GOOD _ (by decide), h.f F.RST_DOM_TILE_STATE _ (by decide), h.f F.RST_DOM_CLUSTER_STATE _ (by decide),
    h.f F.RST_DOM_PART_STATE _ (by decide), h.f F.OST_OUT_GATED _ (by decide)]

/-- Every line has the marks that it had. -/
def SameMarks (s t : State) : Prop := ∀ l, t.poisoned l = s.poisoned l ∧ t.latentAt l = s.latentAt l

theorem Loads.of_same {s t : State} {y : Station} (h : Loads s y) (hr : SameRegs s t) (hm : SameMarks s t) : Loads t y := by
  obtain ⟨hfence, hlen, hmem, hclean⟩ := h
  exact ⟨(hr.tileFenced y.tile).trans hfence, hlen, hmem, hclean.of_sameRegs hm hr⟩

/-! ### Programs that load -/

/-- The instruction memory of a station's tile from which its program runs. -/
def Station.imem (y : Station) : Nat := 0x10000080000 + y.tile * 0x100000

/-- An address outside the bytes that the program of a station takes. -/
def Station.outside (y : Station) (a : Nat) : Prop := a < y.imem ∨ y.imem + y.codeLen ≤ a

/-- The programs of stations are in their instruction memories and the tiles are STOPPED; nothing else differs but what PRF counts, in
registers (R111). -/
structure ProgramsLoaded (s t : State) (ys : List Station) : Prop where
  regs : SameRegs s t
  marks : SameMarks s t
  only : { t with regs := s.regs, tiles := s.tiles, mem := s.mem } = s
  tiles : ∀ n, t.tile n = if n ∈ ys.map (·.tile) then { s.tile n with st := .stopped } else s.tile n
  code : ∀ y ∈ ys, ∀ k, k < y.codeLen → t.byte (y.imem + k) = s.byte (y.codeAddr + k)
  others : ∀ a, (∀ y ∈ ys, y.outside a) → t.byte a = s.byte a

theorem ProgramsLoaded.none (s : State) : ProgramsLoaded s s [] where
  regs _ _ _ := rfl
  marks _ := ⟨rfl, rfl⟩
  only := rfl
  tiles _ := by simp
  code y hy := absurd hy (by simp)
  others _ _ := rfl

/-- A program that lies in memory is no part of an instruction memory. -/
theorem Loads.outside {s : State} {y z : Station} (h : Loads s y) (k : Nat) (hk : k < y.codeLen) : z.outside (y.codeAddr + k) := by
  obtain ⟨-, -, hmem, -⟩ := h
  unfold Station.outside Station.imem
  omega

/-- The instruction memories of two tiles do not meet. -/
theorem Station.outside_of_ne {y z : Station} (h : y.tile ≠ z.tile) (hy : y.codeLen ≤ 65536) (hz : z.codeLen ≤ 65536) (k : Nat)
    (hk : k < y.codeLen) : z.outside (y.imem + k) := by
  unfold Station.outside Station.imem
  omega

/-- A program loaded, and then others of other tiles. -/
theorem ProgramsLoaded.cons {s u t : State} {y : Station} {ys : List Station} (h1 : ProgramsLoaded s u [y]) (h2 : ProgramsLoaded u t ys)
    (hn : y.tile ∉ ys.map (·.tile)) (hy : Loads s y) (hys : ∀ z ∈ ys, Loads s z) : ProgramsLoaded s t (y :: ys) where
  regs r i hk := (h2.regs r i hk).trans (h1.regs r i hk)
  marks l := ⟨(h2.marks l).1.trans (h1.marks l).1, (h2.marks l).2.trans (h1.marks l).2⟩
  only := (congrArg (fun x : State => { x with regs := s.regs, tiles := s.tiles, mem := s.mem }) h2.only :).trans h1.only
  tiles n := by
    rw [h2.tiles, h1.tiles]
    by_cases hny : n = y.tile
    · subst hny
      simp [hn]
    · simp [hny]
  code z hz k hk := by
    have hny : ∀ w ∈ ys, y.tile ≠ w.tile := fun w hw h => hn (h ▸ List.mem_map_of_mem hw)
    rcases List.mem_cons.mp hz with rfl | hz
    · have hout : t.byte (z.imem + k) = u.byte (z.imem + k) := h2.others _ fun w hw =>
        Station.outside_of_ne (hny w hw) hy.2.1 (hys w hw).2.1 k hk
      rw [hout, h1.code z (by simp) k hk]
    · rw [h2.code z hz k hk]
      exact h1.others _ fun w _ => (hys z hz).outside k hk
  others a ha := by
    rw [h2.others a fun z hz => ha z (List.mem_cons_of_mem y hz)]
    exact h1.others a fun z hz => by
      rw [List.mem_singleton.mp hz]
      exact ha y List.mem_cons_self

/-- One program read and stored in its tile's instruction memory. -/
def State.loadOne (s : State) (y : Station) : State :=
  let r := s.readMem y.codeAddr y.codeLen 2
  let s1 := r.1.storeBytes (imemAddr y.tile 0) r.2.1
  s1.setTile y.tile { s1.tile y.tile with st := .stopped }

theorem loadPrograms_cons {s : State} {y : Station} (h : Loads s y) (k : Nat) (rest : List (Station × Nat)) :
    s.loadPrograms ((y, k) :: rest) = (s.loadOne y).loadPrograms rest := by
  obtain ⟨hfence, -, -, hclean⟩ := h
  obtain ⟨-, hread⟩ := readMem_clean hclean 2
  rw [State.loadPrograms, if_neg (by simp [hfence])]
  split
  · next h0 =>
    unfold State.loadOne
    rw [h0]
    rfl
  · dsimp only
    rw [if_neg (by simp [hread])]
    rfl

theorem State.bytes_getD (s : State) (a n k : Nat) (hk : k < n) : (s.bytes a n).getD k 0 = s.byte (a + k) := by
  induction n generalizing a k with
  | zero => omega
  | succ n ih =>
    cases k with
    | zero => rfl
    | succ k =>
      have h := ih (a + 1) k (by omega)
      rw [State.bytes, List.getD_cons_succ, h]
      congr 1
      omega

theorem State.bytes_length (s : State) (a n : Nat) : (s.bytes a n).length = n := by
  induction n generalizing a with
  | zero => rfl
  | succ n ih => rw [State.bytes, List.length_cons, ih]

theorem loadOne_loaded {s : State} {y : Station} (h : Loads s y) : ProgramsLoaded s (s.loadOne y) [y] := by
  obtain ⟨-, -, -, hclean⟩ := h
  obtain ⟨hprf, hread⟩ := readMem_clean hclean 2
  have hregs := readMem_clean_regsOnly hclean 2
  have himem : imemAddr y.tile 0 = y.imem := by rw [imemAddr, Nat.add_zero, Station.imem]
  unfold State.loadOne
  dsimp only
  rw [hread, himem]
  generalize (s.readMem y.codeAddr y.codeLen 2).1 = r at hprf hregs
  have hstore := (Writes.of_prfOnly y.imem hprf).after (.storeBytes r y.imem (s.bytes y.codeAddr y.codeLen))
  have honly := r.storeBytes_only y.imem (s.bytes y.codeAddr y.codeLen)
  dsimp only
  generalize r.storeBytes y.imem (s.bytes y.codeAddr y.codeLen) = u at hstore honly
  have htiles : u.tiles = s.tiles := (congrArg State.tiles honly).trans hregs.tiles
  obtain ⟨⟨hmarks, hsame, -⟩, hbyte⟩ := hstore
  rw [State.bytes_length] at hbyte
  constructor
  case regs => exact hsame
  case marks => exact hmarks
  case only =>
    rw [honly]
    exact (congrArg (fun x : State => { x with tiles := s.tiles, mem := s.mem }) hregs :)
  case tiles =>
    intro n
    by_cases hn : n = y.tile
    · rw [hn, State.tile_setTile_same, State.tile_of_tiles htiles, if_pos (by simp)]
    · rw [State.tile_setTile_ne _ _ _ _ hn, State.tile_of_tiles htiles, if_neg (by simpa using hn)]
  case code =>
    intro z hz k hk
    rw [List.mem_singleton.mp hz] at hk ⊢
    refine (hbyte _).trans ?_
    rw [if_pos (by omega), Nat.add_sub_cancel_left, State.bytes_getD _ _ _ _ hk]
  case others =>
    intro a ha
    have hout := ha y (by simp)
    unfold Station.outside at hout
    exact (hbyte a).trans (if_neg (by omega))

theorem loadPrograms_loaded (ys : List Station) (s : State) (k : Nat) (hn : (ys.map (·.tile)).Nodup) (h : ∀ y ∈ ys, Loads s y) :
    (s.loadPrograms (ys.zipIdx k)).2 = none ∧ ProgramsLoaded s (s.loadPrograms (ys.zipIdx k)).1 ys := by
  induction ys generalizing s k with
  | nil => exact ⟨rfl, .none s⟩
  | cons y ys ih =>
    obtain ⟨hy, hys⟩ := List.forall_mem_cons.mp h
    rw [List.map_cons, List.nodup_cons] at hn
    have hone := loadOne_loaded hy
    obtain ⟨hok, hrest⟩ := ih (s.loadOne y) (k + 1) hn.2 fun z hz => (hys z hz).of_same hone.regs hone.marks
    rw [List.zipIdx_cons, loadPrograms_cons hy]
    exact ⟨hok, hone.cons hrest hn.1 hy hys⟩

/-! ### The end of loading -/

theorem exec_stationLoadDone (i : Fin 64) (s : State) : exec (.stationLoadDone i) s = execStationLoadDone i s := rfl
theorem exec_stationLoadFault (i : Fin 64) (s : State) : exec (.stationLoadFault i) s = execStationLoadFault i s := rfl
theorem exec_abortDone (i : Fin 64) (s : State) : exec (.abortDone i) s = execAbortDone i s := rfl

theorem execStationLoadDone_loaded {s : State} {i : Fin 64} (hs : (s.slot i).state = .loading)
    (hn : ((s.slot i).stations.map (·.tile)).Nodup) (h : ∀ y ∈ (s.slot i).stations, Loads s y) :
    ∃ u, ProgramsLoaded s u (s.slot i).stations ∧
      exec (.stationLoadDone i) s = .next ((u.setSlot i { u.slot i with state := .ready }).cvnEvent i 2) := by
  obtain ⟨hok, hloaded⟩ := loadPrograms_loaded _ s 0 hn h
  refine ⟨_, hloaded, ?_⟩
  rw [exec_stationLoadDone, execStationLoadDone]
  dsimp only
  rw [if_pos hs, hok]

theorem ProgramsLoaded.slot {s u : State} {ys : List Station} (h : ProgramsLoaded s u ys) (i : Nat) : u.slot i = s.slot i :=
  State.slot_of_cvn (s := s) (congrArg State.cvn h.only :) i

/-! ### A program that cannot be loaded -/

theorem TilesOnly.trans {s t u : State} (h1 : TilesOnly s t) (h2 : TilesOnly t u) : TilesOnly s u :=
  (congrArg (fun v : State => { v with tiles := s.tiles }) h2 :).trans h1

theorem TilesOnly.setTile (s : State) (n : Nat) (x : Tile) : TilesOnly s (s.setTile n x) := rfl

/-- The first station behind a fence stops the loading, when the programs before it are empty (R114). -/
theorem loadPrograms_fenced (ys : List Station) (s : State) (k m : Nat) (y : Station) (hy : ys[k]? = some y) (hf : s.tileFenced y.tile = true)
    (hbefore : ∀ j < k, ∀ z, ys[j]? = some z → s.tileFenced z.tile = false ∧ z.codeLen = 0) :
    (s.loadPrograms (ys.zipIdx m)).2 = some (m + k, .fenced) ∧ TilesOnly s (s.loadPrograms (ys.zipIdx m)).1 := by
  induction ys generalizing s k m with
  | nil => exact absurd hy (by simp)
  | cons z ys ih =>
    rw [List.zipIdx_cons, State.loadPrograms]
    cases k with
    | zero =>
      obtain rfl : z = y := by simpa using hy
      rw [if_pos hf]
      exact ⟨rfl, rfl⟩
    | succ k =>
      obtain ⟨hz, h0⟩ := hbefore 0 (by omega) z rfl
      have hrest := ih (s.setTile z.tile { s.tile z.tile with st := .stopped }) k (m + 1) (by simpa using hy) hf
        fun j hj w hw => hbefore (j + 1) (by omega) w (by simpa using hw)
      rw [if_neg (by simp [hz]), if_pos h0, Nat.add_comm k, ← Nat.add_assoc]
      exact ⟨hrest.1, (TilesOnly.setTile s z.tile _).trans hrest.2⟩

theorem State.endWaits_none {s : State} (h : ∀ c, (s.core c).wait = none) (i : Nat) (go : CvnWait → Bool) (st : Status) (fields : Nat) :
    s.endWaits i go st fields = s := by
  unfold State.endWaits
  refine foldl_keeps (fun a => a = s) _ (fun a c ha => ?_) _ s rfl
  rw [ha, h c]

/-- A slot that has faulted while it loaded (R114): its queue stays. -/
def Slot.loadFaulted (x : Slot) : Slot := { x with state := .faulted, inflight := [], waiting := [], relOpen := [] }

/-- A slot that faults while it loads keeps its stations as they are (R114). -/
theorem State.faultSlot_loading {s : State} {i : Nat} (h : (s.slot i).state = .loading) (k : Nat) (st : Status) :
    s.faultSlot i k st =
      (((s.wr .CVN_SLOT_ERR i (k * 2 ^ 16 + st.code)).setSlot i (s.slot i).loadFaulted).cvnEvent i 4).endWaits i
        (fun _ => true) .fenced 0 := by
  have hslot : (s.wr .CVN_SLOT_ERR i (k * 2 ^ 16 + st.code)).slot i = s.slot i := State.wr_slot _ _ _ _ _
  unfold State.faultSlot
  dsimp only
  simp only [h, reduceCtorEq, decide_true, decide_false, Bool.false_or, if_true, hslot]
  rfl

theorem execStationLoadFault_fenced {s : State} {i : Fin 64} (hs : (s.slot i).state = .loading) {k : Nat} {y : Station}
    (hy : (s.slot i).stations[k]? = some y) (hf : s.tileFenced y.tile = true)
    (hbefore : ∀ j < k, ∀ z, (s.slot i).stations[j]? = some z → s.tileFenced z.tile = false ∧ z.codeLen = 0)
    (hw : ∀ c, (s.core c).wait = none) :
    ∃ u, TilesOnly s u ∧ exec (.stationLoadFault i) s =
      .next (((u.wr .CVN_SLOT_ERR i (k * 2 ^ 16 + 3)).setSlot i (s.slot i).loadFaulted).cvnEvent i 4) := by
  obtain ⟨hstop, honly⟩ := loadPrograms_fenced _ s k 0 y hy hf hbefore
  refine ⟨_, honly, ?_⟩
  rw [exec_stationLoadFault, execStationLoadFault]
  dsimp only
  rw [if_pos hs, hstop, Nat.zero_add]
  dsimp only
  generalize (s.loadPrograms ((s.slot i).stations.zipIdx 0)).1 = u at honly
  have hslot : u.slot i = s.slot i := State.slot_of_cvn (s := s) (congrArg State.cvn honly :) i
  have hcores : u.cores = s.cores := (congrArg State.cores honly :)
  rw [State.faultSlot_loading (hslot ▸ hs), hslot]
  generalize hv : ((u.wr .CVN_SLOT_ERR i (k * 2 ^ 16 + Status.fenced.code)).setSlot i (s.slot i).loadFaulted).cvnEvent i 4 = v
  have hvcores : v.cores = u.cores := by rw [← hv, State.cvnEvent, State.wr_cores, State.setSlot_cores, State.wr_cores]
  rw [State.endWaits_none fun c => by rw [State.core, hvcores, hcores, ← State.core, hw], ← hv, Status.code]

/-! ### The end of an abort -/

theorem execAbortDone_quiet {s : State} {i : Fin 64} (hs : (s.slot i).state = .aborting)
    (hq : ∀ y ∈ (s.slot i).stations, (s.tile y.tile).quiet = true) :
    exec (.abortDone i) s =
      .next (((s.bump .CVN_SLOT_ABORTED i ((s.slot i).inflight.length + (s.slot i).dropped)).setSlot i
        { s.slot i with state := .ready, inflight := [], dropped := 0 }).cvnEvent i 3) := by
  have hall : (s.slot i).stations.all (fun p => (s.tile p.tile).quiet) = true := List.all_eq_true.mpr hq
  rw [exec_abortDone, execAbortDone]
  dsimp only
  rw [if_pos ⟨hs, hall⟩]
  rfl

/-- A change of registers and of the controller leaves tiles and memory. -/
theorem CvnAndRegs.tile {s t : State} (h : CvnAndRegs s t) (n : Nat) : t.tile n = s.tile n := (congrArg (fun v : State => v.tile n) h :)
theorem CvnAndRegs.byte {s t : State} (h : CvnAndRegs s t) (a : Nat) : t.byte a = s.byte a := (congrArg (fun v : State => v.byte a) h :)

theorem CvnAndRegs.afterTiles {s u t : State} (h : CvnAndRegs u t) (hu : TilesOnly s u) :
    { t with cvn := s.cvn, regs := s.regs, tiles := s.tiles } = s :=
  (congrArg (fun v : State => { v with cvn := s.cvn, regs := s.regs, tiles := s.tiles }) h :).trans
    (congrArg (fun v : State => { v with cvn := s.cvn, regs := s.regs }) hu :)

theorem CvnAndRegs.afterLoading {s u t : State} {ys : List Station} (h : CvnAndRegs u t) (hu : ProgramsLoaded s u ys) :
    { t with cvn := s.cvn, regs := s.regs, tiles := s.tiles, mem := s.mem } = s :=
  (congrArg (fun v : State => { v with cvn := s.cvn, regs := s.regs, tiles := s.tiles, mem := s.mem }) h :).trans
    (congrArg (fun v : State => { v with cvn := s.cvn }) hu.only :)

theorem caravanLifeCycle : CaravanLifeCycle := by
  intro s i
  refine ⟨fun hs hn h => ?_, fun k y hs hy hf hbefore hw => ?_, fun hs hq => ?_⟩
  · obtain ⟨u, hu, hexec⟩ := execStationLoadDone_loaded hs hn fun y hy => (h y hy).2
    have hcvn : u.cvn = s.cvn := (congrArg State.cvn hu.only :)
    have ht := (CvnAndRegs.setSlot u i { u.slot i with state := .ready }).trans (.cvnEvent _ i 2)
    refine ⟨_, hexec, ?_, ⟨?_, fun j hj => ?_⟩, ?_, ?_, fun n => (ht.tile n).trans (hu.tiles n),
      fun y hy k hk => (ht.byte _).trans (hu.code y hy k hk), fun a ha => (ht.byte a).trans (hu.others a ha), ht.afterLoading hu⟩
    · rw [State.cvnEvent_slot, State.slot_setSlot_same, hu.slot]
    · rw [State.cvnEvent_cvn, State.setSlot_trail, hcvn]
    · rw [State.cvnEvent_slot, State.slot_setSlot_ne _ _ _ _ hj, hu.slot]
    · exact (hu.regs.kept.of_regs (State.setSlot_regs _ _ _)).wr .CVN_SLOT_EVENT i _ (by simp)
    · rw [State.cvnEvent_rr _ _ _ (by decide), State.setSlot_rr, hu.regs .CVN_SLOT_EVENT i (Reg.key_of_cvn rfl i.isLt)]
      rfl
  · obtain ⟨u, hu, hexec⟩ := execStationLoadFault_fenced hs hy hf hbefore hw
    have hcvn : u.cvn = s.cvn := (congrArg State.cvn hu :)
    have hregs : u.regs = s.regs := (congrArg State.regs hu :)
    have hne : Reg.CVN_SLOT_ERR.key i ≠ Reg.CVN_SLOT_EVENT.key i := Reg.key_ne_of_cvn rfl rfl (by decide) i.isLt i.isLt
    refine ⟨_, hexec, ?_, ?_, ⟨?_, fun j hj => ?_⟩, ?_, ?_, ?_, ?_⟩
    · rw [State.cvnEvent_slot, State.slot_setSlot_same, Slot.loadFaulted]
    · rw [State.cvnEvent_slot, State.slot_setSlot_same, Slot.loadFaulted]
    · rw [State.cvnEvent_cvn, State.setSlot_trail, State.wr_cvn, hcvn]
    · rw [State.cvnEvent_slot, State.slot_setSlot_ne _ _ _ _ hj, State.wr_slot, State.slot_of_cvn hcvn]
    · rw [State.cvnEvent, State.rr_wr_ne _ _ _ _ _ _ hne, State.setSlot_rr, State.rr_wr_same]
      have := k.isLt
      omega
    · rw [State.cvnEvent_rr _ _ _ (by decide), State.setSlot_rr, State.rr_wr_ne _ _ _ _ _ _ hne.symm, State.rr_of_regs hregs]
      rfl
    · exact ((((RegsKept.refl _ s).of_regs hregs).wr .CVN_SLOT_ERR i _ (by simp)).of_regs (State.setSlot_regs _ _ _)).wr .CVN_SLOT_EVENT i _
        (by simp)
    · refine CvnAndRegs.afterTiles ?_ hu
      exact ((CvnAndRegs.wr u _ _ _).trans (.setSlot _ _ _)).trans (.cvnEvent _ _ _)
  · have hne : Reg.CVN_SLOT_ABORTED.key i ≠ Reg.CVN_SLOT_EVENT.key i := Reg.key_ne_of_cvn rfl rfl (by decide) i.isLt i.isLt
    refine ⟨_, execAbortDone_quiet hs hq, ?_, ⟨?_, fun j hj => ?_⟩, ?_, ?_, ?_, ?_⟩
    · rw [State.cvnEvent_slot, State.slot_setSlot_same]
    · rw [State.cvnEvent_cvn, State.setSlot_trail, State.bump_cvn]
    · rw [State.cvnEvent_slot, State.slot_setSlot_ne _ _ _ _ hj, State.bump_slot]
    · exact (((RegsKept.refl _ s).wr .CVN_SLOT_ABORTED i _ (by simp)).of_regs (State.setSlot_regs _ _ _)).wr .CVN_SLOT_EVENT i _ (by simp)
    · rw [State.cvnEvent_rr _ _ _ (by decide), State.setSlot_rr, State.rr_bump_ne _ _ _ _ _ _ hne.symm]
      rfl
    · rw [State.cvnEvent, State.rr_wr_ne _ _ _ _ _ _ hne, State.setSlot_rr, State.rr_bump_same]
    · show CvnAndRegs s _
      exact ((CvnAndRegs.bump s _ _ _).trans (.setSlot _ _ _)).trans (.cvnEvent _ _ _)

end Sys2Proof.Machine
end

section
/-! SUPPORT. The completion of sequences and their admission (O7). -/

namespace Sys2Proof.Machine

/-! ### A completion written into the ring -/

/-- The place of the ring's next record (R132). -/
def State.ringPlace (s : State) (i : Nat) : Nat := (s.slot i).ringBase + 16 * (s.rr .CVN_SLOT_RING_WR i % 2 ^ (s.slot i).ringOrder)

/-- The record written and both counts raised (R132, R133, R135). -/
def State.recorded (s : State) (i : Nat) (c : Completion) : State :=
  ((s.writeMem (s.ringPlace i) (recordBytes c s.now) false 2).wr .CVN_SLOT_RING_WR i (s.rr .CVN_SLOT_RING_WR i + 1)).wr .CVN_SLOT_DONE i
    (s.rr .CVN_SLOT_DONE i + 1)

/-- The completion is the one that the threshold waits for (R136). -/
abbrev Slot.reaches (x : Slot) (thresh : Nat) : Prop := thresh ≠ 0 ∧ thresh ≤ x.sinceDone + 1

/-- The completion leaves the slot with nothing to do (R136). -/
def Slot.idleAfter (x : Slot) (seq : Nat) : Bool := (x.inflight.erase seq).isEmpty && x.queue.isEmpty && x.state.active

/-- The slot after a completion (R133, R136, R145). -/
def Slot.completed (x : Slot) (thresh seq : Nat) : Slot :=
  { x with
    sinceDone := if x.reaches thresh then 0 else x.sinceDone + 1
    inflight := x.inflight.erase seq
    relOpen := x.relOpen.erase seq }

/-- An event raised under a condition. -/
def State.raiseIf (s : State) (p : Prop) [Decidable p] (i b : Nat) : State := if p then s.cvnEvent i b else s

/-- The record written, the slot brought up to date and its events raised. -/
def State.completionRaised (s : State) (i : Nat) (c : Completion) : State :=
  let x := s.slot i
  let thresh := s.rr .CVN_SLOT_THRESH i
  (((s.recorded i c).setSlot i (x.completed thresh c.seq)).raiseIf (x.reaches thresh) i 0).raiseIf (x.idleAfter c.seq = true) i 1

theorem State.writeCompletion_eq (s : State) (i : Nat) (c : Completion) :
    s.writeCompletion i c = ((s.completionRaised i c).wakeWaiters i).blockEvent 0x41 i 1 := rfl

/-! ### Events of a slot -/

section
variable (s : State) (p : Prop) [Decidable p] (i b : Nat)

theorem State.raiseIf_cvnAndRegs : CvnAndRegs s (s.raiseIf p i b) := by
  unfold State.raiseIf
  split
  · exact .cvnEvent s i b
  · exact .refl s

theorem State.raiseIf_cvn : (s.raiseIf p i b).cvn = s.cvn := by
  unfold State.raiseIf
  split
  · exact s.cvnEvent_cvn i b
  · rfl

theorem State.raiseIf_kept : RegsKept [(.CVN_SLOT_EVENT, i)] s (s.raiseIf p i b) := by
  unfold State.raiseIf
  split
  · exact (RegsKept.refl _ s).wr .CVN_SLOT_EVENT i _ (by simp)
  · exact .refl _ s

theorem State.raiseIf_raises (hb : b < 32) (hp : p) : ((s.raiseIf p i b).rr .CVN_SLOT_EVENT i).testBit b = true := by
  rw [State.raiseIf, if_pos hp, State.cvnEvent_rr _ _ _ hb, Nat.testBit_or, Nat.testBit_two_pow_self, Bool.or_true]

/-- An event that stands is left standing. -/
theorem State.raiseIf_stands (hb : b < 32) (j : Nat) (h : (s.rr .CVN_SLOT_EVENT i).testBit j = true) :
    ((s.raiseIf p i b).rr .CVN_SLOT_EVENT i).testBit j = true := by
  unfold State.raiseIf
  split
  · rw [State.cvnEvent_rr _ _ _ hb, Nat.testBit_or, h, Bool.true_or]
  · exact h

end

/-! ### What a completion leaves -/

/-- Nothing but the controller, registers, memory, and cores with the answer of an instruction differs. -/
def CompletionOnly (s t : State) : Prop :=
  { t with cvn := s.cvn, regs := s.regs, mem := s.mem, cores := s.cores, resp := s.resp } = s

section
variable {s t u : State}

theorem CompletionOnly.trans (h1 : CompletionOnly s t) (h2 : CompletionOnly t u) : CompletionOnly s u :=
  (congrArg (fun v : State => { v with cvn := s.cvn, regs := s.regs, mem := s.mem, cores := s.cores, resp := s.resp }) h2 :).trans h1

theorem CvnAndRegs.completionOnly (h : CvnAndRegs s t) : CompletionOnly s t :=
  (congrArg (fun v : State => { v with mem := s.mem, cores := s.cores, resp := s.resp }) h :)

theorem CoresOnly.completionOnly (h : CoresOnly s t) : CompletionOnly s t :=
  (congrArg (fun v : State => { v with cvn := s.cvn, regs := s.regs, mem := s.mem }) h :)

theorem Stores.completionOnly {a : Nat} {bs : List Byte} (h : Stores s t a bs) : CompletionOnly s t :=
  (congrArg (fun v : State => { v with cvn := s.cvn, cores := s.cores, resp := s.resp }) h.2 :)

theorem CvnAndRegs.mem_eq (h : CvnAndRegs s t) : t.mem = s.mem := (congrArg State.mem h :)

end

/-- Waits that end and the count of a completion leave the registers outside PRF, the slots and memory. -/
theorem State.wakeAndCount (s : State) (i : Nat) :
    let t := (s.wakeWaiters i).blockEvent 0x41 i 1
    SameRegs s t ∧ t.cvn = s.cvn ∧ t.mem = s.mem ∧ CompletionOnly s t := by
  intro t
  have hwake : CoresOnly s (s.wakeWaiters i) := s.endWaits_coresOnly i _ _ _
  have hcount : RegsOnly (s.wakeWaiters i) t := RegsOnly.blockEvent _ _ _ _
  refine ⟨fun r j hk => ?_, (congrArg State.cvn hcount :).trans hwake.cvn_eq, hcount.mem.trans hwake.mem_eq,
    hwake.completionOnly.trans hcount.cvnAndRegs.completionOnly⟩
  exact ((PrfOnly.blockEvent (s.wakeWaiters i) 0x41 i 1).2 r j hk).trans (State.rr_of_regs hwake.regs_eq r j)

theorem State.byte_of_mem {s t : State} (h : t.mem = s.mem) (a : Nat) : t.byte a = s.byte a := by rw [State.byte, h, State.byte]

theorem recordBytes_length (c : Completion) (now : Nat) : (recordBytes c now).length = 16 := by simp [recordBytes]

/-! ### The record and the counts -/

/-- The registers that a completion writes (R133, R136). -/
abbrev completionRegs (i : Nat) : List (Reg × Nat) := [(.CVN_SLOT_RING_WR, i), (.CVN_SLOT_DONE, i), (.CVN_SLOT_EVENT, i)]

theorem RegsKept.trans {l : List (Reg × Nat)} {s t u : State} (h1 : RegsKept l s t) (h2 : RegsKept l t u) : RegsKept l s u :=
  fun r j hq => (h2 r j hq).trans (h1 r j hq)

theorem RegsKeptPrf.trans {l m : List (Reg × Nat)} {s t u : State} (h1 : RegsKeptPrf l s t) (h2 : RegsKept m t u) (hm : m ⊆ l) :
    RegsKeptPrf l s u :=
  fun r j hk hq => (h2 r j fun p hp => hq p (hm hp)).trans (h1 r j hk hq)

section
variable {s : State} {i : Fin 64} (c : Completion) (hr : RingReady s i)
include hr

theorem RingReady.stores :
    Stores s (s.writeMem (s.ringPlace i) (recordBytes c s.now) false 2) (s.ringPlace i) (recordBytes c s.now) := by
  obtain ⟨-, -, hclean⟩ := hr
  exact writeMem_stores (by rw [recordBytes_length]; exact hclean) 2

theorem RingReady.recorded_only : CompletionOnly s (s.recorded i c) :=
  (hr.stores c).completionOnly.trans ((CvnAndRegs.wr _ _ _ _).trans (.wr _ _ _ _)).completionOnly

theorem RingReady.recorded_cvn : (s.recorded i c).cvn = s.cvn := (congrArg State.cvn (hr.stores c).2 :)

theorem RingReady.recorded_kept : RegsKeptPrf (completionRegs i) s (s.recorded i c) := by
  obtain ⟨⟨⟨-, hsame, -⟩, -⟩, -⟩ := hr.stores c
  exact (hsame.kept.wr .CVN_SLOT_RING_WR i _ (by simp)).wr .CVN_SLOT_DONE i _ (by simp)

omit hr in
theorem State.recorded_counts :
    (s.recorded i c).rr .CVN_SLOT_RING_WR i = (s.rr .CVN_SLOT_RING_WR i + 1) % 2 ^ 32 ∧
      (s.recorded i c).rr .CVN_SLOT_DONE i = (s.rr .CVN_SLOT_DONE i + 1) % 2 ^ 32 := by
  have hne : Reg.CVN_SLOT_RING_WR.key i ≠ Reg.CVN_SLOT_DONE.key i := Reg.key_ne_of_cvn rfl rfl (by decide) i.isLt i.isLt
  unfold State.recorded
  exact ⟨by rw [State.rr_wr_ne _ _ _ _ _ _ hne, State.rr_wr_same], State.rr_wr_same _ _ _ _⟩

end

/-! ### The slot and its events -/

section
variable (s : State) (i : Fin 64) (c : Completion)

/-- The state in which the waits are judged, from that with the record and its counts. -/
theorem State.completionRaised_after :
    let x := (s.slot i).completed (s.rr .CVN_SLOT_THRESH i) c.seq
    let t := s.completionRaised i c
    CvnAndRegs (s.recorded i c) t ∧ t.cvn = ((s.recorded i c).setSlot i x).cvn ∧ RegsKept [(.CVN_SLOT_EVENT, i.val)] (s.recorded i c) t := by
  intro x t
  refine ⟨?_, ?_, ?_⟩
  · exact ((CvnAndRegs.setSlot (s.recorded i c) i x).trans (State.raiseIf_cvnAndRegs ..)).trans (State.raiseIf_cvnAndRegs ..)
  · exact (State.raiseIf_cvn ..).trans (State.raiseIf_cvn ..)
  · exact (((RegsKept.refl _ (s.recorded i c)).of_regs (State.setSlot_regs _ _ _)).trans (State.raiseIf_kept _ _ _ _)).trans (State.raiseIf_kept _ _ _ _)

variable {s i}

theorem State.completionRaised_done (h : (s.slot i).reaches (s.rr .CVN_SLOT_THRESH i)) :
    ((s.completionRaised i c).rr .CVN_SLOT_EVENT i).testBit 0 = true :=
  State.raiseIf_stands _ _ _ _ (by decide) 0 (State.raiseIf_raises _ _ _ _ (by decide) h)

theorem State.completionRaised_idle (h : (s.slot i).idleAfter c.seq = true) :
    ((s.completionRaised i c).rr .CVN_SLOT_EVENT i).testBit 1 = true :=
  State.raiseIf_raises _ _ _ _ (by decide) h

end

/-! ### A completion as a whole -/

/-- What a completion written into the ring of slot `i` leaves behind (R130, R132, R133, R135, R136). -/
structure CompletionWritten (s t : State) (i : Nat) (c : Completion) : Prop where
  completed : Completed s t i c.seq c.status c.flags c.length
  slot : t.slot i = (s.slot i).completed (s.rr .CVN_SLOT_THRESH i) c.seq
  others : SlotOnly s t i
  regs : RegsKeptPrf (completionRegs i) s t
  only : CompletionOnly s t
  done : (s.slot i).reaches (s.rr .CVN_SLOT_THRESH i) → (t.rr .CVN_SLOT_EVENT i).testBit 0 = true
  idle : (s.slot i).idleAfter c.seq = true → (t.rr .CVN_SLOT_EVENT i).testBit 1 = true

theorem RingReady.writeCompletion {s : State} {i : Fin 64} (hr : RingReady s i) (c : Completion) :
    CompletionWritten s (s.writeCompletion i c) i c := by
  obtain ⟨hframe, hcvn, hkept⟩ := s.completionRaised_after i c
  obtain ⟨hsame, hcvn', hmem', honly⟩ := (s.completionRaised i c).wakeAndCount i
  obtain ⟨hwr, hdone⟩ := State.recorded_counts (s := s) (i := i) c
  have hstore := hr.stores c
  have hraise := State.completionRaised_done (s := s) (i := i) c
  have hidle := State.completionRaised_idle (s := s) (i := i) c
  rw [← State.writeCompletion_eq] at hsame hcvn' hmem' honly
  generalize s.completionRaised i c = u at *
  generalize s.writeCompletion i c = t at *
  have hcvnOf := hr.recorded_cvn c
  have hrr : ∀ r : Reg, r.desc.blk = .cvn → i.val < r.copies → r ≠ .CVN_SLOT_EVENT → t.rr r i = (s.recorded i c).rr r i := by
    intro r hb hi hne
    rw [hsame r i (Reg.key_of_cvn hb hi)]
    exact hkept r i (by simpa using Reg.key_ne_of_cvn rfl hb hne.symm i.isLt hi)
  have hevent : t.rr .CVN_SLOT_EVENT i = u.rr .CVN_SLOT_EVENT i := hsame _ _ (Reg.key_of_cvn rfl i.isLt)
  have hslot : t.slot i = (s.slot i).completed (s.rr .CVN_SLOT_THRESH i) c.seq := by
    rw [State.slot_of_cvn (hcvn'.trans hcvn), State.slot_setSlot_same]
  have hmem : t.mem = (s.writeMem (s.ringPlace i) (recordBytes c s.now) false 2).mem := hmem'.trans hframe.mem_eq
  constructor
  case completed =>
    refine ⟨?_, fun b hb => ?_, ?_, ?_, ?_⟩
    · exact (State.bytes_of_mem hmem _ _).trans hstore.1.bytes_eq
    · refine (State.byte_of_mem hmem b).trans (hstore.1.byte_outside b ?_)
      rw [recordBytes_length]
      exact hb
    · rw [hrr .CVN_SLOT_RING_WR rfl i.isLt (by decide), hwr]
    · rw [hrr .CVN_SLOT_DONE rfl i.isLt (by decide), hdone]
    · rw [hslot, Slot.completed]
  case slot => exact hslot
  case others =>
    refine ⟨?_, fun j hj => ?_⟩
    · rw [hcvn', hcvn, State.setSlot_trail, hcvnOf]
    · rw [State.slot_of_cvn (hcvn'.trans hcvn), State.slot_setSlot_ne _ _ _ _ hj, State.slot_of_cvn hcvnOf]
  case regs => exact ((hr.recorded_kept c).trans hkept (by simp)).count hsame
  case only => exact ((hr.recorded_only c).trans hframe.completionOnly).trans honly
  case done => exact fun h => by rw [hevent]; exact hraise h
  case idle => exact fun h => by rw [hevent]; exact hidle h

/-! ### A slot made ready for a completion -/

/-- Slot `i` has been changed and PRF has counted, but the slot's ring stands where it was. -/
structure SameRing (s u : State) (i : Nat) : Prop where
  base : (u.slot i).ringBase = (s.slot i).ringBase
  order : (u.slot i).ringOrder = (s.slot i).ringOrder
  others : SlotOnly s u i
  regs : SameRegs s u
  only : CvnAndRegs s u

namespace SameRing
variable {s u t : State} {i : Fin 64} (h : SameRing s u i)
include h

theorem rr {r : Reg} (hb : r.desc.blk = .cvn) (hi : i.val < r.copies) : u.rr r i = s.rr r i := h.regs r i (Reg.key_of_cvn hb hi)

theorem ringPlace : u.ringPlace i = s.ringPlace i := by
  rw [State.ringPlace, h.base, h.order, h.rr (r := .CVN_SLOT_RING_WR) rfl i.isLt, State.ringPlace]

theorem ringReady (hr : RingReady s i) : RingReady u i := by
  obtain ⟨hroom, halign, hclean⟩ := hr
  refine ⟨?_, h.base ▸ halign, ?_⟩
  · rw [h.rr (r := .CVN_SLOT_RING_WR) rfl i.isLt, h.rr (r := .CVN_SLOT_RING_RD) rfl i.isLt, h.order]
    exact hroom
  · show CleanAt u (u.ringPlace i) 16
    rw [h.ringPlace]
    exact hclean.of_sameRegs (fun l => by rw [State.poisoned, State.latentAt, h.only.mem_eq]; exact ⟨rfl, rfl⟩) h.regs

theorem completed {c : Completion} (hw : CompletionWritten u t i c)
    (hf : (u.slot i).inflight.erase c.seq = (s.slot i).inflight.erase c.seq) :
    Completed s t i c.seq c.status c.flags c.length := by
  obtain ⟨hrec, hout, hwr, hdone, hin⟩ := hw.completed
  have htime : u.tmb = s.tmb := (congrArg State.tmb h.only :)
  have hplace := h.ringPlace
  unfold State.ringPlace at hplace
  rw [hplace] at hrec hout
  rw [htime] at hrec
  rw [h.rr (r := .CVN_SLOT_RING_WR) rfl i.isLt] at hwr
  rw [h.rr (r := .CVN_SLOT_DONE) rfl i.isLt] at hdone
  exact ⟨hrec, fun b hb => (hout b hb).trans (h.only.byte b), hwr, hdone, hin.trans hf⟩

theorem slotOnly {c : Completion} (hw : CompletionWritten u t i c) : SlotOnly s t i := by
  obtain ⟨htrail, hslots⟩ := h.others
  obtain ⟨htrail', hslots'⟩ := hw.others
  exact ⟨htrail'.trans htrail, fun j hj => (hslots' j hj).trans (hslots j hj)⟩

theorem kept {c : Completion} (hw : CompletionWritten u t i c) : RegsKeptPrf (completionRegs i) s t :=
  fun r j hk hq => (hw.regs r j hk hq).trans (h.regs r j hk)

theorem completionOnly {c : Completion} (hw : CompletionWritten u t i c) : CompletionOnly s t := h.only.completionOnly.trans hw.only

end SameRing

theorem SameRing.setSlot (s : State) (i : Nat) (x : Slot) (hb : x.ringBase = (s.slot i).ringBase) (ho : x.ringOrder = (s.slot i).ringOrder) :
    SameRing s (s.setSlot i x) i where
  base := by rw [State.slot_setSlot_same, hb]
  order := by rw [State.slot_setSlot_same, ho]
  others := ⟨State.setSlot_trail _ _ _, fun j hj => State.slot_setSlot_ne _ _ _ _ hj⟩
  regs _ _ _ := State.setSlot_rr _ _ _ _ _
  only := .setSlot s i x

/-- A count of PRF leaves the slots. -/
theorem SameRing.count {s u t : State} {i : Nat} (h : SameRing s u i) (hregs : RegsOnly u t) (hsame : SameRegs u t) : SameRing s t i := by
  have hcvn : t.cvn = u.cvn := (congrArg State.cvn hregs :)
  obtain ⟨hbase, horder, ⟨htrail, hslots⟩, hr, honly⟩ := h
  refine ⟨?_, ?_, ⟨?_, fun j hj => ?_⟩, fun r j hk => (hsame r j hk).trans (hr r j hk), honly.trans hregs.cvnAndRegs⟩
  · rw [State.slot_of_cvn hcvn, hbase]
  · rw [State.slot_of_cvn hcvn, horder]
  · rw [hcvn, htrail]
  · rw [State.slot_of_cvn hcvn, hslots j hj]

/-! ### The resumption of a completion -/

theorem exec_completionResume (i : Fin 64) (s : State) : exec (.completionResume i) s = execCompletionResume i s := rfl
theorem exec_seqAdmit (i : Fin 64) (timeout : Bool) (s : State) : exec (.seqAdmit i timeout) s = execSeqAdmit i timeout s := rfl

theorem RingReady.not_full {s : State} {i : Nat} (h : RingReady s i) : s.ringFull i = false := by
  rw [State.ringFull, decide_eq_false_iff_not, Nat.not_le]
  exact h.1

theorem execCompletionResume_room {s : State} {i : Fin 64} {c : Completion} {rest : List Completion} (hw : (s.slot i).waiting = c :: rest)
    (hs : c.sink = none) (hr : RingReady s i) :
    exec (.completionResume i) s = .next ((s.setSlot i { s.slot i with waiting := rest }).writeCompletion i c) := by
  rw [exec_completionResume, execCompletionResume]
  dsimp only
  rw [hw]
  dsimp only
  rw [hr.not_full, hs]
  rfl

theorem completionResume : CompletionResume := by
  intro s i c rest hw hs hr
  have hring := SameRing.setSlot s i { s.slot i with waiting := rest } rfl rfl
  have hslot := State.slot_setSlot_same s i { s.slot i with waiting := rest }
  have hexec := execCompletionResume_room hw hs hr
  generalize s.setSlot i { s.slot i with waiting := rest } = u at *
  have hdone := (hring.ringReady hr).writeCompletion c
  have hthresh : u.rr .CVN_SLOT_THRESH i = s.rr .CVN_SLOT_THRESH i := hring.rr rfl i.isLt
  refine ⟨_, hexec, hring.completed hdone (by rw [hslot]), ?_, hring.slotOnly hdone, fun hpos hle => ?_, fun hf hq ha => ?_, hring.kept hdone,
    hring.completionOnly hdone⟩
  · rw [hdone.slot, Slot.completed, hslot]
  · have hreach : (u.slot i).reaches (u.rr .CVN_SLOT_THRESH i) := by
      rw [hthresh, hslot]
      exact ⟨by omega, hle⟩
    refine ⟨hdone.done hreach, ?_⟩
    rw [hdone.slot, Slot.completed]
    exact if_pos hreach
  · refine hdone.idle ?_
    rw [hslot, Slot.idleAfter]
    rcases ha with ha | ha <;> simp [hf, hq, ha, SlotState.active]

/-! ### Admission -/

/-- The id of the sequence that a record admits next (R126). -/
def PushRec.seq (q : PushRec) : Nat := (q.firstSeq + q.admitted) % 65536

/-- The slot once the next sequence of its first record is admitted (R127). -/
def Slot.admitted (x : Slot) (q : PushRec) (rest : List PushRec) : Slot :=
  { x with
    queue := if q.count ≤ q.admitted + 1 then rest else { q with admitted := q.admitted + 1 } :: rest
    inflight := x.inflight ++ [q.seq] }

/-- The state in which the payload of the sequence is read. -/
def State.admitting (s : State) (i : Nat) (q : PushRec) (rest : List PushRec) : State :=
  (s.setSlot i ((s.slot i).admitted q rest)).blockEvent 0x40 i 1

/-- The waybill of an entry bale (R128). -/
def PushRec.waybill (q : PushRec) (handle : Nat) (poisoned : Bool) : Waybill :=
  { handle := BitVec.ofNat 16 handle, seq := BitVec.ofNat 16 q.seq, route := q.route, hops := 0
    flags := if poisoned then 9 else 1, length := BitVec.ofNat 32 q.length, data0 := q.data0, data1 := q.data1, origin := 0xFFFF }

/-- A bale put at the end of the trail. -/
def State.onTrail (s : State) (b : Bale) : State := { s with cvn := { s.cvn with trail := s.cvn.trail ++ [b] } }

section
variable (s : State) (b : Bale)

theorem State.onTrail_slot (i : Nat) : (s.onTrail b).slot i = s.slot i := rfl
theorem State.onTrail_trail : (s.onTrail b).cvn.trail = s.cvn.trail ++ [b] := rfl
theorem State.onTrail_regs : (s.onTrail b).regs = s.regs := rfl
theorem CvnAndRegs.onTrail : CvnAndRegs s (s.onTrail b) := rfl

end

section
variable (s : State) (i : Nat) (q : PushRec) (rest : List PushRec)

theorem State.admitting_sameRing : SameRing s (s.admitting i q rest) i :=
  (SameRing.setSlot s i ((s.slot i).admitted q rest) rfl rfl).count (RegsOnly.blockEvent _ _ _ _) (PrfOnly.blockEvent _ _ _ _).2

theorem State.admitting_slot : (s.admitting i q rest).slot i = (s.slot i).admitted q rest := by
  have hcvn : (s.admitting i q rest).cvn = (s.setSlot i ((s.slot i).admitted q rest)).cvn :=
    (congrArg State.cvn (RegsOnly.blockEvent (s.setSlot i ((s.slot i).admitted q rest)) 0x40 i 1) :)
  rw [State.slot_of_cvn hcvn, State.slot_setSlot_same]

end

/-- The tile of a caravan's station 0, to which entry bales go (R128). -/
def Slot.entryTile (x : Slot) : Nat := (x.stations.head?.map (·.tile)).getD 0

/-- What an admission gives, from the state in which the payload is read. -/
theorem State.admitOne_cons {s : State} {i : Nat} {q : PushRec} {rest : List PushRec} (hq : (s.slot i).queue = q :: rest) (timeout : Bool) :
    s.admitOne i timeout =
      if timeout then (s.admitting i q rest).complete i { seq := q.seq, status := .timeout, flags := 0, length := 0, sink := none }
      else
        let r := (s.admitting i q rest).readMem (q.src + q.admitted * q.stride) q.length 2
        r.1.onTrail ⟨(s.slot i).entryTile, q.waybill (s.handle i) r.2.2, r.2.1⟩ := by
  unfold State.admitOne
  extract_lets x
  rw [show x.queue = q :: rest from hq]
  rfl

theorem execSeqAdmit_admits {s : State} {i : Fin 64} {q : PushRec} {rest : List PushRec} (ha : s.admissionStopped = false)
    (hs : (s.slot i).state = .running) (hc : (s.slot i).cadence = none) (hf : (s.slot i).inflight.length < 1024)
    (hq : (s.slot i).queue = q :: rest) (timeout : Bool) : exec (.seqAdmit i timeout) s = .next (s.admitOne i timeout) := by
  rw [exec_seqAdmit, execSeqAdmit, if_pos ⟨by simp [ha], hs, hc, hf, by simp [hq]⟩]

/-- A completion that finds none waiting and room in the ring is written at once (R134). -/
theorem State.complete_room {s : State} {i : Nat} (hw : (s.slot i).waiting = []) (hr : RingReady s i) (c : Completion) (hs : c.sink = none) :
    s.complete i c = s.writeCompletion i c := by
  rw [State.complete]
  dsimp only
  rw [hw, hr.not_full, hs]
  rfl

theorem admission : Admission := by
  intro s i q rest e more x addr seq queue ha hs hc hf hq he
  have hring := s.admitting_sameRing i q rest
  have hslot := s.admitting_slot i q rest
  refine ⟨fun _ hclean => ?_, fun hw hn hr => ?_⟩
  · have hexec := execSeqAdmit_admits ha hs hc hf hq false
    rw [State.admitOne_cons hq, if_neg (by decide)] at hexec
    generalize s.admitting i q rest = u at *
    have hclean' : CleanAt u addr q.length :=
      hclean.of_sameRegs (fun l => by rw [State.poisoned, State.latentAt, hring.only.mem_eq]; exact ⟨rfl, rfl⟩) hring.regs
    obtain ⟨hprf, hread⟩ := readMem_clean hclean' 2
    have hregs := readMem_clean_regsOnly hclean' 2
    dsimp only at hexec
    rw [hread] at hexec
    generalize (u.readMem addr q.length 2).1 = r at *
    have hcvn : r.cvn = u.cvn := (congrArg State.cvn hregs :)
    obtain ⟨htrail, hslots⟩ := hring.others
    have hentry : (s.slot i).entryTile = e.tile := by
      rw [Slot.entryTile, show (s.slot i).stations = _ from he]
      rfl
    have hbytes : u.bytes addr q.length = s.bytes addr q.length := State.bytes_of_mem hring.only.mem_eq _ _
    have hkept : RegsKeptPrf [] s r := (SameRegs.kept hring.regs).count hprf.2
    refine ⟨_, hexec, ?_, fun j hj => ?_, ?_, hkept.of_regs (State.onTrail_regs _ _),
      (hring.only.trans hregs.cvnAndRegs).trans (.onTrail _ _)⟩
    · rw [State.onTrail_slot, State.slot_of_cvn hcvn, hslot]
      rfl
    · rw [State.onTrail_slot, State.slot_of_cvn hcvn, hslots j hj]
    · rw [State.onTrail_trail, hcvn, htrail, hentry, hbytes, State.handle_eq]
      rfl
  · have hexec := execSeqAdmit_admits ha hs hc hf hq true
    rw [State.admitOne_cons hq, if_pos rfl] at hexec
    generalize s.admitting i q rest = u at *
    have hr' := hring.ringReady hr
    rw [State.complete_room (by rw [hslot]; exact hw) hr' _ rfl] at hexec
    have hdone := hr'.writeCompletion { seq := q.seq, status := .timeout, flags := 0, length := 0, sink := none }
    refine ⟨_, hexec, hring.completed hdone ?_, ?_, hring.slotOnly hdone, hring.kept hdone, hring.completionOnly hdone⟩
    · rw [hslot]
      show (x.inflight ++ [seq]).erase seq = x.inflight.erase seq
      rw [List.erase_append_right _ hn, List.erase_cons_head, List.append_nil, List.erase_of_not_mem hn]
    · rw [hdone.slot, Slot.completed, hslot]
      rfl

/-- Settles O7: loading and aborting by the programs and the stations; an admission by the state in which its payload is read; a completion by
the record, the counts, the slot and its events. -/
theorem caravanProgress : Obligations.CaravanProgress := ⟨caravanLifeCycle, admission, completionResume⟩

end Sys2Proof.Machine
end

section
/-! SUPPORT. Viroth words (O57): a word is its class, its operation and its fields, and each class lists its operations. -/

namespace Sys2Proof.Machine

/-! ### A word and its fields -/

/-- The fields of a word are those that it was made of (R158). -/
theorem virothFields_virothWord (cls opc : BitVec 4) (o : VOp) : virothFields (virothWord cls opc o) = o := by
  obtain ⟨a, b, c, d, pr, pm, fn⟩ := o
  unfold virothFields virothWord
  rw [VOp.mk.injEq]
  refine ⟨?_, ?_, ?_, ?_, ?_, ?_, ?_⟩ <;>
    · apply BitVec.eq_of_getLsbD_eq
      intro i hi
      simp (disch := omega) only [BitVec.getLsbD_extractLsb', hi, decide_true, Bool.true_and, BitVec.getLsbD_append, if_pos, if_neg]
      congr 1
      omega

/-- A word is made of its class, its operation and its fields (R158). -/
theorem virothWord_virothFields (w : BitVec 64) : virothWord (w.extractLsb' 60 4) (w.extractLsb' 56 4) (virothFields w) = w := by
  apply BitVec.eq_of_getLsbD_eq
  intro i hi
  simp only [virothWord, virothFields, BitVec.getLsbD_append, BitVec.getLsbD_extractLsb']
  split_ifs <;>
    · rw [decide_eq_true (by omega), Bool.true_and]
      congr 1
      omega

/-! ### The operations of a class -/

/-- The instruction of a class and an operation, with its tile and its fields; none when R159 does not list it. -/
def virothOp (t : Fin 768) (o : VOp) (cls opc : BitVec 4) : Option Instr :=
  match cls.toNat with
  | 0x0 => scalarRegOp t o opc
  | 0x1 => scalarImmOp t o opc
  | 0x2 => controlOp t o opc
  | 0x3 => vectorArithOp t o opc
  | 0x4 => vectorMemOp t o opc
  | 0x5 => matrixOp t o opc
  | 0x6 => movementOp t o opc
  | 0x7 => waybillOp t o opc
  | 0x8 => eventOp t o opc
  | 0x9 => makeweightOp t o opc
  | _ => none

theorem decodeViroth_eq (t : Fin 768) (w : BitVec 64) :
    decodeViroth t w = virothOp t (virothFields w) (w.extractLsb' 60 4) (w.extractLsb' 56 4) := rfl

theorem decodeViroth_virothWord (t : Fin 768) (cls opc : BitVec 4) (o : VOp) :
    decodeViroth t (virothWord cls opc o) = virothOp t o cls opc := by
  rw [decodeViroth_eq, virothFields_virothWord, Laws.Encoding.class_of_word, Laws.Encoding.opc_of_word]

/-- A class and an operation are two numbers below 16. -/
theorem nibbles_cases {P : BitVec 4 → BitVec 4 → Prop} (h : ∀ c < 16, ∀ p < 16, P (BitVec.ofNat 4 c) (BitVec.ofNat 4 p))
    (cls opc : BitVec 4) : P cls opc := by
  have hall := h cls.toNat cls.isLt opc.toNat opc.isLt
  rwa [BitVec.ofNat_toNat, BitVec.ofNat_toNat, BitVec.setWidth_eq, BitVec.setWidth_eq] at hall

/-- A listed instruction has the word of its class and operation: the table of R159, entry by entry. -/
theorem encodeViroth_of_virothOp {t : Fin 768} {o : VOp} {i : Instr} :
    ∀ cls opc : BitVec 4, virothOp t o cls opc = some i → encodeViroth i = some (virothWord cls opc o) := by
  refine nibbles_cases fun c hc p hp h => ?_
  interval_cases c <;> interval_cases p <;> cases h <;> rfl

/-- An instruction with a word is listed under the class and the operation of the word. -/
theorem virothOp_of_encodeViroth {i : Instr} {w : BitVec 64} (h : encodeViroth i = some w) :
    ∃ t o cls opc, w = virothWord cls opc o ∧ virothOp t o cls opc = some i := by
  cases i <;> cases h
  all_goals exact ⟨_, _, _, _, rfl, rfl⟩

/-- A class lists as many operations as R159 gives it, from 0 on. -/
theorem virothOp_isNone (t : Fin 768) (o : VOp) : ∀ cls opc : BitVec 4,
    (virothOp t o cls opc).isNone = decide (Laws.Encoding.operations cls.toNat ≤ opc.toNat) := by
  refine nibbles_cases fun c hc p hp => ?_
  interval_cases c <;> interval_cases p <;> rfl

/-! ### Words -/

theorem virothWords_inverse : VirothWords := by
  refine ⟨fun i w h => ?_, fun t w i h => ?_⟩
  · obtain ⟨t, o, cls, opc, rfl, hop⟩ := virothOp_of_encodeViroth h
    exact ⟨t, (decodeViroth_virothWord t cls opc o).trans hop⟩
  · rw [decodeViroth_eq] at h
    rw [encodeViroth_of_virothOp _ _ h, virothWord_virothFields]

theorem virothWords_unlisted : UnlistedWords := by
  intro t w
  dsimp only
  rw [decodeViroth_eq, ← Option.isNone_iff_eq_none, virothOp_isNone, decide_eq_true_iff]
  rfl

/-- Settles O57: a word is its class, its operation and its fields, and the table of each class lists its operations from 0 on. -/
theorem virothWords : Obligations.VirothWords := ⟨virothWords_inverse, virothWords_unlisted⟩

end Sys2Proof.Machine
end

section
/-! SUPPORT. Instructions that block (O11, O16, O19): of a running tile that holds a wait the statements on them say too much. -/

namespace Sys2Proof.Machine

/-- The fields of an instruction all zero, but for FN. -/
def fnOnly (fn : BitVec 32) : VOp := { a := 0, b := 0, c := 0, d := 0, pr := 0, pm := 0, fn := fn }

theorem strayWait_waiting : (strayWait.tile 0).waiting = some .fence := by decide

/-- An instruction that ends on `strayWait` and clears the tile's wait ends in no state that keeps it. -/
theorem strayWait_not_kept {i : Instr} (hi : ∃ t, exec i strayWait = .next t ∧ (t.tile 0).waiting = none) {P : State → Prop}
    (hP : ∃ t, exec i strayWait = .next t ∧ P t) (hkept : ∀ t, P t → (t.tile 0).waiting = (strayWait.tile 0).waiting) : False := by
  obtain ⟨t, ht, hwait⟩ := hi
  obtain ⟨u, hu, hPu⟩ := hP
  obtain rfl : t = u := Host.Outcome.next.inj (ht.symm.trans hu)
  have hsome := hkept t hPu
  rw [hwait, strayWait_waiting] at hsome
  cases hsome

theorem Ended.waiting {n : Nat} {s t : State} {pc : BitVec 16} (h : Ended n s t pc) : (t.tile n).waiting = (s.tile n).waiting :=
  (congrArg Tile.waiting h.2 :)

theorem WroteG.waiting {n : Nat} {s t : State} {pc : BitVec 16} {a : BitVec 5} {v : BitVec 64} (h : WroteG n s t pc a v) :
    (t.tile n).waiting = (s.tile n).waiting := (congrArg Tile.waiting h.2.2.2 :)

/-- Refutes O11: the clause on a `ct.fence` that is done at once asks of every state that the tile's `waiting` stay as it is, and the end of
the instruction clears it (R152). Of a running tile that holds a wait (`strayWait`) the two differ. No instruction leaves a running tile with
one; the statement lacks the premise that `waiting` is none. -/
theorem not_controlInstructions : ¬ Obligations.ControlInstructions := by
  intro h
  obtain ⟨-, -, -, -, hplain, -⟩ := h strayWait 0 (fnOnly 0) strayWait_executes rfl rfl
  obtain ⟨-, hfence, -⟩ := hplain rfl rfl rfl rfl rfl
  exact strayWait_not_kept ⟨_, rfl, by decide⟩ (hfence (by decide) (by decide) (by decide) (by decide)) fun _ => Ended.waiting

/-- Refutes O16: the clause on a `mx.wait` with nothing queued asks of every state that the tile's `waiting` stay as it is, and the end of the
instruction clears it (R152, R190). Of a running tile that holds a wait (`strayWait`) the two differ; the statement lacks the premise that
`waiting` is none. -/
theorem not_matrixOperations : ¬ Obligations.MatrixOperations := by
  intro h
  obtain ⟨-, -, hlast⟩ := h.1 strayWait 0 (fnOnly 0) strayWait_executes rfl rfl
  obtain ⟨-, -, hwait, -⟩ := hlast (by decide) rfl rfl
  exact strayWait_not_kept ⟨_, rfl, by decide⟩ (hwait rfl rfl (by decide) (by decide)) fun _ => Ended.waiting

/-- Refutes O19: the clause on an `ev.wait` whose event is set asks of every state that the tile's `waiting` stay as it is, and the end of the
instruction clears it (R152, R201). Of a running tile that holds a wait, with a bale in its head buffer (`strayWait`), the two differ; the
statement lacks the premise that `waiting` is none. -/
theorem not_tileEvents : ¬ Obligations.TileEvents := by
  intro h
  obtain ⟨hissued, -⟩ := h strayWait 0 (fnOnly 1)
  obtain ⟨hwait, -⟩ := hissued strayWait_executes rfl rfl
  obtain ⟨hset, -⟩ := hwait rfl rfl rfl (by decide)
  exact strayWait_not_kept ⟨_, rfl, by decide⟩ (hset (.inr (by decide))) fun _ => WroteG.waiting

end Sys2Proof.Machine
end

section
/-! SUPPORT. Instructions that compute a scalar register (O9): the rules for machine words, and the instruction as a whole. -/

namespace Sys2Proof.Machine

/-! ### Two's complement -/

theorem toSigned_toNat {w : Nat} (hw : 0 < w) (x : BitVec w) : toSigned w x.toNat = x.toInt := by
  have hpow : 2 ^ w = 2 * 2 ^ (w - 1) := by rw [← Nat.pow_succ', Nat.succ_eq_add_one, Nat.sub_add_cancel hw]
  unfold toSigned
  rw [Nat.mod_eq_of_lt x.isLt, BitVec.toInt_eq_toNat_cond]
  exact if_congr (by omega) rfl rfl

theorem ofSigned_eq (w : Nat) (z : Int) : ofSigned w z = (BitVec.ofInt w z).toNat := by
  rw [BitVec.toNat_ofInt, ofSigned]

theorem ofNat_ofSigned (w : Nat) (z : Int) : BitVec.ofNat w (ofSigned w z) = BitVec.ofInt w z := by
  rw [ofSigned_eq, BitVec.ofNat_toNat, BitVec.setWidth_eq]

/-- A word is the number it holds. -/
theorem ofNat_toNat_self {w : Nat} (x : BitVec w) : BitVec.ofNat w x.toNat = x := by
  rw [BitVec.ofNat_toNat, BitVec.setWidth_eq]

theorem ofNat_b2n (p : Prop) [Decidable p] : BitVec.ofNat 64 (b2n (decide p)) = if p then 1 else 0 := by
  by_cases hp : p <;> simp [b2n, hp]

/-! ### The values of class 0x0 (R166, R167) -/

section
variable (x y : BitVec 64)

theorem scAddValue_word : BitVec.ofNat 64 (scAddValue x.toNat y.toNat) = x + y := by
  rw [scAddValue, BitVec.ofNat_add, ofNat_toNat_self, ofNat_toNat_self]

theorem scSubValue_word : BitVec.ofNat 64 (scSubValue x.toNat y.toNat) = x - y := by
  apply BitVec.eq_of_toNat_eq
  have hy := y.isLt
  rw [scSubValue, BitVec.toNat_ofNat, BitVec.toNat_sub]
  congr 1
  omega

theorem scAndValue_word : BitVec.ofNat 64 (scAndValue x.toNat y.toNat) = x &&& y := ofNat_toNat_self (x &&& y)
theorem scOrValue_word : BitVec.ofNat 64 (scOrValue x.toNat y.toNat) = x ||| y := ofNat_toNat_self (x ||| y)
theorem scXorValue_word : BitVec.ofNat 64 (scXorValue x.toNat y.toNat) = x ^^^ y := ofNat_toNat_self (x ^^^ y)

theorem shiftLeft_word {w : Nat} (x : BitVec w) (n : Nat) : BitVec.ofNat w (x.toNat * 2 ^ n) = x <<< n := by
  apply BitVec.eq_of_toNat_eq
  rw [BitVec.toNat_ofNat, BitVec.toNat_shiftLeft, Nat.shiftLeft_eq]

theorem ushiftRight_word {w : Nat} (x : BitVec w) (n : Nat) : BitVec.ofNat w (x.toNat / 2 ^ n) = x >>> n := by
  rw [← Nat.shiftRight_eq_div_pow, ← BitVec.toNat_ushiftRight, ofNat_toNat_self]

theorem sshiftRight_word {w : Nat} (hw : 0 < w) (x : BitVec w) (n : Nat) :
    ofSigned w (toSigned w x.toNat / (2 ^ n : Nat)) = (x.sshiftRight n).toNat := by
  rw [toSigned_toNat hw, ofSigned_eq, ← Int.shiftRight_eq_div_pow, ← BitVec.toInt_sshiftRight, BitVec.ofInt_toInt]

theorem scSllValue_word : BitVec.ofNat 64 (scSllValue x.toNat y.toNat) = x <<< (y.toNat % 64) := shiftLeft_word x _
theorem scSrlValue_word : BitVec.ofNat 64 (scSrlValue x.toNat y.toNat) = x >>> (y.toNat % 64) := ushiftRight_word x _

theorem scSraValue_word : BitVec.ofNat 64 (scSraValue x.toNat y.toNat) = x.sshiftRight (y.toNat % 64) := by
  rw [scSraValue, sshiftRight_word (by decide), ofNat_toNat_self]

theorem scMulValue_word : BitVec.ofNat 64 (scMulValue x.toNat y.toNat) = x * y := by
  rw [scMulValue, BitVec.ofNat_mul, ofNat_toNat_self, ofNat_toNat_self]

theorem scMulhValue_word : BitVec.ofNat 64 (scMulhValue x.toNat y.toNat) = BitVec.ofInt 64 (x.toInt * y.toInt / 2 ^ 64) := by
  rw [scMulhValue, ofNat_ofSigned, toSigned_toNat (by decide), toSigned_toNat (by decide)]
  rfl

theorem toNat_eq_zero_iff : y.toNat = 0 ↔ y = 0 := by
  rw [← BitVec.toNat_inj]
  rfl

theorem scDivValue_word : BitVec.ofNat 64 (scDivValue x.toNat y.toNat) =
    if y = 0 then 0xFFFFFFFFFFFFFFFF else BitVec.ofInt 64 (x.toInt.tdiv y.toInt) := by
  rw [scDivValue, apply_ite (BitVec.ofNat 64), ofNat_ofSigned, toSigned_toNat (by decide), toSigned_toNat (by decide)]
  exact if_congr (toNat_eq_zero_iff y) rfl rfl

theorem scRemValue_word : BitVec.ofNat 64 (scRemValue x.toNat y.toNat) =
    if y = 0 then x else BitVec.ofInt 64 (x.toInt.tmod y.toInt) := by
  rw [scRemValue, apply_ite (BitVec.ofNat 64), ofNat_ofSigned, toSigned_toNat (by decide), toSigned_toNat (by decide), ofNat_toNat_self]
  exact if_congr (toNat_eq_zero_iff y) rfl rfl

theorem scSltValue_word : BitVec.ofNat 64 (scSltValue x.toNat y.toNat) = if x.toInt < y.toInt then 1 else 0 := by
  rw [scSltValue, ofNat_b2n, toSigned_toNat (by decide), toSigned_toNat (by decide)]

theorem scSltuValue_word : BitVec.ofNat 64 (scSltuValue x.toNat y.toNat) = if x.toNat < y.toNat then 1 else 0 := ofNat_b2n _

theorem scMinValue_word : BitVec.ofNat 64 (scMinValue x.toNat y.toNat) = if x.toInt ≤ y.toInt then x else y := by
  rw [scMinValue, apply_ite (BitVec.ofNat 64), ofNat_toNat_self, ofNat_toNat_self, toSigned_toNat (by decide), toSigned_toNat (by decide)]

theorem scMaxValue_word : BitVec.ofNat 64 (scMaxValue x.toNat y.toNat) = if x.toInt ≤ y.toInt then y else x := by
  rw [scMaxValue, apply_ite (BitVec.ofNat 64), ofNat_toNat_self, ofNat_toNat_self, toSigned_toNat (by decide), toSigned_toNat (by decide)]

end

/-! ### An instruction that issues -/

/-- An instruction of a tile that executes, legal, with no cause of an exception and no stall: its effect stands on a state in which PRF alone
has counted. -/
theorem issueSeq_gives {s : State} {t : Fin 768} {cls opc : Nat} {o : VOp} {legal : Bool} {causes : List (Bool × Cause × Nat)}
    {stall : Bool} {body : State → State} {P : State → Prop} (hx : Executes s t) (hl : legal = true) (hc : ∀ p ∈ causes, p.1 = false)
    (hs : stall = false) (h : ∀ u, PrfOnly s u → P (body u)) : Gives (s.issueSeq t cls opc o legal causes stall body) P :=
  ⟨_, issueSeq_effect s t cls opc o legal causes stall body hx hl hc hs, h _ (PrfOnly.outriderIssue s t cls opc t.isLt)⟩

theorem no_causes : ∀ p ∈ ([] : List (Bool × Cause × Nat)), p.1 = false := fun _ h => absurd h List.not_mem_nil

section
variable {s : State} {t : Fin 768} {o : VOp}

/-- An instruction that writes g[A] with a value computed from registers of its tile. -/
theorem issueSeq_wroteG {cls opc : Nat} {legal : Bool} {f : Tile → Nat} {v : BitVec 64} (hx : Executes s t) (hl : legal = true)
    (hv : BitVec.ofNat 64 (f (s.tile t)) = v) :
    Gives (s.issueSeq t cls opc o legal [] false fun u => u.finishG t o.a (f (u.tile t)))
      (fun s' => WroteG t s s' ((s.tile t).pc + 8) o.a v) :=
  issueSeq_gives hx hl no_causes rfl fun u hu => by
    rw [hu.tile, ← hv]
    exact finishG_wrote s u t o.a _ t.isLt hu _ rfl

/-- A class 0x0 instruction whose value is `g` on words. -/
theorem scalar_wroteG {opc : Nat} {f : Nat → Nat → Nat} {g : BitVec 64 → BitVec 64 → BitVec 64} (hx : Executes s t)
    (hl : o.unusedZero true true true false false false = true) (hv : ∀ x y : BitVec 64, BitVec.ofNat 64 (f x.toNat y.toNat) = g x y) :
    Gives (s.scalar t opc o f) (fun s' =>
      WroteG t s s' ((s.tile t).pc + 8) o.a (g ((s.tile t).greg o.b) ((s.tile t).greg o.c))) :=
  issueSeq_wroteG (f := fun x => f (x.gr o.b) (x.gr o.c)) hx hl (by rw [← hv, greg_toNat, greg_toNat])

end

/-- Settles O9: each row is a class 0x0 instruction, and its value is that of the rules. -/
theorem scalarRegister : Obligations.ScalarRegister := by
  intro s t o hx hd hpr hpm hfn p hp
  have hl : o.unusedZero true true true false false false = true := by simp [VOp.unusedZero, hd, hpr, hpm, hfn]
  simp only [scalarRegRows, List.mem_cons, List.not_mem_nil, or_false] at hp
  obtain rfl | rfl | rfl | rfl | rfl | rfl | rfl | rfl | rfl | rfl | rfl | rfl | rfl | rfl | rfl | rfl := hp
  · exact scalar_wroteG hx hl scAddValue_word
  · exact scalar_wroteG hx hl scSubValue_word
  · exact scalar_wroteG hx hl scAndValue_word
  · exact scalar_wroteG hx hl scOrValue_word
  · exact scalar_wroteG hx hl scXorValue_word
  · exact scalar_wroteG hx hl scSllValue_word
  · exact scalar_wroteG hx hl scSrlValue_word
  · exact scalar_wroteG hx hl scSraValue_word
  · exact scalar_wroteG hx hl scMulValue_word
  · exact scalar_wroteG hx hl scMulhValue_word
  · exact scalar_wroteG hx hl scDivValue_word
  · exact scalar_wroteG hx hl scRemValue_word
  · exact scalar_wroteG hx hl scSltValue_word
  · exact scalar_wroteG hx hl scSltuValue_word
  · exact scalar_wroteG hx hl scMinValue_word
  · exact scalar_wroteG hx hl scMaxValue_word

end Sys2Proof.Machine
end

section
/-! SUPPORT. Class 0x1 (O10): immediates, and scratchpad and tile registers, with what an instruction leaves beside its tile. -/

namespace Sys2Proof.Machine

/-! ### Frames of an instruction -/

/-- A function of the state that has nothing to do with registers, PRF and tiles. -/
def Elsewhere (g : State → State) : Prop :=
  ∀ (z : State) r p x, g { z with regs := r, prf := p, tiles := x } = { g z with regs := r, prf := p, tiles := x }

section
variable {g : State → State} {n : Nat} {s t : State}

theorem Elsewhere.same (hg : Elsewhere g) (z : State) : (g z).regs = z.regs ∧ (g z).prf = z.prf ∧ (g z).tiles = z.tiles := by
  have h := hg z z.regs z.prf z.tiles
  exact ⟨(congrArg State.regs h :), (congrArg State.prf h :), (congrArg State.tiles h :)⟩

theorem Elsewhere.rr (hg : Elsewhere g) (z : State) (r : Reg) (i : Nat) : (g z).rr r i = z.rr r i := State.rr_of_regs (hg.same z).1 r i

theorem Elsewhere.tile (hg : Elsewhere g) (z : State) (u : Nat) : (g z).tile u = z.tile u := by
  rw [State.tile, State.tile, (hg.same z).2.2]

theorem PrfOnly.under (h : PrfOnly s t) (hg : Elsewhere g) : PrfOnly (g s) (g t) := by
  refine ⟨?_, fun r i hk => by rw [hg.rr, hg.rr, h.2 r i hk]⟩
  obtain ⟨hregs, hprf, -⟩ := hg.same s
  obtain ⟨-, -, htiles⟩ := hg.same t
  have he := hg t s.regs s.prf t.tiles
  rw [← htiles] at he
  rw [hregs, hprf]
  refine he.symm.trans ?_
  rw [htiles]
  exact congrArg g h.1

theorem TileOnly.under (h : TileOnly n s t) (hg : Elsewhere g) : TileOnly n (g s) (g t) := by
  refine ⟨?_, fun u hu => by rw [hg.tile, hg.tile, h.2.1 u hu], fun r i hk => by rw [hg.rr, hg.rr, h.2.2 r i hk]⟩
  obtain ⟨hregs, hprf, htiles⟩ := hg.same s
  rw [hregs, hprf, htiles, ← hg, h.1]

theorem Ended.under {pc : BitVec 16} (h : Ended n s t pc) (hg : Elsewhere g) : Ended n (g s) (g t) pc :=
  ⟨h.1.under hg, by rw [hg.tile, hg.tile, h.2]⟩

theorem WroteG.under {pc : BitVec 16} {a : BitVec 5} {v : BitVec 64} (h : WroteG n s t pc a v) (hg : Elsewhere g) :
    WroteG n (g s) (g t) pc a v := by
  obtain ⟨honly, hpc, hg', htile⟩ := h
  refine ⟨honly.under hg, ?_⟩
  rw [hg.tile, hg.tile]
  exact ⟨hpc, hg', htile⟩

/-- What does not look at registers, PRF and tiles is as it was. -/
theorem TileOnly.frame {α : Type} (h : TileOnly n s t) (F : State → α)
    (hF : ∀ (z : State) r p x, F { z with regs := r, prf := p, tiles := x } = F z) : F t = F s := by
  rw [← hF t s.regs s.prf s.tiles, h.1]

theorem PrfOnly.frame {α : Type} (h : PrfOnly s t) (F : State → α) (hF : ∀ (z : State) r p, F { z with regs := r, prf := p } = F z) :
    F t = F s := by
  rw [← hF t s.regs s.prf, h.1]

theorem PrfOnly.cleanAt {a n : Nat} (h : PrfOnly s t) (hc : CleanAt s a n) : CleanAt t a n :=
  hc.of_sameRegs (fun l => by rw [State.poisoned, State.poisoned, State.latentAt, State.latentAt, h.mem]; exact ⟨rfl, rfl⟩) h.2

end

theorem retire_spec (s : State) (t : Fin 768) : Ended t s (s.retire t) ((s.tile t).pc + 8) := retire_ended s s t t.isLt (PrfOnly.refl s)

/-! ### Immediates (R168) -/

theorem VOp.imm_eq_fn {o : VOp} (h : o.fn.toNat < 64) : o.imm = o.fn.toNat := by
  have hmsb : o.fn.msb = false := by
    rw [BitVec.msb_eq_decide]
    exact decide_eq_false (by omega)
  rw [VOp.imm, BitVec.signExtend_eq_setWidth_of_msb_false hmsb, BitVec.toNat_setWidth]
  omega

section
variable {s : State} {t : Fin 768} {o : VOp}

/-- An instruction of class 0x1 whose value is `v`. -/
theorem scalarImm_wroteG {opc : Nat} {legal : Bool} {f : Nat → Nat} {v : BitVec 64} (hx : Executes s t)
    (hu : o.unusedZero true true false false false true = true) (hl : legal = true)
    (hv : BitVec.ofNat 64 (f ((s.tile t).greg o.b).toNat) = v) :
    Gives (s.scalarImm t opc o legal f) (fun s' => WroteG t s s' ((s.tile t).pc + 8) o.a v) :=
  issueSeq_wroteG (f := fun x => f (x.gr o.b)) hx (by rw [hu, hl]; rfl) (by rw [← hv, greg_toNat])

theorem shiftLegal_of_lt (h : o.fn.toNat < 64) : o.shiftLegal = true := by
  rw [VOp.shiftLegal, VOp.fnBits, bits, Nat.div_eq_of_lt (show _ < 2 ^ 6 from h)]
  rfl

end

theorem putBits_high_word (x : BitVec 64) (y : BitVec 32) : BitVec.ofNat 64 (putBits x.toNat 63 32 y.toNat) = y ++ x.setWidth 32 := by
  apply BitVec.eq_of_toNat_eq
  have hx := x.isLt
  have hy := y.isLt
  rw [putBits_split, BitVec.toNat_append, ← Nat.shiftLeft_add_eq_or_of_lt (BitVec.isLt _), Nat.shiftLeft_eq, BitVec.toNat_ofNat,
    BitVec.toNat_setWidth]
  omega

theorem scalarImmediate : ScalarImmediate := by
  intro s t o hx hc hd hpr hpm
  have hu : o.unusedZero true true false false false true = true := by simp [VOp.unusedZero, hc, hd, hpr, hpm]
  refine ⟨fun p hp => ?_, fun hfn p hp => ?_, fun hb => ?_, fun hb => ?_⟩
  · simp only [scalarImmRows, List.mem_cons, List.not_mem_nil, or_false] at hp
    obtain rfl | rfl | rfl | rfl | rfl := hp
    · exact scalarImm_wroteG (f := fun x => scAddValue x o.imm) hx hu rfl (scAddValue_word _ _)
    · exact scalarImm_wroteG (f := fun x => scAndValue x o.imm) hx hu rfl (scAndValue_word _ _)
    · exact scalarImm_wroteG (f := fun x => scOrValue x o.imm) hx hu rfl (scOrValue_word _ _)
    · exact scalarImm_wroteG (f := fun x => scXorValue x o.imm) hx hu rfl (scXorValue_word _ _)
    · exact scalarImm_wroteG (f := fun x => scSltValue x o.imm) hx hu rfl (scSltValue_word _ _)
  · have himm : (o.fn.signExtend 64).toNat % 64 = o.fn.toNat := (congrArg (· % 64) (VOp.imm_eq_fn hfn)).trans (Nat.mod_eq_of_lt hfn)
    simp only [scalarShiftRows, List.mem_cons, List.not_mem_nil, or_false] at hp
    obtain rfl | rfl | rfl := hp
    · exact scalarImm_wroteG (f := fun x => scSllValue x o.imm) hx hu (shiftLegal_of_lt hfn) ((scSllValue_word _ _).trans (by rw [himm]))
    · exact scalarImm_wroteG (f := fun x => scSrlValue x o.imm) hx hu (shiftLegal_of_lt hfn) ((scSrlValue_word _ _).trans (by rw [himm]))
    · exact scalarImm_wroteG (f := fun x => scSraValue x o.imm) hx hu (shiftLegal_of_lt hfn) ((scSraValue_word _ _).trans (by rw [himm]))
  · have hli : o.unusedZero true false false false false true = true := by simp [VOp.unusedZero, hb, hc, hd, hpr, hpm]
    exact issueSeq_wroteG (f := fun _ => o.imm) hx hli (ofNat_toNat_self _)
  · have hlih : o.unusedZero true false false false false true = true := by simp [VOp.unusedZero, hb, hc, hd, hpr, hpm]
    refine issueSeq_wroteG (f := fun x => putBits (x.gr o.a) 63 32 o.fn.toNat) hx hlih ?_
    rw [← greg_toNat, putBits_high_word]

/-! ### Scratchpad (R156, R169) -/

theorem toSigned_eq {w : Nat} (hw : 0 < w) (v : Nat) : toSigned w v = (BitVec.ofNat w v).toInt := by
  rw [← toSigned_toNat hw, BitVec.toNat_ofNat]
  unfold toSigned
  rw [Nat.mod_mod]

theorem leNat_leBytes (n v : Nat) : leNat (leBytes n v) = v % 2 ^ (8 * n) := by
  induction n generalizing v with
  | zero => rw [leBytes, leNat, Nat.mul_zero, Nat.pow_zero, Nat.mod_one]
  | succ n ih =>
    have hpow : 2 ^ (8 * (n + 1)) = 256 * 2 ^ (8 * n) := by rw [Nat.mul_add, Nat.pow_add, Nat.mul_comm]
    rw [leBytes, leNat, ih, BitVec.toNat_ofNat, hpow, Nat.mod_mul]

theorem Tile.addr_eq (s : State) (n : Nat) (o : VOp) : (s.tile n).addr o = operandAddress s n o := by
  rw [Tile.addr, operandAddress, BitVec.toNat_add, greg_toNat]
  rfl

/-- An access that is aligned and lies in the scratchpad raises nothing (R160, R169). -/
theorem accessExc_none {a n al : Nat} (ha : a % al = 0) (hn : a + n ≤ 0x80000) : ∀ p ∈ accessExc a n al, p.1 = false := by
  intro p hp
  simp only [accessExc, List.mem_cons, List.not_mem_nil, or_false] at hp
  rcases hp with rfl | rfl
  · simp [ha]
  · exact decide_eq_false (by omega)

/-- After a write of clean lines nothing but the bytes and what PRF counts differs. -/
theorem Stores.prfOnly {s w : State} {a : Nat} {bs : List Byte} (h : Stores s w a bs) : PrfOnly { s with mem := w.mem } w :=
  ⟨(congrArg (fun z : State => { z with mem := w.mem, prf := s.prf }) h.2 :), h.1.1.2.1⟩

theorem elsewhere_mem (m : Memory) : Elsewhere fun z => { z with mem := m } := fun _ _ _ _ => rfl
theorem elsewhere_resp (r : Resp) : Elsewhere fun z => { z with resp := r } := fun _ _ _ _ => rfl
theorem elsewhere_answer (st : Status) (v : Nat) : Elsewhere fun z => z.answer st v := fun _ _ _ _ => rfl

/-- An instruction that ends after a write of clean lines. -/
theorem Stores.retire {s u w : State} {t : Fin 768} {a : Nat} {bs : List Byte} (hu : PrfOnly s u) (h : Stores u w a bs) :
    Ended t s { w.retire t with mem := s.mem } ((s.tile t).pc + 8) ∧ (w.retire t).bytes a bs.length = bs ∧
      ∀ x, x < a ∨ a + bs.length ≤ x → (w.retire t).byte x = s.byte x := by
  have hprf : PrfOnly { s with mem := w.mem } w := (hu.under (elsewhere_mem w.mem)).trans h.prfOnly
  have hend := retire_ended _ w t t.isLt hprf
  have hmem : (w.retire t).mem = w.mem := (retire_spec w t).1.mem
  refine ⟨hend.under (elsewhere_mem s.mem), ?_, fun x hx => ?_⟩
  · rw [State.bytes_of_mem hmem, h.1.bytes_eq]
  · rw [State.byte, hmem]
    refine (h.1.byte_outside x hx).trans ?_
    rw [State.byte, hu.mem]
    rfl

/-- What `sc.ld` makes of the bytes that it reads: zero-extended, or sign-extended for D from 4 on (R169). -/
theorem loadValue_word (d v : Nat) {w : Nat} (hw : 0 < w) :
    BitVec.ofNat 64 (if 4 ≤ d then ofSigned 64 (toSigned w v) else v) =
      if d < 4 then BitVec.ofNat 64 v else BitVec.ofInt 64 (BitVec.ofNat w v).toInt := by
  rw [apply_ite (BitVec.ofNat 64), ofNat_ofSigned, toSigned_eq hw]
  by_cases hd : d < 4
  · rw [if_pos hd, if_neg (by omega)]
  · rw [if_neg hd, if_pos (by omega)]

theorem spadAddr_eq (n a : Nat) : spadAddr n a = spadByte n a := rfl

theorem scalarMemory : ScalarMemory := by
  intro s t o hx hpr hpm
  have haddr := Tile.addr_eq s t o
  dsimp only
  intro hal hin hclean
  refine ⟨fun hc hd hconf => ?_, fun ha hd hconf => ?_⟩
  · have hlegal : (o.unusedZero true true false true false true && decide (o.d.toNat ≤ 6)) = true := by
      simp [VOp.unusedZero, hc, hpr, hpm, hd]
    show Gives (execScLd t o s) _
    unfold execScLd
    dsimp only
    rw [haddr, ← loadValue_word _ _ (by positivity)]
    refine issueSeq_gives hx hlegal (accessExc_none hal hin) hconf fun u hu => ?_
    obtain ⟨hprf, hread⟩ := readMem_clean (hu.cleanAt hclean) 4
    rw [State.bytes_of_mem hu.mem] at hread
    rw [spadAddr_eq, widthOf, hread]
    exact finishG_wrote s _ t o.a _ t.isLt (hu.trans hprf) _ rfl
  · have hlegal : (o.unusedZero false true true true false true && decide (o.d.toNat ≤ 3)) = true := by
      simp [VOp.unusedZero, ha, hpr, hpm, hd]
    show Gives (execScSt t o s) _
    unfold execScSt
    dsimp only
    rw [haddr]
    refine issueSeq_gives hx hlegal (accessExc_none hal hin) hconf fun u hu => ?_
    rw [hu.tile, ← greg_toNat]
    have hst := writeMem_stores (s := u) (a := spadByte t (operandAddress s t o))
      (bs := leBytes (widthOf o.d.toNat) ((s.tile t).greg o.c).toNat) (by rw [leBytes_length]; exact hu.cleanAt hclean) 4
    obtain ⟨hend, hbytes, hout⟩ := Stores.retire (t := t) hu hst
    rw [leBytes_length] at hbytes hout
    exact ⟨hend, by rw [← leNat_leBytes]; exact congrArg leNat hbytes, hout⟩

end Sys2Proof.Machine
end

section
/-! SUPPORT. Tile registers as their own tile reads and writes them (O10). -/

namespace Sys2Proof.Machine

/-! ### Places and checks -/

/-- A register that each tile has once. -/
def Reg.perTile (r : Reg) (off : Nat) : Prop :=
  r.desc.base = 0x100000C0000 + off ∧ r.desc.s1 = 0x100000 ∧ r.desc.c1 = 768 ∧ r.desc.c2 = 1

section
variable {r : Reg} {off : Nat} (h : r.perTile off)
include h

theorem Reg.perTile.key (t : Nat) : r.key t = 0x100000C0000 + t * 0x100000 + off := by
  obtain ⟨hb, hs, -, hc⟩ := h
  simp only [Reg.key, hb, hs, hc, Nat.div_one, Nat.mod_one, Nat.zero_mul]
  omega

theorem Reg.perTile.not_prf (t : Nat) : prfKey (r.key t) = false := r.key_above_prf t (by rw [h.1]; omega)

theorem Reg.perTile.at (t : Fin 768) (hs : r ≠ .IC_SRC) (hp : r ≠ .IC_PSRC) : tileRegAt t off = some (r, t.val) := by
  have hat := registerPlaces r t (by rw [Reg.copies, h.2.2.1, h.2.2.2]; exact t.isLt) (fun he => absurd he hs) (fun he => absurd he hp)
  rwa [h.key] at hat

end

theorem tileNote_perTile : Reg.TILE_NOTE.perTile 0x28 := ⟨rfl, rfl, rfl, rfl⟩
theorem tileTimerLo_perTile : Reg.TILE_TIMER_LO.perTile 0x2C := ⟨rfl, rfl, rfl, rfl⟩
theorem tileEcc_perTile : Reg.TILE_ECC.perTile 0x54 := ⟨rfl, rfl, rfl, rfl⟩

theorem tileRegExc_none {a : Nat} (ha : a % 4 = 0) (hb : a < 0x1000) : ∀ p ∈ tileRegExc a, p.1 = false := by
  intro p hp
  simp only [tileRegExc, List.mem_cons, List.not_mem_nil, or_false] at hp
  rcases hp with rfl | rfl
  · simp [ha]
  · exact decide_eq_false (by omega)

/-! ### Reads -/

/-- A register that shows what is stored, has no high word and no word captured, is read with its RC fields cleared (R10, R13). -/
theorem State.readReg_stored (u : State) (t : Fin 768) (r : Reg) (i hi : Nat) (live : Nat)
    (hc : SMap.find? u.pairs.captured (pairKey (.tile t) (r.key i)) = none) (hh : r.highOf = none) :
    u.readReg (.tile t) r i live hi =
      (if r.desc.fields.any (fun f => f.acc = .rc) then u.wr r i (clearRc r.desc.fields (u.rr r i)) else u).answer .ok live := by
  unfold State.readReg
  dsimp only
  rw [hc, hh]
  rfl

section
variable {s : State} {t : Fin 768} {o : VOp}

/-- `sc.tr` of a register at an offset that names it. -/
theorem execScTr_gives {P : State → Prop} {r : Reg} {off : Nat} (hx : Executes s t) (hpr : o.pr = 0) (hpm : o.pm = 0) (hd : o.d = 0)
    (hc : o.c = 0) (ha : operandAddress s t o = off) (hal : off % 4 = 0) (hlt : off < 0x1000) (hat : tileRegAt t off = some (r, t.val))
    (hfree : SMap.find? s.pairs.captured (pairKey (.tile t) (r.key t)) = none) (hh : r.highOf = none)
    (h : ∀ u, PrfOnly s u →
      P (((if r.desc.fields.any (fun f => f.acc = .rc) then u.wr r t (clearRc r.desc.fields (u.rr r t)) else u).answer .ok
        (u.tileShow r t)).finishG t o.a (BitVec.ofNat 64 (u.tileShow r t)).toNat)) : Gives (exec (.scTr t o) s) P := by
  have hl : o.unusedZero true true false false false true = true := by simp [VOp.unusedZero, hc, hd, hpr, hpm]
  show Gives (execScTr t o s) P
  unfold execScTr
  rw [Tile.addr_eq, ha]
  refine issueSeq_gives hx hl (tileRegExc_none hal hlt) rfl fun u hu => ?_
  have hpairs : u.pairs = s.pairs := hu.frame State.pairs fun _ _ _ => rfl
  rw [hat]
  dsimp only
  rw [u.readReg_stored t r t _ _ (by rw [hpairs]; exact hfree) hh]
  exact h u hu

/-- `sc.tw` of a register at an offset that names it. -/
theorem execScTw_gives {P : State → Prop} {r : Reg} {off : Nat} (hx : Executes s t) (hpr : o.pr = 0) (hpm : o.pm = 0) (hd : o.d = 0)
    (ha0 : o.a = 0) (ha : operandAddress s t o = off) (hal : off % 4 = 0) (hlt : off < 0x1000) (hat : tileRegAt t off = some (r, t.val))
    (h : ∀ u, PrfOnly s u → P ((u.tileRegWrite (.tile t) r t (((s.tile t).greg o.c).toNat % 2 ^ 32)).retire t)) :
    Gives (exec (.scTw t o) s) P := by
  have hl : o.unusedZero false true true false false true = true := by simp [VOp.unusedZero, ha0, hd, hpr, hpm]
  show Gives (execScTw t o s) P
  unfold execScTw
  dsimp only
  rw [Tile.addr_eq, ha]
  refine issueSeq_gives hx hl (tileRegExc_none hal hlt) rfl fun u hu => ?_
  rw [hat, hu.tile, ← greg_toNat]
  exact h u hu

end

theorem pc_add_eight (p : BitVec 16) : BitVec.ofNat 16 (p.toNat + 8) = p + 8 := by
  apply BitVec.eq_of_toNat_eq
  simp [BitVec.toNat_add]

theorem clearRc_whole {w : Nat} (h : w < 2 ^ 32) : clearRc Reg.TILE_ECC.desc.fields w = 0 := by
  show putBits w 31 0 0 = 0
  rw [putBits_split]
  omega

theorem SMap.find?_put {α : Type} (m : SMap α) (k j : Nat) (v : α) :
    SMap.find? (SMap.put m k v) j = if j = k then some v else SMap.find? m j := by
  by_cases hj : j = k
  · rw [if_pos hj, hj, SMap.find?_put_same]
  · rw [if_neg hj, SMap.find?_put_ne _ _ _ _ hj]

/-- The end of an instruction with a result, but for the register that it writes. -/
theorem finishG_tile (z : State) (t : Fin 768) (a : BitVec 5) (v : Nat) :
    { (z.finishG t a v).tile t with g := (z.tile t).g } = { z.tile t with pc := (z.tile t).pc + 8, stalled := false } := by
  rw [(finishG_spec z t a v t.isLt).2, pc_add_eight]
  unfold Tile.setG
  split <;> rfl

section
variable {s : State} {t : Fin 768} {o : VOp}

theorem readNote (hx : Executes s t) (hpr : o.pr = 0) (hpm : o.pm = 0) (hd : o.d = 0) (hc : o.c = 0) (ha : operandAddress s t o = 0x28)
    (hfree : SMap.find? s.pairs.captured (pairKey (.tile t) (0x100000C0028 + t * 0x100000)) = none) :
    Gives (exec (.scTr t o) s) (fun s' =>
      WroteG t s { s' with resp := s.resp } ((s.tile t).pc + 8) o.a (BitVec.ofNat 64 (s.rr .TILE_NOTE t))) := by
  have hnote := tileNote_perTile
  have hkey : Reg.TILE_NOTE.key t = 0x100000C0028 + t * 0x100000 := by rw [hnote.key]; omega
  refine execScTr_gives hx hpr hpm hd hc ha rfl (by decide) (hnote.at t (by decide) (by decide)) (by rwa [hkey]) rfl fun u hu => ?_
  have hval : u.tileShow .TILE_NOTE t = s.rr .TILE_NOTE t := hu.2 _ _ (hnote.not_prf t)
  have hw := finishG_wrote _ _ t o.a (BitVec.ofNat 64 (s.rr .TILE_NOTE t)).toNat t.isLt
    (hu.under (elsewhere_answer .ok (s.rr .TILE_NOTE t))) _ rfl
  rw [ofNat_toNat_self] at hw
  rw [hval]
  exact hw.under (elsewhere_resp s.resp)

theorem readEcc (hx : Executes s t) (hpr : o.pr = 0) (hpm : o.pm = 0) (hd : o.d = 0) (hc : o.c = 0) (ha : operandAddress s t o = 0x54)
    (hfree : SMap.find? s.pairs.captured (pairKey (.tile t) (0x100000C0054 + t * 0x100000)) = none) :
    Gives (exec (.scTr t o) s) (fun s' =>
      (s'.tile t).greg o.a = (if o.a = 0 then 0 else BitVec.ofNat 64 (s.rr .TILE_ECC t)) ∧ s'.rr .TILE_ECC t = 0 ∧
        RegsKeptPrf [(.TILE_ECC, t)] s s' ∧ { s' with regs := s.regs, resp := s.resp, tiles := s.tiles, prf := s.prf } = s ∧
        { s'.tile t with g := (s.tile t).g } = { s.tile t with pc := (s.tile t).pc + 8, stalled := false }) := by
  have hecc := tileEcc_perTile
  have hkey : Reg.TILE_ECC.key t = 0x100000C0054 + t * 0x100000 := by rw [hecc.key]; omega
  refine execScTr_gives hx hpr hpm hd hc ha rfl (by decide) (hecc.at t (by decide) (by decide)) (by rwa [hkey]) rfl fun u hu => ?_
  have hval : u.tileShow .TILE_ECC t = s.rr .TILE_ECC t := hu.2 _ _ (hecc.not_prf t)
  have hclear : (if Reg.TILE_ECC.desc.fields.any (fun f => f.acc = .rc)
      then u.wr .TILE_ECC t (clearRc Reg.TILE_ECC.desc.fields (u.rr .TILE_ECC t)) else u) = u.wr .TILE_ECC t 0 := by
    rw [clearRc_whole (u.rr_lt _ _)]
    rfl
  rw [hval, hclear]
  have hkept : RegsKeptPrf [(.TILE_ECC, t)] s ((u.wr .TILE_ECC t 0).answer .ok (s.rr .TILE_ECC t)) :=
    (SameRegs.kept hu.2).wr .TILE_ECC t 0 (List.mem_singleton.mpr rfl)
  have hzero : ((u.wr .TILE_ECC t 0).answer .ok (s.rr .TILE_ECC t)).rr .TILE_ECC t = 0 := State.rr_wr_same u .TILE_ECC t 0
  have htile : ((u.wr .TILE_ECC t 0).answer .ok (s.rr .TILE_ECC t)).tile t = s.tile t := hu.tile t
  have hframe : { (u.wr .TILE_ECC t 0).answer .ok (s.rr .TILE_ECC t) with
      regs := s.regs, resp := s.resp, tiles := s.tiles, prf := s.prf } = s :=
    hu.frame (fun z => { z with regs := s.regs, resp := s.resp, tiles := s.tiles, prf := s.prf }) fun _ _ _ => rfl
  generalize (u.wr .TILE_ECC t 0).answer .ok (s.rr .TILE_ECC t) = w at *
  obtain ⟨honly, -, hg, -⟩ := finishG_wrote w w t o.a (BitVec.ofNat 64 (s.rr .TILE_ECC t)).toNat t.isLt (PrfOnly.refl w) _ rfl
  have hend := finishG_tile w t o.a (BitVec.ofNat 64 (s.rr .TILE_ECC t)).toNat
  rw [htile] at hend
  refine ⟨?_, (honly.2.2 _ _ (hecc.not_prf t)).trans hzero, hkept.count honly.2.2, ?_, hend⟩
  · rw [hg, ofNat_toNat_self, htile]
    by_cases h0 : o.a = 0
    · rw [if_pos h0, if_neg (fun h => h.2 h0), h0]
      rfl
    · rw [if_neg h0, if_pos ⟨rfl, h0⟩]
  · exact (honly.frame (fun z => { z with regs := s.regs, resp := s.resp, tiles := s.tiles, prf := s.prf }) fun _ _ _ _ => rfl).trans hframe

theorem writeNote (hx : Executes s t) (hpr : o.pr = 0) (hpm : o.pm = 0) (hd : o.d = 0) (ha0 : o.a = 0)
    (ha : operandAddress s t o = 0x28) :
    Gives (exec (.scTw t o) s) (fun s' =>
      s'.rr .TILE_NOTE t = ((s.tile t).greg o.c).toNat % 2 ^ 32 ∧ RegsKeptPrf [(.TILE_NOTE, t)] s s' ∧
        s'.tile t = { s.tile t with pc := (s.tile t).pc + 8, stalled := false, latched := (s.tile t).latched ||| 0x20 } ∧
        (∀ u, u ≠ t.val → s'.tile u = s.tile u) ∧
        { s' with regs := s.regs, resp := s.resp, tiles := s.tiles, prf := s.prf } = s) := by
  have hnote := tileNote_perTile
  refine execScTw_gives hx hpr hpm hd ha0 ha rfl (by decide) (hnote.at t (by decide) (by decide)) fun u hu => ?_
  generalize ((s.tile t).greg o.c).toNat = v
  show _ ∧ _
  have hkept : RegsKeptPrf [(.TILE_NOTE, t)] s ((u.setNote t (v % 2 ^ 32)).answer .ok 0) :=
    (SameRegs.kept hu.2).wr .TILE_NOTE t _ (List.mem_singleton.mpr rfl)
  have hval : ((u.setNote t (v % 2 ^ 32)).answer .ok 0).rr .TILE_NOTE t = v % 2 ^ 32 :=
    (State.rr_wr_same u .TILE_NOTE t _).trans (Nat.mod_mod _ _)
  have htile : ((u.setNote t (v % 2 ^ 32)).answer .ok 0).tile t = { s.tile t with latched := (s.tile t).latched ||| 0x20 } := by
    rw [← hu.tile]
    exact State.tile_setTile_same _ _ _
  have hothers : ∀ n, n ≠ t.val → ((u.setNote t (v % 2 ^ 32)).answer .ok 0).tile n = s.tile n := fun n hn =>
    (State.tile_setTile_ne _ _ _ _ hn).trans (hu.tile n)
  have hframe : { (u.setNote t (v % 2 ^ 32)).answer .ok 0 with regs := s.regs, resp := s.resp, tiles := s.tiles, prf := s.prf } = s :=
    hu.frame (fun z => { z with regs := s.regs, resp := s.resp, tiles := s.tiles, prf := s.prf }) fun _ _ _ => rfl
  have hwrite : u.tileRegWrite (.tile t) .TILE_NOTE t (v % 2 ^ 32) = (u.setNote t (v % 2 ^ 32)).answer .ok 0 := rfl
  rw [hwrite]
  generalize (u.setNote t (v % 2 ^ 32)).answer .ok 0 = w at *
  obtain ⟨honly, hend⟩ := retire_spec w t
  rw [htile] at hend
  exact ⟨(honly.2.2 _ _ (hnote.not_prf t)).trans hval, hkept.count honly.2.2, hend, fun n hn => (honly.2.1 n hn).trans (hothers n hn),
    (honly.frame (fun z => { z with regs := s.regs, resp := s.resp, tiles := s.tiles, prf := s.prf }) fun _ _ _ _ => rfl).trans hframe⟩

theorem writeTimerLo (hx : Executes s t) (hpr : o.pr = 0) (hpm : o.pm = 0) (hd : o.d = 0) (ha0 : o.a = 0)
    (ha : operandAddress s t o = 0x2C) :
    Gives (exec (.scTw t o) s) (fun s' =>
      (∀ k, SMap.find? s'.pairs.held k =
        if k = pairKey (.tile t) (0x100000C002C + t * 0x100000) then some (((s.tile t).greg o.c).setWidth 32)
        else SMap.find? s.pairs.held k) ∧
        s'.pairs.captured = s.pairs.captured ∧ Ended t s { s' with resp := s.resp, pairs := s.pairs } ((s.tile t).pc + 8)) := by
  have htimer := tileTimerLo_perTile
  have hkey : Reg.TILE_TIMER_LO.key t = 0x100000C002C + t * 0x100000 := by rw [htimer.key]; omega
  refine execScTw_gives hx hpr hpm hd ha0 ha rfl (by decide) (htimer.at t (by decide) (by decide)) fun u hu => ?_
  have hword : BitVec.ofNat 32 (((s.tile t).greg o.c).toNat % 2 ^ 32) = ((s.tile t).greg o.c).setWidth 32 := by
    apply BitVec.eq_of_toNat_eq
    rw [BitVec.toNat_ofNat, Nat.mod_mod, BitVec.toNat_setWidth]
  have hwrite : u.tileRegWrite (.tile t) .TILE_TIMER_LO t (((s.tile t).greg o.c).toNat % 2 ^ 32) =
      { u with resp := ⟨.ok, 0⟩, pairs := { u.pairs with
        held := SMap.put u.pairs.held (pairKey (.tile t) (0x100000C002C + t * 0x100000)) (((s.tile t).greg o.c).setWidth 32) } } := by
    rw [← hword, ← hkey]
    rfl
  have hpairs : u.pairs = s.pairs := hu.frame State.pairs fun _ _ _ => rfl
  rw [hwrite, hpairs]
  have hput := fun k => SMap.find?_put s.pairs.held (pairKey (.tile t) (0x100000C002C + t * 0x100000)) k
    (((s.tile t).greg o.c).setWidth 32)
  generalize SMap.put s.pairs.held (pairKey (.tile t) (0x100000C002C + t * 0x100000)) (((s.tile t).greg o.c).setWidth 32) = m at *
  have hother : Elsewhere fun z => { z with resp := ⟨.ok, 0⟩, pairs := { s.pairs with held := m } } := fun _ _ _ _ => rfl
  have hback : Elsewhere fun z => { z with resp := s.resp, pairs := s.pairs } := fun _ _ _ _ => rfl
  have hend := retire_ended _ _ t t.isLt (hu.under hother)
  have hp := hend.1.frame State.pairs fun _ _ _ _ => rfl
  exact ⟨fun k => by rw [hp]; exact hput k, by rw [hp], hend.under hback⟩

end

theorem tileRegisters : TileRegisters := by
  intro s t o hx hpr hpm hd
  exact ⟨fun hc ha hfree => readNote hx hpr hpm hd hc ha hfree, fun hc ha hfree => readEcc hx hpr hpm hd hc ha hfree,
    fun ha0 ha => writeNote hx hpr hpm hd ha0 ha, fun ha0 ha => writeTimerLo hx hpr hpm hd ha0 ha⟩

/-- Settles O10: immediates by their values, scratchpad by what a read and a write of clean lines leave, tile registers by their places. -/
theorem scalarImmediateAndMemory : Obligations.ScalarImmediateAndMemory := ⟨scalarImmediate, scalarMemory, tileRegisters⟩

end Sys2Proof.Machine
end

section
/-! SUPPORT. Exceptions of tiles (O12): which cause of several, what the exception records, and how it faults its caravan. -/

namespace Sys2Proof.Machine

/-! ### The cause that is recorded -/

theorem Cause.one_le_code (c : Cause) : 1 ≤ c.code := by cases c <;> decide
theorem Cause.code_lt (c : Cause) : c.code < 16 := by cases c <;> decide
theorem Cause.status_code_lt (c : Cause) : c.status.code < 256 := by cases c <;> decide

/-- ILLEGAL comes before every other cause (R162). -/
theorem firstExc_illegal (w : Nat) (l : List (Bool × Cause × Nat)) : firstExc ((true, .illegal, w) :: l) = some ⟨.illegal, w⟩ := by
  unfold firstExc
  rw [List.foldl_cons]
  refine foldl_keeps (fun a : Option Exc => a = some ⟨.illegal, w⟩) _ (fun a p ha => ?_) l _ rfl
  have hcode : ¬ p.2.1.code < Cause.illegal.code := Nat.not_lt.mpr p.2.1.one_le_code
  rw [ha]
  dsimp only
  rw [if_neg hcode, ite_self]

theorem virothWord_toNat (cls opc : BitVec 4) (o : VOp) : (virothWord cls opc o).toNat = vWord cls.toNat opc.toNat o := by
  have happend : ∀ {v w : Nat} (x : BitVec v) (y : BitVec w), (x ++ y).toNat = x.toNat * 2 ^ w + y.toNat := fun x y => by
    rw [BitVec.toNat_append, ← Nat.shiftLeft_add_eq_or_of_lt y.isLt, Nat.shiftLeft_eq]
  simp only [virothWord, happend, vWord]
  omega

/-! ### A caravan that faults while it runs -/

theorem State.bump_regs {s t : State} (h : t.regs = s.regs) (r : Reg) (i n : Nat) : (t.bump r i n).regs = (s.bump r i n).regs := by
  rw [State.bump, State.bump, State.rr_of_regs h]
  simp only [State.wr, h]

/-- A slot that has faulted while it ran (R114). -/
def Slot.runFaulted (x : Slot) : Slot := { x with state := .faulted, queue := [], inflight := [], waiting := [], relOpen := [] }

/-- What stands of a running caravan that faults before its slot is set: the record, the stations stopped, bales gone, sequences counted. -/
def State.stopCaravan (s : State) (i station : Nat) (st : Status) : State :=
  (((s.wr .CVN_SLOT_ERR i (station * 2 ^ 16 + st.code)).stopStations i).removeBales i).countAborted i
    ((s.slot i).inflight.length + (s.slot i).unadmitted)

section
variable {s : State} {i : Fin 64}

/-- Removing bales and counting sequences touches no slot, no tile, no memory, and one register. -/
theorem State.countAborted_frame (z : State) (n : Nat) : (∀ j, ((z.removeBales i).countAborted i n).slot j = z.slot j) ∧
    ((z.removeBales i).countAborted i n).mem = z.mem ∧ (∀ j, ((z.removeBales i).countAborted i n).tile j = z.tile j) ∧
    ((z.removeBales i).countAborted i n).regs = (z.bump .CVN_SLOT_ABORTED i n).regs := ⟨fun _ => rfl, rfl, fun _ => rfl, rfl⟩

theorem State.stopCaravan_frame (k : Nat) (st : Status) : (∀ j, (s.stopCaravan i k st).slot j = s.slot j) ∧
    (s.stopCaravan i k st).mem = s.mem ∧
    (∀ j, (s.stopCaravan i k st).tile j = ((s.wr .CVN_SLOT_ERR i (k * 2 ^ 16 + st.code)).stopStations i).tile j) ∧
    ∀ (r : Reg) (j : Nat), (s.stopCaravan i k st).rr r j = ((s.wr .CVN_SLOT_ERR i (k * 2 ^ 16 + st.code)).bump .CVN_SLOT_ABORTED i
      ((s.slot i).inflight.length + (s.slot i).unadmitted)).rr r j := by
  have hstop := State.stopStations_only (s.wr .CVN_SLOT_ERR i (k * 2 ^ 16 + st.code)) i
  unfold State.stopCaravan
  generalize (s.wr .CVN_SLOT_ERR i (k * 2 ^ 16 + st.code)).stopStations i = z at *
  obtain ⟨hslot, hmem, htile, hregs⟩ := State.countAborted_frame (i := i) z ((s.slot i).inflight.length + (s.slot i).unadmitted)
  have hz : z.regs = (s.wr .CVN_SLOT_ERR i (k * 2 ^ 16 + st.code)).regs := (congrArg State.regs hstop :)
  exact ⟨fun j => (hslot j).trans (congrArg (fun u : State => u.slot j) hstop :), hmem.trans (congrArg State.mem hstop :), htile,
    fun r j => State.rr_of_regs (hregs.trans (State.bump_regs hz _ _ _)) r j⟩

theorem State.faultSlot_running (h : (s.slot i).state = .running) (k : Nat) (st : Status) :
    s.faultSlot i k st =
      (((s.stopCaravan i k st).setSlot i (s.slot i).runFaulted).cvnEvent i 4).endWaits i (fun _ => true) .fenced 0 := by
  have hslot := (State.stopCaravan_frame (s := s) (i := i) k st).1 i
  unfold State.stopCaravan at hslot
  unfold State.faultSlot
  dsimp only
  simp only [h, reduceCtorEq, decide_false, Bool.or_self, Bool.false_eq_true, if_false]
  rw [hslot]
  rfl

/-- A tile that took an exception keeps FAULT when its caravan's stations stop. -/
theorem State.stopStations_fault {n : Nat} (h : (s.tile n).st = .fault) : (s.stopStations i).tile n = s.tile n := by
  unfold State.stopStations
  refine foldl_keeps (fun a => a.tile n = s.tile n) _ (fun a x ha => ?_) _ s rfl
  split
  · exact ha
  · next hx =>
    have hne : n ≠ x.tile := fun he => hx (by rw [← he, ha, h])
    rw [State.stopTile_tile, if_neg hne, ha]

end

/-- What a running caravan's fault leaves of its slot, its tiles and its registers (R114, R115, R136). -/
structure CaravanFaulted (s t : State) (i : Fin 64) (k : Nat) (st : Status) : Prop where
  slot : (t.slot i).state = .faulted
  slots : ∀ j, j ≠ i.val → t.slot j = s.slot j
  mem : t.mem = s.mem
  err : t.rr .CVN_SLOT_ERR i = (k * 2 ^ 16 + st.code) % 2 ^ 32
  event : t.rr .CVN_SLOT_EVENT i = Nat.lor (s.rr .CVN_SLOT_EVENT i) 16
  regs : ∀ (r : Reg) (j : Nat), 0x100000 ≤ r.key j → t.rr r j = s.rr r j
  faulted : ∀ n, (s.tile n).st = .fault → t.tile n = s.tile n
  stations : ∀ y ∈ (s.slot i).stations, (t.tile y.tile).st = .stopped ∨ (t.tile y.tile).st = .fault

/-- A register of the caravan controller lies in the first MiB of the blocks (R36). -/
theorem Reg.key_lt_of_cvn {r : Reg} (hb : r.desc.blk = .cvn) {i : Nat} (hi : i < r.copies) : r.key i < 0x100000 := by
  obtain ⟨-, -, hlast, -⟩ := Block.place_of_mem r.mem_regs
  rw [hb] at hlast
  exact (r.key_le_last i hi).trans_lt hlast

theorem State.faultSlot_faulted {s : State} {i : Fin 64} (h : (s.slot i).state = .running) (k : Nat) (st : Status) :
    CaravanFaulted s (s.faultSlot i k st) i k st := by
  rw [State.faultSlot_running h]
  have hcores := State.endWaits_coresOnly (((s.stopCaravan i k st).setSlot i (s.slot i).runFaulted).cvnEvent i 4) i (fun _ => true) .fenced 0
  obtain ⟨hslots, hmem, htile, hstopped⟩ := State.stopCaravan_frame (s := s) (i := i) k st
  have herr : Reg.CVN_SLOT_ERR.key i < 0x100000 := Reg.key_lt_of_cvn rfl i.isLt
  have hab : Reg.CVN_SLOT_ABORTED.key i < 0x100000 := Reg.key_lt_of_cvn rfl i.isLt
  have hev : Reg.CVN_SLOT_EVENT.key i < 0x100000 := Reg.key_lt_of_cvn rfl i.isLt
  have hne1 : Reg.CVN_SLOT_ERR.key i ≠ Reg.CVN_SLOT_EVENT.key i := Reg.key_ne_of_cvn rfl rfl (by decide) i.isLt i.isLt
  have hne2 : Reg.CVN_SLOT_ERR.key i ≠ Reg.CVN_SLOT_ABORTED.key i := Reg.key_ne_of_cvn rfl rfl (by decide) i.isLt i.isLt
  have hne3 : Reg.CVN_SLOT_EVENT.key i ≠ Reg.CVN_SLOT_ABORTED.key i := Reg.key_ne_of_cvn rfl rfl (by decide) i.isLt i.isLt
  have hafter : ∀ n, (((((s.stopCaravan i k st).setSlot i (s.slot i).runFaulted).cvnEvent i 4).endWaits i (fun _ => true) .fenced 0).tile n) =
      ((s.wr .CVN_SLOT_ERR i (k * 2 ^ 16 + st.code)).stopStations i).tile n := fun n => by
    rw [State.tile_of_tiles hcores.tiles_eq, State.cvnEvent, State.tile_wr, State.tile_setSlot, htile]
  obtain ⟨-, hin⟩ := State.stopStations_tiles (s.wr .CVN_SLOT_ERR i (k * 2 ^ 16 + st.code)) i
  refine ⟨?_, fun j hj => ?_, hcores.mem_eq.trans hmem, ?_, ?_, fun r j hr => ?_, fun n hn => ?_, fun y hy => ?_⟩
  · rw [State.slot_of_cvn hcores.cvn_eq, State.cvnEvent_slot, State.slot_setSlot_same]
    rfl
  · rw [State.slot_of_cvn hcores.cvn_eq, State.cvnEvent_slot, State.slot_setSlot_ne _ _ _ _ hj, hslots]
  · rw [State.rr_of_regs hcores.regs_eq, State.cvnEvent, State.rr_wr_ne _ _ _ _ _ _ hne1, State.setSlot_rr, hstopped,
      State.rr_bump_ne _ _ _ _ _ _ hne2, State.rr_wr_same]
  · rw [State.rr_of_regs hcores.regs_eq, State.cvnEvent_rr _ _ _ (by decide), State.setSlot_rr, hstopped,
      State.rr_bump_ne _ _ _ _ _ _ hne3, State.rr_wr_ne _ _ _ _ _ _ hne1.symm]
    rfl
  · rw [State.rr_of_regs hcores.regs_eq, State.cvnEvent, State.rr_wr_ne _ _ _ _ _ _ (by omega), State.setSlot_rr, hstopped,
      State.rr_bump_ne _ _ _ _ _ _ (by omega), State.rr_wr_ne _ _ _ _ _ _ (by omega)]
  · rw [hafter, State.stopStations_fault (s := s.wr .CVN_SLOT_ERR i (k * 2 ^ 16 + st.code)) hn, State.tile_wr]
  · rw [hafter]
    rcases hin y.tile (List.mem_map_of_mem hy) with hy' | ⟨he, hf⟩
    · exact .inl hy'
    · exact .inr ((congrArg Tile.st he).trans hf)

/-! ### An exception as a whole -/

theorem tileExc_perTile : Reg.TILE_EXC.perTile 0x0C := ⟨rfl, rfl, rfl, rfl⟩

theorem tileExcAddrLo_perTile : Reg.TILE_EXC_ADDR_LO.perTile 0x10 := ⟨rfl, rfl, rfl, rfl⟩
theorem tileExcAddrHi_perTile : Reg.TILE_EXC_ADDR_HI.perTile 0x14 := ⟨rfl, rfl, rfl, rfl⟩

/-- The record of an exception (R163). -/
def State.recordExc (s : State) (n : Nat) (e : Exc) : State :=
  (s.wr .TILE_EXC n ((s.tile n).pc.toNat * 2 ^ 16 + e.cause.status.code * 2 ^ 8 + e.cause.code)).setPair
    .TILE_EXC_ADDR_LO .TILE_EXC_ADDR_HI n (e.addr % 2 ^ 64)

section
variable (s : State) (n : Nat) (e : Exc)

theorem State.recordExc_exc : (s.recordExc n e).rr .TILE_EXC n =
    (s.tile n).pc.toNat * 2 ^ 16 + e.cause.status.code * 2 ^ 8 + e.cause.code := by
  have hpc := (s.tile n).pc.isLt
  have hst := e.cause.status_code_lt
  have hc := e.cause.code_lt
  have hk := tileExc_perTile.key n
  rw [State.recordExc, State.setPair, State.rr_wr_ne _ _ _ _ _ _ (by rw [hk, tileExcAddrHi_perTile.key]; omega),
    State.rr_wr_ne _ _ _ _ _ _ (by rw [hk, tileExcAddrLo_perTile.key]; omega), State.rr_wr_same]
  omega

theorem State.recordExc_addr : (s.recordExc n e).pair .TILE_EXC_ADDR_LO .TILE_EXC_ADDR_HI n = e.addr % 2 ^ 64 := by
  rw [State.recordExc, State.pair_setPair_same _ _ _ _ _ (by rw [tileExcAddrLo_perTile.key, tileExcAddrHi_perTile.key]; omega), Nat.mod_mod]

theorem State.recordExc_rr {r : Reg} {j : Nat} (h : r.key j < 0x100000) : (s.recordExc n e).rr r j = s.rr r j := by
  rw [State.recordExc, State.setPair, State.rr_wr_ne _ _ _ _ _ _ (by rw [tileExcAddrHi_perTile.key]; omega),
    State.rr_wr_ne _ _ _ _ _ _ (by rw [tileExcAddrLo_perTile.key]; omega), State.rr_wr_ne _ _ _ _ _ _ (by rw [tileExc_perTile.key]; omega)]

end

theorem tileException_trapped {s : State} {n : Fin 768} {i : Fin 64} (hslot : s.slotOfTile n = some i.val)
    (hrun : (s.slot i).state = .running) (e : Exc) : Trapped s (s.tileException n e) n i e.cause.code e.cause.status e.addr := by
  have heq : s.tileException n e = ((s.recordExc n e).stopTile n .fault).faultSlot i (s.tile n).station .check := by
    unfold State.tileException
    rw [hslot]
    rfl
  have honly := TilesAndPrf.stopTile (s.recordExc n e) n .fault
  have htile : ((s.recordExc n e).stopTile n .fault).tile n = (s.tile n).stop .fault := by
    rw [State.stopTile_tile, if_pos rfl]
    rfl
  have hregs : ((s.recordExc n e).stopTile n .fault).regs = (s.recordExc n e).regs := (congrArg State.regs honly :)
  have hslots : ∀ j, ((s.recordExc n e).stopTile n .fault).slot j = s.slot j := fun j => (congrArg (fun u : State => u.slot j) honly :)
  have hmem : ((s.recordExc n e).stopTile n .fault).mem = s.mem := (congrArg State.mem honly :)
  have hev : Reg.CVN_SLOT_EVENT.key i < 0x100000 := Reg.key_lt_of_cvn rfl i.isLt
  obtain ⟨hst, hothers, hm, herr, hevent, hkeep, hfault, hstations⟩ :=
    State.faultSlot_faulted (s := (s.recordExc n e).stopTile n .fault) ((congrArg Slot.state (hslots i)).trans hrun) (s.tile n).station .check
  rw [← heq] at hst hothers hm herr hevent hkeep hfault hstations
  have hown : (s.tileException n e).tile n = (s.tile n).stop .fault := (hfault n (by rw [htile]; rfl)).trans htile
  have hhigh : ∀ r : Reg, 0x100000 ≤ r.key n → (s.tileException n e).rr r n = (s.recordExc n e).rr r n := fun r hr =>
    (hkeep r n hr).trans (State.rr_of_regs hregs r n)
  refine ⟨?_, ?_, ?_, ?_, ?_, ?_, fun b => State.byte_of_mem (hm.trans hmem) b, hst, fun j hj => (hothers j hj).trans (hslots j), herr, ?_, ?_⟩
  · rw [hhigh _ (by rw [tileExc_perTile.key]; omega), s.recordExc_exc]
  · rw [State.pair, hhigh _ (by rw [tileExcAddrLo_perTile.key]; omega), hhigh _ (by rw [tileExcAddrHi_perTile.key]; omega)]
    exact s.recordExc_addr n e
  iterate 4 rw [hown]; rfl
  · rw [hevent, State.rr_of_regs hregs, s.recordExc_rr n e hev]
  · rwa [hslots] at hstations

/-! ### An instruction that raises an exception -/

theorem PrfOnly.outriderFlag (s : State) (t b : Nat) : PrfOnly s (s.outriderFlag t b) := by
  unfold State.outriderFlag
  dsimp only
  split
  · exact .setOutGen _ _ _
  · exact .refl s

theorem Trapped.under {s u v : State} {n i cause addr : Nat} {st : Status} (h : Trapped u v n i cause st addr) (hu : PrfOnly s u)
    (hi : i < 64) : Trapped s v n i cause st addr := by
  have hslot : ∀ j, u.slot j = s.slot j := fun j => hu.frame (fun z => z.slot j) fun _ _ _ => rfl
  have hev : prfKey (Reg.CVN_SLOT_EVENT.key i) = false := by
    have : Reg.CVN_SLOT_EVENT.key i < 0x100000 := Reg.key_lt_of_cvn rfl hi
    rw [prfKey, decide_eq_false (by omega), Bool.false_and]
  unfold Trapped at *
  simp only [hu.tile, hslot, State.byte_of_mem hu.mem, hu.2 _ _ hev] at h
  exact h

/-- An instruction of a station of a running caravan that raises an exception. -/
theorem issueSeq_trapped {s : State} {t : Fin 768} {i : Fin 64} {cls opc : Nat} {o : VOp} {legal : Bool}
    {causes : List (Bool × Cause × Nat)} {stall : Bool} {body : State → State} {e : Exc} (hx : s.issues t = true)
    (hslot : s.slotOfTile t = some i.val) (hrun : (s.slot i).state = .running)
    (he : firstExc ((!legal, .illegal, vWord cls opc o) :: fallThrough (s.tile t) :: causes) = some e) :
    Gives (s.issueSeq t cls opc o legal causes stall body) fun u => Trapped s u t i e.cause.code e.cause.status e.addr := by
  have hissue : PrfOnly s (s.outriderIssue t cls opc) := .outriderIssue s t cls opc t.isLt
  have hflag : ∃ u, PrfOnly s u ∧ s.issueSeq t cls opc o legal causes stall body = .next (u.tileException t e) := by
    unfold State.issueSeq State.issue
    rw [hx, he]
    dsimp only
    split
    · next h => exact absurd h (by decide)
    · split
      · exact ⟨_, hissue, rfl⟩
      · exact ⟨_, hissue.trans (.outriderFlag _ t 0), rfl⟩
  obtain ⟨u, hu, hres⟩ := hflag
  have hslot' : u.slotOfTile t = some i.val := by rw [State.slotOfTile, hu.tile]; exact hslot
  have hrun' : (u.slot i).state = .running := (congrArg Slot.state (hu.frame (fun z => z.slot i) fun _ _ _ => rfl)).trans hrun
  exact ⟨_, hres, (tileException_trapped hslot' hrun' e).under hu i.isLt⟩

/-- An instruction that is not legal is recorded whatever else is wrong with it. -/
theorem issueSeq_illegal {s : State} {t : Fin 768} {i : Fin 64} {cls opc w : Nat} {o : VOp} {legal : Bool}
    {causes : List (Bool × Cause × Nat)} {stall : Bool} {body : State → State} (hx : s.issues t = true)
    (hslot : s.slotOfTile t = some i.val) (hrun : (s.slot i).state = .running) (hl : legal = false) (hw : w = vWord cls opc o) :
    Gives (s.issueSeq t cls opc o legal causes stall body) fun u => Trapped s u t i 1 .bounds w := by
  subst hl hw
  exact issueSeq_trapped (e := ⟨.illegal, vWord cls opc o⟩) hx hslot hrun (firstExc_illegal _ _)

theorem not_unusedZero {o : VOp} (h : o.d ≠ 0 ∨ o.pr ≠ 0 ∨ o.pm ≠ 0 ∨ o.fn ≠ 0) : o.unusedZero true true true false false false = false := by
  simp only [VOp.unusedZero, Bool.false_or, Bool.true_or, Bool.true_and, Bool.and_eq_false_iff, beq_eq_false_iff_ne]
  tauto

section
variable {s : State} {t : Fin 768} {i : Fin 64} {o : VOp} (hx : s.issues t = true) (hslot : s.slotOfTile t = some i.val)
  (hrun : (s.slot i).state = .running)
include hx hslot hrun

theorem scalar_illegal {opc w : Nat} {f : Nat → Nat → Nat} (h : o.d ≠ 0 ∨ o.pr ≠ 0 ∨ o.pm ≠ 0 ∨ o.fn ≠ 0) (hw : w = vWord 0 opc o) :
    Gives (s.scalar t opc o f) fun u => Trapped s u t i 1 .bounds w :=
  issueSeq_illegal hx hslot hrun (not_unusedZero h) hw

theorem scalar_fetch {opc : Nat} {f : Nat → Nat → Nat} (h : ¬(o.d ≠ 0 ∨ o.pr ≠ 0 ∨ o.pm ≠ 0 ∨ o.fn ≠ 0))
    (hf : 0xFFF8 ≤ (s.tile t).pc.toNat) : Gives (s.scalar t opc o f) fun u => Trapped s u t i 2 .bounds 0x10000 := by
  simp only [not_or, not_not] at h
  obtain ⟨hd, hpr, hpm, hfn⟩ := h
  have hl : o.unusedZero true true true false false false = true := by simp [VOp.unusedZero, hd, hpr, hpm, hfn]
  exact issueSeq_trapped (e := ⟨.fetch, 0x10000⟩) hx hslot hrun (by simp [hl, firstExc, fallThrough, hf])

theorem scLd_illegal (hd : 6 < o.d.toNat) {w : Nat} (hw : w = vWord 1 0xA o) :
    Gives (execScLd t o s) fun u => Trapped s u t i 1 .bounds w :=
  issueSeq_illegal hx hslot hrun (by simp [hd]) hw

/-- `sc.ld` that is legal raises the first cause of its access. -/
theorem scLd_trapped {e : Exc} (hc : o.c = 0) (hpr : o.pr = 0) (hpm : o.pm = 0) (hd : o.d.toNat ≤ 6) (hf : (s.tile t).pc.toNat < 0xFFF8)
    (he : firstExc (accessExc (operandAddress s t o) (2 ^ (o.d.toNat % 4)) (2 ^ (o.d.toNat % 4))) = some e) :
    Gives (execScLd t o s) fun u => Trapped s u t i e.cause.code e.cause.status e.addr := by
  have hl : (o.unusedZero true true false true false true && decide (o.d.toNat ≤ 6)) = true := by
    simp [VOp.unusedZero, hc, hpr, hpm, hd]
  have hfall : fallThrough (s.tile t) = (false, .fetch, 0x10000) := congrArg (·, _, _) (decide_eq_false (Nat.not_le_of_lt hf))
  unfold execScLd
  dsimp only
  rw [Tile.addr_eq, widthOf]
  exact issueSeq_trapped hx hslot hrun (by rw [hl, hfall]; exact he)

end

/-- Settles O12: the cause of each is the lowest that applies, and an exception has no other effect than its record and its caravan's fault. -/
theorem tileExceptions : Obligations.TileExceptions := by
  intro s t i o hx hslot hrun
  refine ⟨fun hu => scalar_illegal hx hslot hrun hu (virothWord_toNat 0 0 o), fun hu => scalar_illegal hx hslot hrun hu (virothWord_toNat 0 15 o),
    fun hu hf => scalar_fetch hx hslot hrun hu (Nat.le_of_not_lt hf), fun hc hpr hpm => ⟨fun hd => scLd_illegal hx hslot hrun hd (virothWord_toNat 1 10 o),
      fun hd hf hal => ?_, fun hd hf hal hr => ?_⟩⟩
  · refine scLd_trapped (e := ⟨.misalign, operandAddress s t o⟩) hx hslot hrun hc hpr hpm hd hf ?_
    simp [accessExc, firstExc, hal, Cause.code]
  · refine scLd_trapped (e := ⟨.range, operandAddress s t o⟩) hx hslot hrun hc hpr hpm hd hf ?_
    simp [accessExc, firstExc, hal, hr]

end Sys2Proof.Machine
end

section
/-! SUPPORT. One lane of the vector unit (O13): the integer lanes by their words, and which flags a lane may set. -/

namespace Sys2Proof.Machine

/-! ### Integer lanes (R174, R247) -/

theorem laneInt_signed (x : BitVec 32) : laneInt 1 x.toNat = x.toInt := toSigned_toNat (by decide) x
theorem laneInt_unsigned (x : BitVec 32) : laneInt 2 x.toNat = x.toNat := rfl

/-- Both readings of a lane agree with its word modulo 2^32. -/
theorem ofInt_laneInt {ty : Nat} (hty : ty ∈ [1, 2]) (x : BitVec 32) : BitVec.ofInt 32 (laneInt ty x.toNat) = x := by
  simp only [List.mem_cons, List.not_mem_nil, or_false] at hty
  rcases hty with rfl | rfl
  · rw [laneInt_signed, BitVec.ofInt_toInt]
  · rw [laneInt_unsigned, BitVec.ofInt_natCast, ofNat_toNat_self]

theorem intResult_exact {ty : Nat} {z : Int} {v : BitVec 32} (h : BitVec.ofInt 32 z = v) : intResult ty false z = ⟨v.toNat, 0⟩ := by
  rw [← h, ← ofSigned_eq]
  rfl

/-- A product that zero-skip leaves out is zero. -/
theorem mul_eq_zero_of_skip {a b : Int} {zs : Bool} (h : (zs && (a == 0 || b == 0)) = true) : a * b = 0 := by
  simp only [Bool.and_eq_true, Bool.or_eq_true, beq_iff_eq] at h
  exact Int.mul_eq_zero.mpr h.2

theorem intResult_int32 (v : Int) : intResult 1 true v =
    ⟨(BitVec.ofInt 32 (max (-0x80000000) (min 0x7FFFFFFF v))).toNat, if v < -0x80000000 ∨ 0x7FFFFFFF < v then 4 else 0⟩ := by
  rw [← ofSigned_eq, min_comm]
  simp [intResult, clampInt, flagOF]

theorem intResult_uint32 (v : Int) : intResult 2 true v =
    ⟨(max 0 (min 0xFFFFFFFF v)).toNat, if v < 0 ∨ 0xFFFFFFFF < v then 4 else 0⟩ := by
  have hmod : ofSigned 32 (max 0 (min 0xFFFFFFFF v)) = (max 0 (min 0xFFFFFFFF v)).toNat := by
    rw [ofSigned, Int.emod_eq_of_lt] <;> omega
  rw [← hmod, min_comm]
  simp [intResult, clampInt, flagOF]

/-- A lane is its own result: its type holds it. -/
theorem intResult_lane {ty : Nat} (hty : ty ∈ [1, 2]) (sat : Bool) (x : BitVec 32) : intResult ty sat (laneInt ty x.toNat) = ⟨x.toNat, 0⟩ := by
  cases sat with
  | false => exact intResult_exact (ofInt_laneInt hty x)
  | true =>
    have hu := x.isLt
    have hlo := BitVec.le_toInt x
    have hhi := BitVec.toInt_lt (x := x)
    simp only [List.mem_cons, List.not_mem_nil, or_false] at hty
    rcases hty with rfl | rfl
    · rw [laneInt_signed, intResult_int32, min_eq_right (by omega), max_eq_right (by omega), BitVec.ofInt_toInt, if_neg (by omega)]
    · rw [laneInt_unsigned, intResult_uint32, min_eq_right (by omega), max_eq_right (by omega), if_neg (by omega), Int.toNat_natCast]

section
variable (x y z : BitVec 32) (rm : Rm) (zs : Bool) (fmt : Nat)

/-- The integer operations of class 0x3 whose exact result is kept or clamped (R174, R247); a skipped product is zero (R260). -/
theorem lane3_int {ty : Nat} (hty : ty ∈ [1, 2]) (sat : Bool) (sub : Nat) :
    lane3 0 ty rm sat zs sub fmt x.toNat y.toNat z.toNat = intResult ty sat (laneInt ty x.toNat + laneInt ty y.toNat) ∧
    lane3 1 ty rm sat zs sub fmt x.toNat y.toNat z.toNat = intResult ty sat (laneInt ty x.toNat - laneInt ty y.toNat) ∧
    lane3 2 ty rm sat zs sub fmt x.toNat y.toNat z.toNat = intResult ty sat (laneInt ty x.toNat * laneInt ty y.toNat) ∧
    lane3 3 ty rm sat zs sub fmt x.toNat y.toNat z.toNat =
      intResult ty sat (laneInt ty x.toNat * laneInt ty y.toNat + laneInt ty z.toNat) := by
  have hne : ty ≠ 0 := fun h => by rw [h] at hty; exact absurd hty (by decide)
  have hzero : laneInt ty (0 : BitVec 32).toNat = 0 := by
    simp only [List.mem_cons, List.not_mem_nil, or_false] at hty
    rcases hty with rfl | rfl <;> rfl
  simp only [lane3, if_neg hne, true_and]
  constructor
  · split
    · next h => rw [mul_eq_zero_of_skip h, ← hzero, intResult_lane hty]; rfl
    · rfl
  · split
    · next h => rw [mul_eq_zero_of_skip h, Int.zero_add, intResult_lane hty]
    · rfl

theorem lane3_exact (ty : Nat) (hty : ty ∈ [1, 2]) :
    ∀ p ∈ [(0, x + y), (1, x - y), (2, x * y), (3, x * y + z), (6, x &&& y), (7, x ||| y), (8, x ^^^ y)],
      lane3 p.1 ty rm false zs 0 fmt x.toNat y.toNat z.toNat = ⟨p.2.toNat, 0⟩ := by
  obtain ⟨hadd, hsub, hmul, hfma⟩ := lane3_int x y z rm zs fmt hty false 0
  have hx := ofInt_laneInt hty x
  have hy := ofInt_laneInt hty y
  have hz := ofInt_laneInt hty z
  intro p hp
  simp only [List.mem_cons, List.not_mem_nil, or_false] at hp
  obtain rfl | rfl | rfl | rfl | rfl | rfl | rfl := hp
  · exact hadd.trans (intResult_exact (by rw [BitVec.ofInt_add, hx, hy]))
  · exact hsub.trans (intResult_exact (by rw [Int.sub_eq_add_neg, BitVec.ofInt_add, BitVec.ofInt_neg, hx, hy, BitVec.sub_eq_add_neg]))
  · exact hmul.trans (intResult_exact (by rw [BitVec.ofInt_mul, hx, hy]))
  · exact hfma.trans (intResult_exact (by rw [BitVec.ofInt_add, BitVec.ofInt_mul, hx, hy, hz]))
  all_goals rfl

theorem lane3_shift : (∀ ty ∈ [1, 2], lane3 9 ty rm false zs 0 fmt x.toNat y.toNat z.toNat = ⟨(x <<< (y.toNat % 32)).toNat, 0⟩) ∧
    lane3 9 1 rm false zs 1 fmt x.toNat y.toNat z.toNat = ⟨(x.sshiftRight (y.toNat % 32)).toNat, 0⟩ ∧
    lane3 9 2 rm false zs 1 fmt x.toNat y.toNat z.toNat = ⟨(x >>> (y.toNat % 32)).toNat, 0⟩ := by
  refine ⟨fun ty _ => ?_, ?_, ?_⟩
  · rw [← shiftLeft_word, BitVec.toNat_ofNat]
    rfl
  · rw [← sshiftRight_word (by decide)]
    rfl
  · rw [BitVec.toNat_ushiftRight, Nat.shiftRight_eq_div_pow]
    rfl

theorem lane3_minmax : lane3 4 1 rm false zs 0 fmt x.toNat y.toNat z.toNat = ⟨(if x.toInt ≤ y.toInt then x else y).toNat, 0⟩ ∧
    lane3 5 1 rm false zs 0 fmt x.toNat y.toNat z.toNat = ⟨(if x.toInt ≤ y.toInt then y else x).toNat, 0⟩ ∧
    lane3 4 2 rm false zs 0 fmt x.toNat y.toNat z.toNat = ⟨min x.toNat y.toNat, 0⟩ ∧
    lane3 5 2 rm false zs 0 fmt x.toNat y.toNat z.toNat = ⟨max x.toNat y.toNat, 0⟩ := by
  have hmm : ∀ (ty : Nat) (mx : Bool), ty ≠ 0 → minmaxLane ty mx x.toNat y.toNat =
      if laneInt ty x.toNat < laneInt ty y.toNat then (if mx then y.toNat else x.toNat) else (if mx then x.toNat else y.toNat) :=
    fun ty mx hty => by rw [minmaxLane, if_neg hty]
  have heq : x.toInt = y.toInt → x = y := BitVec.eq_of_toInt_eq
  have hmin : minmaxLane 1 false x.toNat y.toNat = (if x.toInt ≤ y.toInt then x else y).toNat := by
    rw [hmm 1 false (by decide), laneInt_signed, laneInt_signed]
    grind
  have hmax : minmaxLane 1 true x.toNat y.toNat = (if x.toInt ≤ y.toInt then y else x).toNat := by
    rw [hmm 1 true (by decide), laneInt_signed, laneInt_signed]
    grind
  have hminu : minmaxLane 2 false x.toNat y.toNat = min x.toNat y.toNat := by
    rw [hmm 2 false (by decide), laneInt_unsigned, laneInt_unsigned]
    grind
  have hmaxu : minmaxLane 2 true x.toNat y.toNat = max x.toNat y.toNat := by
    rw [hmm 2 true (by decide), laneInt_unsigned, laneInt_unsigned]
    grind
  exact ⟨congrArg (Rounded.mk · 0) hmin, congrArg (Rounded.mk · 0) hmax, congrArg (Rounded.mk · 0) hminu, congrArg (Rounded.mk · 0) hmaxu⟩

theorem lane3_saturated : (∀ p ∈ [(0, x.toInt + y.toInt), (1, x.toInt - y.toInt), (2, x.toInt * y.toInt), (3, x.toInt * y.toInt + z.toInt)],
      lane3 p.1 1 rm true zs 0 fmt x.toNat y.toNat z.toNat =
        ⟨(BitVec.ofInt 32 (max (-0x80000000) (min 0x7FFFFFFF p.2))).toNat, if p.2 < -0x80000000 ∨ 0x7FFFFFFF < p.2 then 4 else 0⟩) ∧
    (∀ p ∈ [(0, (x.toNat : Int) + y.toNat), (1, (x.toNat : Int) - y.toNat), (2, (x.toNat : Int) * y.toNat),
        (3, (x.toNat : Int) * y.toNat + z.toNat)],
      lane3 p.1 2 rm true zs 0 fmt x.toNat y.toNat z.toNat =
        ⟨(max 0 (min 0xFFFFFFFF p.2)).toNat, if p.2 < 0 ∨ 0xFFFFFFFF < p.2 then 4 else 0⟩) := by
  obtain ⟨hadd, hsub, hmul, hfma⟩ := lane3_int x y z rm zs fmt (ty := 1) (by decide) true 0
  obtain ⟨hadd', hsub', hmul', hfma'⟩ := lane3_int x y z rm zs fmt (ty := 2) (by decide) true 0
  simp only [laneInt_signed, intResult_int32] at hadd hsub hmul hfma
  simp only [laneInt_unsigned, intResult_uint32] at hadd' hsub' hmul' hfma'
  constructor <;>
  · intro p hp
    simp only [List.mem_cons, List.not_mem_nil, or_false] at hp
    obtain rfl | rfl | rfl | rfl := hp <;> assumption

end

theorem vectorIntegerLanes : VectorIntegerLanes := by
  intro x y z rm zs fmt
  obtain ⟨hmin, hmax, hminu, hmaxu⟩ := lane3_minmax x y z rm zs fmt
  obtain ⟨hshl, hsra, hsrl⟩ := lane3_shift x y z rm zs fmt
  obtain ⟨hint, huint⟩ := lane3_saturated x y z rm zs fmt
  exact ⟨lane3_exact x y z rm zs fmt, hshl, hsra, hsrl, hmin, hmax, hminu, hmaxu, hint, huint⟩

/-! ### Flags of a lane (R226) -/

/-- A result whose flags are among NX, UF, OF, NV and XR. -/
def Rounded.sticky (r : Rounded) : Prop := r.flags < 2 ^ 5

theorem lor_lt {a b n : Nat} (ha : a < 2 ^ n) (hb : b < 2 ^ n) : Nat.lor a b < 2 ^ n := Nat.or_lt_two_pow ha hb

theorem Rounded.sticky_mk (code : Nat) {fl : Nat} (h : fl < 2 ^ 5) : (⟨code, fl⟩ : Rounded).sticky := h

theorem FloatFmt.round_sticky (f : FloatFmt) (rm : Rm) (neg : Bool) (m : Nat) (e : Int) : (f.round rm neg m e).sticky := by
  unfold FloatFmt.round
  dsimp only
  split
  · exact Rounded.sticky_mk _ (by decide)
  · split
    · exact Rounded.sticky_mk _ (by decide)
    · refine Rounded.sticky_mk _ ?_
      split <;> split <;> decide

theorem FloatFmt.ofVal_sticky (f : FloatFmt) (rm : Rm) (v : Val) : (f.ofVal rm v).sticky := by
  unfold FloatFmt.ofVal
  split
  · exact Rounded.sticky_mk _ (by decide)
  · split <;> exact Rounded.sticky_mk _ (by decide)
  · exact f.round_sticky rm _ _ _

theorem intOfVal_sticky (w : Nat) (rm : Rm) (v : Val) : (intOfVal w rm v).sticky := by
  unfold intOfVal
  dsimp only
  split
  · exact Rounded.sticky_mk _ (by decide)
  · exact Rounded.sticky_mk _ (by decide)
  · refine Rounded.sticky_mk _ ?_
    split <;> split <;> decide

theorem convert_sticky (fmt : Nat) (rm : Rm) (v : Val) : (convert fmt rm v).sticky := by
  unfold convert
  split
  · exact FloatFmt.ofVal_sticky _ _ _
  · exact intOfVal_sticky _ _ _

theorem cvtLane_sticky (src dst : Nat) (rm : Rm) (x : Nat) : (cvtLane src dst rm x).sticky := by
  unfold cvtLane
  dsimp only
  split
  · exact Rounded.sticky_mk _ (by decide)
  · exact convert_sticky _ _ _

/-- The flags of an exact product or sum, NV of an invalid one. -/
theorem mulVal_flags (a b : Val) : (mulVal a b).2 < 2 ^ 5 := by
  unfold mulVal
  split
  case h_4 | h_5 => split <;> simp [flagNV]
  all_goals simp

theorem sumVals_flags (vs : List Val) : (sumVals vs).2 < 2 ^ 5 := by
  unfold sumVals
  dsimp only
  split_ifs <;> simp [flagNV]

theorem toFp32_sticky (rm : Rm) {p : Val × Nat} (h : p.2 < 2 ^ 5) : (toFp32 rm p).sticky := lor_lt (fp32.ofVal_sticky rm p.1) h

theorem intResult_sticky (ty : Nat) (sat : Bool) (z : Int) : (intResult ty sat z).sticky := by
  have hof : ∀ b : Bool, (if b then flagOF else 0) < 2 ^ 5 := by decide
  unfold intResult
  dsimp only
  cases sat with
  | true => exact hof _
  | false => exact Rounded.sticky_mk _ (by decide)

theorem fp32Sticky_sticky (neg : Bool) (n : Nat) (e : Int) (left : Bool) : (fp32Sticky neg n e left).sticky := fp32.round_sticky _ _ _ _

theorem specLane_sticky (sub x : Nat) : (specLane sub x).sticky := by
  unfold specLane
  dsimp only
  repeat' split
  all_goals simp only [fp32Sticky_sticky, FloatFmt.round_sticky, Rounded.sticky_mk, toFp32_sticky, flagNV, flagOF, flagNX, flagUF, Nat.reduceAdd,
    Nat.reducePow, Nat.reduceLT]

theorem lane3_sticky (opc ty : Nat) (rm : Rm) (sat zs : Bool) (sub fmt x y z : Nat) : (lane3 opc ty rm sat zs sub fmt x y z).sticky := by
  have hint := intResult_sticky ty sat
  have hmul := mulVal_flags (fp32.decode x) (fp32.decode y)
  have hsum := fun p => toFp32_sticky rm (sumVals_flags p)
  have hfma : ∀ v vs, (toFp32 rm (v, Nat.lor (mulVal (fp32.decode x) (fp32.decode y)).2 (sumVals vs).2)).sticky := fun v vs =>
    toFp32_sticky rm (lor_lt hmul (sumVals_flags vs))
  have hzero : ∀ code, (⟨code, 0⟩ : Rounded).sticky := fun code => Rounded.sticky_mk code (by decide)
  unfold lane3
  dsimp only
  repeat' split
  all_goals simp only [hint, hmul, hsum, hfma, hzero, toFp32_sticky, cvtLane_sticky, specLane_sticky]

theorem redOp_sticky (ty sub x y : Nat) : (redOp ty sub x y).sticky := by
  unfold redOp
  split
  · exact lane3_sticky _ _ _ _ _ _ _ _ _ _
  all_goals exact Rounded.sticky_mk _ (by decide)

theorem redPass_flags (ty sub : Nat) : ∀ l, (redPass ty sub l).2 < 2 ^ 5
  | x :: y :: rest => lor_lt (redOp_sticky ty sub x y) (redPass_flags ty sub rest)
  | [_] => Nat.two_pow_pos 5
  | [] => Nat.two_pow_pos 5

theorem redPasses_flags (ty sub n : Nat) (l : List Nat) {fl : Nat} (h : fl < 2 ^ 5) : (redPasses ty sub n l fl).2 < 2 ^ 5 := by
  induction n generalizing l fl with
  | zero => exact h
  | succ n ih => exact ih _ (lor_lt h (redPass_flags ty sub l))

end Sys2Proof.Machine
end

section
/-! SUPPORT. Vector registers (O13 to O15): lanes, poison bits, the flags of a vector instruction, and the instruction as a whole. -/

namespace Sys2Proof.Machine

/-! ### Fields of FN and predicates -/

theorem fnBits_eq (o : VOp) (lo n : Nat) (hn : 0 < n) : o.fnBits (lo + n - 1) lo = fnField o lo n := by
  have hw : lo + n - 1 + 1 - lo = n := by omega
  rw [VOp.fnBits, bits, fnField, BitVec.extractLsb'_toNat, Nat.shiftRight_eq_div_pow, hw]

theorem bit_eq_testBit (n i : Nat) : bit n i = n.testBit i := by
  rw [bit, Nat.testBit_eq_decide_div_mod_eq]
  rfl

section
variable (x : Tile) (o : VOp)

theorem Tile.active_eq (l : Nat) : x.active o l = laneOn x o l := bit_eq_testBit _ _

theorem Tile.pr_lt (k : Nat) : x.pr k < 2 ^ 64 := by
  unfold Tile.pr
  split
  · decide
  · exact BitVec.isLt _

theorem Tile.allActive_iff : x.allActive o = true ↔ ∀ l < 64, laneOn x o l = true := by
  rw [Tile.allActive, beq_iff_eq]
  constructor
  · intro h l hl
    rw [laneOn, h, Nat.testBit_two_pow_sub_one, decide_eq_true hl]
  · intro h
    refine Nat.eq_of_testBit_eq fun l => ?_
    rw [Nat.testBit_two_pow_sub_one]
    by_cases hl : l < 64
    · rw [decide_eq_true hl]
      exact h l hl
    · rw [decide_eq_false hl]
      exact Nat.testBit_lt_two_pow ((x.pr_lt _).trans_le (Nat.pow_le_pow_right (by decide) (Nat.le_of_not_lt hl)))

/-- A lane is kept unless every lane is active. -/
theorem Tile.not_allActive : (!x.allActive o) = (List.range 64).any fun l => !laneOn x o l := by
  rw [Bool.eq_iff_iff, Bool.not_eq_true', ← Bool.not_eq_true, Tile.allActive_iff, List.any_eq_true]
  simp only [List.mem_range, not_forall, Bool.not_eq_true', Bool.not_eq_true, exists_prop]

end

/-! ### Lanes and poison bits -/

theorem Tile.lane_setLane (x : Tile) (n k : BitVec 5) {l j : Nat} (v : Nat) (hl : l < 64) (hj : j < 64) :
    (x.setLane n l v).lane k j = if k = n ∧ j = l then v % 2 ^ 32 else x.lane k j := by
  have hk : k.toNat * 64 + j = n.toNat * 64 + l ↔ k = n ∧ j = l := by
    rw [← BitVec.toNat_inj]
    omega
  by_cases h : k = n ∧ j = l
  · rw [if_pos h, h.1, h.2, Tile.lane, Tile.setLane, SMap.get_set_same, BitVec.toNat_ofNat]
  · rw [if_neg h, Tile.lane, Tile.lane, Tile.setLane, SMap.get_set_ne _ _ _ _ _ (fun he => h (hk.mp he))]

/-- Lanes below `n` of register `r` written with what `g` names. -/
def Tile.putLanes (x : Tile) (r : BitVec 5) (g : Nat → Option Nat) (n : Nat) : Tile :=
  (List.range n).foldl (fun a l => (g l).elim a (a.setLane r l)) x

section
variable (x : Tile) (r : BitVec 5) (g : Nat → Option Nat)

theorem Tile.putLanes_succ (n : Nat) : x.putLanes r g (n + 1) = (g n).elim (x.putLanes r g n) ((x.putLanes r g n).setLane r n) := by
  rw [Tile.putLanes, List.range_succ, List.foldl_append]
  rfl

theorem Tile.lane_putLanes {n : Nat} (hn : n ≤ 64) (k : BitVec 5) {j : Nat} (hj : j < 64) :
    (x.putLanes r g n).lane k j = if k = r ∧ j < n then (g j).elim (x.lane k j) (· % 2 ^ 32) else x.lane k j := by
  induction n with
  | zero => simp [Tile.putLanes]
  | succ n ih =>
    have ih := ih (by omega)
    rw [Tile.putLanes_succ]
    have hlt : j < n + 1 ↔ j < n ∨ j = n := by omega
    cases hg : g n with
    | none =>
      rw [Option.elim_none, ih]
      grind
    | some v =>
      rw [Option.elim_some, Tile.lane_setLane _ _ _ _ (by omega) hj, ih]
      grind

/-- Writing lanes touches no more of a tile than its vector registers. -/
theorem Tile.putLanes_frame (n : Nat) (w : SMap (BitVec 32)) : { x.putLanes r g n with v := w } = { x with v := w } := by
  refine foldl_keeps (fun a : Tile => { a with v := w } = { x with v := w }) _ (fun a l ha => ?_) _ x rfl
  cases g l with
  | none => exact ha
  | some v => exact ha

end

theorem bits_one (n i : Nat) : bits n i i = b2n (n.testBit i) := by
  rw [← bit_eq_testBit, bits, bit, Nat.add_sub_cancel_left]
  rcases Nat.mod_two_eq_zero_or_one (n / 2 ^ i) with h | h <;> simp [h, b2n]

theorem b2n_inj {p q : Bool} : b2n p = b2n q ↔ p = q := by cases p <;> cases q <;> decide

theorem Tile.vp_setVp (x : Tile) (n k : BitVec 5) (p : Bool) : (x.setVp n p).vp k = if k = n then p else x.vp k := by
  have hn := n.isLt
  have hk := k.isLt
  have hlt := putBits_lt x.vpois.toNat n.toNat n.toNat (b2n p) x.vpois.isLt (by omega) (by omega)
  rw [← b2n_inj, Tile.vp, Tile.setVp, BitVec.getLsbD, BitVec.toNat_ofNat, Nat.mod_eq_of_lt hlt, ← bits_one]
  rcases Nat.lt_trichotomy k.toNat n.toNat with h | h | h
  · rw [bits_putBits_below _ _ _ _ _ _ h, bits_one, if_neg (fun he => by rw [he] at h; exact Nat.lt_irrefl _ h)]
    rfl
  · rw [if_pos (BitVec.eq_of_toNat_eq h), h, bits_putBits_same, Nat.add_sub_cancel_left]
    cases p <;> rfl
  · rw [bits_putBits_above _ _ _ _ _ _ h (by omega), bits_one, if_neg (fun he => by rw [he] at h; exact Nat.lt_irrefl _ h)]
    rfl

/-- What a vector instruction writes in each lane of v[A], if it writes one (R173). -/
def laneWrite (x : Tile) (o : VOp) (f : Nat → Nat) (l : Nat) : Option Nat :=
  if laneOn x o l then some (f l) else if o.pm = 1 then some 0 else none

theorem Tile.writeLanes_eq (x : Tile) (o : VOp) (f : Nat → Nat) : x.writeLanes o f = x.putLanes o.a (laneWrite x o f) 64 := by
  unfold Tile.writeLanes Tile.putLanes
  congr 1
  funext a l
  rw [Tile.active_eq, laneWrite]
  split
  · rfl
  · split <;> rfl

/-- A vector register after a vector instruction wrote it: its lanes and poison bits (R165, R173). -/
theorem Tile.writeLanes_spec (x : Tile) (o : VOp) (f : Nat → Nat) (src : Bool) :
    let y := (x.writeLanes o f).destPoison o src
    (∀ l < 64, y.lane o.a l = if laneOn x o l then f l % 2 ^ 32 else if o.pm = 1 then 0 else x.lane o.a l) ∧
      (∀ k, k ≠ o.a → (y.vp k = x.vp k ∧ ∀ l < 64, y.lane k l = x.lane k l)) ∧
      y.vp o.a = (src || (x.vp o.a && o.pm == 0 && (List.range 64).any fun l => !laneOn x o l)) ∧
      { y with v := x.v, vpois := x.vpois } = x := by
  intro y
  have hframe : ∀ w, { x.writeLanes o f with v := w } = { x with v := w } := fun w => by
    rw [Tile.writeLanes_eq]
    exact Tile.putLanes_frame x o.a _ 64 w
  have hvp : ∀ k, (x.writeLanes o f).vp k = x.vp k := fun k => (congrArg (fun z : Tile => z.vp k) (hframe x.v) :)
  have hall : (x.writeLanes o f).allActive o = x.allActive o := (congrArg (fun z : Tile => z.allActive o) (hframe x.v) :)
  have hy : ∀ k l, y.lane k l = (x.writeLanes o f).lane k l := fun _ _ => rfl
  have hyp : ∀ k, y.vp k = if k = o.a then (src || (x.vp o.a && o.pm == 0 && !x.allActive o)) else x.vp k := fun k => by
    rw [← hall, ← hvp o.a, ← hvp k]
    exact Tile.vp_setVp _ _ _ _
  refine ⟨fun l hl => ?_, fun k hk => ⟨?_, fun l hl => ?_⟩, ?_, (congrArg (fun z : Tile => { z with vpois := x.vpois }) (hframe x.v) :)⟩
  · rw [hy, Tile.writeLanes_eq, Tile.lane_putLanes _ _ _ (Nat.le_refl 64) _ hl, if_pos ⟨rfl, hl⟩, laneWrite]
    split
    · rfl
    · split <;> rfl
  · rw [hyp, if_neg hk]
  · rw [hy, Tile.writeLanes_eq, Tile.lane_putLanes _ _ _ (Nat.le_refl 64) _ hl, if_neg (fun h => hk h.1)]
  · rw [hyp, if_pos rfl, Tile.not_allActive]

/-! ### An instruction of the vector unit -/

theorem tileFlags_perTile : Reg.TILE_FLAGS.perTile 0x18 := ⟨rfl, rfl, rfl, rfl⟩

/-- Tile `n` has become `x` and `fl` joined its TILE_FLAGS; no other tile, no register but those PRF counts in, and nothing else has changed. -/
structure Flagged (n : Nat) (x : Tile) (fl : Nat) (s t : State) : Prop where
  tile : t.tile n = x
  others : ∀ u, u ≠ n → t.tile u = s.tile u
  flags : t.rr .TILE_FLAGS n = s.rr .TILE_FLAGS n ||| fl
  regs : RegsKeptPrf [(.TILE_FLAGS, n)] s t
  frame : { t with regs := s.regs, prf := s.prf, tiles := s.tiles } = s

section
variable {n : Nat} {x : Tile} {fl : Nat} {s t u : State}

theorem PrfOnly.flagged (h : PrfOnly s t) : Flagged n (s.tile n) 0 s t :=
  ⟨h.tile n, fun u _ => h.tile u, (h.2 _ _ (tileFlags_perTile.not_prf n)).trans (Nat.or_zero _).symm, SameRegs.kept h.2,
    h.frame (fun z => { z with regs := s.regs, prf := s.prf, tiles := s.tiles }) fun _ _ _ => rfl⟩

theorem Flagged.count (h : Flagged n x fl s t) (hu : PrfOnly t u) : Flagged n x fl s u :=
  ⟨(hu.tile n).trans h.tile, fun v hv => (hu.tile v).trans (h.others v hv), (hu.2 _ _ (tileFlags_perTile.not_prf n)).trans h.flags,
    h.regs.count hu.2, (hu.frame (fun z => { z with regs := s.regs, prf := s.prf, tiles := s.tiles }) fun _ _ _ => rfl).trans h.frame⟩

theorem Flagged.setTile (h : Flagged n x fl s t) (y : Tile) : Flagged n y fl s (t.setTile n y) :=
  ⟨State.tile_setTile_same t n y, fun v hv => (State.tile_setTile_ne t n v y hv).trans (h.others v hv), h.flags, h.regs, h.frame⟩

theorem Flagged.setFlags (h : Flagged n x fl s t) {f : Nat} (hf : f < 2 ^ 32) : Flagged n x (fl ||| f) s (t.setFlags n f) := by
  refine ⟨h.tile, h.others, ?_, h.regs.wr .TILE_FLAGS n _ (List.mem_singleton.mpr rfl), h.frame⟩
  rw [State.setFlags, State.rr_wr_same, Nat.mod_eq_of_lt (lor_lt (t.rr_lt _ _) hf), h.flags, ← Nat.or_assoc]
  rfl

theorem Flagged.retire (h : Flagged n x fl s t) (hn : n < 768) :
    Flagged n { x with pc := x.pc + 8, stalled := false } fl s (t.retire n) := by
  unfold State.retire State.retireTo
  dsimp only
  rw [h.tile, pc_add_eight]
  exact (h.setTile _).count (.tileEvent _ _ _ _ hn)

end

/-- The flags of the active lanes (R226). -/
def laneFlags (x : Tile) (o : VOp) (f : Nat → Rounded) : Nat := ((List.range 64).filter (laneOn x o)).foldl (fun a l => a ||| (f l).flags) 0

theorem laneFlags_lt (x : Tile) (o : VOp) (f : Nat → Rounded) (hf : ∀ l, (f l).sticky) : laneFlags x o f < 2 ^ 32 := by
  refine foldl_keeps (· < 2 ^ 32) _ (fun a l ha => ?_) _ 0 (by decide)
  exact lor_lt ha ((hf l).trans_le (by decide))

theorem laneFlags_eq (x : Tile) (o : VOp) (f : Nat → Rounded) :
    (List.range 64).foldl (fun a l => if x.active o l then Nat.lor a (f l).flags else a) 0 = laneFlags x o f := by
  rw [laneFlags, List.foldl_filter]
  simp only [Tile.active_eq]
  rfl

/-- The vector write of an instruction: lanes, poison bits and flags. -/
theorem Flagged.vectorWrite {n : Nat} {x : Tile} {s t : State} {o : VOp} {f : Nat → Rounded} (h : Flagged n x 0 s t) (hn : n < 768)
    (hf : ∀ l, (f l).sticky) (src : Bool) :
    Flagged n ((x.writeLanes o fun l => (f l).code).destPoison o src) (laneFlags x o f) s (t.vectorWrite n o src f) := by
  unfold State.vectorWrite
  dsimp only
  rw [h.tile, laneFlags_eq]
  have hw := ((h.setTile ((x.writeLanes o fun l => (f l).code).destPoison o src)).setFlags (laneFlags_lt x o f hf))
  rw [Nat.zero_or] at hw
  exact (hw.count (.tileEvent _ _ _ _ hn)).count (.tileEvent _ _ _ _ hn)

/-- A tile whose vector register a vector instruction wrote. -/
def Tile.vectorTile (x : Tile) (o : VOp) (src : Bool) (f : Nat → Rounded) : Tile := (x.writeLanes o fun l => (f l).code).destPoison o src

/-- A vector instruction that has ended, from its tile and its flags. -/
theorem Flagged.wroteV {n : Nat} {s t : State} {o : VOp} {f : Nat → Rounded} {src : Bool} {gen : BitVec 64}
    (h : Flagged n { (s.tile n).vectorTile o src f with pc := (s.tile n).pc + 8, stalled := false, gen := gen } (laneFlags (s.tile n) o f) s t) :
    WroteV n s t o src gen f := by
  obtain ⟨hlanes, hothers, hpois, hframe⟩ := Tile.writeLanes_spec (s.tile n) o (fun l => (f l).code) src
  unfold WroteV
  dsimp only
  rw [h.tile]
  refine ⟨hlanes, hothers, hpois, ?_, h.flags, h.regs, h.others, h.frame⟩
  exact (congrArg (fun z : Tile => { z with pc := (s.tile n).pc + 8, stalled := false, gen := gen }) hframe :)

theorem Tile.vectorTile_pc (x : Tile) (o : VOp) (src : Bool) (f : Nat → Rounded) : (x.vectorTile o src f).pc = x.pc :=
  (congrArg Tile.pc (x.writeLanes_spec o (fun l => (f l).code) src).2.2.2 :)

theorem Tile.vectorTile_gen (x : Tile) (o : VOp) (src : Bool) (f : Nat → Rounded) : (x.vectorTile o src f).gen = x.gen :=
  (congrArg Tile.gen (x.writeLanes_spec o (fun l => (f l).code) src).2.2.2 :)

/-- A vector register written, and the instruction done. -/
theorem vectorWrite_wroteV {s u : State} {n : Nat} {o : VOp} {src : Bool} {f : Nat → Rounded} (hu : PrfOnly s u) (hn : n < 768)
    (hf : ∀ l, (f l).sticky) : WroteV n s ((u.vectorWrite n o src f).retire n) o src (s.tile n).gen f := by
  have hend := ((hu.flagged (n := n)).vectorWrite hn (o := o) hf src).retire hn
  apply Flagged.wroteV
  rw [← Tile.vectorTile_pc (s.tile n) o src f, ← Tile.vectorTile_gen (s.tile n) o src f]
  exact hend

/-- A vector register written, the generator set, and the instruction done. -/
theorem vectorWrite_gen_wroteV {s u : State} {n : Nat} {o : VOp} {src : Bool} {f : Nat → Rounded} {gen : BitVec 64} (hu : PrfOnly s u)
    (hn : n < 768) (hf : ∀ l, (f l).sticky) :
    WroteV n s (((u.vectorWrite n o src f).setTile n { (u.vectorWrite n o src f).tile n with gen := gen }).retire n) o src gen f := by
  have hw := (hu.flagged (n := n)).vectorWrite hn (o := o) hf src
  have hend := (hw.setTile { (u.vectorWrite n o src f).tile n with gen := gen }).retire hn
  apply Flagged.wroteV
  rw [← Tile.vectorTile_pc (s.tile n) o src f]
  rw [hw.tile] at hend ⊢
  exact hend

/-! ### Lane-wise arithmetic (R173, R174) -/

theorem genSkip_word (g : BitVec 64) (n : Nat) : BitVec.ofNat 64 (genSkip g.toNat n) = g + BitVec.ofNat 64 (n * 0x9E3779B97F4A7C15) := by
  apply BitVec.eq_of_toNat_eq
  rw [genSkip, BitVec.toNat_ofNat, BitVec.toNat_add, BitVec.toNat_ofNat, Nat.mod_mod, Nat.add_mod_mod]

section
variable (o : VOp)

theorem VOp.ty_eq : o.ty = fnField o 28 4 := fnBits_eq o 28 4 (by decide)
theorem VOp.rmField_eq : o.rmField = fnField o 26 2 := fnBits_eq o 26 2 (by decide)
theorem VOp.sat_eq : o.sat = (fnField o 25 1 == 1) := congrArg (· == 1) (fnBits_eq o 25 1 (by decide))
theorem VOp.zs_eq : o.zs = (fnField o 24 1 == 1) := congrArg (· == 1) (fnBits_eq o 24 1 (by decide))
theorem VOp.sub_eq : o.sub = fnField o 20 4 := fnBits_eq o 20 4 (by decide)
theorem VOp.src_eq : o.src = fnField o 16 4 := fnBits_eq o 16 4 (by decide)

end

/-- The conditions on FN that all of class 0x3 share (R173). -/
structure Fn3 (o : VOp) : Prop where
  ty : fnField o 28 4 ≤ 2
  rm : fnField o 26 2 ≤ 1
  sat : fnField o 25 1 = 1 → fnField o 28 4 ≠ 0
  low : fnField o 0 16 = 0

theorem Fn3.legal {o : VOp} (h : Fn3 o) {zs src : Bool} (hz : zs = true ∨ fnField o 24 1 = 0) (hs : src = true ∨ fnField o 16 4 = 0) :
    o.fn3Legal zs src = true := by
  obtain ⟨hty, hrm, hsat, hlow⟩ := h
  have hlow' : o.fnBits 15 0 = 0 := (fnBits_eq o 0 16 (by decide)).trans hlow
  have hsat' : (!o.sat || o.ty != 0) = true := by
    rw [VOp.sat_eq, VOp.ty_eq]
    by_cases h1 : fnField o 25 1 = 1
    · simp [hsat h1]
    · simp [h1]
  have hz' : (zs || !o.zs) = true := by
    rw [VOp.zs_eq]
    rcases hz with rfl | hz
    · rfl
    · simp [hz]
  have hs' : (src || o.src == 0) = true := by
    rw [VOp.src_eq]
    rcases hs with rfl | hs
    · rfl
    · simp [hs]
  simp only [VOp.fn3Legal, VOp.ty_eq, VOp.rmField_eq] at *
  simp [hty, hrm, hsat', hz', hs', hlow']

/-- A class 0x3 instruction that computes its lanes with `lane3`. -/
theorem vector3_wroteV {s : State} {t : Fin 768} {o : VOp} {opc : Nat} {legal draws useC useD : Bool} (hx : Executes s t)
    (hl : legal = true) (hc : useC = true ∨ o.c = 0) (hd : useD = true ∨ o.d = 0) :
    let x := s.tile t
    let stoch := draws && fnField o 26 2 == 1
    let rm (l : Nat) : Rm := if stoch then .sr (genValue x.gen.toNat l) else .rne
    Gives (s.vector3 t opc o legal draws useC useD) (WroteV t s · o (x.vp o.b || (useC && x.vp o.c) || (useD && x.vp o.d))
      (if stoch then x.gen + BitVec.ofNat 64 (16 * 0x9E3779B97F4A7C15) else x.gen) (fun l =>
        lane3 opc (fnField o 28 4) (rm l) (fnField o 25 1 == 1) (fnField o 24 1 == 1) (fnField o 20 4) (fnField o 16 4)
          (x.lane o.b l) (x.lane o.c l) (x.lane o.d l))) := by
  have hu : (o.unusedZero true true useC useD true true && legal) = true := by
    rcases hc with rfl | hc <;> rcases hd with rfl | hd <;> simp [VOp.unusedZero, *]
  intro x stoch rm
  have hgen : ∀ y : BitVec 64, y = x.gen → (if stoch then BitVec.ofNat 64 (genSkip x.gen.toNat 16) else y) =
      if stoch then x.gen + BitVec.ofNat 64 (16 * 0x9E3779B97F4A7C15) else x.gen := fun y hy => by rw [genSkip_word, hy]
  unfold State.vector3
  refine issueSeq_gives hx hu no_causes rfl fun u hprf => ?_
  dsimp only
  rw [hprf.tile, VOp.ty_eq, VOp.rmField_eq, VOp.sat_eq, VOp.zs_eq, VOp.sub_eq, VOp.src_eq, hgen]
  · exact vectorWrite_gen_wroteV hprf t.isLt (f := fun l => lane3 opc (fnField o 28 4) (rm l) (fnField o 25 1 == 1) (fnField o 24 1 == 1)
      (fnField o 20 4) (fnField o 16 4) (x.lane o.b l) (x.lane o.c l) (x.lane o.d l)) (fun l => lane3_sticky _ _ _ _ _ _ _ _ _ _)
  · exact (congrArg Tile.gen ((hprf.flagged (n := t)).vectorWrite t.isLt (fun l => lane3_sticky _ _ _ _ _ _ _ _ _ _) _).tile).trans
      (Tile.vectorTile_gen _ _ _ _)

theorem vectorLanes : VectorLanes := by
  intro s t o hx hty hrm hsat hlow r hr hlegal hc hd
  have h3 : Fn3 o := ⟨hty, hrm, hsat, hlow⟩
  have hplain : (fnField o 24 1 == 0 && fnField o 20 4 == 0 && fnField o 16 4 == 0) = true →
      (o.fn3Legal false false && o.sub == 0) = true := fun h => by
    simp only [Bool.and_eq_true, beq_iff_eq] at h
    obtain ⟨⟨hz, hsub⟩, hsrc⟩ := h
    rw [h3.legal (.inr hz) (.inr hsrc), VOp.sub_eq, hsub]
    rfl
  have hskip : (fnField o 20 4 == 0 && fnField o 16 4 == 0) = true → (o.fn3Legal true false && o.sub == 0) = true := fun h => by
    simp only [Bool.and_eq_true, beq_iff_eq] at h
    obtain ⟨hsub, hsrc⟩ := h
    rw [h3.legal (.inl rfl) (.inr hsrc), VOp.sub_eq, hsub]
    rfl
  have hbits : (fnField o 24 1 == 0 && fnField o 20 4 == 0 && fnField o 16 4 == 0 && fnField o 28 4 != 0) = true →
      (o.fn3Legal false false && o.sub == 0 && o.ty != 0) = true := fun h => by
    rw [Bool.and_eq_true] at h ⊢
    exact ⟨hplain h.1, by rw [VOp.ty_eq]; exact h.2⟩
  simp only [vecRows, List.mem_cons, List.not_mem_nil, or_false] at hr
  obtain rfl | rfl | rfl | rfl | rfl | rfl | rfl | rfl | rfl | rfl | rfl | rfl := hr
  · show Gives (s.vector3 t 0 o _ (o.ty == 0) true false) _
    rw [VOp.ty_eq]
    exact vector3_wroteV hx (hplain hlegal) hc hd
  · show Gives (s.vector3 t 1 o _ (o.ty == 0) true false) _
    rw [VOp.ty_eq]
    exact vector3_wroteV hx (hplain hlegal) hc hd
  · show Gives (s.vector3 t 2 o _ (o.ty == 0) true false) _
    rw [VOp.ty_eq]
    exact vector3_wroteV hx (hskip hlegal) hc hd
  · show Gives (s.vector3 t 3 o _ (o.ty == 0) true true) _
    rw [VOp.ty_eq]
    exact vector3_wroteV hx (hskip hlegal) hc hd
  · exact vector3_wroteV hx (hplain hlegal) hc hd
  · exact vector3_wroteV hx (hplain hlegal) hc hd
  · exact vector3_wroteV hx (hbits hlegal) hc hd
  · exact vector3_wroteV hx (hbits hlegal) hc hd
  · exact vector3_wroteV hx (hbits hlegal) hc hd
  · refine vector3_wroteV hx ?_ hc hd
    simp only [Bool.and_eq_true, beq_iff_eq, decide_eq_true_eq] at hlegal
    obtain ⟨⟨⟨hz, hsub⟩, hsrc⟩, ht⟩ := hlegal
    rw [h3.legal (.inr hz) (.inr hsrc), VOp.sub_eq, VOp.ty_eq, decide_eq_true (Nat.le_of_lt_succ hsub), ht]
    rfl
  · refine vector3_wroteV hx ?_ hc hd
    simp only [Bool.and_eq_true, beq_iff_eq] at hlegal
    obtain ⟨⟨⟨hz, ht⟩, hsub⟩, hsrc⟩ := hlegal
    rw [h3.legal (.inr hz) (.inl rfl), VOp.sub_eq, VOp.src_eq, VOp.ty_eq, ht, cvtFormat, cvtFormat, hsub, hsrc]
    rfl
  · refine vector3_wroteV hx ?_ hc hd
    simp only [Bool.and_eq_true, beq_iff_eq, decide_eq_true_eq] at hlegal
    obtain ⟨⟨⟨⟨hz, ht⟩, hsub⟩, hr0⟩, hsrc⟩ := hlegal
    rw [h3.legal (.inr hz) (.inr hsrc), VOp.sub_eq, VOp.rmField_eq, VOp.ty_eq, decide_eq_true (Nat.le_of_lt_succ hsub), ht, hr0]
    rfl

/-- Settles O13: each lane is what `lane3` gives it, and the integer lanes are those of the rules. -/
theorem vectorArithmetic : Obligations.VectorArithmetic := ⟨vectorLanes, vectorIntegerLanes⟩

end Sys2Proof.Machine
end

section
/-! SUPPORT. Comparisons, selections, reductions, lane moves and predicates (O14). -/

namespace Sys2Proof.Machine

/-! ### Predicates as numbers -/

theorem popCount_eq (w n : Nat) : popCount w n = ((List.range w).filter n.testBit).length := by
  induction w generalizing n with
  | zero => rfl
  | succ w ih =>
    have hmod : n % 2 = if n.testBit 0 then 1 else 0 := by
      rw [Nat.testBit_zero]
      rcases Nat.mod_two_eq_zero_or_one n with h | h <;> simp [h]
    have hshift : (n.testBit ∘ Nat.succ) = (n / 2).testBit := funext fun i => Nat.testBit_succ n i
    rw [popCount, ih, List.range_succ_eq_map, List.filter_cons, List.filter_map, hshift, hmod]
    split
    · rw [List.length_cons, List.length_map, Nat.add_comm]
    · rw [List.length_map, Nat.zero_add]

/-- The number whose bits are the places at which `p` holds. -/
theorem foldl_bits (p : Nat → Bool) (l : List Nat) (a : Nat) :
    l.foldl (fun a i => if p i then a + 2 ^ i else a) a = a + ((l.filter p).map (2 ^ ·)).sum := by
  induction l generalizing a with
  | nil => rfl
  | cons i l ih =>
    rw [List.foldl_cons, ih, List.filter_cons]
    split
    · rw [List.map_cons, List.sum_cons, Nat.add_assoc]
    · rfl

theorem sum_bits_lt (p : Nat → Bool) (n : Nat) : (((List.range n).filter p).map (2 ^ ·)).sum < 2 ^ n := by
  induction n with
  | zero => exact Nat.one_pos
  | succ n ih =>
    rw [List.range_succ, List.filter_append, List.map_append, List.sum_append, Nat.pow_succ]
    rw [List.filter_cons]
    split <;> simp <;> omega

theorem Tile.pr_of_ne (x : Tile) {j : Nat} (hj : j ≠ 0) : x.pr j = (SMap.get (fun _ => 0#64) x.p j).toNat := if_neg hj

theorem Tile.pr_setP (x : Tile) {k j : Nat} {v : Nat} (hv : v < 2 ^ 64) : (x.setP k v).pr j = if j = k ∧ j ≠ 0 then v else x.pr j := by
  by_cases hj : j = 0
  · rw [if_neg (fun h => h.2 hj), hj]
    rfl
  · rw [Tile.pr_of_ne _ hj, Tile.pr_of_ne _ hj, Tile.setP]
    by_cases hk : k = 0
    · rw [if_pos hk, if_neg (fun h => hj (h.1.trans hk))]
    · rw [if_neg hk, SMap.get_set]
      by_cases h : j = k
      · rw [if_pos h, if_pos ⟨h, hj⟩, BitVec.toNat_ofNat, Nat.mod_eq_of_lt hv]
      · rw [if_neg h, if_neg (fun he => h he.1)]

/-! ### Instructions that touch their tile alone -/

/-- Tile `n` has become `x`; nothing else has changed but what PRF counts. -/
def Became (n : Nat) (x : Tile) (s t : State) : Prop := TileOnly n s t ∧ t.tile n = x

section
variable {n : Nat} {x : Tile} {s t u : State}

theorem PrfOnly.became (h : PrfOnly s t) : Became n (s.tile n) s t := ⟨.of_prf n h, h.tile n⟩
theorem Became.count (h : Became n x s t) (hu : PrfOnly t u) : Became n x s u := ⟨h.1.trans (.of_prf n hu), (hu.tile n).trans h.2⟩
theorem Became.setTile (h : Became n x s t) (y : Tile) : Became n y s (t.setTile n y) :=
  ⟨h.1.trans (.setTile t n y), State.tile_setTile_same t n y⟩

theorem Became.retire (h : Became n x s t) (hn : n < 768) : Became n { x with pc := x.pc + 8, stalled := false } s (t.retire n) := by
  unfold State.retire State.retireTo
  dsimp only
  rw [h.2, pc_add_eight]
  exact (h.setTile _).count (.tileEvent _ _ _ _ hn)

/-- p[`k`] written, and the instruction done. -/
theorem Became.wroteP {k v : Nat} (hv : v < 2 ^ 64)
    (h : Became n { (s.tile n).setP k v with pc := ((s.tile n).setP k v).pc + 8, stalled := false } s t) : WroteP n s t k v := by
  have hp : ∀ j, (t.tile n).pr j = ((s.tile n).setP k v).pr j := fun j => by rw [h.2]; rfl
  have hframe : ∀ w, { (s.tile n).setP k v with p := w } = { s.tile n with p := w } := fun w => by
    unfold Tile.setP
    split <;> rfl
  refine ⟨h.1, fun j _ => (hp j).trans (Tile.pr_setP _ hv), ?_⟩
  rw [h.2]
  exact (congrArg (fun z : Tile => { z with pc := z.pc + 8, stalled := false }) (hframe (s.tile n).p) :)

end

section
variable {s : State} {t : Fin 768} {o : VOp}

/-- An instruction whose one result is a predicate register. -/
theorem setP_wroteP {u : State} (hu : PrfOnly s u) {k v : Nat} (hv : v < 2 ^ 64) :
    WroteP t s ((u.setTile t ((s.tile t).setP k v)).retire t) k v :=
  ((hu.became.setTile _).retire t.isLt).wroteP hv

/-! ### Class 0x3 (R174, R175) -/

theorem vCmp_wroteP (hx : Executes s t) (h3 : Fn3 o) (hz : fnField o 24 1 = 0) (hs : fnField o 16 4 = 0) (hd : o.d = 0)
    (ha : o.a.toNat ≤ 7) (hsub : fnField o 20 4 ≤ 4) (hty : fnField o 20 4 = 4 → fnField o 28 4 = 0) (hb : (s.tile t).vp o.b = false)
    (hc : (s.tile t).vp o.c = false) :
    Gives (exec (.vCmp t o) s) fun s' => WroteP t s s' o.a.toNat
      (((List.range 64).filter fun l => laneOn (s.tile t) o l && cmpLane (fnField o 28 4) (fnField o 20 4) ((s.tile t).lane o.b l)
        ((s.tile t).lane o.c l)).map (2 ^ ·)).sum := by
  have hu : (o.unusedZero true true true false true true && o.fn3Legal false false && decide (o.a.toNat ≤ 7) && decide (o.sub ≤ 4) &&
      (o.sub != 4 || o.ty == 0)) = true := by
    rw [h3.legal (.inr hz) (.inr hs), VOp.sub_eq, VOp.ty_eq]
    by_cases h4 : fnField o 20 4 = 4
    · simp [VOp.unusedZero, hd, ha, hty h4, h4]
    · simp [VOp.unusedZero, hd, ha, hsub, h4]
  show Gives (execVCmp t o s) _
  unfold execVCmp
  refine issueSeq_gives hx hu no_causes rfl fun u hprf => ?_
  have hpois : ∀ p, p = false → u.poisonSeen t p = u := fun p hp => by rw [hp]; rfl
  dsimp only
  rw [hprf.tile, hpois _ (by rw [hb, hc]; rfl), foldl_bits, Nat.zero_add, VOp.ty_eq, VOp.sub_eq, hprf.tile]
  simp only [Tile.active_eq]
  exact (((hprf.became.setTile _).count (.tileEvent _ _ _ _ t.isLt)).retire t.isLt).wroteP (sum_bits_lt _ 64)

theorem vSel_wroteV (hx : Executes s t) (h3 : Fn3 o) (hz : fnField o 24 1 = 0) (hs : fnField o 16 4 = 0) (hd : o.d.toNat ≤ 7)
    (hsub : fnField o 20 4 = 0) :
    Gives (exec (.vSel t o) s) (WroteV t s · o ((s.tile t).vp o.b || (s.tile t).vp o.c) (s.tile t).gen fun l =>
      ⟨if ((s.tile t).pr o.d.toNat).testBit l then (s.tile t).lane o.b l else (s.tile t).lane o.c l, 0⟩) := by
  have hu : (o.unusedZero true true true true true true && o.fn3Legal false false && o.sub == 0 && decide (o.d.toNat ≤ 7)) = true := by
    rw [h3.legal (.inr hz) (.inr hs), VOp.sub_eq, hsub, decide_eq_true hd]
    rfl
  show Gives (execVSel t o s) _
  unfold execVSel
  refine issueSeq_gives hx hu no_causes rfl fun u hprf => ?_
  dsimp only
  rw [hprf.tile]
  simp only [bit_eq_testBit]
  exact vectorWrite_wroteV hprf t.isLt fun l => Rounded.sticky_mk _ (by decide)

/-- A tile whose vector register took a reduction: lane 0 holds it, the others 0 (R175). -/
def Tile.redTile (x : Tile) (o : VOp) (v : Nat) : Tile :=
  (x.putLanes o.a (fun l => some (if l = 0 then v else 0)) 64).setVp o.a (x.vp o.b)

theorem Tile.lane_setVp (x : Tile) (n k : BitVec 5) (p : Bool) (l : Nat) : (x.setVp n p).lane k l = x.lane k l := rfl
theorem Tile.pc_setVp (x : Tile) (n : BitVec 5) (p : Bool) : (x.setVp n p).pc = x.pc := rfl

theorem Tile.redTile_spec (x : Tile) (o : VOp) (v : Nat) :
    (∀ l < 64, (x.redTile o v).lane o.a l = if l = 0 then v % 2 ^ 32 else 0) ∧ (x.redTile o v).vp o.a = x.vp o.b ∧
      (∀ k, k ≠ o.a → ((x.redTile o v).vp k = x.vp k ∧ ∀ l < 64, (x.redTile o v).lane k l = x.lane k l)) ∧
      { x.redTile o v with v := x.v, vpois := x.vpois } = x ∧ (x.redTile o v).pc = x.pc := by
  have hframe := Tile.putLanes_frame x o.a (fun l => some (if l = 0 then v else 0)) 64 x.v
  have hlane := fun k l hl => Tile.lane_putLanes x o.a (fun l => some (if l = 0 then v else 0)) (Nat.le_refl 64) k (j := l) hl
  unfold Tile.redTile
  generalize x.putLanes o.a (fun l => some (if l = 0 then v else 0)) 64 = y at *
  have hvp : ∀ k, y.vp k = x.vp k := fun k => (congrArg (fun z : Tile => z.vp k) hframe :)
  simp only [Tile.vp_setVp, Tile.lane_setVp, Tile.pc_setVp]
  refine ⟨fun l hl => ?_, if_pos trivial, fun k hk => ⟨(if_neg hk).trans (hvp k), fun l hl => ?_⟩,
    (congrArg (fun z : Tile => { z with vpois := x.vpois }) hframe :), (congrArg Tile.pc hframe :)⟩
  · rw [hlane _ _ hl, if_pos ⟨rfl, hl⟩]
    by_cases h0 : l = 0 <;> simp [h0]
  · rw [hlane _ _ hl, if_neg (fun h => hk h.1)]

theorem Tile.redTile_eq (x : Tile) (o : VOp) (v : Nat) :
    ((List.range 64).foldl (fun a l => a.setLane o.a l (if l = 0 then v else 0)) x).setVp o.a (x.vp o.b) = x.redTile o v := by
  rw [Tile.redTile, Tile.putLanes]
  simp only [Option.elim_some]

theorem vRed_wrote (hx : Executes s t) (h3 : Fn3 o) (hz : fnField o 24 1 = 0) (hs : fnField o 16 4 = 0) (hc : o.c = 0) (hd : o.d = 0)
    (hsub : fnField o 20 4 ≤ 2) (hrm : fnField o 26 2 = 0) :
    let x := s.tile t
    let r := reduce (fnField o 28 4) (fnField o 20 4)
      ((List.range 64).map fun l => if laneOn x o l then x.lane o.b l else redIdentity (fnField o 28 4) (fnField o 20 4))
    Gives (exec (.vRed t o) s) fun s' =>
      (∀ l < 64, (s'.tile t).lane o.a l = if l = 0 then r.1 % 2 ^ 32 else 0) ∧ (s'.tile t).vp o.a = x.vp o.b ∧
        (∀ k, k ≠ o.a → ((s'.tile t).vp k = x.vp k ∧ ∀ l < 64, (s'.tile t).lane k l = x.lane k l)) ∧
        s'.rr .TILE_FLAGS t = s.rr .TILE_FLAGS t ||| r.2 ∧ RegsKeptPrf [(.TILE_FLAGS, t)] s s' ∧
        { s'.tile t with v := x.v, vpois := x.vpois } = { x with pc := x.pc + 8, stalled := false } ∧
        (∀ u, u ≠ t.val → s'.tile u = s.tile u) ∧ { s' with regs := s.regs, prf := s.prf, tiles := s.tiles } = s := by
  intro x r
  have hu : (o.unusedZero true true false false true true && o.fn3Legal false false && decide (o.sub ≤ 2) && o.rmField == 0) = true := by
    rw [h3.legal (.inr hz) (.inr hs), VOp.sub_eq, VOp.rmField_eq, hrm, decide_eq_true hsub]
    simp [VOp.unusedZero, hc, hd]
  have hflags : r.2 < 2 ^ 32 := (redPasses_flags _ _ 6 _ (by decide)).trans_le (by decide)
  show Gives (execVRed t o s) _
  unfold execVRed
  refine issueSeq_gives hx hu no_causes rfl fun u hprf => ?_
  dsimp only
  rw [hprf.tile, VOp.ty_eq, VOp.sub_eq]
  simp only [Tile.active_eq]
  rw [Tile.redTile_eq]
  have hend := ((((hprf.flagged (n := t)).setTile (x.redTile o r.1)).setFlags hflags).count (.tileEvent _ t 0x04 (x.activeCount o) t.isLt)).retire
    t.isLt
  obtain ⟨hlanes, hpois, hothers, hframe, hpc⟩ := x.redTile_spec o r.1
  rw [Nat.zero_or] at hend
  generalize x.redTile o r.1 = y at *
  generalize (((u.setTile t y).setFlags t r.2).tileEvent t 0x04 (x.activeCount o)).retire t = w at *
  rw [hend.tile]
  refine ⟨hlanes, hpois, hothers, hend.flags, hend.regs, ?_, hend.others, hend.frame⟩
  rw [hpc]
  exact (congrArg (fun z : Tile => { z with pc := x.pc + 8, stalled := false }) hframe :)

/-! ### Lane moves and predicates (R177) -/

theorem fnField_split {o : VOp} (h : fnField o 0 20 = 0) : fnField o 0 16 = 0 ∧ fnField o 16 4 = 0 := by
  simp only [fnField, BitVec.extractLsb'_toNat, Nat.shiftRight_eq_div_pow] at *
  omega

/-- Only the low 32 bits of a lane's value are written. -/
theorem WroteV.congr {n : Nat} {s t : State} {src : Bool} {gen : BitVec 64} {f f' : Nat → Rounded} (h : WroteV n s t o src gen f)
    (hcode : ∀ l, (f l).code % 2 ^ 32 = (f' l).code % 2 ^ 32) (hflags : ∀ l, (f l).flags = (f' l).flags) : WroteV n s t o src gen f' := by
  unfold WroteV at *
  simpa only [hcode, hflags] using h

theorem vBcast_wroteV (hx : Executes s t) (hc : o.c = 0) (hd : o.d = 0) (hfn : o.fn = 0) :
    Gives (exec (.vBcast t o) s) (WroteV t s · o false (s.tile t).gen fun _ => ⟨((s.tile t).greg o.b).toNat, 0⟩) := by
  have hu : o.unusedZero true true false false true false = true := by simp [VOp.unusedZero, hc, hd, hfn]
  show Gives (execVBcast t o s) _
  unfold execVBcast
  refine issueSeq_gives hx hu no_causes rfl fun u hprf => ?_
  dsimp only
  rw [hprf.tile, ← greg_toNat]
  exact (vectorWrite_wroteV hprf t.isLt fun l => Rounded.sticky_mk _ (by decide)).congr (fun l => Nat.mod_mod _ _) fun l => rfl

theorem vPerm_wroteV (hx : Executes s t) (hd : o.d = 0) (hfn : o.fn = 0) :
    Gives (exec (.vPerm t o) s) (WroteV t s · o ((s.tile t).vp o.b || (s.tile t).vp o.c) (s.tile t).gen fun l =>
      ⟨(s.tile t).lane o.b ((s.tile t).lane o.c l % 64), 0⟩) := by
  have hu : o.unusedZero true true true false true false = true := by simp [VOp.unusedZero, hd, hfn]
  show Gives (execVPerm t o s) _
  unfold execVPerm
  refine issueSeq_gives hx hu no_causes rfl fun u hprf => ?_
  dsimp only
  rw [hprf.tile]
  exact vectorWrite_wroteV hprf t.isLt fun l => Rounded.sticky_mk _ (by decide)

section
variable (hx : Executes s t) (hc : o.c = 0) (hd : o.d = 0) (hpr : o.pr = 0) (hpm : o.pm = 0)
include hx hc hd hpr hpm

theorem vGet_wroteG (hfn : o.fn.toNat < 64) (hb : (s.tile t).vp o.b = false) :
    Gives (exec (.vGet t o) s) fun s' => WroteG t s s' ((s.tile t).pc + 8) o.a (BitVec.ofNat 64 ((s.tile t).lane o.b o.fn.toNat)) := by
  have hu : (o.unusedZero true true false false false true && decide (o.fn.toNat ≤ 63)) = true := by
    simp [VOp.unusedZero, hc, hd, hpr, hpm, Nat.le_of_lt_succ hfn]
  show Gives (execVGet t o s) _
  unfold execVGet
  refine issueSeq_gives hx hu no_causes rfl fun u hprf => ?_
  dsimp only
  rw [hprf.tile, hb]
  exact finishG_wrote s u t o.a _ t.isLt hprf _ rfl

theorem vPut_wrote (hfn : o.fn.toNat < 64) :
    Gives (exec (.vPut t o) s) fun s' =>
      TileOnly t s s' ∧ { s'.tile t with v := (s.tile t).v } = { s.tile t with pc := (s.tile t).pc + 8, stalled := false } ∧
        ∀ k, ∀ l < 64, (s'.tile t).lane k l =
          if k = o.a ∧ l = o.fn.toNat then ((s.tile t).greg o.b).toNat % 2 ^ 32 else (s.tile t).lane k l := by
  have hu : (o.unusedZero true true false false false true && decide (o.fn.toNat ≤ 63)) = true := by
    simp [VOp.unusedZero, hc, hd, hpr, hpm, Nat.le_of_lt_succ hfn]
  show Gives (execVPut t o s) _
  unfold execVPut
  refine issueSeq_gives hx hu no_causes rfl fun u hprf => ?_
  dsimp only
  rw [hprf.tile, ← greg_toNat]
  obtain ⟨honly, htile⟩ := ((hprf.became (n := t)).setTile ((s.tile t).setLane o.a o.fn.toNat ((s.tile t).greg o.b).toNat)).retire t.isLt
  refine ⟨honly, by rw [htile]; rfl, fun k l hl => ?_⟩
  rw [htile]
  exact Tile.lane_setLane _ _ _ _ hfn hl

theorem pMov_wroteP (hfn : o.fn = 0) (ha : o.a.toNat ≤ 7) :
    Gives (exec (.pMov t o) s) fun s' => WroteP t s s' o.a.toNat ((s.tile t).greg o.b).toNat := by
  have hu : (o.unusedZero true true false false false false && decide (o.a.toNat ≤ 7)) = true := by
    simp [VOp.unusedZero, hc, hd, hpr, hpm, hfn, ha]
  show Gives (execPMov t o s) _
  unfold execPMov
  refine issueSeq_gives hx hu no_causes rfl fun u hprf => ?_
  dsimp only
  rw [hprf.tile, ← greg_toNat]
  exact setP_wroteP hprf (BitVec.isLt _)

theorem pGet_wroteG (hfn : o.fn = 0) (hb : o.b.toNat ≤ 7) :
    Gives (exec (.pGet t o) s) fun s' => WroteG t s s' ((s.tile t).pc + 8) o.a (BitVec.ofNat 64 ((s.tile t).pr o.b.toNat)) :=
  issueSeq_wroteG (f := fun x => x.pr o.b.toNat) hx (by simp [VOp.unusedZero, hc, hd, hpr, hpm, hfn, hb]) rfl

theorem pCnt_wroteG (hfn : o.fn = 0) (hb : o.b.toNat ≤ 7) :
    Gives (exec (.pCnt t o) s) fun s' => WroteG t s s' ((s.tile t).pc + 8) o.a
      (BitVec.ofNat 64 ((List.range 64).filter ((s.tile t).pr o.b.toNat).testBit).length) :=
  issueSeq_wroteG (f := fun x => popCount 64 (x.pr o.b.toNat)) hx (by simp [VOp.unusedZero, hc, hd, hpr, hpm, hfn, hb])
    (by rw [popCount_eq])

end

/-- The operations of `p.op`, by FN, on words. -/
theorem pOpValue_word (fn : BitVec 32) (h : fn.toNat ≤ 3) (p q : BitVec 64) : pOpValue fn.toNat p.toNat q.toNat =
    (if fn = 0 then p &&& q else if fn = 1 then p ||| q else if fn = 2 then p ^^^ q else p &&& ~~~q).toNat := by
  have hfn : fn = 0 ∨ fn = 1 ∨ fn = 2 ∨ fn = 3 := by
    rw [← BitVec.toNat_inj, ← BitVec.toNat_inj, ← BitVec.toNat_inj, ← BitVec.toNat_inj]
    show fn.toNat = 0 ∨ fn.toNat = 1 ∨ fn.toNat = 2 ∨ fn.toNat = 3
    omega
  rcases hfn with rfl | rfl | rfl | rfl
  · exact (BitVec.toNat_and p q).symm
  · exact (BitVec.toNat_or p q).symm
  · exact (BitVec.toNat_xor p q).symm
  · rw [if_neg (by decide), if_neg (by decide), if_neg (by decide), BitVec.toNat_and, BitVec.toNat_not]
    rfl

theorem pOp_wroteP (hx : Executes s t) (hd : o.d = 0) (hpr : o.pr = 0) (hpm : o.pm = 0) (ha : o.a.toNat ≤ 7) (hb : o.b.toNat ≤ 7)
    (hc : o.c.toNat ≤ 7) (hfn : o.fn.toNat ≤ 3) :
    let p := BitVec.ofNat 64 ((s.tile t).pr o.b.toNat)
    let q := BitVec.ofNat 64 ((s.tile t).pr o.c.toNat)
    Gives (exec (.pOp t o) s) fun s' => WroteP t s s' o.a.toNat
      (if o.fn = 0 then p &&& q else if o.fn = 1 then p ||| q else if o.fn = 2 then p ^^^ q else p &&& ~~~q).toNat := by
  have hu : (o.unusedZero true true true false false true && decide (o.a.toNat ≤ 7) && decide (o.b.toNat ≤ 7) && decide (o.c.toNat ≤ 7) &&
      decide (o.fn.toNat ≤ 3)) = true := by simp [VOp.unusedZero, hd, hpr, hpm, ha, hb, hc, hfn]
  intro p q
  have hp : ∀ k, (BitVec.ofNat 64 ((s.tile t).pr k)).toNat = (s.tile t).pr k := fun k => by
    rw [BitVec.toNat_ofNat, Nat.mod_eq_of_lt ((s.tile t).pr_lt k)]
  have hword := pOpValue_word o.fn hfn p q
  rw [hp, hp] at hword
  show Gives (execPOp t o s) _
  unfold execPOp
  refine issueSeq_gives hx hu no_causes rfl fun u hprf => ?_
  dsimp only
  rw [hprf.tile, hword]
  exact setP_wroteP hprf (BitVec.isLt _)

end

theorem vectorSelect : VectorSelect := by
  intro s t o hx hty hrm hsat hz hlow
  obtain ⟨hlow16, hs⟩ := fnField_split hlow
  have h3 : Fn3 o := ⟨hty, hrm, hsat, hlow16⟩
  exact ⟨fun hd ha hsub hun hb hc => vCmp_wroteP hx h3 hz hs hd ha hsub hun hb hc, fun hd hsub => vSel_wroteV hx h3 hz hs hd hsub,
    fun hc hd hsub hrm0 => vRed_wrote hx h3 hz hs hc hd hsub hrm0⟩

theorem vectorMoves : VectorMoves := by
  intro s t o hx
  refine ⟨fun hc hd hfn => vBcast_wroteV hx hc hd hfn, fun hd hfn => vPerm_wroteV hx hd hfn, fun hc hd hpr hpm => ?_,
    fun hd hpr hpm ha hb hc hfn => pOp_wroteP hx hd hpr hpm ha hb hc hfn⟩
  exact ⟨fun hfn hb => vGet_wroteG hx hc hd hpr hpm hfn hb, fun hfn => vPut_wrote hx hc hd hpr hpm hfn,
    fun hfn ha => pMov_wroteP hx hc hd hpr hpm hfn ha, fun hfn hb => pGet_wroteG hx hc hd hpr hpm hfn hb,
    fun hfn hb => pCnt_wroteG hx hc hd hpr hpm hfn hb⟩

/-- Settles O14: each instruction's register by its value, and what it leaves. -/
theorem vectorSelection : Obligations.VectorSelection := ⟨vectorSelect, vectorMoves⟩

end Sys2Proof.Machine
end

section
/-! SUPPORT. Vector loads and stores (O15): lines read by ranges, and words stored one after another. -/

namespace Sys2Proof.Machine

/-! ### Lanes loaded -/

/-- The line of a scratchpad byte. -/
theorem spadAddr_line (t a : Nat) : spadAddr t (a / 64 * 64) / 64 = spadByte t a / 64 := by
  unfold spadAddr spadByte
  omega

/-- Lines read so far were clean: nothing changed but what PRF counts, and none was marked. -/
def ReadClean (s : State) (a : State × Bool) : Prop := PrfOnly s a.1 ∧ a.2 = false

theorem ReadClean.line {s : State} {a : State × Bool} (h : ReadClean s a) {n : Nat} (hn : LineClean a.1 n) :
    ReadClean s ((a.1.checkLine n 4).1, a.2 || (a.1.checkLine n 4).2) := by
  obtain ⟨hprf, hmark⟩ := h
  obtain ⟨hcheck, hres⟩ := checkLine_clean hn 4
  rw [hmark, hres]
  exact ⟨hprf.trans hcheck, rfl⟩

/-- Reading and checking clean lines changes nothing but what PRF counts. -/
theorem checkRanges_clean {s : State} {t : Nat} {rs : List (Nat × Nat)} (h : ∀ p ∈ rs, CleanAt s (spadByte t p.1) 4) :
    ReadClean s (s.checkRanges t rs) := by
  unfold State.checkRanges
  refine foldl_keeps_mem (ReadClean s) _ _ (s, false) (fun a l hl ha => ha.line ?_) ⟨.refl s, rfl⟩
  obtain ⟨p, hp, rfl⟩ := List.mem_map.mp (List.mem_dedup.mp hl)
  rw [spadAddr_line]
  exact (ha.1.cleanAt (h p hp)).line _ (Nat.le_refl _) (by omega) (by decide)

section
variable (x : Tile) (o : VOp)

theorem laneFlags_zero (f : Nat → Nat) : laneFlags x o (fun l => ⟨f l, 0⟩) = 0 :=
  foldl_keeps (· = 0) _ (fun a _ ha => by rw [ha, Nat.or_zero]) _ 0 rfl

theorem Tile.laneRanges_eq (f : Nat → Nat) : x.laneRanges o f = activeRanges x o f := by
  rw [Tile.laneRanges, activeRanges]
  congr 2
  exact funext fun l => Tile.active_eq x o l

theorem mem_activeRanges {f : Nat → Nat} {p : Nat × Nat} : p ∈ activeRanges x o f ↔ ∃ l < 64, laneOn x o l = true ∧ (f l, 4) = p := by
  simp only [activeRanges, List.mem_map, List.mem_filter, List.mem_range, and_assoc]

end

/-- Lanes loaded from clean lines, and the instruction done. -/
theorem loadLanes_wroteV {s u : State} {t : Fin 768} {o : VOp} {f : Nat → Nat} (hu : PrfOnly s u)
    (h : ∀ l < 64, laneOn (s.tile t) o l = true → CleanAt s (spadByte t (f l)) 4) :
    WroteV t s (u.loadLanes t o f) o false (s.tile t).gen fun l => ⟨leNat (s.bytes (spadByte t (f l)) 4), 0⟩ := by
  have hclean : ∀ p ∈ activeRanges (s.tile t) o f, CleanAt u (spadByte t p.1) 4 := fun p hp => by
    obtain ⟨l, hl, hon, rfl⟩ := (mem_activeRanges _ _).mp hp
    exact hu.cleanAt (h l hl hon)
  obtain ⟨hprf, hmark⟩ := checkRanges_clean hclean
  unfold State.loadLanes
  dsimp only
  rw [hu.tile, Tile.laneRanges_eq, hmark, hprf.tile, hu.tile]
  have hall := hu.trans hprf
  generalize (u.checkRanges t (activeRanges (s.tile t) o f)).1 = w at *
  have hword : ∀ l, w.spadWord t (f l) = leNat (s.bytes (spadByte t (f l)) 4) := fun l => by
    rw [State.spadWord, State.bytes_of_mem hall.mem]
    rfl
  simp only [hword]
  have hend := (((hall.flagged (n := t)).setTile ((s.tile t).vectorTile o false fun l => ⟨leNat (s.bytes (spadByte t (f l)) 4), 0⟩)).count
    (.tileEvent _ t 0x04 ((s.tile t).activeCount o) t.isLt)).retire t.isLt
  apply Flagged.wroteV
  rw [laneFlags_zero, ← Tile.vectorTile_pc (s.tile t) o false fun l => ⟨leNat (s.bytes (spadByte t (f l)) 4), 0⟩,
    ← Tile.vectorTile_gen (s.tile t) o false fun l => ⟨leNat (s.bytes (spadByte t (f l)) 4), 0⟩]
  exact hend

theorem Tile.laneAddr_eq (x : Tile) (o : VOp) (l : Nat) : x.laneAddr o l = laneAddress x o l := by
  have hl : x.lane o.c l < 2 ^ 32 := BitVec.isLt _
  rw [Tile.laneAddr, laneAddress, BitVec.toNat_add, greg_toNat, BitVec.toNat_ofNat, Nat.mod_eq_of_lt (hl.trans (by decide))]

theorem CleanAt.part {s : State} {a b n m : Nat} (h : CleanAt s a n) (hb : a ≤ b) (hm : b + m ≤ a + n) : CleanAt s b m :=
  fun x hx hxm => h x (hb.trans hx) (by omega)

section
variable {s : State} {t : Fin 768} {o : VOp}

theorem vLd_wroteV (hx : Executes s t) (hd : o.d = 0) (hc : o.c = 0) (ha : operandAddress s t o % 64 = 0)
    (hin : operandAddress s t o + 256 ≤ 0x80000) (hclean : CleanAt s (spadByte t (operandAddress s t o)) 256)
    (hconf : (s.tile t).conflict (activeRanges (s.tile t) o fun l => operandAddress s t o + 4 * l) [] = false) :
    Gives (exec (.vLd t o) s) (WroteV t s · o false (s.tile t).gen fun l =>
      ⟨leNat (s.bytes (spadByte t (operandAddress s t o + 4 * l)) 4), 0⟩) := by
  have hu : o.unusedZero true true false false true true = true := by simp [VOp.unusedZero, hd, hc]
  show Gives (execVLd t o s) _
  unfold execVLd
  dsimp only
  rw [Tile.addr_eq, Tile.laneRanges_eq]
  refine issueSeq_gives hx hu (accessExc_none ha hin) hconf fun u hprf => ?_
  exact loadLanes_wroteV hprf fun l hl _ => hclean.part (by unfold spadByte; omega) (by unfold spadByte; omega)

/-- Active lanes whose own addresses are aligned and lie in the scratchpad raise nothing (R178). -/
theorem laneExcs_none {x : Tile} {f : Nat → Nat} (h : ∀ l < 64, laneOn x o l = true → f l % 4 = 0 ∧ f l + 4 ≤ 0x80000) :
    ∀ p ∈ laneExcs (activeRanges x o f), p.1 = false := by
  intro p hp
  obtain ⟨r, hr, hpr⟩ := List.mem_flatMap.mp hp
  obtain ⟨l, hl, hon, rfl⟩ := (mem_activeRanges _ _).mp hr
  obtain ⟨hal, hin⟩ := h l hl hon
  exact accessExc_none hal hin p hpr

theorem vGath_wroteV (hx : Executes s t) (hd : o.d = 0) (hfn : o.fn = 0)
    (h : ∀ l < 64, laneOn (s.tile t) o l = true → laneAddress (s.tile t) o l % 4 = 0 ∧ laneAddress (s.tile t) o l + 4 ≤ 0x80000 ∧
      CleanAt s (spadByte t (laneAddress (s.tile t) o l)) 4)
    (hconf : (s.tile t).conflict (activeRanges (s.tile t) o (laneAddress (s.tile t) o)) [] = false) :
    Gives (exec (.vGath t o) s) (WroteV t s · o false (s.tile t).gen fun l =>
      ⟨leNat (s.bytes (spadByte t (laneAddress (s.tile t) o l)) 4), 0⟩) := by
  have hu : o.unusedZero true true true false true false = true := by simp [VOp.unusedZero, hd, hfn]
  have haddr : (s.tile t).laneAddr o = laneAddress (s.tile t) o := funext fun l => Tile.laneAddr_eq _ _ l
  show Gives (execVGath t o s) _
  unfold execVGath
  dsimp only
  rw [haddr, Tile.laneRanges_eq]
  refine issueSeq_gives hx hu (laneExcs_none fun l hl hon => ⟨(h l hl hon).1, (h l hl hon).2.1⟩) hconf fun u hprf => ?_
  exact loadLanes_wroteV hprf fun l hl hon => (h l hl hon).2.2

end

end Sys2Proof.Machine
end

section
/-! SUPPORT. Vector stores (O15): words stored one after another, and where each stands. -/

namespace Sys2Proof.Machine

/-! ### Words in memory -/

/-- A memory with bytes `bs` stored at `a`. -/
def putBytes (m : Nat → Byte) (a : Nat) (bs : List Byte) (b : Nat) : Byte := if a ≤ b ∧ b < a + bs.length then bs.getD (b - a) 0 else m b

/-- A memory with 32-bit words stored at their addresses, one after another. -/
def putWords (m : Nat → Byte) (ws : List (Nat × Nat)) : Nat → Byte := ws.foldl (fun m w => putBytes m w.1 (leBytes 4 w.2)) m

theorem length_flatMap_leBytes (vs : List Nat) : (vs.flatMap (leBytes 4)).length = 4 * vs.length := by
  rw [List.length_flatMap]
  simp [leBytes_length, Nat.mul_comm]

section
variable (m : Nat → Byte)

theorem putWords_append (vs ws : List (Nat × Nat)) : putWords m (vs ++ ws) = putWords (putWords m vs) ws := List.foldl_append

theorem putBytes_nil (a : Nat) : putBytes m a [] = m := by
  funext b
  rw [putBytes, if_neg (by simp)]

theorem putBytes_append (a : Nat) (bs cs : List Byte) : putBytes m a (bs ++ cs) = putBytes (putBytes m a bs) (a + bs.length) cs := by
  funext b
  unfold putBytes
  rw [List.length_append]
  by_cases hc : a + bs.length ≤ b ∧ b < a + bs.length + cs.length
  · rw [if_pos hc, if_pos (by omega), List.getD_append_right _ _ _ _ (by omega), Nat.sub_add_eq]
  · rw [if_neg hc]
    by_cases hb : a ≤ b ∧ b < a + bs.length
    · rw [if_pos hb, if_pos (by omega), List.getD_append _ _ _ _ (by omega)]
    · rw [if_neg hb, if_neg (by omega)]

/-- Words that follow one another are stored as one run of bytes. -/
theorem putBytes_words (a : Nat) (vs : List Nat) :
    putBytes m a (vs.flatMap (leBytes 4)) = putWords m ((vs.zipIdx 0).map fun p => (a + 4 * p.2, p.1)) := by
  induction vs using List.reverseRecOn with
  | nil => exact putBytes_nil m a
  | append_singleton vs v ih =>
    rw [List.flatMap_append, putBytes_append, ih, length_flatMap_leBytes, List.zipIdx_append, List.map_append, putWords_append]
    simp [putWords, List.zipIdx]

/-- A byte that no word meets stays. -/
theorem putWords_outside (ws : List (Nat × Nat)) {b : Nat} (h : ∀ w ∈ ws, b < w.1 ∨ w.1 + 4 ≤ b) : putWords m ws b = m b := by
  refine foldl_keeps_mem (fun f : Nat → Byte => f b = m b) _ _ m (fun f w hw hf => ?_) rfl
  rw [putBytes, leBytes_length, if_neg (by have := h w hw; omega), hf]

/-- Aligned words, of which all at `a` hold `v`: that is what stands there. -/
theorem putWords_at {ws : List (Nat × Nat)} {a v : Nat} (ha : a % 4 = 0) (hal : ∀ w ∈ ws, w.1 % 4 = 0) (hin : (a, v) ∈ ws)
    (hv : ∀ w ∈ ws, w.1 = a → w.2 = v) {i : Nat} (hi : i < 4) : putWords m ws (a + i) = (leBytes 4 v).getD i 0 := by
  induction ws using List.reverseRecOn with
  | nil => exact absurd hin List.not_mem_nil
  | append_singleton ws w ih =>
    have hw : w ∈ ws ++ [w] := List.mem_append_right _ (List.mem_singleton.mpr rfl)
    rw [putWords_append]
    show putBytes (putWords m ws) w.1 (leBytes 4 w.2) (a + i) = _
    rw [putBytes, leBytes_length]
    by_cases he : w.1 = a
    · rw [if_pos (by omega), hv w hw he, he, Nat.add_sub_cancel_left]
    · have := hal w hw
      rw [if_neg (by omega)]
      refine ih (fun w hw => hal w (List.mem_append_left _ hw)) ?_ fun w hw => hv w (List.mem_append_left _ hw)
      rcases List.mem_append.mp hin with h | h
      · exact h
      · exact absurd (congrArg Prod.fst (List.mem_singleton.mp h)).symm he

end

/-! ### Stores of words -/

/-- The words `ws` have been stored; nothing else differs but what PRF counts. -/
def WordsPut (s t : State) (ws : List (Nat × Nat)) : Prop :=
  BytesOnly s t ∧ { t with regs := s.regs, mem := s.mem } = s ∧ t.byte = putWords s.byte ws

section
variable {s t u : State}

theorem WordsPut.refl (s : State) : WordsPut s s [] := ⟨(Writes.refl s 0).1, rfl, rfl⟩

theorem WordsPut.trans {vs ws : List (Nat × Nat)} (h1 : WordsPut s t vs) (h2 : WordsPut t u ws) : WordsPut s u (vs ++ ws) := by
  obtain ⟨hb1, hf1, hm1⟩ := h1
  obtain ⟨hb2, hf2, hm2⟩ := h2
  refine ⟨hb1.trans hb2, ?_, by rw [putWords_append, hm2, hm1]⟩
  exact (congrArg (fun z : State => { z with regs := s.regs, mem := s.mem }) hf2 :).trans hf1

theorem WordsPut.cleanAt {ws : List (Nat × Nat)} (h : WordsPut s t ws) {a n : Nat} (hc : CleanAt s a n) : CleanAt t a n :=
  hc.of_sameRegs h.1.1 h.1.2.1

theorem Stores.byte {a : Nat} {bs : List Byte} (h : Stores s t a bs) : t.byte = putBytes s.byte a bs := funext h.1.2

theorem Stores.word {a v : Nat} (h : Stores s t a (leBytes 4 v)) : WordsPut s t [(a, v)] := ⟨h.1.1, h.2, h.byte⟩

theorem Stores.words {a : Nat} {vs : List Nat} (h : Stores s t a (vs.flatMap (leBytes 4))) :
    WordsPut s t ((vs.zipIdx 0).map fun p => (a + 4 * p.2, p.1)) := ⟨h.1.1, h.2, by rw [h.byte, putBytes_words]⟩

/-- Words stored by a fold, each step its own. -/
theorem WordsPut.foldl {α : Type} {f : State → α → State} {g : α → List (Nat × Nat)} (l : List α)
    (hf : ∀ u ws, WordsPut s u ws → ∀ a ∈ l, WordsPut u (f u a) (g a)) : WordsPut s (l.foldl f s) (l.flatMap g) := by
  induction l using List.reverseRecOn with
  | nil => exact .refl s
  | append_singleton l a ih =>
    have h := ih fun u ws hu b hb => hf u ws hu b (List.mem_append_left _ hb)
    rw [List.foldl_append, List.flatMap_append, List.flatMap_singleton]
    exact h.trans (hf _ _ h a (List.mem_append_right _ (List.mem_singleton.mpr rfl)))

/-- An instruction that ends after its words are stored. -/
theorem WordsPut.retire {t : Fin 768} {w : State} {ws : List (Nat × Nat)} (hu : PrfOnly s u) (h : WordsPut u w ws) (ev n : Nat) :
    Ended t s { (w.tileEvent t ev n).retire t with mem := s.mem } ((s.tile t).pc + 8) ∧
      ∀ b, ((w.tileEvent t ev n).retire t).byte b = putWords s.byte ws b := by
  obtain ⟨hbytes, hframe, hput⟩ := h
  have hw : PrfOnly { u with mem := w.mem } w :=
    ⟨(congrArg (fun z : State => { z with mem := w.mem, prf := u.prf }) hframe :), hbytes.2.1⟩
  have hprf : PrfOnly { s with mem := w.mem } (w.tileEvent t ev n) :=
    ((hu.under (elsewhere_mem w.mem)).trans hw).trans (.tileEvent _ _ _ _ t.isLt)
  have hend := retire_ended _ _ t t.isLt hprf
  have hmem : ((w.tileEvent t ev n).retire t).mem = w.mem :=
    (retire_spec _ t).1.mem.trans (PrfOnly.tileEvent w t ev n t.isLt).mem
  have hbyte : u.byte = s.byte := funext fun b => State.byte_of_mem hu.mem b
  exact ⟨hend.under (elsewhere_mem s.mem), fun b => by rw [State.byte_of_mem hmem, hput, hbyte]⟩

end

/-! ### Stores of lines -/

/-- The words of a line's lanes, from address `a`. -/
def laneWords (a : Nat) (vals : List (Option Nat)) : List (Nat × Nat) :=
  (vals.zipIdx 0).flatMap fun p => p.1.elim [] fun v => [(a + 4 * p.2, v)]

theorem mem_laneWords {a : Nat} {vals : List (Option Nat)} {b v : Nat} :
    (b, v) ∈ laneWords a vals ↔ ∃ j, vals[j]? = some (some v) ∧ b = a + 4 * j := by
  simp only [laneWords, List.mem_flatMap, Prod.exists, List.mk_mem_zipIdx_iff_getElem?]
  constructor
  · rintro ⟨w, j, hj, hm⟩
    cases w with
    | none => exact absurd hm List.not_mem_nil
    | some w =>
      obtain ⟨rfl, rfl⟩ := Prod.mk.inj (List.mem_singleton.mp hm)
      exact ⟨j, hj, rfl⟩
  · rintro ⟨j, hj, rfl⟩
    exact ⟨some v, j, hj, List.mem_singleton.mpr rfl⟩

theorem laneWords_some (a : Nat) (vs : List Nat) : laneWords a (vs.map some) = (vs.zipIdx 0).map fun p => (a + 4 * p.2, p.1) := by
  rw [laneWords, List.zipIdx_map, List.flatMap_map, ← List.flatMap_singleton' (List.map _ _), List.flatMap_map]
  rfl

/-- A line of a `v.st` stored, whole or lane by lane. -/
theorem storeLine_words {s : State} {t a : Nat} {vals : List (Option Nat)}
    (h : CleanAt s (spadByte t a) (4 * vals.length)) : WordsPut s (s.storeLine t a vals false) (laneWords (spadByte t a) vals) := by
  unfold State.storeLine
  split
  · next hall =>
    have hvals : vals = (vals.map fun v => v.getD 0).map some := by
      rw [List.map_map]
      refine (List.map_id' vals).symm.trans (List.map_congr_left fun v hv => ?_)
      obtain ⟨w, rfl⟩ := Option.isSome_iff_exists.mp (List.all_eq_true.mp hall v hv)
      rfl
    have hbytes : (vals.flatMap fun v => leBytes 4 (v.getD 0)) = (vals.map fun v => v.getD 0).flatMap (leBytes 4) :=
      (List.flatMap_map _ _ _).symm
    rw [hbytes, spadAddr_eq]
    conv => rhs; rw [hvals, laneWords_some]
    refine (writeMem_stores ?_ 4).words
    rwa [length_flatMap_leBytes, List.length_map]
  · refine WordsPut.foldl (vals.zipIdx 0) fun u ws hu p hp => ?_
    obtain ⟨v, j⟩ := p
    have hj : j < vals.length := (List.getElem?_eq_some_iff.mp (List.mk_mem_zipIdx_iff_getElem?.mp hp)).1
    cases v with
    | none => exact .refl u
    | some v =>
      have hadd : spadAddr t (a + 4 * j) = spadByte t a + 4 * j := (Nat.add_assoc _ _ _).symm
      show WordsPut u (u.writeMem (spadAddr t (a + 4 * j)) (leBytes 4 v) false 4) [(spadByte t a + 4 * j, v)]
      rw [hadd]
      refine (writeMem_stores ?_ 4).word
      rw [leBytes_length]
      exact hu.cleanAt (h.part (Nat.le_add_right _ _) (by omega))

/-! ### Words of a vector in memory -/

theorem State.bytes_congr {s t : State} {a n : Nat} (h : ∀ i < n, t.byte (a + i) = s.byte (a + i)) : t.bytes a n = s.bytes a n := by
  induction n generalizing a with
  | zero => rfl
  | succ n ih =>
    rw [State.bytes, State.bytes, ih fun i hi => by rw [Nat.add_right_comm]; exact h (i + 1) (by omega)]
    exact congrArg (· :: _) (h 0 (by omega))

/-- Aligned words of which all at `a` hold one lane: that lane stands there. -/
theorem leNat_words {t : State} {m : Nat → Byte} {ws : List (Nat × Nat)} (h : ∀ b, t.byte b = putWords m ws b) {a v : Nat} (ha : a % 4 = 0)
    (hal : ∀ w ∈ ws, w.1 % 4 = 0) (hin : (a, v) ∈ ws) (hv : ∀ w ∈ ws, w.1 = a → w.2 = v) (hlt : v < 2 ^ 32) :
    leNat (t.bytes a 4) = v := by
  have hbytes : t.bytes a 4 = leBytes 4 v := by
    rw [← leBytes_length 4 v]
    exact t.bytes_eq_of_getD a _ fun i hi => by
      rw [leBytes_length] at hi
      rw [h, putWords_at _ ha hal hin hv hi]
  rw [hbytes, leNat_leBytes]
  exact Nat.mod_eq_of_lt hlt

section
variable {s : State} {t : Fin 768} {o : VOp}

/-- The words that `v.st` stores. -/
def storedLanes (x : Tile) (o : VOp) (t a : Nat) : List (Nat × Nat) :=
  (List.range 4).flatMap fun k => laneWords (spadByte t (a + 64 * k))
    ((List.range 16).map fun l => if laneOn x o (16 * k + l) then some (x.lane o.c (16 * k + l)) else none)

theorem mem_storedLanes {x : Tile} {t a b v : Nat} :
    (b, v) ∈ storedLanes x o t a ↔ ∃ l < 64, laneOn x o l = true ∧ v = x.lane o.c l ∧ b = spadByte t (a + 4 * l) := by
  simp only [storedLanes, List.mem_flatMap, List.mem_range, mem_laneWords]
  constructor
  · rintro ⟨k, hk, j, hj, rfl⟩
    obtain ⟨i, hi, hv⟩ := Option.map_eq_some_iff.mp (List.getElem?_map.symm.trans hj)
    obtain ⟨hlt, rfl⟩ := List.getElem?_eq_some_iff.mp hi
    rw [List.length_range] at hlt
    rw [List.getElem_range] at hv
    split at hv
    · next hon => exact ⟨16 * k + j, by omega, hon, (Option.some.inj hv).symm, by unfold spadByte; omega⟩
    · exact absurd hv (by simp)
  · rintro ⟨l, hl, hon, rfl, rfl⟩
    have hsplit : 16 * (l / 16) + l % 16 = l := Nat.div_add_mod l 16
    refine ⟨l / 16, by omega, l % 16, ?_, by unfold spadByte; omega⟩
    rw [List.getElem?_map, List.getElem?_range (Nat.mod_lt l (by decide)), Option.map_some, hsplit, if_pos hon]

theorem vSt_stores (hx : Executes s t) (ha0 : o.a = 0) (hd : o.d = 0) (ha : operandAddress s t o % 64 = 0)
    (hin : operandAddress s t o + 256 ≤ 0x80000) (hclean : CleanAt s (spadByte t (operandAddress s t o)) 256)
    (hpois : (s.tile t).vp o.c = false)
    (hconf : (s.tile t).conflict [] (activeRanges (s.tile t) o fun l => operandAddress s t o + 4 * l) = false) :
    Gives (exec (.vSt t o) s) fun s' => Ended t s { s' with mem := s.mem } ((s.tile t).pc + 8) ∧
      ∀ b, s'.byte b = putWords s.byte (storedLanes (s.tile t) o t (operandAddress s t o)) b := by
  have hu : o.unusedZero false true true false true true = true := by simp [VOp.unusedZero, hd, ha0]
  show Gives (execVSt t o s) _
  unfold execVSt
  dsimp only
  rw [Tile.addr_eq, Tile.laneRanges_eq]
  refine issueSeq_gives hx hu (accessExc_none ha hin) hconf fun u hprf => ?_
  rw [hprf.tile, hpois]
  simp only [Tile.active_eq]
  have hput : WordsPut u ((List.range 4).foldl (fun w k => w.storeLine t (operandAddress s t o + 64 * k)
      ((List.range 16).map fun l => if laneOn (s.tile t) o (16 * k + l) then some ((s.tile t).lane o.c (16 * k + l)) else none) false) u)
      (storedLanes (s.tile t) o t (operandAddress s t o)) := by
    refine WordsPut.foldl (List.range 4) fun w ws hw k hk => storeLine_words ?_
    have hk4 := List.mem_range.mp hk
    rw [List.length_map, List.length_range]
    exact hw.cleanAt (hprf.cleanAt (hclean.part (by unfold spadByte; omega) (by unfold spadByte; omega)))
  exact hput.retire hprf 0x04 _

theorem spadByte_mod (n a : Nat) : spadByte n a % 4 = a % 4 := by
  unfold spadByte
  omega

theorem spadByte_inj {n a b : Nat} (h : spadByte n a = spadByte n b) : a = b := by
  unfold spadByte at h
  omega

theorem vSt_wrote (hx : Executes s t) (ha0 : o.a = 0) (hd : o.d = 0) (ha : operandAddress s t o % 64 = 0)
    (hin : operandAddress s t o + 256 ≤ 0x80000) (hclean : CleanAt s (spadByte t (operandAddress s t o)) 256)
    (hpois : (s.tile t).vp o.c = false)
    (hconf : (s.tile t).conflict [] (activeRanges (s.tile t) o fun l => operandAddress s t o + 4 * l) = false) :
    Gives (exec (.vSt t o) s) fun s' => Ended t s { s' with mem := s.mem } ((s.tile t).pc + 8) ∧
      (∀ l < 64, leNat (s'.bytes (spadByte t (operandAddress s t o + 4 * l)) 4) =
        if laneOn (s.tile t) o l then (s.tile t).lane o.c l else leNat (s.bytes (spadByte t (operandAddress s t o + 4 * l)) 4)) ∧
      ∀ b, b < spadByte t (operandAddress s t o) ∨ spadByte t (operandAddress s t o) + 256 ≤ b → s'.byte b = s.byte b := by
  obtain ⟨s', hres, hend, hbyte⟩ := vSt_stores hx ha0 hd ha hin hclean hpois hconf
  generalize operandAddress s t o = a at *
  generalize hx' : s.tile t = x at *
  have hmem := fun w : Nat × Nat => mem_storedLanes (o := o) (x := x) (t := t) (a := a) (b := w.1) (v := w.2)
  refine ⟨s', hres, hend, fun l hl => ?_, fun b hb => ?_⟩
  · split
    · next hon =>
      refine leNat_words hbyte (by rw [spadByte_mod]; omega) (fun w hw => ?_) ((hmem (_, _)).mpr ⟨l, hl, hon, rfl, rfl⟩) (fun w hw he => ?_)
        (BitVec.isLt _)
      · obtain ⟨k, -, -, -, hk⟩ := (hmem w).mp hw
        rw [hk, spadByte_mod]
        omega
      · obtain ⟨k, -, -, hv, hk⟩ := (hmem w).mp hw
        have := spadByte_inj (hk.symm.trans he)
        rw [hv, show k = l by omega]
    · next hoff =>
      refine congrArg leNat (State.bytes_congr fun i hi => ?_)
      rw [hbyte, putWords_outside]
      intro w hw
      obtain ⟨k, -, hon, -, he⟩ := (hmem w).mp hw
      have hne : k ≠ l := fun h => hoff (h ▸ hon)
      rw [he]
      unfold spadByte
      omega
  · rw [hbyte, putWords_outside]
    intro w hw
    obtain ⟨k, hk, -, -, he⟩ := (hmem w).mp hw
    rw [he]
    unfold spadByte at *
    omega

/-- The words that `v.scat` stores, in ascending order of lanes. -/
def scatteredLanes (x : Tile) (o : VOp) (t : Nat) (l : List Nat) : List (Nat × Nat) :=
  l.flatMap fun l => if laneOn x o l then [(spadByte t (laneAddress x o l), x.lane o.d l)] else []

theorem mem_scatteredLanes {x : Tile} {t : Nat} {ls : List Nat} {w : Nat × Nat} : w ∈ scatteredLanes x o t ls ↔
    ∃ l ∈ ls, laneOn x o l = true ∧ w = (spadByte t (laneAddress x o l), x.lane o.d l) := by
  simp only [scatteredLanes, List.mem_flatMap]
  refine exists_congr fun l => and_congr_right fun _ => ?_
  split
  · next h => simp [h]
  · next h => simp [h]

section
variable (hx : Executes s t) (ha0 : o.a = 0) (hfn : o.fn = 0)
  (h : ∀ l < 64, laneOn (s.tile t) o l = true → laneAddress (s.tile t) o l % 4 = 0 ∧ laneAddress (s.tile t) o l + 4 ≤ 0x80000 ∧
    CleanAt s (spadByte t (laneAddress (s.tile t) o l)) 4)
  (hpois : (s.tile t).vp o.d = false)
  (hconf : (s.tile t).conflict [] (activeRanges (s.tile t) o (laneAddress (s.tile t) o)) = false)
include hx ha0 hfn h hpois hconf

theorem vScat_stores : Gives (exec (.vScat t o) s) fun s' => Ended t s { s' with mem := s.mem } ((s.tile t).pc + 8) ∧
    ∀ b, s'.byte b = putWords s.byte (scatteredLanes (s.tile t) o t (List.range 64)) b := by
  have hu : o.unusedZero false true true true true false = true := by simp [VOp.unusedZero, hfn, ha0]
  have haddr : (s.tile t).laneAddr o = laneAddress (s.tile t) o := funext fun l => Tile.laneAddr_eq _ _ l
  show Gives (execVScat t o s) _
  unfold execVScat
  dsimp only
  rw [haddr, Tile.laneRanges_eq, hpois]
  simp only [Tile.active_eq]
  refine issueSeq_gives hx hu (laneExcs_none fun l hl hon => ⟨(h l hl hon).1, (h l hl hon).2.1⟩) hconf fun u hprf => ?_
  have hput : WordsPut u ((List.range 64).foldl (fun w l => if laneOn (s.tile t) o l = true then
      w.writeMem (spadAddr t (laneAddress (s.tile t) o l)) (leBytes 4 ((s.tile t).lane o.d l)) false 4 else w) u)
      (scatteredLanes (s.tile t) o t (List.range 64)) := by
    refine WordsPut.foldl (List.range 64) fun w ws hw l hl => ?_
    split
    · next hon =>
      obtain ⟨-, -, hclean⟩ := h l (List.mem_range.mp hl) hon
      rw [spadAddr_eq]
      exact (writeMem_stores (by rw [leBytes_length]; exact hw.cleanAt (hprf.cleanAt hclean)) 4).word
    · exact .refl w
  exact hput.retire hprf 0x04 _

theorem vScat_wrote : Gives (exec (.vScat t o) s) fun s' => Ended t s { s' with mem := s.mem } ((s.tile t).pc + 8) ∧
    (∀ l < 64, laneOn (s.tile t) o l = true →
      (∀ k < 64, l < k → laneOn (s.tile t) o k = true → laneAddress (s.tile t) o k ≠ laneAddress (s.tile t) o l) →
      leNat (s'.bytes (spadByte t (laneAddress (s.tile t) o l)) 4) = (s.tile t).lane o.d l) ∧
    ∀ b, (∀ l < 64, laneOn (s.tile t) o l = true →
      b < spadByte t (laneAddress (s.tile t) o l) ∨ spadByte t (laneAddress (s.tile t) o l) + 4 ≤ b) → s'.byte b = s.byte b := by
  obtain ⟨s', hres, hend, hbyte⟩ := vScat_stores hx ha0 hfn h hpois hconf
  refine ⟨s', hres, hend, fun l hl hon hlast => ?_, fun b hb => ?_⟩
  · obtain ⟨before, later, hsplit⟩ := List.append_of_mem (List.mem_range.mpr hl)
    have hsorted := List.pairwise_lt_range (n := 64)
    rw [hsplit, List.pairwise_append] at hsorted
    obtain ⟨-, hlater, -⟩ := hsorted
    have hmem : ∀ k ∈ l :: later, k < 64 := fun k hk => List.mem_range.mp (hsplit ▸ List.mem_append_right _ hk)
    have hbyte' : ∀ b, s'.byte b = putWords (putWords s.byte (scatteredLanes (s.tile t) o t before))
        (scatteredLanes (s.tile t) o t (l :: later)) b := fun b => by
      rw [hbyte, hsplit, ← putWords_append, scatteredLanes, List.flatMap_append]
      rfl
    refine leNat_words hbyte' (by rw [spadByte_mod]; exact (h l hl hon).1) (fun w hw => ?_)
      (mem_scatteredLanes.mpr ⟨l, List.mem_cons_self, hon, rfl⟩) (fun w hw he => ?_) (BitVec.isLt _)
    · obtain ⟨k, hk, hkon, rfl⟩ := mem_scatteredLanes.mp hw
      rw [spadByte_mod]
      exact (h k (hmem k hk) hkon).1
    · obtain ⟨k, hk, hkon, rfl⟩ := mem_scatteredLanes.mp hw
      rcases List.mem_cons.mp hk with rfl | hk'
      · rfl
      · exact absurd (spadByte_inj he) (hlast k (hmem k hk) (List.rel_of_pairwise_cons hlater hk') hkon)
  · rw [hbyte, putWords_outside]
    intro w hw
    obtain ⟨l, hl, hon, rfl⟩ := mem_scatteredLanes.mp hw
    exact hb l (List.mem_range.mp hl) hon

end

end

/-- Settles O15: loads read clean lines, and stores put the words of the active lanes, each where the last of its address left it. -/
theorem vectorMemory : Obligations.VectorMemory := by
  intro s t o hx
  exact ⟨fun hd hc ha hin hclean hconf => vLd_wroteV hx hd hc ha hin hclean hconf, fun hd hfn h hconf => vGath_wroteV hx hd hfn h hconf,
    fun ha0 hd ha hin hclean hpois hconf => vSt_wrote hx ha0 hd ha hin hclean hpois hconf,
    fun ha0 hfn h hpois hconf => vScat_wrote hx ha0 hfn h hpois hconf⟩

end Sys2Proof.Machine
end

section
/-! SUPPORT. Movements (O17): tags, and what a copy leaves when it ends. -/

namespace Sys2Proof.Machine

/-! ### Tags -/

theorem Tile.tag_setTag (x : Tile) (k j : Nat) (v : MvTag) : (x.setTag k v).tag j = if j = k then v else x.tag j := by
  rw [Tile.tag, Tile.setTag, SMap.get_set]
  rfl

theorem tagField_legal {o : VOp} (h : o.fn.toNat < 16) : (o.fnBits 31 4 == 0) = true := by
  rw [VOp.fnBits, bits, Nat.div_eq_of_lt (show _ < 2 ^ 4 from h)]
  rfl

theorem tagRead_legal {o : VOp} (hpr : o.pr = 0) (hpm : o.pm = 0) (hk : o.fn.toNat < 16) (hb : o.b = 0) (hc : o.c = 0) (hd : o.d = 0) :
    (o.unusedZero true false false false false true && o.fnBits 31 4 == 0) = true := by
  rw [tagField_legal hk]
  simp [VOp.unusedZero, hb, hc, hd, hpr, hpm]

/-- An instruction that ends with one tag set. -/
def TagSet (n : Nat) (s t : State) (k : Nat) (v : MvTag) : Prop :=
  TileOnly n s t ∧ { t.tile n with tags := (s.tile n).tags } = { s.tile n with pc := (s.tile n).pc + 8, stalled := false } ∧
    ∀ j, (t.tile n).tag j = if j = k then v else (s.tile n).tag j

theorem Tile.tag_of_tags {x y : Tile} (h : y.tags = x.tags) (j : Nat) : y.tag j = x.tag j := by rw [Tile.tag, Tile.tag, h]

theorem Became.tagSet {n k : Nat} {v : MvTag} {s t : State}
    (h : Became n { (s.tile n).setTag k v with pc := (s.tile n).pc + 8, stalled := false } s t) : TagSet n s t k v := by
  obtain ⟨honly, htile⟩ := h
  have htags : (t.tile n).tags = ((s.tile n).setTag k v).tags := (congrArg Tile.tags htile :)
  refine ⟨honly, by rw [htile]; rfl, fun j => ?_⟩
  rw [Tile.tag_of_tags htags, Tile.tag_setTag]

section
variable {u : State} {t : Nat} {a : BitVec 5} {k : BitVec 4} (hw : (u.tile t).waiting = some (.move a k))
include hw

/-- A tile that waits for a movement goes on waiting while the movement is under way (R152, R192). -/
theorem State.release_move_busy {m : Movement} (h : (u.tile t).tag k.toNat = .busy m) : u.release t = u := by
  unfold State.release
  dsimp only
  rw [hw]
  dsimp only
  rw [h]

theorem State.release_move_done {st : Status} (h : (u.tile t).tag k.toNat = .done st) :
    u.release t = (u.setTile t ({ u.tile t with st := .run, waiting := none }.setTag k.toNat .free)).finishG t a st.code := by
  unfold State.release
  dsimp only
  rw [hw]
  dsimp only
  rw [h]

end

/-- What `mv.poll` and `mv.wait` leave of a movement that has ended (R192): its tag is free and g[A] holds its status. -/
theorem finishG_tagFree {s u : State} {t : Fin 768} {x : Tile} {a : BitVec 5} {k : Nat} {st : Status} (hu : Became t (x.setTag k .free) s u)
    (htags : x.tags = (s.tile t).tags) (hpc : x.pc = (s.tile t).pc) :
    let s' := u.finishG t a st.code
    (TileOnly t s s' ∧ (s'.tile t).greg a = (if a = 0 then 0 else BitVec.ofNat 64 st.code) ∧
      (∀ j, (s'.tile t).tag j = if j = k then .free else (s.tile t).tag j) ∧ (s'.tile t).pc = (s.tile t).pc + 8) ∧ (s'.tile t).st = x.st := by
  intro s'
  obtain ⟨honly, hpc', hg', hframe⟩ := finishG_wrote u u t a st.code t.isLt (.refl u) _ rfl
  obtain ⟨hu1, hu2⟩ := hu
  rw [hu2] at hg' hframe
  have htag : (s'.tile t).tags = (x.setTag k .free).tags := (congrArg Tile.tags hframe :)
  refine ⟨⟨hu1.trans honly, ?_, fun j => ?_, ?_⟩, (congrArg Tile.st hframe :)⟩
  · rw [hg']
    by_cases h0 : a = 0
    · rw [if_pos h0, if_neg (fun h => h.2 h0), h0]
      rfl
    · rw [if_neg h0, if_pos ⟨rfl, h0⟩]
  · rw [Tile.tag_of_tags htag, Tile.tag_setTag, Tile.tag_of_tags htags]
  · rw [hpc', hu2, ← hpc]
    rfl

section
variable {s : State} {t : Fin 768} {o : VOp} (hx : Executes s t) (hpr : o.pr = 0) (hpm : o.pm = 0) (hk : o.fn.toNat < 16)
include hx hpr hpm hk

theorem issueMove_tagSet {opc : Nat} {put : Bool} (ha : o.a = 0) (hfree : (s.tile t).tag o.fn.toNat = .free)
    (hconf : (if put then (s.tile t).conflict [(((s.tile t).greg o.b).toNat, ((s.tile t).greg o.d).toNat)] []
      else (s.tile t).conflict [] [(((s.tile t).greg o.b).toNat, ((s.tile t).greg o.d).toNat)]) = false) :
    Gives (s.issueMove t opc put o) fun s' => TagSet t s s' o.fn.toNat
      (.busy ⟨put, ((s.tile t).greg o.b).toNat, ((s.tile t).greg o.c).toNat, ((s.tile t).greg o.d).toNat⟩) := by
  have hu : (o.unusedZero false true true true false true && o.fnBits 31 4 == 0) = true := by
    rw [tagField_legal hk]
    simp [VOp.unusedZero, ha, hpr, hpm]
  unfold State.issueMove
  dsimp only
  rw [Nat.mod_eq_of_lt hk, ← greg_toNat, ← greg_toNat]
  refine issueSeq_gives hx hu no_causes (by rw [hfree, hconf]; rfl) fun u hprf => ?_
  rw [hprf.tile, ← greg_toNat]
  exact ((hprf.became.setTile _).retire t.isLt).tagSet

theorem mvPoll_busy (hb : o.b = 0) (hc : o.c = 0) (hd : o.d = 0) {m : Movement} (htag : (s.tile t).tag o.fn.toNat = .busy m) :
    Gives (exec (.mvPoll t o) s) fun s' => WroteG t s s' ((s.tile t).pc + 8) o.a 9 := by
  show Gives (execMvPoll t o s) _
  unfold execMvPoll
  refine issueSeq_gives hx (tagRead_legal hpr hpm hk hb hc hd) no_causes rfl fun u hprf => ?_
  dsimp only
  rw [hprf.tile, Nat.mod_eq_of_lt hk, htag]
  exact finishG_wrote s u t o.a Status.busy.code t.isLt hprf _ rfl

theorem mvPoll_done (hb : o.b = 0) (hc : o.c = 0) (hd : o.d = 0) {st : Status} (htag : (s.tile t).tag o.fn.toNat = .done st) :
    Gives (exec (.mvPoll t o) s) fun s' =>
      TileOnly t s s' ∧ (s'.tile t).greg o.a = (if o.a = 0 then 0 else BitVec.ofNat 64 st.code) ∧
        (∀ j, (s'.tile t).tag j = if j = o.fn.toNat then .free else (s.tile t).tag j) ∧ (s'.tile t).pc = (s.tile t).pc + 8 := by
  show Gives (execMvPoll t o s) _
  unfold execMvPoll
  refine issueSeq_gives hx (tagRead_legal hpr hpm hk hb hc hd) no_causes rfl fun u hprf => ?_
  dsimp only
  rw [hprf.tile, Nat.mod_eq_of_lt hk, htag]
  exact (finishG_tagFree (x := s.tile t) ((hprf.became (n := t)).setTile ((s.tile t).setTag o.fn.toNat .free)) rfl rfl).1

/-- `mv.wait` that issues blocks its tile, which goes on at once when the movement has ended. -/
theorem mvWait_gives {P : State → Prop} (hb : o.b = 0) (hc : o.c = 0) (hd : o.d = 0)
    (h : ∀ u, Became t { s.tile t with st := .wait, waiting := some (.move o.a (BitVec.ofNat 4 o.fn.toNat)), stalled := false } s u →
      P (u.release t)) : Gives (exec (.mvWait t o) s) P := by
  show Gives (execMvWait t o s) _
  unfold execMvWait
  refine issueSeq_gives hx (tagRead_legal hpr hpm hk hb hc hd) no_causes rfl fun u hprf => h _ ?_
  unfold State.block
  dsimp only
  rw [hprf.tile]
  exact hprf.became.setTile _

end

theorem movementTags {s : State} {t : Fin 768} {o : VOp} (hx : Executes s t) (hpr : o.pr = 0) (hpm : o.pm = 0) (hk : o.fn.toNat < 16)
    (hb : o.b = 0) (hc : o.c = 0) (hd : o.d = 0) :
    let x := s.tile t
    let k := o.fn.toNat
    (∀ m, x.tag k = .busy m →
      Gives (exec (.mvPoll t o) s) (fun s' => WroteG t s s' (x.pc + 8) o.a 9) ∧
      Gives (exec (.mvWait t o) s) (fun s' =>
        TileOnly t s s' ∧ s'.tile t = { x with st := .wait, waiting := some (.move o.a (BitVec.ofNat 4 k)), stalled := false })) ∧
    (∀ st, x.tag k = .done st →
      Gives (exec (.mvPoll t o) s) (fun s' =>
        TileOnly t s s' ∧ (s'.tile t).greg o.a = (if o.a = 0 then 0 else BitVec.ofNat 64 st.code) ∧
          (∀ j, (s'.tile t).tag j = if j = k then .free else x.tag j) ∧ (s'.tile t).pc = x.pc + 8) ∧
      Gives (exec (.mvWait t o) s) (fun s' =>
        TileOnly t s s' ∧ (s'.tile t).greg o.a = (if o.a = 0 then 0 else BitVec.ofNat 64 st.code) ∧
          (∀ j, (s'.tile t).tag j = if j = k then .free else x.tag j) ∧ (s'.tile t).pc = x.pc + 8 ∧ (s'.tile t).st = .run)) := by
  intro x k
  have hfield : (BitVec.ofNat 4 k).toNat = k := by rw [BitVec.toNat_ofNat, Nat.mod_eq_of_lt hk]
  refine ⟨fun m htag => ⟨mvPoll_busy hx hpr hpm hk hb hc hd htag, mvWait_gives hx hpr hpm hk hb hc hd fun u hu => ?_⟩,
    fun st htag => ⟨mvPoll_done hx hpr hpm hk hb hc hd htag, mvWait_gives hx hpr hpm hk hb hc hd fun u hu => ?_⟩⟩
  · have hwait : (u.tile t).waiting = some (.move o.a (BitVec.ofNat 4 k)) := (congrArg Tile.waiting hu.2 :)
    rw [State.release_move_busy hwait ((Tile.tag_of_tags (congrArg Tile.tags hu.2 :) _).trans (by rw [hfield]; exact htag))]
    exact hu
  · have hwait : (u.tile t).waiting = some (.move o.a (BitVec.ofNat 4 k)) := (congrArg Tile.waiting hu.2 :)
    rw [State.release_move_done hwait ((Tile.tag_of_tags (congrArg Tile.tags hu.2 :) _).trans (by rw [hfield]; exact htag)), hfield, hu.2]
    obtain ⟨⟨h1, h2, h3, h4⟩, h5⟩ := finishG_tagFree (a := o.a) (st := st) (x := { x with st := .run, waiting := none, stalled := false })
      (hu.setTile ({ x with st := .run, waiting := none, stalled := false }.setTag k .free)) rfl rfl
    exact ⟨h1, h2, h3, h4, h5⟩

/-! ### A movement that ends (R193, R200) -/

/-- A tile whose movement ended: its tag holds the status, and MV is set. -/
def Tile.moved (x : Tile) (tag : BitVec 4) (st : Status) : Tile :=
  { x.setTag tag.toNat (.done st) with latched := x.latched ||| 8 }

/-- What the copy of a movement leaves, when it makes one. -/
def State.moveCopy (s : State) (t : Nat) (m : Movement) (st : Status) : State × Bool :=
  if st = .ok ∧ m.len ≠ 0 then s.copyMove t m else (s, false)

theorem Tile.moved_spec (x : Tile) (tag : BitVec 4) (st : Status) :
    (∀ j, (x.moved tag st).tag j = if j = tag.toNat then .done st else x.tag j) ∧
      { x.moved tag st with tags := x.tags } = { x with latched := x.latched ||| 8 } :=
  ⟨fun j => (Tile.tag_of_tags rfl j).trans (Tile.tag_setTag x tag.toNat j (.done st)), rfl⟩

section
variable {s w : State} {t : Fin 768} {tag : BitVec 4} {m : Movement}

theorem mvComplete_eq {st : Status} (htag : (s.tile t).tag tag.toNat = .busy m) (hf : s.tileFence t = false)
    (hret : (s.tile t).retiring = false) (hst : (if m.len = 0 then .ok else s.moveStatus m false) = st)
    (hcopy : s.moveCopy t m st = (w, false)) (hw : w.tile t = s.tile t) :
    exec (.mvComplete t tag false) s =
      .next ((w.setTile t ((s.tile t).setTag tag.toNat (.done st))).setTile t ((s.tile t).moved tag st)) := by
  have hlatch : (w.setTile t ((s.tile t).setTag tag.toNat (.done st))).latch t 3 =
      (w.setTile t ((s.tile t).setTag tag.toNat (.done st))).setTile t ((s.tile t).moved tag st) := by
    unfold State.latch
    dsimp only
    rw [State.tile_setTile_same]
    rfl
  have hmoved : ((s.tile t).moved tag st).retiring = false := hret
  show execMvComplete t tag false s = _
  unfold execMvComplete
  rw [htag]
  unfold State.moveCopy at hcopy
  dsimp only
  rw [hf, hst, hcopy]
  simp only [Bool.false_and, Bool.false_eq_true, if_false]
  rw [hw, hlatch, State.tile_setTile_same, hmoved]
  rfl

/-- A movement that ends without a copy, or with one. -/
theorem mvComplete_gives {st : Status} {P : State → Prop} (htag : (s.tile t).tag tag.toNat = .busy m) (hf : s.tileFence t = false)
    (hret : (s.tile t).retiring = false) (hst : (if m.len = 0 then .ok else s.moveStatus m false) = st)
    (hcopy : s.moveCopy t m st = (w, false)) (hw : w.tile t = s.tile t)
    (h : ∀ s', s'.tile t = (s.tile t).moved tag st → (∀ u, u ≠ t.val → s'.tile u = w.tile u) → s'.regs = w.regs → s'.mem = w.mem →
      (∀ x, { s' with tiles := x } = { w with tiles := x }) → P s') : Gives (exec (.mvComplete t tag false) s) P :=
  ⟨_, mvComplete_eq htag hf hret hst hcopy hw, h _ (State.tile_setTile_same _ _ _)
    (fun _ hu => (State.tile_setTile_ne _ _ _ _ hu).trans (State.tile_setTile_ne _ _ _ _ hu)) rfl rfl fun _ => rfl⟩

end

/-- `n` bytes from `src` stand at `dst`; nothing else differs but what PRF counts. -/
structure Copied (s w : State) (dst src n : Nat) : Prop where
  bytes : w.bytes dst n = s.bytes src n
  outside : ∀ b, b < dst ∨ dst + n ≤ b → w.byte b = s.byte b
  regs : SameRegs s w
  frame : { w with regs := s.regs, prf := s.prf, mem := s.mem } = s

/-- A copy between clean ranges. -/
theorem readWrite_clean {s : State} {dst src n : Nat} (hs : CleanAt s src n) (hd : CleanAt s dst n) :
    (s.readMem src n 1).2.2 = false ∧ PrfOnly s (s.readMem src n 1).1 ∧
      Copied s ((s.readMem src n 1).1.writeMem dst (s.readMem src n 1).2.1 false 1) dst src n := by
  obtain ⟨hprf, hread⟩ := readMem_clean hs 1
  rw [hread]
  generalize (s.readMem src n 1).1 = u at *
  have hst := writeMem_stores (s := u) (a := dst) (bs := s.bytes src n) (by rw [State.bytes_length]; exact hprf.cleanAt hd) 1
  have hbytes := hst.1.bytes_eq
  have hout := hst.1.byte_outside
  rw [State.bytes_length] at hbytes hout
  refine ⟨rfl, hprf, hbytes, fun b hb => (hout b hb).trans (State.byte_of_mem hprf.mem b), fun r i hk => (hst.1.1.2.1 r i hk).trans (hprf.2 r i hk), ?_⟩
  exact (congrArg (fun z : State => { z with regs := s.regs, prf := s.prf, mem := s.mem }) hst.2 :).trans
    (hprf.frame (fun z => { z with regs := s.regs, prf := s.prf, mem := s.mem }) fun _ _ _ => rfl)

section
variable {s : State} {t : Fin 768} {m : Movement}

theorem copyMove_clean (hs : CleanAt s (spadByte t m.spad) m.len) (hr : CleanAt s m.remote m.len) :
    ∃ w, s.copyMove t m = (w, false) ∧
      Copied s w (if m.put then m.remote else spadByte t m.spad) (if m.put then spadByte t m.spad else m.remote) m.len := by
  unfold State.copyMove
  dsimp only
  cases hp : m.put with
  | true =>
    obtain ⟨hmark, hprf, hcopied⟩ := readWrite_clean hs hr
    simp only [if_true, spadAddr_eq]
    rw [hmark, touchesFailed_clean _ _ _ (hprf.cleanAt hr).lines]
    exact ⟨_, rfl, hcopied⟩
  | false =>
    obtain ⟨hmark, -, hcopied⟩ := readWrite_clean hr hs
    simp only [Bool.false_eq_true, if_false, spadAddr_eq]
    rw [hmark]
    exact ⟨_, rfl, hcopied⟩

/-- The status of a movement between the scratchpad and memory (R193). -/
theorem moveStatus_dram (h : m.remote < 0x8000000000) :
    s.moveStatus m false = if m.remote + m.len ≤ 0x8000000000 ∧ m.spad + m.len ≤ 0x80000 then .ok else .bounds := by
  have hplace : placeOf m.remote = .dram := (placeOf_dram _).mpr h
  have hfits : (!remoteFits m.remote m.len || decide (0x80000 < m.spad + m.len)) =
      decide ¬(m.remote + m.len ≤ 0x8000000000 ∧ m.spad + m.len ≤ 0x80000) := by
    have hmem : remoteFits m.remote m.len = decide (m.remote + m.len ≤ 0x8000000000) := by
      rw [remoteFits, hplace]
      rfl
    rw [hmem, Bool.eq_iff_iff]
    simp only [Bool.or_eq_true, Bool.not_eq_true', decide_eq_false_iff_not, decide_eq_true_eq]
    omega
  rw [State.moveStatus, hfits, hplace]
  by_cases hb : m.remote + m.len ≤ 0x8000000000 ∧ m.spad + m.len ≤ 0x80000
  · rw [if_pos hb, decide_eq_false (not_not.mpr hb)]
    rfl
  · rw [if_neg hb, decide_eq_true hb]
    rfl

end

section
variable {s : State} {t : Fin 768} {tag : BitVec 4} {m : Movement} (htag : (s.tile t).tag tag.toNat = .busy m)
  (hf : s.tileFence t = false) (hret : (s.tile t).retiring = false)
include htag hf hret

/-- A movement that ends without a copy touches its tile alone. -/
theorem mvComplete_still {st : Status} (hst : (if m.len = 0 then .ok else s.moveStatus m false) = st) (hno : ¬(st = .ok ∧ m.len ≠ 0)) :
    Gives (exec (.mvComplete t tag false) s) fun s' =>
      (∀ j, (s'.tile t).tag j = if j = tag.toNat then .done st else (s.tile t).tag j) ∧
        { s'.tile t with tags := (s.tile t).tags } = { s.tile t with latched := (s.tile t).latched ||| 8 } ∧ TileOnly t s s' := by
  refine mvComplete_gives (w := s) htag hf hret hst (if_neg hno) rfl fun s' htile hothers hregs _ hframe => ?_
  obtain ⟨htags, hrest⟩ := (s.tile t).moved_spec tag st
  rw [htile]
  exact ⟨htags, hrest, (congrArg (fun z : State => { z with regs := s.regs, prf := s.prf }) (hframe s.tiles) :), hothers,
    fun r i _ => State.rr_of_regs hregs r i⟩

theorem mvComplete_copied (hlen : 0 < m.len) (hspad : m.spad + m.len ≤ 0x80000) (hremote : m.remote + m.len ≤ 0x8000000000)
    (hs : CleanAt s (spadByte t m.spad) m.len) (hr : CleanAt s m.remote m.len) :
    Gives (exec (.mvComplete t tag false) s) fun s' =>
      let dst := if m.put then m.remote else spadByte t m.spad
      let src := if m.put then spadByte t m.spad else m.remote
      s'.bytes dst m.len = s.bytes src m.len ∧ (∀ b, b < dst ∨ dst + m.len ≤ b → s'.byte b = s.byte b) ∧
        (∀ j, (s'.tile t).tag j = if j = tag.toNat then .done .ok else (s.tile t).tag j) ∧
        { s'.tile t with tags := (s.tile t).tags } = { s.tile t with latched := (s.tile t).latched ||| 8 } ∧
        (∀ u, u ≠ t.val → s'.tile u = s.tile u) ∧ RegsKeptPrf [] s s' ∧
        { s' with regs := s.regs, prf := s.prf, tiles := s.tiles, mem := s.mem } = s := by
  obtain ⟨w, hw, hcopied⟩ := copyMove_clean hs hr
  have hne : m.len ≠ 0 := Nat.pos_iff_ne_zero.mp hlen
  have hst : (if m.len = 0 then .ok else s.moveStatus m false) = Status.ok := by
    rw [if_neg hne, moveStatus_dram (by omega), if_pos ⟨hremote, hspad⟩]
  have htiles : w.tiles = s.tiles := (congrArg State.tiles hcopied.frame :)
  have htile : ∀ u, w.tile u = s.tile u := State.tile_of_tiles htiles
  refine mvComplete_gives (w := w) htag hf hret hst ((if_pos ⟨rfl, hne⟩).trans hw) (htile t) fun s' hown hothers hregs hmem hframe => ?_
  obtain ⟨htags, hrest⟩ := (s.tile t).moved_spec tag .ok
  rw [hown]
  exact ⟨(State.bytes_of_mem hmem _ _).trans hcopied.bytes, fun b hb => (State.byte_of_mem hmem b).trans (hcopied.outside b hb), htags, hrest,
    fun u hu => (hothers u hu).trans (htile u), (SameRegs.kept hcopied.regs).of_regs hregs,
    (congrArg (fun z : State => { z with regs := s.regs, prf := s.prf, mem := s.mem }) (hframe s.tiles) :).trans
      (congrArg (fun z : State => { z with tiles := s.tiles }) hcopied.frame :)⟩

end

/-- Settles O17: a movement's tag from its issue to its end, and the copy between clean ranges. -/
theorem movements : Obligations.Movements := by
  intro s t o
  refine ⟨fun hx hpr hpm hk => ⟨fun ha hfree => ⟨fun hconf => issueMove_tagSet hx hpr hpm hk ha hfree hconf,
    fun hconf => issueMove_tagSet hx hpr hpm hk ha hfree hconf⟩, fun hb hc hd => movementTags hx hpr hpm hk hb hc hd⟩,
    fun tag m htag hf hret => ⟨fun hlen hspad hremote hs hr => mvComplete_copied htag hf hret hlen hspad hremote hs hr,
      fun hlen hbad hremote => ?_, fun hlen => ?_⟩⟩
  · have hne : m.len ≠ 0 := Nat.pos_iff_ne_zero.mp hlen
    exact mvComplete_still htag hf hret (by rw [if_neg hne, moveStatus_dram hremote, if_neg (by omega)]) (by simp)
  · exact mvComplete_still htag hf hret (if_pos hlen) (fun h => h.2 hlen)

end Sys2Proof.Machine
end

section
/-! SUPPORT. Upkeep of memory (O21): what a read of the scrubber leaves, a failed channel, and the bands and the self-refresh of stacks. -/

namespace Sys2Proof.Machine

/-! ### Channels and places -/

/-- The stack of an address is one of 8 and the channel in it one of 96 (R279, R283). -/
theorem State.channelOf_lt (s : State) (a : Nat) : s.channelOf a < 768 := by
  unfold State.channelOf
  split
  · next i _ =>
    have hstack : ∀ n, (stacksOf (s.f F.MEM_RGN_CTL_STACKS i)).getD n 0 < 8 := by
      intro n
      rw [List.getD_eq_getElem?_getD]
      cases hget : (stacksOf (s.f F.MEM_RGN_CTL_STACKS i))[n]? with
      | none => decide
      | some k => exact List.mem_range.mp (List.mem_of_mem_filter (List.mem_of_getElem? hget))
    have := hstack ((a - (s.region i).1) / (if s.f F.MEM_RGN_CTL_GRAN i = 1 then 4096 else 256) %
      (stacksOf (s.f F.MEM_RGN_CTL_STACKS i)).length)
    dsimp only
    omega
  · dsimp only
    omega

theorem chStat_key_inj {p q : Nat} (h : Reg.MEM_CH_STAT.key p = Reg.MEM_CH_STAT.key q) : p = q := by
  have hkey : ∀ i, Reg.MEM_CH_STAT.key i = 0x81000C + i / 1 * 16 + i % 1 * 0 := fun _ => rfl
  rw [hkey, hkey] at h
  omega

/-- The field's register is of the list. -/
theorem RegsKept.sf {l : List (Reg × Nat)} {s t : State} (h : RegsKept l s t) (g : Fld) (i v : Nat) (hm : (g.reg, i) ∈ l) :
    RegsKept l s (t.sf g i v) := h.wr g.reg i _ hm

theorem RegsKept.mono {l m : List (Reg × Nat)} {s t : State} (h : RegsKept l s t) (hlm : l ⊆ m) : RegsKept m s t :=
  fun r i hm => h r i fun p hp => hm p (hlm hp)

theorem State.f_of_rr {s t : State} {g : Fld} {i : Nat} (h : t.rr g.reg i = s.rr g.reg i) : t.f g i = s.f g i := by
  rw [State.f, State.f, h]

/-! ### What the check of a line leaves -/

/-- A line in memory counted and reported, when its read finds the error `e`. -/
def State.found (s : State) (line src : Nat) : Option Ecc → State
  | none => s
  | some .correctable => (s.dropLatent line).countCe (line * 64)
  | some .uncorrectable => ((s.dropLatent line).setPoison line true).countUe (line * 64) src

/-- The check of a line whose channel answers and that is not poisoned counts the read and finds the error that the line holds. -/
theorem checkLine_found {s : State} {line : Nat} (src : Nat) (hmem : line * 64 < memEnd) (hp : s.poisoned line = false)
    (hf : s.channelFailed (s.channelOf (line * 64)) = false) :
    (s.checkLine line src).1 = (s.blockEvent 0x01 (s.channelOf (line * 64)) 1).found line src (s.latentAt line) := by
  have hsame : SameRegs s (s.blockEvent 0x01 (s.channelOf (line * 64)) 1) := (PrfOnly.blockEvent _ _ _ _).2
  have hm : (s.blockEvent 0x01 (s.channelOf (line * 64)) 1).mem = s.mem := (RegsOnly.blockEvent _ _ _ _).mem
  unfold State.checkLine
  dsimp only
  rw [if_pos ((placeOf_dram _).mpr hmem)]
  generalize s.blockEvent 0x01 (s.channelOf (line * 64)) 1 = u at hsame hm ⊢
  have hf' : u.channelFailed (u.channelOf (line * 64)) = false := by rw [hsame.channelFailed, hsame.channelOf, hf]
  have hp' : u.poisoned line = false := by rw [State.poisoned, hm]; exact hp
  have hl' : u.latentAt line = s.latentAt line := by rw [State.latentAt, hm]; rfl
  rw [if_neg (by simp [hf']), if_neg (by simp [hp']), hl']
  rcases s.latentAt line with _ | (_ | _) <;> rfl

section
variable (s : State) (line src : Nat) (e : Option Ecc)

theorem found_linesOnly : LinesOnly s (s.found line src e) := by
  rcases e with _ | (_ | _)
  · exact .refl s
  · exact (LinesOnly.dropLatent s line).trans (.countCe _ _)
  · exact ((LinesOnly.dropLatent s line).trans (.setPoison _ line true)).trans (.countUe _ _ _)

/-- What is found changes no byte, and no mark of the scrubber. -/
theorem found_cells_scrubbed :
    (s.found line src e).mem.cells = s.mem.cells ∧ (s.found line src e).mem.scrubbed = s.mem.scrubbed := by
  rcases e with _ | (_ | _)
  · exact ⟨rfl, rfl⟩
  · rw [State.found, countCe_cells]
    exact ⟨rfl, rfl⟩
  · rw [State.found, countUe_cells]
    exact ⟨rfl, rfl⟩

/-- An error that is found stands in the line no longer. -/
theorem found_latentAt (h : s.latentAt line = e) : (s.found line src e).latentAt line = none := by
  have hdrop : SMap.find? (SMap.del s.mem.latent line) line = none := SMap.find?_del_same _ _
  rcases e with _ | (_ | _)
  · exact h
  · rw [State.latentAt, State.found, countCe_cells]; exact hdrop
  · rw [State.latentAt, State.found, countUe_cells]; exact hdrop

/-- Only an uncorrectable error poisons (R285). -/
theorem found_poisoned (h : s.poisoned line = false) :
    (s.found line src e).poisoned line = decide (e = some .uncorrectable) := by
  rcases e with _ | (_ | _)
  · exact h
  · rw [State.poisoned, State.found, countCe_cells]; exact h
  · rw [State.poisoned, State.found, countUe_cells]; exact SMap.get_set_same (fun _ => false) s.mem.poison line true

end

/-! ### The log of uncorrectable errors -/

/-- The registers of the error log (R285). -/
abbrev errlogRegs : List (Reg × Nat) := [(.MEM_ERRLOG_LO, 0), (.MEM_ERRLOG_HI, 0), (.MEM_ERRLOG_INFO, 0)]

theorem errlogRegs_apart {q : Nat} (hq : q < 768) : ∀ p ∈ errlogRegs, p.1.key p.2 ≠ Reg.MEM_CH_UE.key q := by
  have htable : ∀ p ∈ errlogRegs, p.1.desc.apart Reg.MEM_CH_UE.desc = true ∧ p.2 < p.1.copies := by decide
  exact fun p hp => Reg.key_ne_of_apart (htable p hp).1 (htable p hp).2 hq

/-- Counting an error leaves the log. -/
theorem State.bumpUe_errlog (s : State) {q : Nat} (hq : q < 768) (r : Reg) (hr : (r, 0) ∈ errlogRegs) :
    (s.bump .MEM_CH_UE q).rr r 0 = s.rr r 0 := s.rr_bump_ne _ _ _ _ _ (errlogRegs_apart hq _ hr)

section
variable (s : State) (a q src : Nat)

theorem State.errlog_kept : RegsKept errlogRegs s (s.errlog a q src) := by
  unfold State.errlog
  split
  · exact (RegsKept.refl _ s).sf _ _ _ (by simp)
  · exact (((RegsKept.refl _ s).wr _ _ _ (by simp)).wr _ _ _ (by simp)).wr _ _ _ (by simp)

theorem State.errlog_events : (s.errlog a q src).events = s.events := (congrArg State.events (errlog_only s a q src) :)
theorem State.errlog_now : (s.errlog a q src).now = s.now := (congrArg State.now (errlog_only s a q src) :)

theorem State.fb_iff (g : Fld) (i : Nat) : s.fb g i = true ↔ s.f g i = 1 := beq_iff_eq

theorem State.errlog_valid (hq : q < 2 ^ 24) (hsrc : src < 4) : (s.errlog a q src).f F.MEM_ERRLOG_INFO_VALID = 1 := by
  unfold State.errlog
  split
  · next hv =>
    rw [State.f_sf_above s F.MEM_ERRLOG_INFO_OVER F.MEM_ERRLOG_INFO_VALID 0 1 rfl (by decide) (by decide) (by decide)]
    exact (s.fb_iff _ _).mp hv
  · rw [State.f, State.rr_wr_same]
    show (2 ^ 31 + src * 2 ^ 24 + q) % 2 ^ 32 / 2 ^ 31 % 2 = 1
    omega

/-- The first error stands in the log with its line (R285). -/
theorem State.errlog_first (hv : s.f F.MEM_ERRLOG_INFO_VALID = 0) (ha : a < 2 ^ 64) :
    (s.errlog a q src).pair .MEM_ERRLOG_LO .MEM_ERRLOG_HI = a / 64 * 64 := by
  have hfree : ¬ s.fb F.MEM_ERRLOG_INFO_VALID = true := by rw [s.fb_iff, hv]; decide
  have hpair := State.pair_setPair_same s .MEM_ERRLOG_LO .MEM_ERRLOG_HI 0 (a / 64 * 64) (by decide)
  unfold State.errlog
  rw [if_neg hfree, State.pair, State.rr_wr_ne _ _ _ _ _ _ (by decide), State.rr_wr_ne _ _ _ _ _ _ (by decide), ← State.pair, hpair]
  omega

/-- A further error leaves the first in the log and sets OVER (R285). -/
theorem State.errlog_further (hv : s.f F.MEM_ERRLOG_INFO_VALID = 1) :
    (s.errlog a q src).pair .MEM_ERRLOG_LO .MEM_ERRLOG_HI = s.pair .MEM_ERRLOG_LO .MEM_ERRLOG_HI ∧
      (s.errlog a q src).f F.MEM_ERRLOG_INFO_OVER = 1 := by
  unfold State.errlog
  rw [if_pos ((s.fb_iff _ _).mpr hv)]
  constructor
  · rw [State.pair, State.sf, State.rr_wr_ne _ _ _ _ _ _ (by decide), State.rr_wr_ne _ _ _ _ _ _ (by decide), ← State.pair]
  · rw [State.f_sf_same _ _ _ _ (by decide) (by decide)]
    rfl

end

/-! ### Errors counted -/

section
variable (s : State) (a src : Nat)

/-- A corrected error of memory is counted at its channel and put on line 4 (R284). -/
theorem State.countCe_dram (ha : a < memEnd) :
    let q := s.channelOf a
    let t := s.countCe a
    RegsKept [(.MEM_CH_CE, q)] s t ∧ t.rr .MEM_CH_CE q = min (s.rr .MEM_CH_CE q + 1) 0xFFFFFFFF ∧
      t.events = s.events ++ [⟨s.now, 4, q, .check⟩] := by
  intro q t
  have ht : t = (s.bump .MEM_CH_CE q).raise 4 q .check := by
    unfold t
    rw [State.countCe, (placeOf_dram a).mpr ha]
  rw [ht]
  exact ⟨(RegsKept.refl _ s).wr _ _ _ (by simp), s.rr_bump_same _ _ _, rfl⟩

/-- An uncorrectable error of memory is counted at its channel, logged while the log is free, and put on line 5 (R285). -/
theorem State.countUe_dram (ha : a < memEnd) (hsrc : src < 4) :
    let q := s.channelOf a
    let t := s.countUe a src
    RegsKept ((.MEM_CH_UE, q) :: errlogRegs) s t ∧ t.rr .MEM_CH_UE q = min (s.rr .MEM_CH_UE q + 1) 0xFFFFFFFF ∧
      t.events = s.events ++ [⟨s.now, 5, q, .poison⟩] ∧ t.f F.MEM_ERRLOG_INFO_VALID = 1 ∧
      (s.f F.MEM_ERRLOG_INFO_VALID = 0 → t.pair .MEM_ERRLOG_LO .MEM_ERRLOG_HI = a / 64 * 64) ∧
      (s.f F.MEM_ERRLOG_INFO_VALID = 1 → t.pair .MEM_ERRLOG_LO .MEM_ERRLOG_HI = s.pair .MEM_ERRLOG_LO .MEM_ERRLOG_HI ∧
        t.f F.MEM_ERRLOG_INFO_OVER = 1) := by
  intro q t
  have hq : q < 768 := s.channelOf_lt a
  have ht : t = ((s.bump .MEM_CH_UE q).errlog a q src).raise 5 q .poison := by
    unfold t
    rw [State.countUe, (placeOf_dram a).mpr ha]
  have hcount : RegsKept [(.MEM_CH_UE, q)] s (s.bump .MEM_CH_UE q) := (RegsKept.refl _ s).wr _ _ _ (by simp)
  have hlog := State.errlog_kept (s.bump .MEM_CH_UE q) a q src
  have hvalid := State.f_of_rr (g := F.MEM_ERRLOG_INFO_VALID) (s.bumpUe_errlog hq .MEM_ERRLOG_INFO (by simp))
  rw [ht]
  refine ⟨(hcount.mono (by simp)).trans (hlog.mono (List.subset_cons_self _ _)),
    (hlog _ _ (errlogRegs_apart hq)).trans (s.rr_bump_same _ _ _), ?_, State.errlog_valid _ _ _ _ (by omega) hsrc,
    fun hv => State.errlog_first _ _ _ _ (hvalid.trans hv) (by unfold memEnd at ha; omega), fun hv => ?_⟩
  · rw [State.raise, State.errlog_events, State.errlog_now]
    rfl
  · obtain ⟨hfirst, hover⟩ := State.errlog_further _ a q src (hvalid.trans hv)
    refine ⟨hfirst.trans ?_, hover⟩
    rw [State.pair, s.bumpUe_errlog hq _ (by simp), s.bumpUe_errlog hq _ (by simp), ← State.pair]

end

/-! ### The scrubber (R287, R288) -/

/-- A line marked as read in the pass of the scrubber. -/
def State.markScrubbed (s : State) (line : Nat) : State :=
  { s with mem := { s.mem with scrubbed := SMap.set (fun _ => false) s.mem.scrubbed line true } }

theorem SMap.length_put_le {α : Type} (m : SMap α) (k : Nat) (v : α) : (SMap.put m k v).length ≤ m.length + 1 := by
  induction m with
  | nil => simp [SMap.put]
  | cons p m ih =>
    obtain ⟨a, w⟩ := p
    unfold SMap.put
    split
    · simp
    · split
      · simp
      · simpa using ih

theorem SMap.length_set_le {α : Type} [DecidableEq α] (d : Nat → α) (m : SMap α) (k : Nat) (v : α) :
    (SMap.set d m k v).length ≤ m.length + 1 := by
  unfold SMap.set
  split
  · exact (List.length_filter_le _ _).trans (Nat.le_succ _)
  · exact SMap.length_put_le m k v

/-- A state in which the scrubber can read a line whole, and no pass ends with it: the premises of O21. -/
structure ScrubReady (s : State) (line : Nat) : Prop where
  enabled : s.f F.MEM_SCRUB_EN = 1
  unended : s.mem.scrubbed.length + 1 < 2 ^ 33
  clean : s.poisoned line = false
  answers : s.channelFailed (s.channelOf (line * 64)) = false
  sound : s.latentAt line = none

/-- The state in which the scrubber finds what a line holds: the line has taken its error, and the read is counted. -/
def State.scrubRead (s : State) (line : Nat) (flip : Option Ecc) : State :=
  (s.flipLine line flip).blockEvent 0x01 (s.channelOf (line * 64)) 1

section
variable (s : State) (line : Nat) (flip : Option Ecc)

theorem State.flipLine_regs : (s.flipLine line flip).regs = s.regs := by cases flip <;> rfl

theorem State.flipLine_sameRegs : SameRegs s (s.flipLine line flip) := fun r i _ => State.rr_of_regs (s.flipLine_regs line flip) r i

theorem State.flipLine_poisoned : (s.flipLine line flip).poisoned line = s.poisoned line := by cases flip <;> rfl

theorem State.flipLine_latentAt (h : s.latentAt line = none) : (s.flipLine line flip).latentAt line = flip := by
  cases flip with
  | none => exact h
  | some e => exact SMap.find?_put_same _ _ _

theorem State.scrubRead_mem : (s.scrubRead line flip).mem = (s.flipLine line flip).mem := (RegsOnly.blockEvent _ _ _ _).mem

theorem State.scrubRead_sameRegs : SameRegs s (s.scrubRead line flip) := fun r i hk =>
  ((PrfOnly.blockEvent (s.flipLine line flip) _ _ _).2 r i hk).trans (s.flipLine_sameRegs line flip r i hk)

theorem State.scrubRead_only : { s.scrubRead line flip with regs := s.regs, mem := s.mem } = s := by
  have hflip : { s.flipLine line flip with regs := s.regs, mem := s.mem } = s := by cases flip <;> rfl
  have hcount : RegsOnly (s.flipLine line flip) (s.scrubRead line flip) := RegsOnly.blockEvent _ _ _ _
  exact (congrArg (fun x : State => { x with regs := s.regs, mem := s.mem }) hcount :).trans hflip

theorem State.scrubRead_events : (s.scrubRead line flip).events = s.events := (congrArg State.events (s.scrubRead_only line flip) :)
theorem State.scrubRead_now : (s.scrubRead line flip).now = s.now := (congrArg State.now (s.scrubRead_only line flip) :)

theorem State.scrubRead_poisoned : (s.scrubRead line flip).poisoned line = s.poisoned line := by
  rw [State.poisoned, s.scrubRead_mem]
  exact s.flipLine_poisoned line flip

theorem State.scrubRead_latentAt (h : s.latentAt line = none) : (s.scrubRead line flip).latentAt line = flip := by
  rw [State.latentAt, s.scrubRead_mem]
  exact s.flipLine_latentAt line flip h

theorem State.scrubRead_cells : (s.scrubRead line flip).mem.cells = s.mem.cells := by
  rw [s.scrubRead_mem]
  cases flip <;> rfl

theorem State.scrubRead_scrubbed : (s.scrubRead line flip).mem.scrubbed = s.mem.scrubbed := by
  rw [s.scrubRead_mem]
  cases flip <;> rfl

end

section
variable {s : State} {line : Fin 8589934592} (flip : Option Ecc)

theorem line_inMem (line : Fin 8589934592) : line.val * 64 < memEnd := by
  unfold memEnd
  omega

theorem patrolScrubLine_read (h : ScrubReady s line) :
    exec (.patrolScrubLine line flip) s = .next (((s.scrubRead line flip).found line 3 flip).markScrubbed line) := by
  obtain ⟨hen, hlen, hp, hf, hl⟩ := h
  have hsame := s.flipLine_sameRegs line flip
  have hen' : s.fb F.MEM_SCRUB_EN = true := (s.fb_iff _ _).mpr hen
  have hp' : (s.flipLine line flip).poisoned line = false := (s.flipLine_poisoned line flip).trans hp
  have hl' := s.flipLine_latentAt line flip hl
  have hread : ((s.flipLine line flip).checkLine line 3).1 = (s.scrubRead line flip).found line 3 flip := by
    rw [checkLine_found 3 (line_inMem line) hp' (by rw [hsame.channelFailed, hsame.channelOf, hf]), hl', hsame.channelOf]
    rfl
  have hseen : (SMap.set (fun _ => false) ((s.scrubRead line flip).found line 3 flip).mem.scrubbed line true).length < memLines := by
    rw [(found_cells_scrubbed _ _ _ _).2, s.scrubRead_scrubbed]
    exact (SMap.length_set_le _ _ _ _).trans_lt hlen
  show execPatrolScrubLine line flip s = _
  unfold execPatrolScrubLine
  dsimp only
  simp only [hen', hp', hread, Nat.not_le.mpr hseen, Bool.not_true, Bool.false_eq_true, decide_false, if_false]
  rfl

/-- What a read of the scrubber leaves, whatever it finds: the line marked, no error in it, no byte changed (R288). -/
theorem scrubRead_left (h : ScrubReady s line) :
    let t := ((s.scrubRead line flip).found line 3 flip).markScrubbed line
    SMap.get (fun _ => false) t.mem.scrubbed line = true ∧ t.latentAt line = none ∧ t.mem.cells = s.mem.cells ∧
      { t with regs := s.regs, prf := s.prf, mem := s.mem, events := s.events } = s := by
  refine ⟨SMap.get_set_same (fun _ => false) _ line.val true, found_latentAt _ _ _ _ (s.scrubRead_latentAt line flip h.sound),
    (found_cells_scrubbed _ _ _ _).1.trans (s.scrubRead_cells line flip), ?_⟩
  have hread : LinesOnly s (s.scrubRead line flip) :=
    (congrArg (fun x : State => { x with events := s.events }) (s.scrubRead_only line flip) :)
  exact (congrArg (fun x : State => { x with prf := s.prf }) (hread.trans (found_linesOnly _ line 3 flip)) :)

theorem scrubRead_poison (h : ScrubReady s line) :
    (((s.scrubRead line flip).found line 3 flip).markScrubbed line).poisoned line = decide (flip = some .uncorrectable) :=
  found_poisoned _ _ _ _ ((s.scrubRead_poisoned line flip).trans h.clean)

end

section
variable (s : State) (line : Fin 8589934592)

theorem scrubRead_none_kept (l : List (Reg × Nat)) :
    RegsKeptPrf l s (((s.scrubRead line none).found line 3 none).markScrubbed line) :=
  (s.scrubRead_sameRegs line none).kept.of_regs rfl

/-- What the scrubber reads when the line takes a correctable error (R284). -/
theorem scrubRead_correctable :
    let q := s.channelOf (line.val * 64)
    let t := ((s.scrubRead line (some .correctable)).found line 3 (some .correctable)).markScrubbed line
    RegsKeptPrf [(.MEM_CH_CE, q)] s t ∧ t.rr .MEM_CH_CE q = min (s.rr .MEM_CH_CE q + 1) 0xFFFFFFFF ∧
      t.events = s.events ++ [⟨s.now, 4, q, .check⟩] := by
  have hsame : SameRegs s ((s.scrubRead line (some .correctable)).dropLatent line) := s.scrubRead_sameRegs line (some .correctable)
  obtain ⟨hkept, hrr, hevents⟩ := State.countCe_dram ((s.scrubRead line (some .correctable)).dropLatent line) _ (line_inMem line)
  rw [hsame.channelOf] at hkept hrr hevents
  refine ⟨hsame.kept.trans hkept (fun _ h => h), hrr.trans ?_, hevents.trans ?_⟩
  · rw [hsame.rr _ _ (by decide)]
  · rw [State.dropLatent_events, State.now_dropLatent, s.scrubRead_events, s.scrubRead_now]

/-- What the scrubber reads when the line takes an uncorrectable error (R285). -/
theorem scrubRead_uncorrectable :
    let q := s.channelOf (line.val * 64)
    let t := ((s.scrubRead line (some .uncorrectable)).found line 3 (some .uncorrectable)).markScrubbed line
    t.rr .MEM_CH_UE q = min (s.rr .MEM_CH_UE q + 1) 0xFFFFFFFF ∧ t.events = s.events ++ [⟨s.now, 5, q, .poison⟩] ∧
      RegsKeptPrf ((.MEM_CH_UE, q) :: errlogRegs) s t ∧ t.f F.MEM_ERRLOG_INFO_VALID = 1 ∧
      (s.f F.MEM_ERRLOG_INFO_VALID = 0 → t.pair .MEM_ERRLOG_LO .MEM_ERRLOG_HI = line.val * 64) ∧
      (s.f F.MEM_ERRLOG_INFO_VALID = 1 → t.pair .MEM_ERRLOG_LO .MEM_ERRLOG_HI = s.pair .MEM_ERRLOG_LO .MEM_ERRLOG_HI ∧
        t.f F.MEM_ERRLOG_INFO_OVER = 1) := by
  have hsame : SameRegs s (((s.scrubRead line (some .uncorrectable)).dropLatent line).setPoison line true) :=
    s.scrubRead_sameRegs line (some .uncorrectable)
  obtain ⟨hkept, hrr, hevents, hvalid, hfirst, hfurther⟩ :=
    State.countUe_dram (((s.scrubRead line (some .uncorrectable)).dropLatent line).setPoison line true) _ 3 (line_inMem line) (by decide)
  rw [hsame.f _ _ (by decide)] at hfirst hfurther
  rw [hsame.channelOf] at hkept hrr hevents
  refine ⟨hrr.trans ?_, hevents.trans ?_, hsame.kept.trans hkept (fun _ h => h), hvalid,
    fun hv => (hfirst hv).trans (by omega), fun hv => ⟨(hfurther hv).1.trans ?_, (hfurther hv).2⟩⟩
  · rw [hsame.rr _ _ (by decide)]
  · rw [State.setPoison_events, State.dropLatent_events, State.now_setPoison, State.now_dropLatent, s.scrubRead_events, s.scrubRead_now]
  · rw [State.pair, hsame.rr _ _ (by decide), hsame.rr _ _ (by decide), ← State.pair]

end

/-! ### Bands (R290) -/

/-- The last number below `n` of which `p` holds stands when a fold has gone through them; 0 when there is none. -/
theorem foldl_last_holds (p : Nat → Bool) (n : Nat) :
    let r := (List.range n).foldl (fun a k => if p k then k else a) 0
    (∀ k < n, p k → k ≤ r) ∧ (r = 0 ∨ r < n ∧ p r) := by
  induction n with
  | zero => exact ⟨fun k hk => absurd hk (Nat.not_lt_zero k), .inl rfl⟩
  | succ n ih =>
    obtain ⟨hub, hlast⟩ := ih
    simp only [List.range_succ, List.foldl_append, List.foldl_cons, List.foldl_nil]
    split
    · next hn => exact ⟨fun k hk _ => Nat.le_of_lt_succ hk, .inr ⟨Nat.lt_succ_self n, hn⟩⟩
    · next hn =>
      refine ⟨fun k hk hpk => hub k ?_ hpk, hlast.imp_right fun ⟨h, hp⟩ => ⟨h.trans (Nat.lt_succ_self n), hp⟩⟩
      rcases Nat.lt_succ_iff_lt_or_eq.mp hk with hlt | rfl
      · exact hlt
      · exact absurd hpk hn

/-- A stack of band `b` has reached the temperature of band `k`: its lower edge, or 3 K below it for a band not above its own (R290). -/
def bandReached (b : Nat) (t : Int) (k : Nat) : Bool := decide ((if b < k then bandEdge k else bandEdge k - 3 * 16) ≤ t)

theorem nextBand_eq (b : Nat) (t : Int) :
    nextBand b t = (List.range 4).foldl (fun a k => if bandReached b t k then k else a) 0 := by
  unfold nextBand
  congr 1
  funext a k
  unfold bandReached
  split <;> simp

theorem bandEdge_eq {k : Nat} (h0 : 0 < k) (h4 : k < 4) : bandEdge k = 16 * (75 + 10 * k) := by
  obtain rfl | rfl | rfl : k = 1 ∨ k = 2 ∨ k = 3 := by omega
  all_goals rfl

section
variable (b : Nat) (t : Int)

theorem nextBand_le : nextBand b t ≤ 3 := by
  have h := (foldl_last_holds (bandReached b t) 4).2
  rw [← nextBand_eq] at h
  omega

theorem le_nextBand {k : Nat} (hk : k < 4) (h : bandReached b t k = true) : k ≤ nextBand b t := by
  rw [nextBand_eq]
  exact (foldl_last_holds (bandReached b t) 4).1 k hk h

theorem nextBand_reached (h : 0 < nextBand b t) : bandReached b t (nextBand b t) = true := by
  have hlast := (foldl_last_holds (bandReached b t) 4).2
  rw [← nextBand_eq] at hlast
  exact (hlast.resolve_left (Nat.ne_of_gt h)).2

/-- A band rises to `j` at the lower edge of `j`. -/
theorem nextBand_rise {j : Nat} (hj0 : 0 < j) (hj4 : j < 4) (hb : b < j) : 16 * (75 + 10 * (j : Int)) ≤ t ↔ j ≤ nextBand b t := by
  constructor
  · intro h
    exact le_nextBand b t hj4 (by rw [bandReached, if_pos hb, bandEdge_eq hj0 hj4]; exact decide_eq_true h)
  · intro h
    have hle := nextBand_le b t
    have hr := nextBand_reached b t (by omega)
    rw [bandReached, if_pos (by omega), bandEdge_eq (by omega) (by omega), decide_eq_true_eq] at hr
    omega

/-- A band that does not rise stays at `j` or above down to 3 K below the lower edge of `j`. -/
theorem nextBand_keep {j : Nat} (hj0 : 0 < j) (hj4 : j < 4) (hb : j ≤ b) (hn : nextBand b t ≤ b) :
    16 * (75 + 10 * (j : Int)) - 48 ≤ t ↔ j ≤ nextBand b t := by
  constructor
  · intro h
    exact le_nextBand b t hj4 (by rw [bandReached, if_neg (by omega), bandEdge_eq hj0 hj4]; exact decide_eq_true h)
  · intro h
    have hle := nextBand_le b t
    have hr := nextBand_reached b t (by omega)
    rw [bandReached, if_neg (by omega), bandEdge_eq (by omega) (by omega), decide_eq_true_eq] at hr
    omega

end

/-! ### Self-refresh (R293) -/

/-- The first `n` channels of stack `k` that are in state `a` go to state `b`. -/
def State.someChannels (s : State) (k a b n : Nat) : State :=
  (List.range n).foldl (fun x c =>
    if x.f F.MEM_CH_STAT_STATE (96 * k + c) = a then x.sf F.MEM_CH_STAT_STATE (96 * k + c) b else x) s

section
variable (s : State) (k a b : Nat)

theorem State.stackChannels_eq : s.stackChannels k a b = s.someChannels k a b 96 := rfl

theorem State.someChannels_succ (n : Nat) :
    let x := s.someChannels k a b n
    s.someChannels k a b (n + 1) =
      if x.f F.MEM_CH_STAT_STATE (96 * k + n) = a then x.sf F.MEM_CH_STAT_STATE (96 * k + n) b else x := by
  unfold State.someChannels
  rw [List.range_succ, List.foldl_append]
  rfl

theorem State.someChannels_only (n : Nat) : RegsOnly s (s.someChannels k a b n) := by
  induction n with
  | zero => exact RegsOnly.refl s
  | succ n ih =>
    rw [State.someChannels_succ]
    split
    · exact ih.trans (RegsOnly.sf _ _ _ _)
    · exact ih

theorem State.someChannels_kept (n : Nat) :
    RegsKept ((List.range n).map fun c => (.MEM_CH_STAT, 96 * k + c)) s (s.someChannels k a b n) := by
  induction n with
  | zero => exact RegsKept.refl _ s
  | succ n ih =>
    have hstep : RegsKept ((List.range (n + 1)).map fun c => (.MEM_CH_STAT, 96 * k + c)) s (s.someChannels k a b n) :=
      ih.mono (by rw [List.range_succ, List.map_append]; exact List.subset_append_left _ _)
    rw [State.someChannels_succ]
    split
    · exact hstep.sf _ _ _ (List.mem_map.mpr ⟨n, List.mem_range.mpr (Nat.lt_succ_self n), rfl⟩)
    · exact hstep

/-- Each channel that the fold has met is in its new state. -/
theorem State.someChannels_state (hb : b < 4) (n c : Nat) :
    (s.someChannels k a b n).f F.MEM_CH_STAT_STATE (96 * k + c) =
      if c < n ∧ s.f F.MEM_CH_STAT_STATE (96 * k + c) = a then b else s.f F.MEM_CH_STAT_STATE (96 * k + c) := by
  induction n with
  | zero => simp [State.someChannels]
  | succ n ih =>
    rw [State.someChannels_succ]
    by_cases hc : c = n
    · subst hc
      have hold : (s.someChannels k a b c).f F.MEM_CH_STAT_STATE (96 * k + c) = s.f F.MEM_CH_STAT_STATE (96 * k + c) := by
        rw [ih, if_neg (fun h => absurd h.1 (Nat.lt_irrefl c))]
      rw [hold]
      split
      · next ha =>
        rw [State.f_sf_same _ _ _ _ (by decide) (by decide), if_pos ⟨Nat.lt_succ_self c, ha⟩]
        exact Nat.mod_eq_of_lt hb
      · next ha => rw [hold, if_neg fun h => ha h.2]
    · have hother : ∀ x : State, (x.sf F.MEM_CH_STAT_STATE (96 * k + n) b).f F.MEM_CH_STAT_STATE (96 * k + c) =
          x.f F.MEM_CH_STAT_STATE (96 * k + c) := fun x =>
        State.f_sf_ne x _ _ _ _ _ fun h => hc (Nat.add_left_cancel (chStat_key_inj h))
      have hiff : c < n + 1 ↔ c < n := by omega
      simp only [hiff]
      rw [← ih]
      split
      · exact hother _
      · rfl

end

theorem stk_key_ne_chStat {k q : Nat} (hk : k < 8) (hq : q < 768) : Reg.MEM_STK.key k ≠ Reg.MEM_CH_STAT.key q :=
  Reg.key_ne_of_apart (by decide) hk hq

section
variable (s : State) (k : Fin 8)

/-- A wake-up leaves of a stack's register all but SELFREF, which it clears. -/
theorem State.wakeStack_stk :
    (s.wakeStack k).f F.MEM_STK_SELFREF k = 0 ∧ (s.wakeStack k).f F.MEM_STK_BAND k = s.f F.MEM_STK_BAND k := by
  have hstk : (s.wakeStack k).rr .MEM_STK k = (s.sf F.MEM_STK_SELFREF k 0).rr .MEM_STK k := by
    refine State.someChannels_kept _ k 1 0 96 _ _ fun p hp => ?_
    obtain ⟨c, hc, rfl⟩ := List.mem_map.mp hp
    exact (stk_key_ne_chStat k.isLt (by have := List.mem_range.mp hc; omega)).symm
  constructor
  · rw [State.f_of_rr (g := F.MEM_STK_SELFREF) hstk]
    exact s.f_sf_same F.MEM_STK_SELFREF k 0 (by decide) (by decide)
  · rw [State.f_of_rr (g := F.MEM_STK_BAND) hstk]
    exact s.f_sf_below F.MEM_STK_SELFREF F.MEM_STK_BAND k 0 rfl (by decide) (by decide) (by decide)

/-- Of the stack's channels, those in self-refresh wake. -/
theorem State.wakeStack_channel {c : Nat} (hc : c < 96) :
    (s.wakeStack k).f F.MEM_CH_STAT_STATE (96 * k + c) =
      if s.f F.MEM_CH_STAT_STATE (96 * k + c) = 1 then 0 else s.f F.MEM_CH_STAT_STATE (96 * k + c) := by
  have hold : (s.sf F.MEM_STK_SELFREF k 0).f F.MEM_CH_STAT_STATE (96 * k + c) = s.f F.MEM_CH_STAT_STATE (96 * k + c) :=
    s.f_sf_ne F.MEM_STK_SELFREF F.MEM_CH_STAT_STATE k _ 0 (stk_key_ne_chStat k.isLt (by omega)).symm
  rw [State.wakeStack, State.stackChannels_eq, State.someChannels_state _ _ _ _ (by decide), hold]
  simp only [hc, true_and]

theorem State.wakeStack_kept :
    RegsKept ((.MEM_STK, k.val) :: (List.range 96).map fun c => (.MEM_CH_STAT, 96 * k + c)) s (s.wakeStack k) := by
  have hstk : RegsKept [(.MEM_STK, k.val)] s (s.sf F.MEM_STK_SELFREF k 0) := (RegsKept.refl _ s).sf _ _ _ (by simp)
  exact (hstk.mono (by simp)).trans ((State.someChannels_kept _ k 1 0 96).mono (List.subset_cons_self _ _))

theorem State.wakeStack_only : RegsOnly s (s.wakeStack k) :=
  (RegsOnly.sf s F.MEM_STK_SELFREF k 0).trans (State.someChannels_only _ k 1 0 96)

end

/-! ### The statement -/

theorem memoryUpkeep : MemoryUpkeep := by
  intro s
  refine ⟨fun line flip => ⟨fun hoff => ⟨s, ?_, rfl⟩, fun hen hlen hp hf hl => ?_⟩, fun q hq => ?_⟩
  · have hoff' : s.fb F.MEM_SCRUB_EN = false := by rw [State.fb, hoff]; rfl
    show execPatrolScrubLine line flip s = .next s
    rw [execPatrolScrubLine, hoff']
    rfl
  · have hready : ScrubReady s line := ⟨hen, hlen, hp, hf, hl⟩
    obtain ⟨hmark, hlatent, hcells, hrest⟩ := scrubRead_left flip hready
    have hpoison := scrubRead_poison flip hready
    refine ⟨_, patrolScrubLine_read flip hready, hmark, hlatent, hcells, hrest, ?_, ?_, ?_⟩
    · rintro rfl
      exact ⟨hpoison, scrubRead_none_kept s line [], s.scrubRead_events line none⟩
    · rintro rfl
      exact ⟨hpoison, scrubRead_correctable s line⟩
    · rintro rfl
      exact ⟨hpoison, scrubRead_uncorrectable s line⟩
  · refine ⟨(s.sf F.MEM_CH_STAT_STATE q 2).raise 6 q .degraded, ?_, ?_, ?_, rfl⟩
    · show execChannelFail q s = _
      rw [execChannelFail, State.channelFailed, decide_eq_false hq]
      rfl
    · exact s.f_sf_same F.MEM_CH_STAT_STATE q 2 (by decide) (by decide)
    · exact (RegsKept.refl _ s).sf F.MEM_CH_STAT_STATE q 2 (by simp)

theorem stackBands : StackBands := by
  intro s k
  refine ⟨?_, fun hoff => ⟨s, ?_, rfl⟩, fun hon => ⟨s.wakeStack k, ?_, ?_⟩⟩
  · refine ⟨_, rfl, rfl, (RegsKept.refl _ s).sf F.MEM_STK_BAND k _ (by simp),
      s.f_sf_above F.MEM_STK_BAND F.MEM_STK_SELFREF k _ rfl (by decide) (by decide) (by decide), ?_⟩
    rw [toSigned_eq (by decide), s.f_sf_same F.MEM_STK_BAND k _ (by decide) (by decide)]
    generalize s.f F.MEM_STK_BAND k = b
    generalize (BitVec.ofNat 16 (s.f F.THM_STK_TEMP k)).toInt = temp
    have hle := nextBand_le b temp
    have hfits : nextBand b temp % 2 ^ (F.MEM_STK_BAND.hi + 1 - F.MEM_STK_BAND.lo) = nextBand b temp :=
      Nat.mod_eq_of_lt (Nat.lt_succ_of_le hle)
    rw [hfits]
    exact ⟨hle, fun j hj => ⟨nextBand_rise b temp hj j.isLt, nextBand_keep b temp hj j.isLt⟩⟩
  · show execStackSelfrefWake k s = .next s
    rw [execStackSelfrefWake, State.fb, hoff]
    rfl
  · show execStackSelfrefWake k s = .next (s.wakeStack k)
    rw [execStackSelfrefWake, (s.fb_iff _ _).mpr hon]
    rfl
  · obtain ⟨hselfref, hband⟩ := s.wakeStack_stk k
    exact ⟨s.wakeStack_only k, hselfref, hband, s.wakeStack_kept k, fun c hc => s.wakeStack_channel k hc⟩

/-- Settles O21: a read of the scrubber by what it finds, bands by the last lower edge reached, a wake-up by the fold over the channels. -/
theorem memoryStacks : Obligations.MemoryStacks := ⟨memoryUpkeep, stackBands⟩

end Sys2Proof.Machine
end

section
/-! SUPPORT. Registers and the journal after an update (O22, O40): what stands beside a list of registers, and what an entry leaves. -/

namespace Sys2Proof.Machine

/-! ### Registers that an update leaves -/

section
variable {l : List (Reg × Nat)} {s t : State}

theorem RegsKept.setPair (h : RegsKept l s t) (lo hi : Reg) (i v : Nat) (hlo : (lo, i) ∈ l) (hhi : (hi, i) ∈ l) :
    RegsKept l s (t.setPair lo hi i v) := (h.wr lo i _ hlo).wr hi i _ hhi

theorem RegsKept.bump (h : RegsKept l s t) (r : Reg) (i n : Nat) (hm : (r, i) ∈ l) : RegsKept l s (t.bump r i n) := h.wr r i _ hm

theorem RegsKept.journal (h : RegsKept l s t) (j : Journal) : RegsKept l s { t with journal := j } := h.of_regs rfl

/-- A pair apart from the list reads as before. -/
theorem RegsKept.pair_eq (h : RegsKept l s t) {lo hi : Reg} {i : Nat} (hl : ∀ p ∈ l, p.1.key p.2 ≠ lo.key i ∧ p.1.key p.2 ≠ hi.key i) :
    t.pair lo hi i = s.pair lo hi i := by
  rw [State.pair, State.pair, h lo i fun p hp => (hl p hp).1, h hi i fun p hp => (hl p hp).2]

/-- A field of a register apart from the list reads as before. -/
theorem RegsKept.f_eq (h : RegsKept l s t) {g : Fld} {i : Nat} (hl : ∀ p ∈ l, p.1.key p.2 ≠ g.reg.key i) : t.f g i = s.f g i :=
  State.f_of_rr (h g.reg i hl)

end

/-! ### The journal (R676, R677) -/

/-- Nothing but registers and the journal differs. -/
def JournalOnly (s t : State) : Prop := { t with regs := s.regs, journal := s.journal } = s

section
variable (s : State)

theorem State.putHash_kept (r : Reg) (bs : List Byte) : RegsKept ((List.range 8).map fun w => (r, w)) s (s.putHash r bs) :=
  foldl_keeps_mem (RegsKept _ s) _ _ s (fun _ w hw ht => ht.wr r w _ (List.mem_map.mpr ⟨w, hw, rfl⟩)) (.refl _ s)

theorem State.putHash_only (r : Reg) (bs : List Byte) : RegsOnly s (s.putHash r bs) :=
  foldl_keeps (RegsOnly s) _ (fun t w ht => ht.trans (.wr t r w _)) _ s (.refl s)

theorem hash_subset_journalRegs :
    ((List.range 8).map fun w => (Reg.JNL_HASH, w)) ⊆ journalRegs ∧ ((List.range 8).map fun w => (Reg.JNL_TAILHASH, w)) ⊆ journalRegs := by
  decide

theorem JournalOnly.trans {s t u : State} (h1 : JournalOnly s t) (h2 : JournalOnly t u) : JournalOnly s u := by
  unfold JournalOnly at *
  rw [← h1, ← h2]

theorem RegsOnly.journalOnly {s t : State} (h : RegsOnly s t) : JournalOnly s t := by
  unfold RegsOnly at h
  unfold JournalOnly
  rw [← h]

/-- The journal alone set. -/
theorem JournalOnly.set (j : Journal) : JournalOnly s { s with journal := j } := rfl

theorem State.journalRoom_free (h : s.journal.entries.length < journalMax) : s.journalRoom = s := if_pos h

/-- The state in which a full journal has lost its oldest block, but for the registers that tell of it. -/
def State.blockErased (s : State) : State :=
  { s with journal := { s.journal with entries := s.journal.entries.take (s.journal.entries.length - journalBlock) } }

/-- A full journal loses its oldest block, and its registers tell where it now begins and how much is lost (R677). -/
theorem State.journalRoom_full (h : ¬ s.journal.entries.length < journalMax) :
    ∃ n bs, s.journalRoom =
      ((s.blockErased.setPair .JNL_TAIL_LO .JNL_TAIL_HI 0 n).bump .JNL_LOST 0 journalBlock).putHash .JNL_TAILHASH bs := by
  unfold State.journalRoom
  dsimp only
  rw [if_neg h]
  exact ⟨_, _, rfl⟩

theorem State.journalRoom_kept : RegsKept journalRegs s s.journalRoom := by
  by_cases h : s.journal.entries.length < journalMax
  · rw [s.journalRoom_free h]
    exact .refl _ s
  · obtain ⟨n, bs, he⟩ := s.journalRoom_full h
    have herased : RegsKept journalRegs s s.blockErased := (RegsKept.refl _ s).journal _
    rw [he]
    exact ((herased.setPair _ _ _ _ (by decide) (by decide)).bump _ _ _ (by decide)).trans
      ((State.putHash_kept _ _ _).mono hash_subset_journalRegs.2)

theorem State.journalRoom_only : JournalOnly s s.journalRoom := by
  by_cases h : s.journal.entries.length < journalMax
  · rw [s.journalRoom_free h]
    exact rfl
  · obtain ⟨n, bs, he⟩ := s.journalRoom_full h
    rw [he]
    exact (((JournalOnly.set s _).trans (RegsOnly.setPair s.blockErased _ _ _ _).journalOnly).trans
      (RegsOnly.bump _ _ _ _).journalOnly).trans (State.putHash_only _ _ _).journalOnly

/-- An entry stands before the older ones, and the registers of the journal's head tell of it (R676). -/
theorem State.log_eq (e : Entry) :
    ∃ b c n, s.log e =
      (({ s.journalRoom with journal := ⟨b :: s.journalRoom.journal.entries, c⟩ } : State).setPair .JNL_HEAD_LO .JNL_HEAD_HI 0 n).putHash
        .JNL_HASH c := by
  unfold State.log
  dsimp only
  exact ⟨_, _, _, rfl⟩

/-- An entry writes the registers that show the journal. -/
theorem State.log_kept (e : Entry) : RegsKept journalRegs s (s.log e) := by
  obtain ⟨b, c, n, he⟩ := s.log_eq e
  rw [he]
  exact ((s.journalRoom_kept.journal _).setPair _ _ _ _ (by decide) (by decide)).trans
    ((State.putHash_kept _ _ _).mono hash_subset_journalRegs.1)

theorem State.log_only (e : Entry) : JournalOnly s (s.log e) := by
  obtain ⟨b, c, n, he⟩ := s.log_eq e
  rw [he]
  exact ((s.journalRoom_only.trans (.set _ _)).trans (RegsOnly.setPair _ _ _ _ _).journalOnly).trans
    (State.putHash_only _ _ _).journalOnly

theorem RegsOnly.journal_eq {s t : State} (h : RegsOnly s t) : t.journal = s.journal := (congrArg State.journal h :)

theorem State.log_entries (e : Entry) : ∃ b, (s.log e).journal.entries = b :: s.journalRoom.journal.entries := by
  obtain ⟨b, c, n, he⟩ := s.log_eq e
  rw [he, (State.putHash_only _ _ _).journal_eq]
  exact ⟨b, rfl⟩

theorem State.log_logged (e : Entry) : Logged s (s.log e) 1 := by
  intro hroom
  obtain ⟨b, hb⟩ := s.log_entries e
  rw [hb, s.journalRoom_free (Nat.lt_of_succ_le hroom)]
  exact ⟨rfl, rfl⟩

end
end Sys2Proof.Machine
end

section
/-! SUPPORT. Samples, readings and snapshots of the metering channels (O22). -/

namespace Sys2Proof.Machine

/-! ### What a channel's commands leave of the state -/

/-- Nothing but registers, the meters and the count of free values differs. -/
def MeteringOnly (s t : State) : Prop := { t with regs := s.regs, metering := s.metering, free := s.free } = s

theorem MeteringOnly.trans {s t u : State} (h1 : MeteringOnly s t) (h2 : MeteringOnly t u) : MeteringOnly s u := by
  unfold MeteringOnly at *
  rw [← h1, ← h2]

theorem RegsOnly.meteringOnly {s t : State} (h : RegsOnly s t) : MeteringOnly s t := by
  unfold RegsOnly at h
  unfold MeteringOnly
  rw [← h]

theorem MeteringOnly.setMeter (s : State) (mb : Bool) (x : Meter) : MeteringOnly s (s.setMeter mb x) := by cases mb <;> rfl

/-- With no free value taken, nothing but registers and the meters differs. -/
theorem MeteringOnly.of_free {s t : State} (h : MeteringOnly s t) (hf : t.free = s.free) :
    { t with regs := s.regs, metering := s.metering } = s := by
  unfold MeteringOnly at h
  rw [← hf] at h
  exact h

theorem RegsOnly.metering_eq {s t : State} (h : RegsOnly s t) : t.metering = s.metering := (congrArg State.metering h :)
theorem RegsOnly.free_eq {s t : State} (h : RegsOnly s t) : t.free = s.free := (congrArg State.free h :)
theorem RegsOnly.meter_eq {s t : State} (h : RegsOnly s t) (mb : Bool) : t.meter mb = s.meter mb :=
  (congrArg (fun x : State => x.meter mb) h :)

section
variable (s : State) (mb : Bool) (x : Meter)

@[simp] theorem State.setMeter_regs : (s.setMeter mb x).regs = s.regs := by cases mb <;> rfl
@[simp] theorem State.setMeter_free : (s.setMeter mb x).free = s.free := by cases mb <;> rfl
@[simp] theorem State.setMeter_acc : (s.setMeter mb x).metering.acc = s.metering.acc := by cases mb <;> rfl
@[simp] theorem State.setMeter_disagree : (s.setMeter mb x).metering.disagree = s.metering.disagree := by cases mb <;> rfl
@[simp] theorem State.rr_setMeter (r : Reg) (i : Nat) : (s.setMeter mb x).rr r i = s.rr r i := State.rr_of_regs (s.setMeter_regs mb x) r i

@[simp] theorem State.pair_setMeter (lo hi : Reg) (i : Nat) : (s.setMeter mb x).pair lo hi i = s.pair lo hi i := by
  rw [State.pair, State.rr_setMeter, State.rr_setMeter, ← State.pair]

theorem RegsKept.setMeter {l : List (Reg × Nat)} {s t : State} (h : RegsKept l s t) (mb : Bool) (x : Meter) :
    RegsKept l s (t.setMeter mb x) := h.of_regs (t.setMeter_regs mb x)

end

theorem State.pair_lt (s : State) (lo hi : Reg) (i : Nat) : s.pair lo hi i < 2 ^ 64 := by
  have hl := s.rr_lt lo i
  have hh := s.rr_lt hi i
  unfold State.pair
  omega

theorem State.meterFailed_iff (s : State) (mb : Bool) : s.meterFailed mb = true ↔ s.f F.MTR_STAT_STATE (chIx mb) = 3 := beq_iff_eq

theorem State.meterFailed_false (s : State) (mb : Bool) : s.meterFailed mb = false ↔ s.f F.MTR_STAT_STATE (chIx mb) ≠ 3 := by
  rw [← Bool.not_eq_true, s.meterFailed_iff]

/-! ### A sample (R299 to R302) -/

/-- A meter with a sample taken in: its power (pW), its voltage (µV) and its current (µA). -/
def Meter.sampled (m : Meter) (p vol cur : Int) : Meter :=
  { m with
    frac := (m.frac + p.toNat) % 10 ^ 15, sumP := m.sumP + p, sumV := m.sumV + vol, sumI := m.sumI + cur, n := m.n + 1
    winE := m.winE + p.toNat, winN := m.winN + 1 }

/-- The energy counters of a channel raised. -/
def State.energyAdded (s : State) (i whole : Nat) : State :=
  (s.setPair .MTR_E_LO .MTR_E_HI i ((s.pair .MTR_E_LO .MTR_E_HI i + whole) % 2 ^ 64)).setPair .MTR_ELIFE_LO .MTR_ELIFE_HI i
    ((s.pair .MTR_ELIFE_LO .MTR_ELIFE_HI i + whole) % 2 ^ 64)

/-- A negative sample counted (R301). -/
def State.negCounted (s : State) (i : Nat) (p : Int) : State := if p < 0 then s.bump .MTR_NEG i else s

/-- The state after a sample. -/
def State.sampled (s : State) (mb : Bool) (p vol cur : Int) : State :=
  ((s.setMeter mb ((s.meter mb).sampled p vol cur)).energyAdded (chIx mb) (((s.meter mb).frac + p.toNat) / 10 ^ 15)).negCounted (chIx mb) p

theorem execMeterSample_eq (s : State) (mb : Bool) (ic vc temp : BitVec 24) (h : s.meterFailed mb = false) :
    let i := chIx mb
    let cur := Config.sampleCurrent ic.toNat (s.rr .MTR_CAL (6 * i)) (s.rr .MTR_CAL (6 * i + 1)) (s.rr .MTR_CAL (6 * i + 4)) temp.toNat
    let vol := Config.sampleVoltage vc.toNat (s.rr .MTR_CAL (6 * i + 2)) (s.rr .MTR_CAL (6 * i + 3))
    execMeterSample mb ic vc temp s = .next (s.sampled mb (vol * cur) vol cur) := by
  intro i cur vol
  unfold execMeterSample
  dsimp only
  rw [if_neg (by simp [h]), Nat.mul_comm (chIx mb) 6]
  unfold State.sampled State.negCounted State.energyAdded
  rw [State.pair_setMeter, State.pair_setMeter]
  rfl

section
variable (s : State) (mb : Bool)

theorem State.energyAdded_only (i whole : Nat) : RegsOnly s (s.energyAdded i whole) :=
  (RegsOnly.setPair _ _ _ _ _).trans (.setPair _ _ _ _ _)

theorem State.energyAdded_kept (whole : Nat) :
    RegsKept [(.MTR_E_LO, chIx mb), (.MTR_E_HI, chIx mb), (.MTR_ELIFE_LO, chIx mb), (.MTR_ELIFE_HI, chIx mb)] s
      (s.energyAdded (chIx mb) whole) :=
  ((RegsKept.refl _ s).setPair _ _ _ _ (by simp) (by simp)).setPair _ _ _ _ (by simp) (by simp)

theorem State.energyAdded_pairs (whole : Nat) :
    let t := s.energyAdded (chIx mb) whole
    t.pair .MTR_E_LO .MTR_E_HI (chIx mb) = (s.pair .MTR_E_LO .MTR_E_HI (chIx mb) + whole) % 2 ^ 64 ∧
      t.pair .MTR_ELIFE_LO .MTR_ELIFE_HI (chIx mb) = (s.pair .MTR_ELIFE_LO .MTR_ELIFE_HI (chIx mb) + whole) % 2 ^ 64 := by
  intro t
  have hlife (u : State) (v : Nat) :
      RegsKept [(.MTR_ELIFE_LO, chIx mb), (.MTR_ELIFE_HI, chIx mb)] u (u.setPair .MTR_ELIFE_LO .MTR_ELIFE_HI (chIx mb) v) :=
    (RegsKept.refl _ u).setPair _ _ _ _ (by simp) (by simp)
  constructor
  · refine ((hlife _ _).pair_eq (by cases mb <;> decide)).trans ?_
    rw [State.pair_setPair_same _ _ _ _ _ (by cases mb <;> decide), Nat.mod_mod]
  · refine (State.pair_setPair_same _ _ _ _ _ (by cases mb <;> decide)).trans ?_
    rw [Nat.mod_mod]

theorem State.negCounted_kept (p : Int) : RegsKept [(.MTR_NEG, chIx mb)] s (s.negCounted (chIx mb) p) := by
  unfold State.negCounted
  split
  · exact (RegsKept.refl _ s).bump _ _ _ (by simp)
  · exact .refl _ s

theorem State.negCounted_rr (p : Int) :
    (s.negCounted (chIx mb) p).rr .MTR_NEG (chIx mb) =
      if p < 0 then min (s.rr .MTR_NEG (chIx mb) + 1) 0xFFFFFFFF else s.rr .MTR_NEG (chIx mb) := by
  unfold State.negCounted
  split
  · exact s.rr_bump_same _ _ _
  · rfl

theorem State.negCounted_only (i : Nat) (p : Int) : RegsOnly s (s.negCounted i p) := by
  unfold State.negCounted
  split <;> rfl

/-- Beside its meter, a sample writes registers alone. -/
theorem State.sampled_regsOnly (p vol cur : Int) : RegsOnly (s.setMeter mb ((s.meter mb).sampled p vol cur)) (s.sampled mb p vol cur) :=
  (State.energyAdded_only _ _ _).trans (State.negCounted_only _ _ p)

theorem State.sampled_kept (p vol cur : Int) :
    RegsKept [(.MTR_E_LO, chIx mb), (.MTR_E_HI, chIx mb), (.MTR_ELIFE_LO, chIx mb), (.MTR_ELIFE_HI, chIx mb), (.MTR_NEG, chIx mb)] s
      (s.sampled mb p vol cur) :=
  (((RegsKept.refl _ s).setMeter mb _).trans ((State.energyAdded_kept _ mb _).mono (by simp))).trans
    ((State.negCounted_kept _ mb p).mono (by simp))

/-- A sample adds its whole mJ to both energy counters. -/
theorem State.sampled_pairs (p vol cur : Int) :
    let e := (s.meter mb).frac + p.toNat
    let t := s.sampled mb p vol cur
    t.pair .MTR_E_LO .MTR_E_HI (chIx mb) = (s.pair .MTR_E_LO .MTR_E_HI (chIx mb) + e / 10 ^ 15) % 2 ^ 64 ∧
      t.pair .MTR_ELIFE_LO .MTR_ELIFE_HI (chIx mb) = (s.pair .MTR_ELIFE_LO .MTR_ELIFE_HI (chIx mb) + e / 10 ^ 15) % 2 ^ 64 := by
  intro e t
  have hneg : RegsKept _ _ t := State.negCounted_kept _ mb p
  obtain ⟨he, hlife⟩ := State.energyAdded_pairs (s.setMeter mb ((s.meter mb).sampled p vol cur)) mb (e / 10 ^ 15)
  exact ⟨(hneg.pair_eq (by cases mb <;> decide)).trans (by rw [he, State.pair_setMeter]),
    (hneg.pair_eq (by cases mb <;> decide)).trans (by rw [hlife, State.pair_setMeter])⟩

theorem State.sampled_neg (p vol cur : Int) :
    (s.sampled mb p vol cur).rr .MTR_NEG (chIx mb) =
      if p < 0 then min (s.rr .MTR_NEG (chIx mb) + 1) 0xFFFFFFFF else s.rr .MTR_NEG (chIx mb) := by
  have hkept := State.energyAdded_kept (s.setMeter mb ((s.meter mb).sampled p vol cur)) mb (((s.meter mb).frac + p.toNat) / 10 ^ 15)
  rw [State.sampled, State.negCounted_rr, hkept .MTR_NEG (chIx mb) (by cases mb <;> decide), State.rr_setMeter]

/-- A sample changes its own meter alone. -/
theorem State.sampled_metering (p vol cur : Int) :
    (s.sampled mb p vol cur).metering = (s.setMeter mb ((s.meter mb).sampled p vol cur)).metering :=
  (s.sampled_regsOnly mb p vol cur).metering_eq

theorem State.sampled_only (p vol cur : Int) : { s.sampled mb p vol cur with regs := s.regs, metering := s.metering } = s :=
  ((MeteringOnly.setMeter s mb _).trans (s.sampled_regsOnly mb p vol cur).meteringOnly).of_free
    ((s.sampled_regsOnly mb p vol cur).free_eq.trans (s.setMeter_free mb _))

end

/-! ### A reading (R300, R305, R318) -/

/-- Nothing but registers and the count of free values differs. -/
def FreeOnly (s t : State) : Prop := { t with regs := s.regs, free := s.free } = s

theorem FreeOnly.trans {s t u : State} (h1 : FreeOnly s t) (h2 : FreeOnly t u) : FreeOnly s u := by
  unfold FreeOnly at *
  rw [← h1, ← h2]

theorem RegsOnly.freeOnly {s t : State} (h : RegsOnly s t) : FreeOnly s t := by
  unfold RegsOnly at h
  unfold FreeOnly
  rw [← h]

/-- A rail's register written with a free value. -/
theorem FreeOnly.rail (s : State) (i v : Nat) : FreeOnly s ((s.wr .MTR_RAIL i v).take) := rfl

theorem FreeOnly.meteringOnly {s t : State} (h : FreeOnly s t) : MeteringOnly s t := by
  unfold FreeOnly at h
  unfold MeteringOnly
  rw [← h]

theorem FreeOnly.meter_eq {s t : State} (h : FreeOnly s t) (mb : Bool) : t.meter mb = s.meter mb :=
  (congrArg (fun x : State => x.meter mb) h :)

/-- The means of a reading shown, when it has samples (R300). -/
def State.meansShown (s : State) (mb : Bool) : State :=
  let i := chIx mb
  let m := s.meter mb
  if m.n = 0 then s
  else
    let v := m.sumV.tdiv m.n
    (((s.wr .MTR_P i (ofSigned 32 (m.sumP.tdiv (m.n * 1000000000)))).wr .MTR_V i (ofSigned 32 v)).wr .MTR_I i
      (ofSigned 32 (m.sumI.tdiv m.n))).sf F.MTR_STAT_VRANGE i (b2n (decide (v < 44000000) || decide (60000000 < v)))

/-- The time, the number of samples and the status of a reading (R300, R305). -/
def State.stamped (s : State) (i endT n : Nat) (st : Status) : State :=
  ((s.setPair .MTR_TS_LO .MTR_TS_HI i endT).wr .MTR_NSAMP i (n % 16 * 16)).wr .MTR_RSTAT i st.code

/-- The rails of a channel read (R318). -/
def State.railsRead (s : State) (i : Nat) : State :=
  (List.range 6).foldl (fun a k => (a.wr .MTR_RAIL (i * 6 + k) (Config.rail a.free k).toNat).take) s

/-- The registers that show the means of channel `i`, those that stamp a reading, and its rails. -/
abbrev meanRegs (i : Nat) : List (Reg × Nat) := [(.MTR_P, i), (.MTR_V, i), (.MTR_I, i), (.MTR_STAT, i)]
abbrev stampRegs (i : Nat) : List (Reg × Nat) := [(.MTR_TS_LO, i), (.MTR_TS_HI, i), (.MTR_NSAMP, i), (.MTR_RSTAT, i)]
abbrev railRegs (i : Nat) : List (Reg × Nat) := (List.range 6).map fun k => (.MTR_RAIL, 6 * i + k)

section
variable (s : State) (mb : Bool)

theorem State.meansShown_kept : RegsKept (meanRegs (chIx mb)) s (s.meansShown mb) := by
  unfold State.meansShown
  dsimp only
  split
  · exact .refl _ s
  · exact ((((RegsKept.refl _ s).wr _ _ _ (by simp)).wr _ _ _ (by simp)).wr _ _ _ (by simp)).sf _ _ _ (by simp)

theorem State.meansShown_only : RegsOnly s (s.meansShown mb) := by
  unfold State.meansShown
  dsimp only
  split
  · exact .refl s
  · exact (((RegsOnly.wr s _ _ _).trans (.wr _ _ _ _)).trans (.wr _ _ _ _)).trans (.sf _ F.MTR_STAT_VRANGE _ _)

theorem State.meansShown_none (h : (s.meter mb).n = 0) : s.meansShown mb = s := if_pos h

theorem ofSigned_reg32 (z : Int) : ofSigned 32 z % 2 ^ 32 = reg32 z := by
  rw [ofSigned_eq]
  exact Nat.mod_eq_of_lt (BitVec.isLt _)

theorem State.meansShown_means (h : (s.meter mb).n ≠ 0) :
    let m := s.meter mb
    let t := s.meansShown mb
    t.rr .MTR_P (chIx mb) = reg32 (m.sumP.tdiv (m.n * 1000000000)) ∧ t.rr .MTR_V (chIx mb) = reg32 (m.sumV.tdiv m.n) ∧
      t.rr .MTR_I (chIx mb) = reg32 (m.sumI.tdiv m.n) ∧
      t.f F.MTR_STAT_VRANGE (chIx mb) = if m.sumV.tdiv m.n < 44000000 ∨ 60000000 < m.sumV.tdiv m.n then 1 else 0 := by
  intro m t
  have ht : t = _ := if_neg h
  rw [ht]
  refine ⟨?_, ?_, ?_, ?_⟩
  · rw [State.sf, State.rr_wr_ne _ _ _ _ _ _ (by cases mb <;> decide), State.rr_wr_ne _ _ _ _ _ _ (by cases mb <;> decide),
      State.rr_wr_ne _ _ _ _ _ _ (by cases mb <;> decide), State.rr_wr_same, ofSigned_reg32]
  · rw [State.sf, State.rr_wr_ne _ _ _ _ _ _ (by cases mb <;> decide), State.rr_wr_ne _ _ _ _ _ _ (by cases mb <;> decide),
      State.rr_wr_same, ofSigned_reg32]
  · rw [State.sf, State.rr_wr_ne _ _ _ _ _ _ (by cases mb <;> decide), State.rr_wr_same, ofSigned_reg32]
  · rw [State.f_sf_same _ _ _ _ (by decide) (by decide), ← Bool.decide_or, b2n]
    simp only [decide_eq_true_eq]
    split <;> rfl

/-- The means leave a channel's state. -/
theorem State.meansShown_state : (s.meansShown mb).f F.MTR_STAT_STATE (chIx mb) = s.f F.MTR_STAT_STATE (chIx mb) := by
  unfold State.meansShown
  dsimp only
  split
  · rfl
  · rw [State.f_sf_below _ F.MTR_STAT_VRANGE F.MTR_STAT_STATE _ _ rfl (by decide) (by decide) (by decide)]
    iterate 3 rw [State.f_wr_ne _ _ F.MTR_STAT_STATE _ _ _ (by cases mb <;> decide)]

section
variable (i endT n : Nat) (st : Status)

theorem State.stamped_kept : RegsKept (stampRegs i) s (s.stamped i endT n st) :=
  (((RegsKept.refl _ s).setPair _ _ _ _ (by simp) (by simp)).wr _ _ _ (by simp)).wr _ _ _ (by simp)

theorem State.stamped_only : RegsOnly s (s.stamped i endT n st) :=
  ((RegsOnly.setPair _ _ _ _ _).trans (.wr _ _ _ _)).trans (.wr _ _ _ _)

end

theorem status_code_lt (st : Status) : st.code < 2 ^ 32 := by cases st <;> decide

theorem State.stamped_stamp (endT n : Nat) (st : Status) (hT : endT < 2 ^ 64) :
    let t := s.stamped (chIx mb) endT n st
    t.pair .MTR_TS_LO .MTR_TS_HI (chIx mb) = endT ∧ t.rr .MTR_NSAMP (chIx mb) = n % 16 * 16 ∧ t.rr .MTR_RSTAT (chIx mb) = st.code := by
  intro t
  refine ⟨?_, ?_, ?_⟩
  · have hlate (u : State) (v w : Nat) :
        RegsKept [(.MTR_NSAMP, chIx mb), (.MTR_RSTAT, chIx mb)] u ((u.wr .MTR_NSAMP (chIx mb) v).wr .MTR_RSTAT (chIx mb) w) :=
      ((RegsKept.refl _ u).wr _ _ _ (by simp)).wr _ _ _ (by simp)
    refine ((hlate _ _ _).pair_eq (by cases mb <;> decide)).trans ?_
    rw [State.pair_setPair_same _ _ _ _ _ (by cases mb <;> decide), Nat.mod_eq_of_lt hT]
  · unfold t State.stamped
    rw [State.rr_wr_ne _ _ _ _ _ _ (by cases mb <;> decide), State.rr_wr_same]
    omega
  · exact (State.rr_wr_same _ _ _ _).trans (Nat.mod_eq_of_lt (status_code_lt st))

theorem State.railsRead_kept (i : Nat) : RegsKept (railRegs i) s (s.railsRead i) := by
  refine foldl_keeps_mem (RegsKept _ s) _ _ s (fun a k hk ha => ?_) (.refl _ s)
  refine RegsKept.of_regs (ha.wr .MTR_RAIL (i * 6 + k) _ ?_) rfl
  rw [Nat.mul_comm]
  exact List.mem_map.mpr ⟨k, hk, rfl⟩

theorem State.railsRead_only (i : Nat) : FreeOnly s (s.railsRead i) :=
  foldl_keeps (FreeOnly s) _ (fun a _ ha => ha.trans (.rail a _ _)) _ s rfl

/-- A reading's registers, before the meter begins its next interval. -/
def State.readingShown (s : State) (mb : Bool) (endT : Nat) : State :=
  ((s.meansShown mb).stamped (chIx mb) endT (s.meter mb).n ((s.meansShown mb).readingStatus mb (s.meter mb).n)).railsRead (chIx mb)

/-- The meter of a reading: its sums begin anew, and its window goes on. -/
structure Meter.Read (m x : Meter) : Prop where
  sums : x.n = 0 ∧ x.sumP = 0 ∧ x.sumV = 0 ∧ x.sumI = 0
  window : x.winR = m.winR + 1 ∧ x.winE = m.winE ∧ x.frac = m.frac

/-- What a reading shows stands through its rails and, for the means, through its stamp. -/
theorem State.readingShown_late (endT : Nat) :
    RegsKept (stampRegs (chIx mb) ++ railRegs (chIx mb)) (s.meansShown mb) (s.readingShown mb endT) :=
  ((State.stamped_kept _ _ _ _ _).mono (List.subset_append_left _ _)).trans
    ((State.railsRead_kept _ _).mono (List.subset_append_right _ _))

theorem State.readingShown_kept (endT : Nat) : RegsKept (readingRegs (chIx mb)) s (s.readingShown mb endT) :=
  ((s.meansShown_kept mb).mono (by simp [readingRegs])).trans
    ((s.readingShown_late mb endT).mono (List.append_subset.mpr ⟨by simp [readingRegs], List.subset_append_right _ _⟩))

theorem State.readingShown_only (endT : Nat) : FreeOnly s (s.readingShown mb endT) :=
  ((s.meansShown_only mb).trans (State.stamped_only _ _ _ _ _)).freeOnly.trans (State.railsRead_only _ _)

/-- A reading of a channel that has failed carries CHECK (R314). -/
theorem State.readingStatus_failed (n : Nat) (h : s.f F.MTR_STAT_STATE (chIx mb) = 3) : s.readingStatus mb n = .check :=
  if_pos ((s.meterFailed_iff mb).mpr h)

theorem State.closeReading_eq (endT : Nat) :
    ∃ x, s.closeReading mb endT = (s.readingShown mb endT).setMeter mb x ∧ (s.meter mb).Read x := by
  unfold State.closeReading
  dsimp only
  exact ⟨_, rfl, ⟨rfl, rfl, rfl, rfl⟩, rfl, rfl, rfl⟩

theorem State.closeReading_rails (endT : Nat) :
    RegsKept (railRegs (chIx mb))
      ((s.meansShown mb).stamped (chIx mb) endT (s.meter mb).n ((s.meansShown mb).readingStatus mb (s.meter mb).n))
      (s.closeReading mb endT) := by
  obtain ⟨x, he, -⟩ := s.closeReading_eq mb endT
  exact he ▸ (State.railsRead_kept _ _).setMeter mb x

theorem State.closeReading_late (endT : Nat) :
    RegsKept (stampRegs (chIx mb) ++ railRegs (chIx mb)) (s.meansShown mb) (s.closeReading mb endT) := by
  obtain ⟨x, he, -⟩ := s.closeReading_eq mb endT
  exact he ▸ (s.readingShown_late mb endT).setMeter mb x

section
variable (endT : Nat)

/-- The means and the stamp stand in a reading as they were shown. -/
theorem State.closeReading_means (h : (s.meter mb).n ≠ 0) :
    let m := s.meter mb
    let t := s.closeReading mb endT
    t.rr .MTR_P (chIx mb) = reg32 (m.sumP.tdiv (m.n * 1000000000)) ∧ t.rr .MTR_V (chIx mb) = reg32 (m.sumV.tdiv m.n) ∧
      t.rr .MTR_I (chIx mb) = reg32 (m.sumI.tdiv m.n) ∧
      t.f F.MTR_STAT_VRANGE (chIx mb) = if m.sumV.tdiv m.n < 44000000 ∨ 60000000 < m.sumV.tdiv m.n then 1 else 0 := by
  intro m t
  have hlate : RegsKept _ (s.meansShown mb) t := s.closeReading_late mb endT
  obtain ⟨hP, hV, hI, hrange⟩ := s.meansShown_means mb h
  exact ⟨(hlate _ _ (by cases mb <;> decide)).trans hP, (hlate _ _ (by cases mb <;> decide)).trans hV,
    (hlate _ _ (by cases mb <;> decide)).trans hI, (hlate.f_eq (by cases mb <;> decide)).trans hrange⟩

/-- A reading without samples leaves the means of the last. -/
theorem State.closeReading_none (h : (s.meter mb).n = 0) :
    let t := s.closeReading mb endT
    t.rr .MTR_P (chIx mb) = s.rr .MTR_P (chIx mb) ∧ t.rr .MTR_V (chIx mb) = s.rr .MTR_V (chIx mb) ∧
      t.rr .MTR_I (chIx mb) = s.rr .MTR_I (chIx mb) := by
  intro t
  have hlate : RegsKept _ s t := s.meansShown_none mb h ▸ s.closeReading_late mb endT
  exact ⟨hlate _ _ (by cases mb <;> decide), hlate _ _ (by cases mb <;> decide), hlate _ _ (by cases mb <;> decide)⟩

theorem State.closeReading_stamp (hT : endT < 2 ^ 64) :
    let t := s.closeReading mb endT
    t.pair .MTR_TS_LO .MTR_TS_HI (chIx mb) = endT ∧ t.rr .MTR_NSAMP (chIx mb) = (s.meter mb).n % 16 * 16 ∧
      t.rr .MTR_RSTAT (chIx mb) = ((s.meansShown mb).readingStatus mb (s.meter mb).n).code := by
  intro t
  have hrails : RegsKept _ _ t := s.closeReading_rails mb endT
  obtain ⟨hts, hnsamp, hrstat⟩ :=
    (s.meansShown mb).stamped_stamp mb endT (s.meter mb).n ((s.meansShown mb).readingStatus mb (s.meter mb).n) hT
  exact ⟨(hrails.pair_eq (by cases mb <;> decide)).trans hts, (hrails _ _ (by cases mb <;> decide)).trans hnsamp,
    (hrails _ _ (by cases mb <;> decide)).trans hrstat⟩

theorem State.closeReading_meter : (s.meter mb).Read ((s.closeReading mb endT).meter mb) := by
  obtain ⟨x, he, hx⟩ := s.closeReading_eq mb endT
  rw [he, State.meter_setMeter_same]
  exact hx

theorem State.closeReading_otherMeter : (s.closeReading mb endT).meter (!mb) = s.meter (!mb) := by
  obtain ⟨x, he, -⟩ := s.closeReading_eq mb endT
  rw [he, State.meter_setMeter_other, (s.readingShown_only mb endT).meter_eq]

theorem State.closeReading_kept : RegsKept (readingRegs (chIx mb)) s (s.closeReading mb endT) := by
  obtain ⟨x, he, -⟩ := s.closeReading_eq mb endT
  exact he ▸ (s.readingShown_kept mb endT).setMeter mb x

theorem State.closeReading_only : MeteringOnly s (s.closeReading mb endT) := by
  obtain ⟨x, he, -⟩ := s.closeReading_eq mb endT
  exact he ▸ (s.readingShown_only mb endT).meteringOnly.trans (.setMeter _ mb x)

end

end

/-! ### A snapshot (R309, R314) -/

/-- The registers of a snapshot of channel `i`. -/
abbrev snapRegs (i : Nat) : List (Reg × Nat) :=
  [(.MTR_SNAP_E_LO, i), (.MTR_SNAP_E_HI, i), (.MTR_SNAP_T_LO, i), (.MTR_SNAP_T_HI, i), (.MTR_SNAP_SEQ, i), (.MTR_SNAP_STAT, i)]

/-- A snapshot's registers: the energy and the second latched, and then its number and status. -/
def State.latched (s : State) (i sec : Nat) : State :=
  (s.setPair .MTR_SNAP_E_LO .MTR_SNAP_E_HI i (s.pair .MTR_E_LO .MTR_E_HI i)).setPair .MTR_SNAP_T_LO .MTR_SNAP_T_HI i (sec * 1000000000)
def State.numbered (s : State) (i : Nat) (st : Status) : State :=
  (s.wr .MTR_SNAP_SEQ i (s.rr .MTR_SNAP_SEQ i + 1)).wr .MTR_SNAP_STAT i st.code

section
variable (s : State) (mb : Bool)

theorem State.snapshot_eq (sec : Nat) :
    s.snapshot mb sec =
      ((s.latched (chIx mb) sec).numbered (chIx mb) (if s.meterFailed mb then .check else (s.meter mb).worst)).setMeter mb
        { s.meter mb with worst := .ok } := rfl

section
variable (i : Nat)

theorem State.latched_kept (sec : Nat) :
    RegsKept [(.MTR_SNAP_E_LO, i), (.MTR_SNAP_E_HI, i), (.MTR_SNAP_T_LO, i), (.MTR_SNAP_T_HI, i)] s (s.latched i sec) :=
  ((RegsKept.refl _ s).setPair _ _ _ _ (by simp) (by simp)).setPair _ _ _ _ (by simp) (by simp)

theorem State.numbered_kept (st : Status) : RegsKept [(.MTR_SNAP_SEQ, i), (.MTR_SNAP_STAT, i)] s (s.numbered i st) :=
  ((RegsKept.refl _ s).wr _ _ _ (by simp)).wr _ _ _ (by simp)

theorem State.snapped_kept (sec : Nat) (st : Status) : RegsKept (snapRegs i) s ((s.latched i sec).numbered i st) :=
  ((s.latched_kept i sec).mono (by simp)).trans ((State.numbered_kept _ i st).mono (by simp))

theorem State.snapped_only (sec : Nat) (st : Status) : RegsOnly s ((s.latched i sec).numbered i st) :=
  (((RegsOnly.setPair _ _ _ _ _).trans (.setPair _ _ _ _ _)).trans (.wr _ _ _ _)).trans (.wr _ _ _ _)

end

theorem State.latched_pairs (sec : Nat) (hsec : sec * 1000000000 < 2 ^ 64) :
    let t := s.latched (chIx mb) sec
    t.pair .MTR_SNAP_E_LO .MTR_SNAP_E_HI (chIx mb) = s.pair .MTR_E_LO .MTR_E_HI (chIx mb) ∧
      t.pair .MTR_SNAP_T_LO .MTR_SNAP_T_HI (chIx mb) = sec * 1000000000 := by
  intro t
  have htime (u : State) (v : Nat) :
      RegsKept [(.MTR_SNAP_T_LO, chIx mb), (.MTR_SNAP_T_HI, chIx mb)] u (u.setPair .MTR_SNAP_T_LO .MTR_SNAP_T_HI (chIx mb) v) :=
    (RegsKept.refl _ u).setPair _ _ _ _ (by simp) (by simp)
  constructor
  · refine ((htime _ _).pair_eq (by cases mb <;> decide)).trans ?_
    rw [State.pair_setPair_same _ _ _ _ _ (by cases mb <;> decide), Nat.mod_eq_of_lt (s.pair_lt _ _ _)]
  · refine (State.pair_setPair_same _ _ _ _ _ (by cases mb <;> decide)).trans ?_
    rw [Nat.mod_eq_of_lt hsec]

theorem State.numbered_number (st : Status) :
    let t := s.numbered (chIx mb) st
    t.rr .MTR_SNAP_SEQ (chIx mb) = (s.rr .MTR_SNAP_SEQ (chIx mb) + 1) % 2 ^ 32 ∧ t.rr .MTR_SNAP_STAT (chIx mb) = st.code :=
  ⟨(State.rr_wr_ne _ _ _ _ _ _ (by cases mb <;> decide)).trans (s.rr_wr_same _ _ _),
    (State.rr_wr_same _ _ _ _).trans (Nat.mod_eq_of_lt (status_code_lt st))⟩

/-- A snapshot's energy, second, number and status. -/
theorem State.snapshot_shows (sec : Nat) (hsec : sec * 1000000000 < 2 ^ 64) :
    let t := s.snapshot mb sec
    t.pair .MTR_SNAP_E_LO .MTR_SNAP_E_HI (chIx mb) = s.pair .MTR_E_LO .MTR_E_HI (chIx mb) ∧
      t.pair .MTR_SNAP_T_LO .MTR_SNAP_T_HI (chIx mb) = sec * 1000000000 ∧
      t.rr .MTR_SNAP_SEQ (chIx mb) = (s.rr .MTR_SNAP_SEQ (chIx mb) + 1) % 2 ^ 32 ∧
      t.rr .MTR_SNAP_STAT (chIx mb) =
        (if s.f F.MTR_STAT_STATE (chIx mb) = 3 then Status.check else (s.meter mb).worst).code := by
  intro t
  let st : Status := if s.meterFailed mb then .check else (s.meter mb).worst
  let u := s.latched (chIx mb) sec
  have hst : st = if s.f F.MTR_STAT_STATE (chIx mb) = 3 then .check else (s.meter mb).worst :=
    if_congr (s.meterFailed_iff mb) rfl rfl
  have hregs : t.regs = (u.numbered (chIx mb) st).regs := by
    unfold t
    rw [s.snapshot_eq, State.setMeter_regs]
  have hnumber : RegsKept _ u t := (State.numbered_kept u (chIx mb) st).of_regs hregs
  have hold : u.rr .MTR_SNAP_SEQ (chIx mb) = s.rr .MTR_SNAP_SEQ (chIx mb) :=
    s.latched_kept (chIx mb) sec _ _ (by cases mb <;> decide)
  obtain ⟨hE, hT⟩ := s.latched_pairs mb sec hsec
  obtain ⟨hseq, hstat⟩ := u.numbered_number mb st
  exact ⟨(hnumber.pair_eq (by cases mb <;> decide)).trans hE, (hnumber.pair_eq (by cases mb <;> decide)).trans hT,
    ((State.rr_of_regs hregs _ _).trans hseq).trans (by rw [hold]), ((State.rr_of_regs hregs _ _).trans hstat).trans (by rw [hst])⟩

theorem State.snapshot_kept (sec : Nat) : RegsKept (snapRegs (chIx mb)) s (s.snapshot mb sec) := by
  rw [s.snapshot_eq]
  exact (s.snapped_kept _ sec _).setMeter mb _

theorem State.snapshot_meter (sec : Nat) :
    (s.snapshot mb sec).meter mb = { s.meter mb with worst := .ok } ∧ (s.snapshot mb sec).meter (!mb) = s.meter (!mb) := by
  rw [s.snapshot_eq]
  exact ⟨State.meter_setMeter_same _ mb _, (State.meter_setMeter_other _ mb _).trans ((s.snapped_only _ sec _).meter_eq _)⟩

theorem State.snapshot_only (sec : Nat) : { s.snapshot mb sec with regs := s.regs, metering := s.metering } = s := by
  have honly := s.snapped_only (chIx mb) sec (if s.meterFailed mb then .check else (s.meter mb).worst)
  rw [s.snapshot_eq]
  exact (honly.meteringOnly.trans (.setMeter _ mb _)).of_free ((State.setMeter_free _ mb _).trans honly.free_eq)

end

/-! ### The save of the lifetime energy (R312) -/

section
variable (s : State) (mb : Bool)

/-- Both meters hold the energy and the time of the save, and nothing else differs. -/
theorem State.saveElife_saved :
    (s.saveElife.meter mb).savedElife = BitVec.ofNat 64 (s.pair .MTR_ELIFE_LO .MTR_ELIFE_HI (chIx mb)) ∧
      (s.saveElife.meter mb).savedAt = s.tmb.ptime ∧
      { s.saveElife.meter mb with savedElife := (s.meter mb).savedElife, savedAt := (s.meter mb).savedAt } = s.meter mb := by
  cases mb <;> exact ⟨rfl, rfl, rfl⟩

theorem State.saveElife_only : { s.saveElife with metering := s.metering } = s := rfl

end

/-! ### The statement -/

theorem State.now_lt (s : State) : s.now < 2 ^ 64 := BitVec.isLt _

theorem meterReadings : MeterReadings := by
  intro s mb i m
  have hnow := s.now_lt
  refine ⟨fun ic vc temp h => ?sample, fun ic vc temp h => ⟨s, if_pos ((s.meterFailed_iff mb).mpr h), rfl⟩, ?reading, ?snapshot,
    ?warmup, ?save⟩
  case sample =>
    intro cur vol p e
    have hmetering := s.sampled_metering mb p vol cur
    have hmeter := (s.sampled_regsOnly mb p vol cur).meter_eq
    obtain ⟨hE, hlife⟩ := s.sampled_pairs mb p vol cur
    exact ⟨s.sampled mb p vol cur, execMeterSample_eq s mb ic vc temp ((s.meterFailed_false mb).mpr h), hE, hlife,
      s.sampled_neg mb p vol cur, (hmeter mb).trans (State.meter_setMeter_same _ _ _),
      (hmeter !mb).trans (State.meter_setMeter_other _ _ _), hmetering ▸ s.setMeter_acc mb _, hmetering ▸ s.setMeter_disagree mb _,
      s.sampled_only mb p vol cur, s.sampled_kept mb p vol cur⟩
  case reading =>
    obtain ⟨hts, hnsamp, hrstat⟩ := s.closeReading_stamp mb (s.now / 10000 * 10000) (by omega)
    obtain ⟨⟨hn, hP, hV, hI⟩, hwinR, hwinE, hfrac⟩ := s.closeReading_meter mb (s.now / 10000 * 10000)
    refine ⟨s.closeReading mb _, rfl, s.closeReading_means mb _, s.closeReading_none mb _, hts, hnsamp, fun h => ?_, hn, hP, hV, hI,
      hwinR, hwinE, hfrac, s.closeReading_otherMeter mb _, s.closeReading_only mb _, s.closeReading_kept mb _⟩
    rw [hrstat, State.readingStatus_failed _ mb _ ((s.meansShown_state mb).trans h)]
  case snapshot =>
    obtain ⟨hE, hT, hseq, hstat⟩ := s.snapshot_shows mb (s.now / 1000000000) (by omega)
    obtain ⟨hmeter, hother⟩ := s.snapshot_meter mb (s.now / 1000000000)
    exact ⟨s.snapshot mb _, rfl, hE, hT, hseq, hstat, hmeter, hother, s.snapshot_only mb _, s.snapshot_kept mb _⟩
  case warmup =>
    by_cases h : s.f F.MTR_STAT_STATE i = 0
    · refine ⟨s.sf F.MTR_STAT_STATE i 1, congrArg Host.Outcome.next (if_pos h), ?_, rfl, (RegsKept.refl _ s).sf _ _ _ (by simp),
        fun hne => absurd h hne⟩
      rw [if_pos h]
      exact s.f_sf_same F.MTR_STAT_STATE i 1 (by decide) (by decide)
    · exact ⟨s, congrArg Host.Outcome.next (if_neg h), (if_neg h).symm, rfl, .refl _ s, fun _ => rfl⟩
  case save =>
    obtain ⟨hsaved, hat, hrest⟩ := s.saveElife_saved mb
    exact ⟨s.saveElife, rfl, hsaved, hat, hrest, s.saveElife_only⟩

end Sys2Proof.Machine
end

section
/-! SUPPORT. Self-checks, settlement and captured readings of the metering channels (O22). -/

namespace Sys2Proof.Machine

/-! ### A channel that fails (R303, R313, R314) -/

theorem chIx_not (mb : Bool) : chIx (!mb) = 1 - chIx mb := by cases mb <;> rfl

/-- Nothing but registers, the journal and the error lines differs. -/
def FailureOnly (s t : State) : Prop := { t with regs := s.regs, events := s.events, journal := s.journal } = s

theorem FailureOnly.trans {s t u : State} (h1 : FailureOnly s t) (h2 : FailureOnly t u) : FailureOnly s u := by
  unfold FailureOnly at *
  rw [← h1, ← h2]

theorem JournalOnly.failureOnly {s t : State} (h : JournalOnly s t) : FailureOnly s t := by
  unfold JournalOnly at h
  unfold FailureOnly
  rw [← h]

theorem JournalOnly.events_eq {s t : State} (h : JournalOnly s t) : t.events = s.events := (congrArg State.events h :)
theorem RegsOnly.events_eq {s t : State} (h : RegsOnly s t) : t.events = s.events := (congrArg State.events h :)

theorem Logged.of_journal {s t u : State} {n : Nat} (h : Logged s t n) (hj : u.journal = t.journal) : Logged s u n := by
  unfold Logged at *
  rwa [hj]

/-- A channel marked as FAILED, and its event on line 12. -/
def State.failMarked (s : State) (mb : Bool) : State := (s.sf F.MTR_STAT_STATE (chIx mb) 3).raise 12 (chIx mb) .degraded

section
variable (s : State) (mb : Bool)

theorem State.failMarked_kept : RegsKept [(.MTR_STAT, chIx mb)] s (s.failMarked mb) :=
  RegsKept.of_regs ((RegsKept.refl _ s).sf F.MTR_STAT_STATE (chIx mb) 3 (by simp)) rfl

theorem State.failMarked_only : FailureOnly s (s.failMarked mb) := rfl

theorem State.failMarked_state : (s.failMarked mb).f F.MTR_STAT_STATE (chIx mb) = 3 :=
  s.f_sf_same F.MTR_STAT_STATE (chIx mb) 3 (by decide) (by decide)

/-- A channel that fails: with the other failed too the loss goes into the journal; the settlement channel hands over to the other, which
goes into the journal as well; else nothing more happens. -/
theorem State.failMeter_forms (h : s.meterFailed mb = false) :
    (s.meterFailed (!mb) = true ∧ ∃ e, s.failMeter mb = (s.failMarked mb).log e) ∨
    (s.meterFailed (!mb) = false ∧ s.f F.MTR_SETTLE_ACTIVE = chIx mb ∧
      ∃ e, s.failMeter mb = ((s.failMarked mb).sf F.MTR_SETTLE_ACTIVE 0 (chIx (!mb))).log e) ∨
    (s.meterFailed (!mb) = false ∧ s.f F.MTR_SETTLE_ACTIVE ≠ chIx mb ∧ s.failMeter mb = s.failMarked mb) := by
  have hother : (s.failMarked mb).meterFailed (!mb) = s.meterFailed (!mb) := by
    unfold State.meterFailed
    rw [(s.failMarked_kept mb).f_eq (by cases mb <;> decide)]
  have hactive : (s.failMarked mb).f F.MTR_SETTLE_ACTIVE = s.f F.MTR_SETTLE_ACTIVE :=
    (s.failMarked_kept mb).f_eq (by cases mb <;> decide)
  have he : s.failMeter mb =
      if (s.failMarked mb).meterFailed (!mb) then (s.failMarked mb).log { event := 0x0040, status := .check }
      else if (s.failMarked mb).f F.MTR_SETTLE_ACTIVE = chIx mb then
        ((s.failMarked mb).sf F.MTR_SETTLE_ACTIVE 0 (chIx (!mb))).log
          { event := 0x0040, status := .ok, old := chIx mb, new := chIx (!mb) }
      else s.failMarked mb := if_neg (by simp [h])
  rw [hother, hactive] at he
  cases hlost : s.meterFailed (!mb) with
  | true => exact .inl ⟨rfl, _, he.trans (if_pos hlost)⟩
  | false =>
    rw [if_neg (by simp [hlost])] at he
    by_cases hset : s.f F.MTR_SETTLE_ACTIVE = chIx mb
    · exact .inr (.inl ⟨rfl, hset, _, he.trans (if_pos hset)⟩)
    · exact .inr (.inr ⟨rfl, hset, he.trans (if_neg hset)⟩)

/-- The registers that a channel's failure writes. -/
abbrev failRegs (i : Nat) : List (Reg × Nat) := [(.MTR_STAT, i), (.MTR_SETTLE, 0)] ++ journalRegs

/-- A channel that has failed and what goes with it: `n` entries of the journal. -/
structure ChannelFailed (s t : State) (mb : Bool) (active n : Nat) : Prop where
  state : t.f F.MTR_STAT_STATE (chIx mb) = 3
  events : t.events = s.events ++ [⟨s.now, 12, chIx mb, .degraded⟩]
  settles : t.f F.MTR_SETTLE_ACTIVE = active
  logged : Logged s t n
  only : FailureOnly s t
  kept : RegsKept (failRegs (chIx mb)) s t

theorem State.failMarked_spec : ChannelFailed s (s.failMarked mb) mb (s.f F.MTR_SETTLE_ACTIVE) 0 where
  state := s.failMarked_state mb
  events := rfl
  settles := (s.failMarked_kept mb).f_eq (by cases mb <;> decide)
  logged := fun _ => ⟨rfl, rfl⟩
  only := s.failMarked_only mb
  kept := (s.failMarked_kept mb).mono (by simp)

end

section
variable {s t u : State} {mb : Bool} {active n : Nat}

theorem ChannelFailed.log (h : ChannelFailed s t mb active 0) (hj : t.journal = s.journal) (e : Entry) :
    ChannelFailed s (t.log e) mb active 1 where
  state := ((t.log_kept e).f_eq (by cases mb <;> decide)).trans h.state
  events := (t.log_only e).events_eq.trans h.events
  settles := ((t.log_kept e).f_eq (by decide)).trans h.settles
  logged := by
    have := t.log_logged e
    unfold Logged at *
    rwa [hj] at this
  only := h.only.trans (t.log_only e).failureOnly
  kept := h.kept.trans ((t.log_kept e).mono (List.subset_append_right _ _))

theorem ChannelFailed.handOver (h : ChannelFailed s t mb active n) :
    ChannelFailed s (t.sf F.MTR_SETTLE_ACTIVE 0 (chIx (!mb))) mb (chIx (!mb)) n where
  state := (t.f_sf_ne F.MTR_SETTLE_ACTIVE F.MTR_STAT_STATE 0 _ _ (by cases mb <;> decide)).trans h.state
  events := h.events
  settles := (t.f_sf_same F.MTR_SETTLE_ACTIVE 0 _ (by decide) (by decide)).trans (by cases mb <;> rfl)
  logged := h.logged
  only := h.only
  kept := h.kept.sf F.MTR_SETTLE_ACTIVE 0 _ (by simp)

end

/-- A channel that fails takes the settlement to the other, when that has not failed. -/
theorem State.failMeter_spec (s : State) (mb : Bool) (h : s.meterFailed mb = false) :
    let lost := s.f F.MTR_STAT_STATE (chIx (!mb)) = 3
    let settling := s.f F.MTR_SETTLE_ACTIVE = chIx mb
    ChannelFailed s (s.failMeter mb) mb (if ¬lost ∧ settling then chIx (!mb) else s.f F.MTR_SETTLE_ACTIVE)
      (if lost ∨ settling then 1 else 0) := by
  intro lost settling
  have hmarked := s.failMarked_spec mb
  rcases s.failMeter_forms mb h with ⟨hlost, e, he⟩ | ⟨hlost, hset, e, he⟩ | ⟨hlost, hset, he⟩
  · have hl : lost := (s.meterFailed_iff _).mp hlost
    rw [he, if_neg fun hc => hc.1 hl, if_pos (.inl hl)]
    exact hmarked.log rfl e
  · have hl : ¬lost := (s.meterFailed_false _).mp hlost
    rw [he, if_pos ⟨hl, hset⟩, if_pos (.inr hset)]
    exact hmarked.handOver.log rfl e
  · have hl : ¬lost := (s.meterFailed_false _).mp hlost
    rw [he, if_neg fun hc => hset hc.2, if_neg fun hc => hc.elim hl hset]
    exact hmarked

/-! ### The governors' states follow (R372) -/

theorem State.refreshGov_kept (s : State) (gb : Bool) : RegsKept [(.OST_STAT, 0)] s (s.refreshGov gb) := by
  unfold State.refreshGov State.setGovSt
  split
  · split <;> exact (RegsKept.refl _ s).sf _ _ _ (by simp)
  · exact .refl _ s

theorem State.refreshGov_only (s : State) (gb : Bool) : RegsOnly s (s.refreshGov gb) := by
  unfold State.refreshGov State.setGovSt
  split
  · split <;> rfl
  · rfl

/-- The state in which a channel has failed and both governors show it. -/
def State.selfcheckFailed (s : State) (mb : Bool) : State := ((s.failMeter mb).refreshGov false).refreshGov true

section
variable (s : State) (mb : Bool)

theorem State.selfcheckFailed_only : RegsOnly (s.failMeter mb) (s.selfcheckFailed mb) :=
  (State.refreshGov_only _ _).trans (State.refreshGov_only _ _)

theorem State.selfcheckFailed_kept : RegsKept [(.OST_STAT, 0)] (s.failMeter mb) (s.selfcheckFailed mb) :=
  (State.refreshGov_kept _ _).trans (State.refreshGov_kept _ _)

end

theorem RegsOnly.failureOnly {s t : State} (h : RegsOnly s t) : FailureOnly s t := h.journalOnly.failureOnly

/-- A self-check's verdict (R303): the reference within 50 ppm of its calibrated value, if that is given, and the offset within 20 µA. -/
theorem execMeterSelfcheck_eq (s : State) (mb : Bool) (ref off : Nat) :
    let r := s.rr .MTR_CAL (6 * chIx mb + 5)
    let good := 20000 * max (ref - r) (r - ref) ≤ r ∨ r = 0
    execMeterSelfcheck mb ref off s =
      .next (if good ∧ off ≤ 20000 then s else s.selfcheckFailed mb) := by
  intro r good
  unfold execMeterSelfcheck
  dsimp only
  rw [Nat.mul_comm (chIx mb) 6]
  congr 1
  have hd : (if ref < r then r - ref else ref - r) = max (ref - r) (r - ref) := by split <;> omega
  rw [hd]
  by_cases h : good ∧ off ≤ 20000
  · rw [if_pos h, if_neg (by omega)]
  · rw [if_neg h, if_pos (by omega)]
    rfl

/-! ### Captured words (R310, R311) -/

theorem pairKey_inj {rq : Requester} {j k : Nat} (h : pairKey rq j = pairKey rq k) : j = k := Nat.add_left_cancel h

section
variable {s t : State} {rq : Requester} {l : List (Reg × Nat)} {v : Reg × Nat → Nat}

theorem Captured.nil (s : State) (rq : Requester) (v : Reg × Nat → Nat) : Captured s s rq [] v :=
  ⟨fun _ hp => absurd hp (by simp), rfl, rfl⟩

/-- A further word captured. -/
theorem Captured.capture (h : Captured s t rq l v) (r : Reg) (i : Nat) (hl : ∀ p ∈ l, p.1.key p.2 ≠ r.key i) :
    Captured s (t.capture rq r i (v (r, i))) rq (l ++ [(r, i)]) v := by
  obtain ⟨hfound, honly, hheld⟩ := h
  refine ⟨fun p hp => ?_, honly, hheld⟩
  rcases List.mem_append.mp hp with hp | hp
  · exact (SMap.find?_put_ne _ _ _ _ fun hk => hl p hp (pairKey_inj hk)).trans (hfound p hp)
  · rw [List.mem_singleton.mp hp]
    exact SMap.find?_put_same _ _ _

theorem Captured.answer (h : Captured s t rq l v) (st : Status) (n : Nat) : Captured s (t.answer st n) rq l v := h

end

/-- The registers that a read of a snapshot's number, or of a power, captures (R310, R311). -/
theorem captureSnap_captured (s : State) (rq : Requester) (mb : Bool) :
    Captured s (s.captureSnap rq (chIx mb) false) rq
      [(.MTR_SNAP_E_LO, chIx mb), (.MTR_SNAP_E_HI, chIx mb), (.MTR_SNAP_T_LO, chIx mb), (.MTR_SNAP_T_HI, chIx mb),
        (.MTR_SNAP_STAT, chIx mb)] (fun p => s.rr p.1 p.2) :=
  (((((Captured.nil s rq fun p => s.rr p.1 p.2).capture .MTR_SNAP_E_LO _ (by simp)).capture .MTR_SNAP_E_HI _
    (by cases mb <;> decide)).capture .MTR_SNAP_T_LO _ (by cases mb <;> decide)).capture .MTR_SNAP_T_HI _
    (by cases mb <;> decide)).capture .MTR_SNAP_STAT _ (by cases mb <;> decide)

theorem powerRead_captured (s : State) (rq : Requester) (mb : Bool) :
    Captured s (s.powerRead rq (chIx mb)) rq
      [(.MTR_V, chIx mb), (.MTR_I, chIx mb), (.MTR_TS_LO, chIx mb), (.MTR_TS_HI, chIx mb), (.MTR_NSAMP, chIx mb)]
      (fun p => s.rr p.1 p.2) :=
  ((((((Captured.nil s rq fun p => s.rr p.1 p.2).capture .MTR_V _ (by simp)).capture .MTR_I _
    (by cases mb <;> decide)).capture .MTR_TS_LO _ (by cases mb <;> decide)).capture .MTR_TS_HI _
    (by cases mb <;> decide)).capture .MTR_NSAMP _ (by cases mb <;> decide)).answer _ _

/-- The register of a channel's snapshot that PWW shows as one of its own (R314). -/
def snapSource (p : Reg × Nat) : Reg :=
  match p.1 with
  | .PWW_SNAP_E_LO => .MTR_SNAP_E_LO | .PWW_SNAP_E_HI => .MTR_SNAP_E_HI | .PWW_SNAP_T_LO => .MTR_SNAP_T_LO
  | .PWW_SNAP_T_HI => .MTR_SNAP_T_HI | _ => .MTR_SNAP_STAT

/-- While a channel works, PWW shows the settlement channel's snapshot. -/
theorem captureSnap_pww_captured (s : State) (rq : Requester) (i : Nat) (h : (s.meterFailed false && s.meterFailed true) = false) :
    Captured s (s.captureSnap rq i true) rq
      [(.PWW_SNAP_E_LO, 0), (.PWW_SNAP_E_HI, 0), (.PWW_SNAP_T_LO, 0), (.PWW_SNAP_T_HI, 0), (.PWW_SNAP_STAT, 0)]
      (fun p => s.rr (snapSource p) i) := by
  unfold State.captureSnap
  simp only [h, Bool.false_eq_true, if_true, if_false]
  exact (((((Captured.nil s rq fun p => s.rr (snapSource p) i).capture .PWW_SNAP_E_LO 0 (by simp)).capture .PWW_SNAP_E_HI 0
    (by decide)).capture .PWW_SNAP_T_LO 0 (by decide)).capture .PWW_SNAP_T_HI 0 (by decide)).capture .PWW_SNAP_STAT 0 (by decide)

/-- A read by a requester that acts and has a way to the register (R36, R37). -/
theorem State.regRead_acts (s : State) (rq : Requester) (r : Reg) (i : Nat) (act : State → State) (hi : s.accessIdle rq = false)
    (hr : reaches rq r = true) : s.regRead rq r i act = act s := by
  simp [State.regRead, hi, hr]

/-- A requester that may act makes its accesses, and reaches the power window. -/
theorem MayAct.reads_pww {s : State} {rq : Requester} (h : MayAct s rq) :
    s.accessIdle rq = false ∧ reaches rq .PWW_SNAP_SEQ = true := by
  cases rq with
  | core c =>
    have hc : (s.core c).issues = true := h
    exact ⟨by simp [State.accessIdle, hc], rfl⟩
  | steward ro => exact ⟨rfl, rfl⟩
  | tile t => exact absurd h id

/-! ### The statement -/

theorem meterChannels : MeterChannels := by
  intro s mb i
  refine ⟨fun ref off => ⟨fun h => ⟨s, ?pass, rfl⟩, fun h hs => ⟨s.selfcheckFailed mb, ?fail, ?failed⟩⟩,
    fun ro _ => ⟨⟨_, rfl, ?snap⟩, ⟨_, rfl, ?power⟩⟩, fun rq hrq hset hworks => ?pww⟩
  case pass => exact (execMeterSelfcheck_eq s mb ref off).trans (congrArg _ (if_pos h))
  case fail => exact (execMeterSelfcheck_eq s mb ref off).trans (congrArg _ (if_neg h))
  case failed =>
    obtain ⟨hstate, hevents, hsettles, hlogged, honly, hkept⟩ := s.failMeter_spec mb ((s.meterFailed_false mb).mpr hs)
    have hgovs := s.selfcheckFailed_only mb
    have hostat := s.selfcheckFailed_kept mb
    rw [chIx_not] at hsettles hlogged
    exact ⟨(hostat.f_eq (by cases mb <;> decide)).trans hstate, hgovs.events_eq.trans hevents,
      (hostat.f_eq (by decide)).trans hsettles, hlogged.of_journal hgovs.journal_eq, honly.trans hgovs.failureOnly,
      (hkept.mono (List.append_subset.mpr ⟨by simp [i], List.subset_append_right _ _⟩)).trans (hostat.mono (by simp))⟩
  case snap => exact ⟨(captureSnap_captured s (.steward ro) mb).answer _ _, rfl⟩
  case power => exact ⟨powerRead_captured s (.steward ro) mb, rfl⟩
  case pww =>
    obtain ⟨hi, hr⟩ := hrq.reads_pww
    have hsettle : chIx s.settleB = i := by
      unfold State.settleB State.fb
      rw [hset]
      cases mb <;> rfl
    have hlost : (s.meterFailed false && s.meterFailed true) = false := by
      rw [Bool.and_eq_false_iff, s.meterFailed_false, s.meterFailed_false]
      exact hworks
    refine ⟨s.snapSeqRead rq i true, ?_, ?_, rfl⟩
    · rw [← hsettle]
      exact congrArg Host.Outcome.next (s.regRead_acts rq .PWW_SNAP_SEQ 0 _ hi hr)
    · exact (captureSnap_pww_captured s rq i hlost).answer _ _

/-- Settles O22: samples, readings (means cut toward zero, log 25) and snapshots by the registers and the meter that each writes, a failing
channel by its three forms, captured words one by one. -/
theorem meters : Obligations.Meters := ⟨meterReadings, meterChannels⟩

end Sys2Proof.Machine
end

section
/-! SUPPORT. The rails off, FAULT_N and the ordered shutdown (O40). -/

namespace Sys2Proof.Machine

/-! ### The rails off (R365, R554) -/

/-- Every register past the blocks of the fabric and of Ethernet reads as it did (R36). -/
def AboveKept (s t : State) : Prop := ∀ (r : Reg) (i : Nat), 0x800000 ≤ r.key i → t.rr r i = s.rr r i

/-- Nothing but registers and fabric ports differs, and no register past those of the ports. -/
structure PortsDark (s t : State) : Prop where
  only : { t with regs := s.regs, ports := s.ports } = s
  kept : AboveKept s t

/-- All ports dark, of the fabric and of Ethernet. -/
def State.allDark (s : State) : State := (List.range 8).foldl (fun a k => a.ethDark k) ((List.range 20).foldl (fun a p => a.portDark p) s)

/-- What the compute die, the stacks and the engines hold is lost. -/
def State.railsCut (s : State) : State :=
  { s with
    cores := [], tiles := [], cvn := {}, mem := {}, mst := {}, frt := {}, eth := {}, ic := {}, prf := {}, events := [], rst := {}
    fcl := { s.fcl with windows := false }
    boot := { s.boot with rails := false, running := false, paused := [] } }

theorem State.railsOff_eq (s : State) : s.railsOff = s.allDark.railsCut := rfl

namespace PortsDark
variable {s t u : State}

theorem refl (s : State) : PortsDark s s := ⟨rfl, fun _ _ _ => rfl⟩

theorem trans (h1 : PortsDark s t) (h2 : PortsDark t u) : PortsDark s u where
  only := by rw [← h1.only, ← h2.only]
  kept := fun r i hk => (h2.kept r i hk).trans (h1.kept r i hk)

/-- A register of a block before those kept, written. -/
theorem sf (h : PortsDark s t) (g : Fld) (i v : Nat) (hl : g.reg.desc.last < 0x800000) (hi : i < g.reg.copies) :
    PortsDark s (t.sf g i v) where
  only := h.only
  kept := fun r j hk =>
    (State.rr_wr_ne _ _ _ _ _ _ fun he => absurd (he ▸ g.reg.key_le_last i hi) (by omega)).trans (h.kept r j hk)

theorem setPort (h : PortsDark s t) (p : Nat) (x : Port) : PortsDark s (t.setPort p x) := ⟨h.only, h.kept⟩

theorem ite {c : Prop} [Decidable c] (h2 : PortsDark s u) (h1 : PortsDark s t) : PortsDark s (if c then t else u) := by
  split
  · exact h1
  · exact h2

theorem leaveDims (s : State) (p : Nat) : PortsDark s (s.leaveDims p) := by
  refine foldl_keeps_mem (PortsDark s) _ _ s (fun a d hd ha => ?_) (.refl s)
  have hd' : d < 18 := List.mem_range.mp hd
  have hcarry : PortsDark s (if a.f F.FPT_DIM_CARRY d = p then a.sf F.FPT_DIM_CARRY d 0x1F else a) :=
    ha.ite (ha.sf F.FPT_DIM_CARRY _ _ (by decide) hd')
  exact hcarry.ite (hcarry.sf F.FPT_DIM_GUARD _ _ (by decide) hd')

theorem setPst_off (s : State) (p : Nat) (hp : p < 20) : PortsDark s (s.setPst p .off) :=
  ((((PortsDark.refl s).sf F.FPT_STAT_STATE p _ (by decide) hp).sf F.FPT_STAT_RXMASK p _ (by decide) hp).sf F.FPT_STAT_TXMASK p _
    (by decide) hp).sf F.FPT_STAT_STATUS p _ (by decide) hp

theorem portDark (s : State) (p : Nat) (hp : p < 20) : PortsDark s (s.portDark p) := by
  unfold State.portDark
  refine PortsDark.setPort ?_ _ _
  split
  · exact leaveDims s p
  · exact (setPst_off s p hp).trans (leaveDims _ p)

theorem ethDark (s : State) (k : Nat) (hk : k < 8) : PortsDark s (s.ethDark k) :=
  (((PortsDark.refl s).sf F.ETH_PSTAT_STATE k _ (by decide) hk).sf F.ETH_PSTAT_PHY k _ (by decide) hk).sf F.ETH_PSTAT_LACP k _
    (by decide) hk

theorem all (s : State) : PortsDark s s.allDark :=
  have hfabric : PortsDark s ((List.range 20).foldl (fun a p => a.portDark p) s) :=
    foldl_keeps_mem (PortsDark s) _ _ s (fun a p hp ha => ha.trans (portDark a p (List.mem_range.mp hp))) (.refl s)
  foldl_keeps_mem (PortsDark s) _ _ _ (fun a k hk ha => ha.trans (ethDark a k (List.mem_range.mp hk))) hfabric

end PortsDark

/-- The boot record with every rail off, VAUX too. -/
def Boot.off (b : Boot) : Boot := { b with rails := false, running := false, paused := [], vaux := false, heldWrites := [] }

/-- Every rail has gone off: what was in volatile store is lost, what the flash and the steward die hold is kept. -/
structure PoweredOff (s t : State) : Prop where
  boot : t.boot = s.boot.off
  flash : t.journal = s.journal ∧ t.metering = s.metering ∧ t.thm = s.thm
  lost : t.mem = {} ∧ t.tiles = [] ∧ t.cores = [] ∧ t.sec.sessions = []
  kept : AboveKept s t

/-- What goes with the ports dark. -/
theorem PortsDark.off {s u : State} (h : PortsDark s u) : PoweredOff s u.railsCut.vauxOff where
  boot := by
    have hboot : u.boot = s.boot := (congrArg State.boot h.only :)
    show u.boot.off = s.boot.off
    rw [hboot]
  flash := ⟨(congrArg State.journal h.only :), (congrArg State.metering h.only :), (congrArg State.thm h.only :)⟩
  lost := ⟨rfl, rfl, rfl, rfl⟩
  kept := fun r i hk => (State.rr_of_regs rfl r i).trans (h.kept r i hk)

theorem State.off_spec (s : State) : PoweredOff s s.railsOff.vauxOff := by
  rw [s.railsOff_eq]
  exact (PortsDark.all s).off

/-! ### FAULT_N (R618, R619) -/

section
variable (s : State)

theorem State.faultPin_kept : RegsKept [(.FCL_FAULTN, 0)] s s.faultPin := by
  unfold State.faultPin
  split
  · exact (RegsKept.refl _ s).sf F.FCL_FAULTN_PIN 0 1 (by simp)
  · exact (RegsKept.refl _ s).sf F.FCL_FAULTN_PIN 0 _ (by simp)

theorem State.faultPin_only : RegsOnly s s.faultPin := by
  unfold State.faultPin
  split
  · exact RegsOnly.sf s F.FCL_FAULTN_PIN 0 1
  · exact RegsOnly.sf s F.FCL_FAULTN_PIN 0 _

theorem State.pulse_kept : RegsKept [(.FCL_FAULTN, 0), (.FCL_PULSES, 0)] s s.pulse :=
  (((RegsKept.refl _ s).sf F.FCL_FAULTN_PULSE 0 1 (by simp)).bump .FCL_PULSES 0 1 (by simp)).trans
    ((State.faultPin_kept _).mono (by simp))

theorem State.pulse_only : RegsOnly s s.pulse :=
  ((RegsOnly.sf s F.FCL_FAULTN_PULSE 0 1).trans (.bump _ .FCL_PULSES 0 1)).trans (State.faultPin_only _)

/-- A pulse holds the pin and is counted. -/
theorem State.pulse_shows :
    s.pulse.f F.FCL_FAULTN_PULSE = 1 ∧ s.pulse.f F.FCL_FAULTN_PIN = 1 ∧
      s.pulse.rr .FCL_PULSES = min (s.rr .FCL_PULSES + 1) 0xFFFFFFFF := by
  let u := (s.sf F.FCL_FAULTN_PULSE 0 1).bump .FCL_PULSES
  have hpulse : u.f F.FCL_FAULTN_PULSE = 1 := by
    refine (State.f_wr_ne _ .FCL_PULSES F.FCL_FAULTN_PULSE 0 0 _ (by decide)).trans ?_
    exact s.f_sf_same F.FCL_FAULTN_PULSE 0 1 (by decide) (by decide)
  have hpin : s.pulse = u.sf F.FCL_FAULTN_PIN 0 1 := if_pos ((u.fb_iff _ _).mpr hpulse)
  have hcount : u.rr .FCL_PULSES = min ((s.sf F.FCL_FAULTN_PULSE 0 1).rr .FCL_PULSES + 1) 0xFFFFFFFF := State.rr_bump_same _ _ _ _
  rw [hpin]
  refine ⟨?_, u.f_sf_same F.FCL_FAULTN_PIN 0 1 (by decide) (by decide), ?_⟩
  · rw [u.f_sf_below F.FCL_FAULTN_PIN F.FCL_FAULTN_PULSE 0 1 rfl (by decide) (by decide) (by decide), hpulse]
  · rw [State.sf, State.rr_wr_ne _ _ _ _ _ _ (by decide), hcount, State.sf, State.rr_wr_ne _ _ _ _ _ _ (by decide)]

end

/-! ### The ordered shutdown (R365) -/

/-- An entry about the package itself is written when the firmware runs. -/
theorem State.logCause_kept (s : State) (event cause : Nat) (st : Status) : RegsKept journalRegs s (s.logCause event cause st) := by
  unfold State.logCause State.audit
  split
  · exact s.log_kept _
  · exact .refl _ s

theorem State.logCause_only (s : State) (event cause : Nat) (st : Status) : JournalOnly s (s.logCause event cause st) := by
  unfold State.logCause State.audit
  split
  · exact s.log_only _
  · rfl

theorem State.logCause_logged (s : State) (event cause : Nat) (st : Status) (h : s.firmwareUp = true) :
    Logged s (s.logCause event cause st) 1 := by
  unfold State.logCause State.audit
  rw [if_pos h]
  exact s.log_logged _

/-- Nothing but what has been sent and the count of announcements differs. -/
def AnnouncedOnly (s t : State) : Prop := { t with out := s.out, eth := s.eth } = s

theorem AnnouncedOnly.announce (s : State) (n type : Nat) : AnnouncedOnly s (s.announce n type) := by
  unfold State.announce
  split <;> rfl

theorem AnnouncedOnly.trans {s t u : State} (h1 : AnnouncedOnly s t) (h2 : AnnouncedOnly t u) : AnnouncedOnly s u := by
  unfold AnnouncedOnly at *
  rw [← h1, ← h2]

theorem AnnouncedOnly.announceAll (s : State) (type : Nat) : AnnouncedOnly s (s.announceAll type) :=
  (AnnouncedOnly.announce s 0 type).trans (.announce _ 1 type)

/-- The lifetime energy saved, and the entry about it (R312, R676). -/
def State.saveEntered (s : State) (cause : Nat) : State := s.saveElife.logCause 0x0060 cause .ok

section
variable (s : State) (cause : Nat)

theorem State.saveElife_regs : s.saveElife.regs = s.regs := rfl
theorem State.saveElife_journal : s.saveElife.journal = s.journal := rfl
theorem State.saveElife_firmwareUp : s.saveElife.firmwareUp = s.firmwareUp := rfl

theorem State.saveEntered_kept : RegsKept journalRegs s (s.saveEntered cause) :=
  (RegsKept.of_regs (.refl _ s) s.saveElife_regs).trans (State.logCause_kept _ _ _ _)

theorem State.saveEntered_saves (mb : Bool) :
    ((s.saveEntered cause).meter mb).savedElife = BitVec.ofNat 64 (s.pair .MTR_ELIFE_LO .MTR_ELIFE_HI (chIx mb)) ∧
      ((s.saveEntered cause).meter mb).savedAt = s.tmb.ptime := by
  have honly := State.logCause_only s.saveElife 0x0060 cause .ok
  have hmeter : (s.saveEntered cause).meter mb = s.saveElife.meter mb := (congrArg (fun x : State => x.meter mb) honly :)
  obtain ⟨helife, hat, -⟩ := s.saveElife_saved mb
  rw [hmeter]
  exact ⟨helife, hat⟩

/-- The firmware that runs writes an entry (R676). -/
theorem State.saveEntered_logged (h : s.firmwareUp = true) : Logged s (s.saveEntered cause) 1 := by
  have hlog := s.saveElife.logCause_logged 0x0060 cause .ok (s.saveElife_firmwareUp.trans h)
  unfold Logged at *
  rwa [s.saveElife_journal] at hlog

end

/-- SHUTDOWN latched, with both governors in it. -/
def State.shutLatched (s : State) : State := ((s.sf F.OST_STAT_SHUTDOWN 0 1).setMode false 4).setMode true 4

/-- A run that goes on ends before the shutdown; then FAULT_N, the save and the entry (R365). -/
def State.shutWritten (s : State) (cause : Nat) : State := (s.shutLatched.endAcc .timeout).pulse.saveEntered cause

theorem State.shutting_false (s : State) : s.shutting = false ↔ s.f F.OST_STAT_SHUTDOWN = 0 := by
  have hlt : s.f F.OST_STAT_SHUTDOWN < 2 := bits_lt _ _ _
  unfold State.shutting State.fb
  rw [beq_eq_false_iff_ne]
  omega

theorem State.orderedShutdown_begins (s : State) (cause : Nat) (h : MayShut s) :
    s.orderedShutdown cause = ((s.shutWritten cause).announceAll 3).railsOff.vauxOff := by
  obtain ⟨hshut, htrip, hvaux⟩ := h
  unfold State.orderedShutdown
  rw [if_neg (by simp [s.shutting_false.mpr hshut, htrip, hvaux])]
  rfl

theorem State.orderedShutdown_refused (s : State) (cause : Nat) (h : ¬MayShut s) : s.orderedShutdown cause = s := by
  refine if_pos ?_
  by_contra hc
  simp only [Bool.or_eq_true, not_or, Bool.not_eq_true, Bool.not_eq_false'] at hc
  obtain ⟨⟨hshut, htrip⟩, hvaux⟩ := hc
  exact h ⟨s.shutting_false.mp hshut, htrip, hvaux⟩

/-- What one part of the shutdown leaves of the boot record and of the trips. -/
def PinsKept (s t : State) : Prop := t.boot = s.boot ∧ t.thm = s.thm

theorem PinsKept.trans {s t u : State} (h1 : PinsKept s t) (h2 : PinsKept t u) : PinsKept s u :=
  ⟨h2.1.trans h1.1, h2.2.trans h1.2⟩

theorem RegsOnly.pinsKept {s t : State} (h : RegsOnly s t) : PinsKept s t := ⟨(congrArg State.boot h :), (congrArg State.thm h :)⟩
theorem JournalOnly.pinsKept {s t : State} (h : JournalOnly s t) : PinsKept s t := ⟨(congrArg State.boot h :), (congrArg State.thm h :)⟩
theorem AnnouncedOnly.pinsKept {s t : State} (h : AnnouncedOnly s t) : PinsKept s t :=
  ⟨(congrArg State.boot h :), (congrArg State.thm h :)⟩

theorem State.endAcc_none (s : State) (st : Status) (h : s.metering.acc = none) : s.endAcc st = s := by
  unfold State.endAcc
  rw [h]

theorem State.endAcc_pins (s : State) (st : Status) : PinsKept s (s.endAcc st) := by
  unfold State.endAcc
  split
  · exact ⟨rfl, rfl⟩
  · dsimp only
    constructor
    · rw [(State.log_only _ _).pinsKept.1, State.sf_boot, State.sf_boot, State.setPair_boot, State.setPair_boot]
    · rw [(State.log_only _ _).pinsKept.2, State.sf_thm, State.sf_thm, State.setPair_thm, State.setPair_thm]

section
variable (s : State)

theorem State.shutLatched_only : RegsOnly s s.shutLatched :=
  ((RegsOnly.sf s F.OST_STAT_SHUTDOWN 0 1).trans (.sf _ F.GOV_STATE_MODE 0 4)).trans (.sf _ F.GOV_STATE_MODE 1 4)

theorem State.shutLatched_kept : RegsKept [(.OST_STAT, 0), (.GOV_STATE, 0), (.GOV_STATE, 1)] s s.shutLatched :=
  (((RegsKept.refl _ s).sf F.OST_STAT_SHUTDOWN 0 1 (by simp)).sf F.GOV_STATE_MODE 0 4 (by simp)).sf F.GOV_STATE_MODE 1 4 (by simp)

/-- SHUTDOWN and the modes as they are latched. -/
theorem State.shutLatched_shows :
    s.shutLatched.f F.OST_STAT_SHUTDOWN = 1 ∧ s.shutLatched.mode false = 4 ∧ s.shutLatched.mode true = 4 := by
  let u := s.sf F.OST_STAT_SHUTDOWN 0 1
  let v := u.sf F.GOV_STATE_MODE 0 4
  have hshut : v.f F.OST_STAT_SHUTDOWN = 1 :=
    (u.f_sf_ne F.GOV_STATE_MODE F.OST_STAT_SHUTDOWN 0 0 4 (by decide)).trans
      (s.f_sf_same F.OST_STAT_SHUTDOWN 0 1 (by decide) (by decide))
  exact ⟨(v.f_sf_ne F.GOV_STATE_MODE F.OST_STAT_SHUTDOWN 1 0 4 (by decide)).trans hshut,
    (v.f_sf_ne F.GOV_STATE_MODE F.GOV_STATE_MODE 1 0 4 (by decide)).trans
      (u.f_sf_same F.GOV_STATE_MODE 0 4 (by decide) (by decide)),
    v.f_sf_same F.GOV_STATE_MODE 1 4 (by decide) (by decide)⟩

variable (cause : Nat)

theorem State.saveEntered_pins : PinsKept s (s.saveEntered cause) :=
  have hsave : PinsKept s s.saveElife := ⟨rfl, rfl⟩
  hsave.trans (State.logCause_only _ _ _ _).pinsKept

theorem State.shutWritten_pins : PinsKept s (s.shutWritten cause) := by
  have hpulse : PinsKept _ (s.shutLatched.endAcc .timeout).pulse := (State.pulse_only _).pinsKept
  exact ((s.shutLatched_only.pinsKept.trans (s.shutLatched.endAcc_pins .timeout)).trans hpulse).trans (State.saveEntered_pins _ cause)

theorem PoweredOff.of_announced {s u t : State} (ha : AnnouncedOnly s u) (h : PoweredOff u t) : PoweredOff s t where
  boot := h.boot.trans (congrArg (fun x : State => x.boot.off) ha :)
  flash := ⟨h.flash.1.trans (congrArg State.journal ha :), h.flash.2.1.trans (congrArg State.metering ha :),
    h.flash.2.2.trans (congrArg State.thm ha :)⟩
  lost := h.lost
  kept := fun r i hk => (h.kept r i hk).trans (State.rr_of_regs (congrArg State.regs ha :) r i)

/-- A shutdown ends with every rail off. -/
theorem State.orderedShutdown_off (h : MayShut s) : PoweredOff (s.shutWritten cause) (s.orderedShutdown cause) := by
  rw [s.orderedShutdown_begins cause h]
  exact .of_announced (.announceAll _ 3) (State.off_spec _)

/-- The pins stand through a shutdown; the rails do not. -/
theorem State.orderedShutdown_pins (h : MayShut s) :
    (s.orderedShutdown cause).boot = s.boot.off ∧ (s.orderedShutdown cause).thm = s.thm := by
  have hoff := s.orderedShutdown_off cause h
  obtain ⟨hboot, hthm⟩ := s.shutWritten_pins cause
  exact ⟨hboot ▸ hoff.boot, hoff.flash.2.2.trans hthm⟩

section
variable (hacc : s.metering.acc = none)
include hacc

/-- With no run going on, what is written is the latch, the pulse, the save and the entry. -/
theorem State.shutWritten_eq : s.shutWritten cause = s.shutLatched.pulse.saveEntered cause := by
  have hnone : s.shutLatched.metering.acc = none := (congrArg Metering.acc s.shutLatched_only.metering_eq).trans hacc
  rw [State.shutWritten, s.shutLatched.endAcc_none _ hnone]

theorem State.shutWritten_kept : RegsKept journalRegs s.shutLatched.pulse (s.shutWritten cause) :=
  s.shutWritten_eq cause hacc ▸ State.saveEntered_kept _ cause

theorem State.shutWritten_saves (mb : Bool) :
    ((s.shutWritten cause).meter mb).savedElife = BitVec.ofNat 64 (s.pair .MTR_ELIFE_LO .MTR_ELIFE_HI (chIx mb)) ∧
      ((s.shutWritten cause).meter mb).savedAt = s.tmb.ptime := by
  obtain ⟨helife, hat⟩ := s.shutLatched.pulse.saveEntered_saves cause mb
  rw [s.shutWritten_eq cause hacc, helife, hat, (State.pulse_kept _).pair_eq (by cases mb <;> decide),
    s.shutLatched_kept.pair_eq (by cases mb <;> decide), (State.pulse_only _).tmb_eq, s.shutLatched_only.tmb_eq]
  exact ⟨rfl, rfl⟩

theorem State.shutWritten_logged (h : s.firmwareUp = true) : Logged s (s.shutWritten cause) 1 := by
  have honly : RegsOnly s s.shutLatched.pulse := s.shutLatched_only.trans (State.pulse_only _)
  have hstep : s.shutLatched.pulse.f F.IDT_BOOT_STEP = s.f F.IDT_BOOT_STEP :=
    ((State.pulse_kept _).f_eq (by decide)).trans (s.shutLatched_kept.f_eq (by decide))
  have hup : s.shutLatched.pulse.firmwareUp = true := by
    rw [← h, State.firmwareUp, State.firmwareUp, honly.pinsKept.1, hstep]
  have hlog := State.saveEntered_logged _ cause hup
  rw [s.shutWritten_eq cause hacc]
  unfold Logged at *
  rwa [honly.journal_eq] at hlog

/-- What a shutdown shows of its latch and of its pulse stands when the rails are off. -/
theorem State.orderedShutdown_late (h : MayShut s) (r : Reg) (i : Nat) (hk : 0x800000 ≤ r.key i)
    (hj : ∀ p ∈ journalRegs, p.1.key p.2 ≠ r.key i) :
    (s.orderedShutdown cause).rr r i = s.shutLatched.pulse.rr r i :=
  ((s.orderedShutdown_off cause h).kept r i hk).trans (s.shutWritten_kept cause hacc r i hj)

theorem State.orderedShutdown_shutDown (h : MayShut s) : ShutDown s (s.orderedShutdown cause) := by
  have hoff := s.orderedShutdown_off cause h
  obtain ⟨hjournal, hmetering, -⟩ := hoff.flash
  obtain ⟨hmem, htiles, hcores, hsessions⟩ := hoff.lost
  have hlate := s.orderedShutdown_late cause hacc h
  obtain ⟨hshut, hmodeA, hmodeB⟩ := s.shutLatched_shows
  obtain ⟨hpulse, hpin, hcount⟩ := s.shutLatched.pulse_shows
  have hpulsed := s.shutLatched.pulse_kept
  have hfield (g : Fld) (i : Nat) (hk : 0x800000 ≤ g.reg.key i) (hj : ∀ p ∈ journalRegs, p.1.key p.2 ≠ g.reg.key i) :
      (s.orderedShutdown cause).f g i = s.shutLatched.pulse.f g i := State.f_of_rr (hlate g.reg i hk hj)
  refine ⟨?_, ?_, ?_, (hfield F.FCL_FAULTN_PULSE 0 (by decide) (by decide)).trans hpulse,
    (hfield F.FCL_FAULTN_PIN 0 (by decide) (by decide)).trans hpin, ?_, fun mb => ?_,
    fun hup => (s.shutWritten_logged cause hacc hup).of_journal hjournal, by rw [hoff.boot]; rfl, by rw [hoff.boot]; rfl,
    hmem, htiles, hcores, hsessions⟩
  · exact ((hfield F.OST_STAT_SHUTDOWN 0 (by decide) (by decide)).trans (hpulsed.f_eq (by decide))).trans hshut
  · exact ((hfield F.GOV_STATE_MODE 0 (by decide) (by decide)).trans (hpulsed.f_eq (by decide))).trans hmodeA
  · exact ((hfield F.GOV_STATE_MODE 1 (by decide) (by decide)).trans (hpulsed.f_eq (by decide))).trans hmodeB
  · rw [hlate .FCL_PULSES 0 (by decide) (by decide), hcount, s.shutLatched_kept .FCL_PULSES 0 (by decide)]
  · obtain ⟨helife, hat⟩ := s.shutWritten_saves cause hacc mb
    have hmeter : (s.orderedShutdown cause).meter mb = (s.shutWritten cause).meter mb := by
      rw [State.meter, State.meter, hmetering]
    rw [hmeter, helife, hat, BitVec.toNat_ofNat, Nat.mod_eq_of_lt (s.pair_lt _ _ _)]
    exact ⟨rfl, rfl⟩

end
end

end Sys2Proof.Machine
end

section
/-! SUPPORT. The cold reset that begins a start, the energy gap, and the events of the supply and the pins (O40). -/

namespace Sys2Proof.Machine

/-! ### A start begins (R557, R684) -/

/-- A key that a filter drops is not listed. -/
theorem SMap.find?_filter_none {α : Type} (m : SMap α) (p : Nat → Bool) (k : Nat) (h : p k = false) :
    SMap.find? (m.filter fun e => p e.1) k = none := by
  induction m with
  | nil => rfl
  | cons e m ih =>
    obtain ⟨a, v⟩ := e
    by_cases ha : a = k
    · subst ha
      rw [List.filter_cons_of_neg (by simp [h])]
      exact ih
    · rw [List.filter_cons]
      split
      · simpa [SMap.find?, ha] using ih
      · exact ih

/-- The state after a cold reset, but for the registers that show what flash and pins hold. -/
def State.coldBase (s : State) : State :=
  { pending := s.pending, resp := s.resp, out := s.out, free := s.free, journal := s.journal
    regs := s.regs.filter (fun e => keptKey e.1)
    tmb := { refclk := s.tmb.refclk }
    metering := { ma := s.metering.ma.restored, mb := s.metering.mb.restored }
    ports := s.ports.filterMap (fun e => if e.2.saved.isSome then some (e.1, { saved := e.2.saved }) else none)
    thm := { tripped := s.thm.tripped }
    sec := s.sec.cold
    boot := { savedChannels := s.boot.savedChannels, failedBefore := s.boot.failedBefore, heldWrites := s.boot.heldWrites
              pwrGood := s.boot.pwrGood, resetReleased := s.boot.resetReleased, powered := s.boot.powered } }

/-- A channel's lifetime energy and GAP restored in `a` as `s` has them (R312). -/
def State.lifeRestored (a s : State) (mb : Bool) : State :=
  (a.setPair .MTR_ELIFE_LO .MTR_ELIFE_HI (chIx mb) (s.meter mb).savedElife.toNat).sf F.MTR_STAT_GAP (chIx mb)
    (s.f F.MTR_STAT_GAP (chIx mb))

/-- The registers that show what flash and pins hold, restored. -/
def State.coldShown (a s : State) : State :=
  ((((a.lifeRestored s false).lifeRestored s true).sf F.THM_STAT_TRIPSRC 0 (s.f F.THM_STAT_TRIPSRC)).sf F.FCL_FAULTN_PULSE 0
    (s.f F.FCL_FAULTN_PULSE)).faultPin

theorem State.cold_eq (s : State) : s.cold = s.coldBase.coldShown s := rfl

/-- The registers that a cold reset restores. -/
abbrev coldRegs : List (Reg × Nat) :=
  [(.MTR_ELIFE_LO, 0), (.MTR_ELIFE_HI, 0), (.MTR_STAT, 0), (.MTR_ELIFE_LO, 1), (.MTR_ELIFE_HI, 1), (.MTR_STAT, 1), (.THM_STAT, 0),
    (.FCL_FAULTN, 0)]

section
variable (a s : State)

theorem State.lifeRestored_kept (mb : Bool) : RegsKept coldRegs a (a.lifeRestored s mb) := by
  cases mb <;> exact ((RegsKept.refl _ a).setPair _ _ _ _ (by decide) (by decide)).sf F.MTR_STAT_GAP _ _ (by decide)

theorem State.lifeRestored_only (mb : Bool) : RegsOnly a (a.lifeRestored s mb) := (RegsOnly.setPair _ _ _ _ _).trans (.sf _ _ _ _)

theorem State.coldShown_kept : RegsKept coldRegs a (a.coldShown s) := by
  have hlife := (a.lifeRestored_kept s false).trans (State.lifeRestored_kept _ s true)
  exact ((hlife.sf F.THM_STAT_TRIPSRC 0 _ (by decide)).sf F.FCL_FAULTN_PULSE 0 _ (by decide)).trans
    ((State.faultPin_kept _).mono (by decide))

theorem State.coldShown_only : RegsOnly a (a.coldShown s) :=
  ((((a.lifeRestored_only s false).trans (State.lifeRestored_only _ s true)).trans (.sf _ F.THM_STAT_TRIPSRC 0 _)).trans
    (.sf _ F.FCL_FAULTN_PULSE 0 _)).trans (State.faultPin_only _)

/-- The source of the last trip stands (R555). -/
theorem State.coldShown_tripsrc : (a.coldShown s).f F.THM_STAT_TRIPSRC = s.f F.THM_STAT_TRIPSRC := by
  let u := (a.lifeRestored s false).lifeRestored s true
  let v := u.sf F.THM_STAT_TRIPSRC 0 (s.f F.THM_STAT_TRIPSRC)
  have hpin : RegsKept [(.FCL_FAULTN, 0)] v (a.coldShown s) :=
    ((RegsKept.refl _ v).sf F.FCL_FAULTN_PULSE 0 _ (by simp)).trans (State.faultPin_kept _)
  rw [hpin.f_eq (by decide), u.f_sf_same F.THM_STAT_TRIPSRC 0 _ (by decide) (by decide)]
  exact Nat.mod_eq_of_lt (bits_lt _ _ _)

/-- A register that a cold reset neither keeps nor restores reads its reset value. -/
theorem State.cold_rr (r : Reg) (i : Nat) (hk : keptKey (r.key i) = false) (hl : ∀ p ∈ coldRegs, p.1.key p.2 ≠ r.key i) :
    s.cold.rr r i = r.rst i % 2 ^ 32 := by
  rw [s.cold_eq, s.coldBase.coldShown_kept s r i hl]
  unfold State.rr State.coldBase
  rw [SMap.find?_filter_none _ _ _ hk]
  exact BitVec.toNat_ofNat _ _

theorem State.cold_only : RegsOnly s.coldBase s.cold := s.coldBase.coldShown_only s

theorem State.cold_tripsrc : s.cold.f F.THM_STAT_TRIPSRC = s.f F.THM_STAT_TRIPSRC := s.coldBase.coldShown_tripsrc s

/-- A field of such a register. -/
theorem State.cold_f (g : Fld) (hk : keptKey (g.reg.key 0) = false) (hl : ∀ p ∈ coldRegs, p.1.key p.2 ≠ g.reg.key 0) :
    s.cold.f g = bits (g.reg.rst 0 % 2 ^ 32) g.hi g.lo := congrArg (fun n => bits n g.hi g.lo) (s.cold_rr g.reg 0 hk hl)

end

/-- The sequence runs from its reference event. -/
def State.started (s : State) (retried : Bool) : State := { s with boot := { s.boot with running := true, retried := retried } }

/-- What a start begins from, by the cold reset's registers alone. -/
theorem RegsOnly.started {s u : State} (h : RegsOnly s.coldBase u) (hstep : u.f F.IDT_BOOT_STEP = 0) (hready : u.f F.IDT_BOOT_READY = 0)
    (htrip : u.f F.THM_STAT_TRIPSRC = s.f F.THM_STAT_TRIPSRC) (hshut : u.f F.OST_STAT_SHUTDOWN = 0) (retried : Bool) :
    StartBegun s (u.started retried) ∧ (u.started retried).boot.pwrGood = s.boot.pwrGood ∧
      (u.started retried).boot.resetReleased = s.boot.resetReleased :=
  ⟨⟨rfl, (congrArg (fun x : State => x.boot.elapsed) h :), hstep, hready, (congrArg (fun x : State => x.boot.rails) h :),
    (congrArg (fun x : State => x.boot.vaux) h :), (congrArg State.tiles h :), (congrArg State.mem h :), (congrArg State.journal h :),
    (congrArg State.pending h :), (congrArg (fun x : State => x.sec.running) h :), (congrArg (fun x : State => x.sec.settings) h :),
    htrip, hshut⟩, (congrArg (fun x : State => x.boot.pwrGood) h :), (congrArg (fun x : State => x.boot.resetReleased) h :)⟩

/-- A start begins from whatever state the package was in, and leaves the pins as they are. -/
theorem State.beginStart_begun (s : State) (retried : Bool) :
    StartBegun s (s.beginStart retried) ∧ (s.beginStart retried).boot.pwrGood = s.boot.pwrGood ∧
      (s.beginStart retried).boot.resetReleased = s.boot.resetReleased :=
  s.cold_only.started ((s.cold_f F.IDT_BOOT_STEP (by decide) (by decide)).trans (by decide))
    ((s.cold_f F.IDT_BOOT_READY (by decide) (by decide)).trans (by decide)) s.cold_tripsrc
    ((s.cold_f F.OST_STAT_SHUTDOWN (by decide) (by decide)).trans (by decide)) retried

/-! ### The gap in the energy (R312) -/

/-- The registers of channel `i` that tell of a gap. -/
abbrev gapRegs (i : Nat) : List (Reg × Nat) :=
  [(.MTR_ELIFE_LO, i), (.MTR_ELIFE_HI, i), (.MTR_GAP_T_LO, i), (.MTR_GAP_T_HI, i), (.MTR_STAT, i)]

/-- A channel shows a gap: its lifetime energy is that of the last save, whose time GAP_T holds. -/
def GapShown (s t : State) (mb : Bool) : Prop :=
  t.f F.MTR_STAT_GAP (chIx mb) = 1 ∧ t.pair .MTR_GAP_T_LO .MTR_GAP_T_HI (chIx mb) = (s.meter mb).savedAt.toNat ∧
    t.pair .MTR_ELIFE_LO .MTR_ELIFE_HI (chIx mb) = (s.meter mb).savedElife.toNat

/-- What leaves a channel's registers of the gap leaves it shown. -/
theorem GapShown.kept {s t u : State} {mb : Bool} (h : GapShown s t mb) (hk : ∀ p ∈ gapRegs (chIx mb), u.rr p.1 p.2 = t.rr p.1 p.2) :
    GapShown s u mb := by
  obtain ⟨hgap, htime, helife⟩ := h
  have hrr (r : Reg) (hr : (r, chIx mb) ∈ gapRegs (chIx mb)) : u.rr r (chIx mb) = t.rr r (chIx mb) := hk (r, chIx mb) hr
  have hfield : u.f F.MTR_STAT_GAP (chIx mb) = t.f F.MTR_STAT_GAP (chIx mb) :=
    State.f_of_rr (g := F.MTR_STAT_GAP) (hrr .MTR_STAT (by simp))
  have hpair (lo hi : Reg) (hlo : (lo, chIx mb) ∈ gapRegs (chIx mb)) (hhi : (hi, chIx mb) ∈ gapRegs (chIx mb)) :
      u.pair lo hi (chIx mb) = t.pair lo hi (chIx mb) := by
    rw [State.pair, State.pair, hrr lo hlo, hrr hi hhi]
  exact ⟨hfield.trans hgap, (hpair _ _ (by simp) (by simp)).trans htime, (hpair _ _ (by simp) (by simp)).trans helife⟩

section
variable (s : State) (mb : Bool)

theorem State.energyGap_kept : RegsKept (gapRegs (chIx mb)) s (s.energyGap mb) :=
  (((RegsKept.refl _ s).setPair _ _ _ _ (by simp) (by simp)).setPair _ _ _ _ (by simp) (by simp)).sf F.MTR_STAT_GAP _ _ (by simp)

theorem State.energyGap_only : RegsOnly s (s.energyGap mb) :=
  ((RegsOnly.setPair _ _ _ _ _).trans (.setPair _ _ _ _ _)).trans (.sf _ _ _ _)

theorem State.energyGap_shown : GapShown s (s.energyGap mb) mb := by
  let u := s.setPair .MTR_ELIFE_LO .MTR_ELIFE_HI (chIx mb) (s.meter mb).savedElife.toNat
  let v := u.setPair .MTR_GAP_T_LO .MTR_GAP_T_HI (chIx mb) (s.meter mb).savedAt.toNat
  have hgap : RegsKept [(.MTR_STAT, chIx mb)] v (s.energyGap mb) := (RegsKept.refl _ v).sf F.MTR_STAT_GAP _ _ (by simp)
  have htime : RegsKept [(.MTR_GAP_T_LO, chIx mb), (.MTR_GAP_T_HI, chIx mb)] u v :=
    (RegsKept.refl _ u).setPair _ _ _ _ (by simp) (by simp)
  refine ⟨v.f_sf_same F.MTR_STAT_GAP _ 1 (by decide) (by decide), ?_, ?_⟩
  · rw [hgap.pair_eq (by cases mb <;> decide), State.pair_setPair_same _ _ _ _ _ (by cases mb <;> decide)]
    exact Nat.mod_eq_of_lt (BitVec.isLt _)
  · rw [hgap.pair_eq (by cases mb <;> decide), htime.pair_eq (by cases mb <;> decide),
      State.pair_setPair_same _ _ _ _ _ (by cases mb <;> decide)]
    exact Nat.mod_eq_of_lt (BitVec.isLt _)

/-- Both channels with a gap. -/
def State.gapped (s : State) : State := (s.energyGap false).energyGap true

theorem State.gapped_only : RegsOnly s s.gapped := (s.energyGap_only false).trans (State.energyGap_only _ true)

/-- The gap of each channel leaves that of the other. -/
theorem State.gapped_shown : GapShown s s.gapped mb := by
  cases mb with
  | false =>
    have hkept : RegsKept (gapRegs 1) (s.energyGap false) s.gapped := State.energyGap_kept _ true
    have hapart : ∀ p ∈ gapRegs 0, ∀ q ∈ gapRegs 1, q.1.key q.2 ≠ p.1.key p.2 := by decide
    exact (s.energyGap_shown false).kept fun p hp => hkept p.1 p.2 (hapart p hp)
  | true =>
    have hmeter : (s.energyGap false).meter true = s.meter true := (s.energyGap_only false).meter_eq true
    have hshown := State.energyGap_shown (s.energyGap false) true
    unfold GapShown at hshown ⊢
    rwa [hmeter] at hshown

end

/-! ### The loss of the input (R312, R699, R713) -/

/-- FAULT_N released (R699). -/
def State.faultReleased (s : State) : State := (s.sf F.FCL_FAULTN_PULSE 0 0).sf F.FCL_FAULTN_PIN 0 0

/-- The input gone: no trip stands, and no package reset is under way. -/
def State.inputGone (s : State) : State :=
  { s with
    thm := { s.thm with tripped := false }, rst := { s.rst with pkgReset := none }
    boot := { s.boot with powered := false, inrush := false } }

theorem execInputPowerLoss_eq (s : State) :
    execInputPowerLoss s = .next (if s.boot.vaux then s.gapped else s).railsOff.vauxOff.faultReleased.inputGone := rfl

section
variable (s : State)

theorem State.inputGone_regs : s.inputGone.regs = s.regs := rfl

theorem State.faultReleased_only : RegsOnly s s.faultReleased := (RegsOnly.sf s F.FCL_FAULTN_PULSE 0 0).trans (.sf _ F.FCL_FAULTN_PIN 0 0)

theorem State.faultReleased_kept : RegsKept [(.FCL_FAULTN, 0)] s s.faultReleased :=
  ((RegsKept.refl _ s).sf F.FCL_FAULTN_PULSE 0 0 (by simp)).sf F.FCL_FAULTN_PIN 0 0 (by simp)

theorem State.faultReleased_pin : s.faultReleased.f F.FCL_FAULTN_PIN = 0 ∧ s.faultReleased.f F.FCL_FAULTN_PULSE = 0 := by
  unfold State.faultReleased
  rw [State.f_sf_same _ F.FCL_FAULTN_PIN 0 0 (by decide) (by decide),
    State.f_sf_below _ F.FCL_FAULTN_PIN F.FCL_FAULTN_PULSE 0 0 rfl (by decide) (by decide) (by decide),
    State.f_sf_same _ F.FCL_FAULTN_PULSE 0 0 (by decide) (by decide)]
  exact ⟨rfl, rfl⟩

end

/-- What the supply's last register writes leave of a state in which the rails are off. -/
theorem PoweredOff.inputGone {s u w : State} (h : PoweredOff s u) (hw : RegsOnly u w) :
    let t := w.inputGone
    t.boot.powered = false ∧ t.boot.rails = false ∧ t.boot.vaux = false ∧ t.boot.running = false ∧ t.thm.tripped = false ∧
      t.journal = s.journal ∧ t.tiles = [] ∧ t.mem = {} := by
  have hboot : w.boot = s.boot.off := (congrArg State.boot hw :).trans h.boot
  exact ⟨rfl, (congrArg Boot.rails hboot :), (congrArg Boot.vaux hboot :), (congrArg Boot.running hboot :), rfl,
    hw.journal_eq.trans h.flash.1, hw.tiles.trans h.lost.2.1, hw.mem.trans h.lost.1⟩

/-- A gap stands through the loss. -/
theorem PoweredOff.gap {s u w : State} {mb : Bool} (h : PoweredOff u w) (hg : GapShown s u mb) :
    GapShown s w.faultReleased.inputGone mb := by
  refine hg.kept fun p hp => ?_
  have habove : ∀ p ∈ gapRegs (chIx mb), 0x800000 ≤ p.1.key p.2 ∧ ∀ q ∈ [(Reg.FCL_FAULTN, 0)], q.1.key q.2 ≠ p.1.key p.2 := by
    cases mb <;> decide
  rw [State.rr_of_regs (State.inputGone_regs _), w.faultReleased_kept _ _ (habove p hp).2, h.kept _ _ (habove p hp).1]

/-! ### The pins (R701) -/

section
variable {s t : State} {b : Boot}

theorem StartBegun.of_boot (h : StartBegun { s with boot := b } t) : StartBegun s t := h

theorem mayShut_boot (hv : b.vaux = s.boot.vaux) : MayShut { s with boot := b } ↔ MayShut s := by
  unfold MayShut
  rw [← hv]
  rfl

theorem ShutDown.of_boot (hv : b.vaux = s.boot.vaux) (h : ShutDown { s with boot := b } t) : ShutDown s t := by
  have hup : ({ s with boot := b } : State).firmwareUp = s.firmwareUp := by
    unfold State.firmwareUp
    rw [← hv]
    rfl
  unfold ShutDown at h ⊢
  rw [hup] at h
  exact h

/-- A pin taken away: with the boot record `b` a shutdown begins as from `s`, or nothing else happens. -/
theorem State.shutdown_of_pin (s : State) (b : Boot) (hv : b.vaux = s.boot.vaux) (cause : Nat) :
    let t := ({ s with boot := b } : State).orderedShutdown cause
    (MayShut s → t.boot = b.off ∧ t.thm = s.thm ∧ (s.metering.acc = none → ShutDown s t)) ∧
      (¬MayShut s → t = { s with boot := b }) := by
  intro t
  have hmay := mayShut_boot hv
  refine ⟨fun h => ?_, fun h => State.orderedShutdown_refused _ cause fun hm => h (hmay.mp hm)⟩
  obtain ⟨hboot, hthm⟩ := State.orderedShutdown_pins _ cause (hmay.mpr h)
  exact ⟨hboot, hthm, fun hacc => (State.orderedShutdown_shutDown { s with boot := b } cause hacc (hmay.mpr h)).of_boot hv⟩

end

/-- THERM_TRIP_N released, and no package reset under way (R555, R701). -/
def State.calmed (s : State) : State := { s with thm := { s.thm with tripped := false }, rst := { s.rst with pkgReset := none } }

theorem ShutDown.calmed {s t : State} (h : ShutDown s t) : ShutDown s t.calmed := h

theorem execPwrGoodDeassert_eq (s : State) :
    let u := ({ s with boot := { s.boot with pwrGood := false } } : State).orderedShutdown 4
    execPwrGoodDeassert s = .next (if u.boot.vaux then u.railsOff.vauxOff else u).calmed := rfl

/-- PWR_GOOD taken away (R555, R568, R701). -/
theorem pwrGoodDeassert_gives (s : State) :
    Gives (exec .pwrGoodDeassert s) (fun t =>
      t.boot.pwrGood = false ∧ t.thm.tripped = false ∧ t.boot.vaux = false ∧ t.rst.pkgReset = none ∧
        (s.boot.vaux = true → t.boot.rails = false ∧ t.boot.running = false) ∧
        (MayShut s → s.metering.acc = none → ShutDown s t)) := by
  refine ⟨_, execPwrGoodDeassert_eq s, ?_⟩
  obtain ⟨hshuts, hstays⟩ := s.shutdown_of_pin { s.boot with pwrGood := false } rfl 4
  generalize ({ s with boot := { s.boot with pwrGood := false } } : State).orderedShutdown 4 = u at hshuts hstays ⊢
  by_cases hmay : MayShut s
  · obtain ⟨hboot, -, hdown⟩ := hshuts hmay
    have hvaux : u.boot.vaux = false := (congrArg Boot.vaux hboot :)
    rw [if_neg (by simp [hvaux])]
    exact ⟨(congrArg Boot.pwrGood hboot :), rfl, hvaux, rfl,
      fun _ => ⟨(congrArg Boot.rails hboot :), (congrArg Boot.running hboot :)⟩, fun _ hacc => (hdown hacc).calmed⟩
  · have hu := hstays hmay
    cases hvaux : s.boot.vaux with
    | true =>
      have hboot : u.railsOff.vauxOff.boot = _ := u.off_spec.boot
      generalize u.railsOff.vauxOff = w at hboot ⊢
      rw [hu] at hboot
      rw [if_pos (by rw [hu]; exact hvaux)]
      exact ⟨(congrArg Boot.pwrGood hboot :), rfl, (congrArg Boot.vaux hboot :), rfl,
        fun _ => ⟨(congrArg Boot.rails hboot :), (congrArg Boot.running hboot :)⟩, fun h => absurd h hmay⟩
    | false =>
      rw [hu, if_neg (by simp [hvaux])]
      exact ⟨rfl, rfl, hvaux, rfl, fun h => absurd h (by simp), fun h => absurd h hmay⟩

/-- PKG_RESET_N asserted (R602, R703). -/
theorem pkgResetAssert_gives (s : State) :
    Gives (exec .pkgResetAssert s) (fun t =>
      t.boot.resetReleased = false ∧ t.thm.tripped = s.thm.tripped ∧ (MayShut s → s.metering.acc = none → ShutDown s t) ∧
        (¬MayShut s → { t with boot := s.boot } = s)) := by
  refine ⟨({ s with boot := { s.boot with resetReleased := false } } : State).orderedShutdown 5, rfl, ?_⟩
  obtain ⟨hshuts, hstays⟩ := s.shutdown_of_pin { s.boot with resetReleased := false } rfl 5
  generalize ({ s with boot := { s.boot with resetReleased := false } } : State).orderedShutdown 5 = u at hshuts hstays ⊢
  by_cases hmay : MayShut s
  · obtain ⟨hboot, hthm, hdown⟩ := hshuts hmay
    exact ⟨(congrArg Boot.resetReleased hboot :), congrArg Thm.tripped hthm, fun _ => hdown, fun h => absurd hmay h⟩
  · rw [hstays hmay]
    exact ⟨rfl, rfl, fun h => absurd h hmay, fun _ => rfl⟩

/-- The input lost (R312, R684, R713). -/
theorem inputPowerLoss_gives (s : State) :
    Gives (exec .inputPowerLoss s) (fun t =>
      t.boot.powered = false ∧ t.boot.rails = false ∧ t.boot.vaux = false ∧ t.boot.running = false ∧ t.thm.tripped = false ∧
        t.f F.FCL_FAULTN_PIN = 0 ∧ t.f F.FCL_FAULTN_PULSE = 0 ∧ t.journal = s.journal ∧ t.tiles = [] ∧ t.mem = {} ∧
        (s.boot.vaux = true → ∀ mb : Bool, GapShown s t mb)) := by
  refine ⟨_, execInputPowerLoss_eq s, ?_⟩
  have hjournal : (if s.boot.vaux then s.gapped else s).journal = s.journal := by
    split
    · exact s.gapped_only.journal_eq
    · rfl
  have hgap (h : s.boot.vaux = true) (mb : Bool) : GapShown s (if s.boot.vaux then s.gapped else s) mb := by
    rw [if_pos h]
    exact s.gapped_shown mb
  generalize (if s.boot.vaux then s.gapped else s) = u at hjournal hgap ⊢
  have hoff := u.off_spec
  generalize u.railsOff.vauxOff = w at hoff ⊢
  obtain ⟨hpowered, hrails, hvaux, hrunning, htripped, hlog, htiles, hmem⟩ := hoff.inputGone w.faultReleased_only
  obtain ⟨hpin, hpulse⟩ := w.faultReleased_pin
  have hregs := State.rr_of_regs w.faultReleased.inputGone_regs .FCL_FAULTN 0
  exact ⟨hpowered, hrails, hvaux, hrunning, htripped, (State.f_of_rr (g := F.FCL_FAULTN_PIN) hregs).trans hpin,
    (State.f_of_rr (g := F.FCL_FAULTN_PULSE) hregs).trans hpulse,
    hlog.trans hjournal, htiles, hmem, fun h mb => hoff.gap (hgap h mb)⟩

/-- PWR_GOOD and PKG_RESET_N at the level that calls for a start (R701). -/
def State.pwrGoodUp (s : State) : State := { s with boot := { s.boot with pwrGood := true } }
def State.resetUp (s : State) : State := { s with boot := { s.boot with resetReleased := true } }

/-- A start begins, or the package waits for what it lacks (R555, R557, R701, R703). -/
def State.startOrWait (s : State) : State := if s.mayStart then s.beginStart false else s

section
variable {s : State}

theorem State.startOrWait_begins (hp : s.boot.powered = true) (hg : s.boot.pwrGood = true) (hr : s.boot.resetReleased = true)
    (ht : s.thm.tripped = false) :
    StartBegun s s.startOrWait ∧ s.startOrWait.boot.pwrGood = true ∧ s.startOrWait.boot.resetReleased = true := by
  have hbegins : s.startOrWait = s.beginStart false := if_pos (by simp [State.mayStart, hp, hg, hr, ht])
  obtain ⟨hbegun, hgood, hreleased⟩ := s.beginStart_begun false
  rw [hbegins]
  exact ⟨hbegun, hgood.trans hg, hreleased.trans hr⟩

theorem State.startOrWait_waits
    (h : s.boot.powered = false ∨ s.boot.pwrGood = false ∨ s.boot.resetReleased = false ∨ s.thm.tripped = true) : s.startOrWait = s := by
  refine if_neg ?_
  rcases h with hp | hg | hr | ht
  · simp [State.mayStart, hp]
  · simp [State.mayStart, hg]
  · simp [State.mayStart, hr]
  · simp [State.mayStart, ht]

theorem execPwrGoodAssert_eq (h : s.boot.pwrGood = false) :
    execPwrGoodAssert s = .next s.pwrGoodUp.startOrWait := if_neg (by simp [h])

theorem execPkgResetRelease_eq (h : s.boot.resetReleased = false) :
    execPkgResetRelease s = .next s.resetUp.startOrWait :=
  if_neg (by simp [h])

end

/-! ### The statement -/

theorem power : Power := by
  intro s
  refine ⟨fun h => ⟨s, if_pos h, rfl⟩, fun h => ⟨_, if_neg (by simp [h]), rfl, rfl, rfl⟩, fun h => ⟨s, if_pos h, rfl⟩, ?goodStart,
    ?goodWaits, fun h => ⟨s, if_pos h, rfl⟩, ?resetStart, ?resetWaits, pwrGoodDeassert_gives s, pkgResetAssert_gives s,
    inputPowerLoss_gives s⟩
  case goodStart =>
    intro h hp hr ht
    obtain ⟨hbegun, hgood, -⟩ := State.startOrWait_begins (s := s.pwrGoodUp) hp rfl hr ht
    exact ⟨_, execPwrGoodAssert_eq h, hgood, hbegun.of_boot⟩
  case goodWaits =>
    intro h hn
    have hwaits := State.startOrWait_waits (s := s.pwrGoodUp) (hn.imp_right .inr)
    exact ⟨s.pwrGoodUp, hwaits ▸ execPwrGoodAssert_eq h, rfl, rfl, rfl⟩
  case resetStart =>
    intro h hp hg ht
    obtain ⟨hbegun, -, hreleased⟩ := State.startOrWait_begins (s := s.resetUp) hp hg rfl ht
    exact ⟨_, execPkgResetRelease_eq h, hreleased, hbegun.of_boot⟩
  case resetWaits =>
    intro h hn
    have hwaits := State.startOrWait_waits (s := s.resetUp) (hn.imp_right (Or.imp_right .inr))
    exact ⟨s.resetUp, hwaits ▸ execPkgResetRelease_eq h, rfl, rfl, rfl⟩

/-- Settles O40: a start by what the cold reset keeps (log 45), a pin taken away by the shutdown as one command or its refusal (log 47), the
loss of the input by the gap. -/
theorem supplyAndPins : Obligations.SupplyAndPins := power

end Sys2Proof.Machine
end

section
/-! SUPPORT. A control period (O24): what comes before the tolls, and a slot number that no package has, of which the statement says too
much. -/

namespace Sys2Proof.Machine

/-! ### Up to the tolls -/

/-- What a control period of governor `gb` in FLOOR leaves as it was until it comes to the tolls: the caravans, OST_STAT and the mode. -/
structure BeforeTolls (gb : Bool) (s t : State) : Prop where
  cvn : t.cvn = s.cvn
  stat : t.rr .OST_STAT 0 = s.rr .OST_STAT 0
  mode : t.mode gb = s.mode gb

namespace BeforeTolls
variable {gb : Bool} {s t : State}

theorem refl (gb : Bool) (s : State) : BeforeTolls gb s s := ⟨rfl, rfl, rfl⟩

/-- Parts of the state beside registers and caravans differ. -/
theorem of_eq {u : State} (h : BeforeTolls gb s t) (hcvn : u.cvn = t.cvn) (hregs : u.regs = t.regs) : BeforeTolls gb s u where
  cvn := hcvn.trans h.cvn
  stat := (State.rr_of_regs hregs _ _).trans h.stat
  mode := (State.f_of_rr (g := F.GOV_STATE_MODE) (State.rr_of_regs hregs _ _)).trans h.mode

theorem wr (h : BeforeTolls gb s t) (r : Reg) (i v : Nat) (hstat : Reg.OST_STAT.key 0 ≠ r.key i)
    (hmode : Reg.GOV_STATE.key (govIx gb) ≠ r.key i) : BeforeTolls gb s (t.wr r i v) where
  cvn := h.cvn
  stat := (t.rr_wr_ne r _ i _ v hstat).trans h.stat
  mode := (t.f_wr_ne r F.GOV_STATE_MODE i _ v hmode).trans h.mode

/-- A field of GOV_STATE above the mode is set. -/
theorem sf (h : BeforeTolls gb s t) (g : Fld) (v : Nat) (hr : g.reg = .GOV_STATE) (hlo : 3 < g.lo) (hhi : g.hi < 32)
    (hl : g.lo ≤ g.hi + 1) : BeforeTolls gb s (t.sf g (govIx gb) v) where
  cvn := h.cvn
  stat := (t.rr_wr_ne g.reg _ _ _ _ (by rw [hr]; cases gb <;> decide)).trans h.stat
  mode := (t.f_sf_below g F.GOV_STATE_MODE _ v hr.symm hlo hhi hl).trans h.mode

theorem setGov (h : BeforeTolls gb s t) (b : Bool) (x : Gov) : BeforeTolls gb s (t.setGov b x) :=
  h.of_eq (by cases b <;> rfl) (by cases b <;> rfl)

theorem nextGating (h : BeforeTolls gb s t) (b floor : Bool) : BeforeTolls gb s (t.nextGating b floor) := by
  unfold State.nextGating
  dsimp only
  split
  · exact h
  · split
    · exact h.setGov _ _
    · exact h

end BeforeTolls

/-- A governor that stays in FLOOR comes to the tolls with the caravans and OST_STAT as they were; after them it commands the outputs, if it
is the active one, and its link and its state are brought up to date. -/
theorem State.period_tolls (s : State) (gb : Bool) (hfloor : s.floorMode gb (s.budget gb) = s) (hmode : s.mode gb = 3) :
    ∃ u x, BeforeTolls gb s u ∧ s.period gb =
      ((if u.activeB = gb then (u.tolls (u.f F.GOV_ACT_PACE (govIx gb))).ostCommand gb (u.rr .GOV_ACT (govIx gb)) else u).setGl gb
        x).refreshGov gb := by
  unfold State.period
  extract_lets i b w g lo h0 h1 t o u est p e imax integ d s1 s2 s3 s4 m s5 lost s6 s7 s8 fr l s9
  have hw : BeforeTolls gb s w := by
    show BeforeTolls gb s (s.floorMode gb (s.budget gb))
    rw [hfloor]
    exact .refl gb s
  have hs2 : BeforeTolls gb s s2 := by
    refine (((BeforeTolls.wr ?_ _ _ _ ?_ ?_).wr _ _ _ ?_ ?_).wr _ _ _ ?_ ?_).wr _ _ _ ?_ ?_
    case refine_1 => exact hw.of_eq rfl rfl
    all_goals cases gb <;> decide
  have hs3 : BeforeTolls gb s s3 := by
    refine (((hs2.wr _ _ _ ?_ ?_).wr _ _ _ ?_ ?_).wr _ _ _ ?_ ?_).wr _ _ _ ?_ ?_
    all_goals cases gb <;> decide
  have hs4 : BeforeTolls gb s s4 := hs3.setGov gb _
  have hs5 : BeforeTolls gb s s5 := by
    refine (hs4.of_eq ?_ ?_).sf F.GOV_STATE_FR _ rfl (by decide) (by decide) (by decide)
    all_goals cases gb <;> rfl
  have hs6 : BeforeTolls gb s s6 := by
    have hlost := (hs5.sf F.GOV_STATE_FIXED 0 rfl (by decide) (by decide) (by decide)).sf F.GOV_STATE_FIXLOST 1 rfl (by decide)
      (by decide) (by decide)
    show BeforeTolls gb s (if lost then _ else s5)
    split
    · exact hlost
    · exact hs5
  have hs7 : s7 = (s6.wr .GOV_ACT i (s6.f F.GOV_ACT_VCORE i * 2 ^ 16 + s6.f F.GOV_ACT_GATED i)).nextGating gb true :=
    if_pos (hs6.mode.trans hmode)
  refine ⟨s7, _, ?_, rfl⟩
  rw [hs7]
  exact (hs6.wr .GOV_ACT i _ (by cases gb <;> decide) (by cases gb <;> decide)).nextGating gb true

/-! ### A slot number that no package has -/

/-- The slot number at which CVN_SLOT_TOLL, were there such a slot, would stand at the address of GOV-A's GOV_SEQ. -/
def straySlotNumber : Nat := 0xFFFFC0

/-- GOV-A is active and in FLOOR, and the caravan controller lists a slot of that number with a toll of 1 to apply. -/
def straySlot : State :=
  { regs := [(Reg.GOV_STATE.key 0, 3#32), (Reg.OST_STAT.key 0, 0x14#32)]
    cvn := { slots := [(straySlotNumber, { tollNext := some 1 })] } }

theorem straySlot_floorMode : straySlot.floorMode false (straySlot.budget false) = straySlot := by
  unfold State.floorMode
  dsimp only
  rw [if_neg (by decide), if_pos (by decide), if_neg (by decide)]

/-- The tolls of the stray slot alone: its toll applies. -/
theorem tolls_straySlot (u : State) (common : Nat) (h : u.cvn = straySlot.cvn) :
    (u.tolls common).f F.CVN_SLOT_TOLL_TOLL straySlotNumber = 1 := by
  have hslot : u.slot straySlotNumber = { tollNext := some 1 } := State.slot_of_cvn h straySlotNumber
  have htolls : u.tolls common =
      (u.sf F.CVN_SLOT_TOLL_TOLL straySlotNumber 1).setSlot straySlotNumber { tollNext := none, tollPace := none } := by
    unfold State.tolls
    rw [h]
    simp only [straySlot, List.foldl_cons, List.foldl_nil, hslot, if_true]
  rw [htolls, State.f_setSlot]
  exact State.f_sf_same _ _ _ _ (by decide) (by decide)

/-- What follows the tolls leaves the register of the stray slot's toll alone. -/
theorem rr_strayToll_after_tolls (u : State) (gb : Bool) (out : Nat) (x : GovLink) :
    (((u.ostCommand gb out).setGl gb x).refreshGov gb).rr .CVN_SLOT_TOLL straySlotNumber = u.rr .CVN_SLOT_TOLL straySlotNumber := by
  have hcommand : (u.ostCommand gb out).rr .CVN_SLOT_TOLL straySlotNumber = u.rr .CVN_SLOT_TOLL straySlotNumber := by
    unfold State.ostCommand State.applyOut
    split
    · exact u.rr_wr_ne _ _ _ _ _ (by decide)
    · exact u.rr_bump_ne _ _ _ _ _ (by decide)
  have hlink : ((u.ostCommand gb out).setGl gb x).regs = (u.ostCommand gb out).regs := by cases gb <;> rfl
  rw [State.refreshGov_kept _ gb _ _ (by decide), State.rr_of_regs hlink, hcommand]

/-- The period of GOV-A applies the stray slot's toll. -/
theorem straySlot_period : (straySlot.period false).f F.CVN_SLOT_TOLL_TOLL straySlotNumber = 1 := by
  obtain ⟨u, x, hu, hperiod⟩ := straySlot.period_tolls false straySlot_floorMode (by decide)
  have hactive : u.activeB = false := by
    have hfield : u.f F.OST_STAT_ACTIVE = straySlot.f F.OST_STAT_ACTIVE := State.f_of_rr (g := F.OST_STAT_ACTIVE) hu.stat
    unfold State.activeB State.fb
    rw [hfield]
    decide
  rw [hperiod, if_pos hactive, State.f_of_rr (g := F.CVN_SLOT_TOLL_TOLL) (rr_strayToll_after_tolls _ _ _ _)]
  exact tolls_straySlot u _ hu.cvn

theorem not_controlPeriod : ¬ ControlPeriod := by
  intro h
  obtain ⟨-, hruns⟩ := h straySlot false
  obtain ⟨t, ht, -, -, -, -, -, -, -, -, hseq, -⟩ := hruns (by decide) (by decide)
  have hexec : execControlPeriod false straySlot = .next (straySlot.period false) := if_neg (by decide)
  obtain rfl : straySlot.period false = t := Host.Outcome.next.inj (hexec.symm.trans ht)
  have htoll : (straySlot.period false).f F.CVN_SLOT_TOLL_TOLL straySlotNumber = straySlot.f F.CVN_SLOT_TOLL_TOLL straySlotNumber :=
    State.f_of_rr hseq
  rw [straySlot_period] at htoll
  exact absurd htoll (by decide)

/-- Refutes O24: the statement asks of every state that a period leave GOV_SEQ as it is, and the active governor's period writes the tolls
that wait (R139) into CVN_SLOT_TOLL of every slot that the caravan controller lists. A slot of number 0xFFFFC0 (`straySlot`) would have its
CVN_SLOT_TOLL at the address of GOV-A's GOV_SEQ, which the period then changes. A package has slots 0 to 63 alone; the statement lacks
the premise that none past them is listed. -/
theorem not_controlPeriods : ¬ Obligations.ControlPeriods := not_controlPeriod

end Sys2Proof.Machine
end

section
/-! SUPPORT. What a step of one governor leaves, and what happens to a governor between its periods (O25). -/

namespace Sys2Proof.Machine

/-! ### Steps of one governor -/

/-- Nothing but registers of the list and the record of governor `gb` differs. -/
structure GovStep (gb : Bool) (l : List (Reg × Nat)) (s t : State) : Prop where
  kept : RegsKept l s t
  only : { t with regs := s.regs, gova := s.gova, govb := s.govb } = s
  other : t.gov (!gb) = s.gov (!gb)

namespace GovStep
variable {gb : Bool} {l m : List (Reg × Nat)} {s t u : State}

theorem refl (gb : Bool) (l : List (Reg × Nat)) (s : State) : GovStep gb l s s := ⟨.refl l s, rfl, rfl⟩

theorem trans (h1 : GovStep gb l s t) (h2 : GovStep gb l t u) : GovStep gb l s u where
  kept := h1.kept.trans h2.kept
  only := by rw [← h1.only, ← h2.only]
  other := h2.other.trans h1.other

theorem mono (h : GovStep gb l s t) (hlm : l ⊆ m) : GovStep gb m s t := ⟨h.kept.mono hlm, h.only, h.other⟩

/-- A register of the list written. -/
theorem wr (h : GovStep gb l s t) (r : Reg) (i v : Nat) (hm : (r, i) ∈ l) : GovStep gb l s (t.wr r i v) :=
  ⟨h.kept.wr r i v hm, h.only, h.other⟩

theorem bump (h : GovStep gb l s t) (r : Reg) (i n : Nat) (hm : (r, i) ∈ l) : GovStep gb l s (t.bump r i n) := h.wr r i _ hm

theorem sf (h : GovStep gb l s t) (g : Fld) (i v : Nat) (hm : (g.reg, i) ∈ l) : GovStep gb l s (t.sf g i v) := h.wr g.reg i _ hm

theorem setGov (h : GovStep gb l s t) (x : Gov) : GovStep gb l s (t.setGov gb x) where
  kept := h.kept.of_regs (by cases gb <;> rfl)
  only := by cases gb <;> exact h.only
  other := (t.gov_setGov_other gb x).trans h.other

end GovStep

@[simp] theorem State.setGov_regs (s : State) (gb : Bool) (x : Gov) : (s.setGov gb x).regs = s.regs := by cases gb <;> rfl
@[simp] theorem State.rr_setGov (s : State) (gb : Bool) (x : Gov) (r : Reg) (i : Nat) : (s.setGov gb x).rr r i = s.rr r i :=
  State.rr_of_regs (s.setGov_regs gb x) r i
@[simp] theorem State.f_setGov (s : State) (gb : Bool) (x : Gov) (g : Fld) (i : Nat) : (s.setGov gb x).f g i = s.f g i :=
  State.f_of_rr (s.rr_setGov gb x g.reg i)

/-- A governor's mode set reads as it was set. -/
theorem State.mode_setMode (s : State) (gb : Bool) (v : Nat) (h : v < 16) : (s.setMode gb v).mode gb = v :=
  (s.f_sf_same F.GOV_STATE_MODE (govIx gb) v (by decide) (by decide)).trans (Nat.mod_eq_of_lt h)

/-! ### The floor (R362) -/

theorem floorRecompute_gives (s : State) :
    Gives (exec .floorRecompute s) (fun t =>
      t.rr .PWW_FLOOR < 2 ^ 32 ∧ { t with regs := s.regs } = { s with free := s.free + 1 } ∧ RegsKept [(.PWW_FLOOR, 0)] s t) :=
  ⟨_, rfl, State.rr_lt _ _ _, rfl, (RegsKept.of_regs (.refl _ s) rfl : RegsKept _ s s.take).wr _ _ _ (by simp)⟩

/-! ### Gating (R345, R349) -/

/-- A bit of a number replaced: that bit, and the others. -/
theorem testBit_putBits (n q : Nat) (on : Bool) (j : Nat) :
    (putBits n q q (b2n on)).testBit j = if j = q then on else n.testBit j := by
  apply b2n_inj.mp
  rw [← bits_one]
  rcases Nat.lt_trichotomy j q with h | h | h
  · rw [bits_putBits_below _ _ _ _ _ _ h, bits_one, if_neg (by omega)]
  · rw [h, bits_putBits_same, if_pos rfl]
    cases on <;> simp [b2n]
  · rw [bits_putBits_above _ _ _ _ _ _ h (by omega), bits_one, if_neg (by omega)]

/-- The bits of the gated partitions in OST_OUT are those of its field. -/
theorem State.testBit_gated (s : State) (q : Fin 4) : (s.rr .OST_OUT).testBit q = (s.f F.OST_OUT_GATED).testBit q := by
  show _ = (s.rr .OST_OUT / 2 ^ 0 % 2 ^ 4).testBit q
  rw [Nat.pow_zero, Nat.div_one, Nat.testBit_mod_two_pow]
  simp [q.isLt]

/-- The state in which partition `q` shows as gated, or not, by the active governor and by OST. -/
def State.gateShown (s : State) (q : Nat) (on : Bool) : State :=
  let put (a : State) (fld : Fld) (i : Nat) : State := a.sf fld i (putBits (a.f fld i) q q (b2n on))
  put (put s F.GOV_ACT_GATED (govIx s.activeB)) F.OST_OUT_GATED 0

theorem execPartitionGateDone_eq (s : State) (p : Fin 4) (on : Bool) (h : (s.gov s.activeB).gating = some (p.val, on)) :
    execPartitionGateDone p s =
      .next ((s.gateShown p on).setGov s.activeB { s.gov s.activeB with gating := none }) := by
  unfold execPartitionGateDone
  dsimp only
  rw [h]
  exact if_pos rfl

theorem State.gateShown_step (s : State) (q : Nat) (on : Bool) :
    GovStep s.activeB [(.OST_OUT, 0), (.GOV_ACT, govIx s.activeB)] s (s.gateShown q on) :=
  ((GovStep.refl _ _ s).sf F.GOV_ACT_GATED _ _ (by simp)).sf F.OST_OUT_GATED _ _ (by simp)

/-- OST's field of gated partitions with one replaced, and the other outputs as they were. -/
theorem State.gateShown_out (s : State) (q : Nat) (on : Bool) :
    (s.gateShown q on).f F.OST_OUT_GATED = putBits (s.f F.OST_OUT_GATED) q q (b2n on) % 2 ^ 4 ∧
      ∀ g ∈ [F.OST_OUT_VCORE, F.OST_OUT_PACE, F.OST_OUT_SOAK], (s.gateShown q on).f g = s.f g := by
  let u := s.sf F.GOV_ACT_GATED (govIx s.activeB) (putBits (s.f F.GOV_ACT_GATED (govIx s.activeB)) q q (b2n on))
  have hact : ∀ b : Bool, Reg.OST_OUT.key 0 ≠ Reg.GOV_ACT.key (govIx b) := by decide
  have hu : u.rr .OST_OUT = s.rr .OST_OUT := State.rr_wr_ne s _ _ _ _ _ (hact _)
  refine ⟨?_, fun g hg => ?_⟩
  · have hfield : u.f F.OST_OUT_GATED = s.f F.OST_OUT_GATED := State.f_of_rr hu
    rw [← hfield]
    exact u.f_sf_same F.OST_OUT_GATED 0 _ (by decide) (by decide)
  · have hfield : g.reg = .OST_OUT ∧ 3 < g.lo := by
      have htable : ∀ g ∈ [F.OST_OUT_VCORE, F.OST_OUT_PACE, F.OST_OUT_SOAK], g.reg = .OST_OUT ∧ 3 < g.lo := by decide
      exact htable g hg
    exact (u.f_sf_above F.OST_OUT_GATED g 0 _ hfield.1 hfield.2 (by decide) (by decide)).trans (State.f_of_rr (hfield.1 ▸ hu))

theorem partitionGateDone_gives (s : State) (p : Fin 4) (on : Bool) (h : (s.gov s.activeB).gating = some (p.val, on)) :
    Gives (exec (.partitionGateDone p) s) (fun t =>
      (∀ q : Fin 4, (t.rr .OST_OUT).testBit q = if q = p then on else (s.rr .OST_OUT).testBit q) ∧
        t.f F.OST_OUT_VCORE = s.f F.OST_OUT_VCORE ∧ t.f F.OST_OUT_PACE = s.f F.OST_OUT_PACE ∧ t.f F.OST_OUT_SOAK = s.f F.OST_OUT_SOAK ∧
        t.gov s.activeB = { s.gov s.activeB with gating := none } ∧ t.gov (!s.activeB) = s.gov (!s.activeB) ∧
        { t with regs := s.regs, gova := s.gova, govb := s.govb } = s ∧ RegsKept [(.OST_OUT, 0), (.GOV_ACT, govIx s.activeB)] s t) := by
  have hstep := (s.gateShown_step p on).setGov { s.gov s.activeB with gating := none }
  obtain ⟨hgated, hothers⟩ := s.gateShown_out p on
  refine ⟨_, execPartitionGateDone_eq s p on h, fun q => ?_, ?_, ?_, ?_, State.gov_setGov_same _ _ _, hstep.other, hstep.only,
    hstep.kept⟩
  · rw [State.rr_setGov, State.testBit_gated, State.testBit_gated, hgated, Nat.testBit_mod_two_pow, testBit_putBits]
    simp [q.isLt, Fin.ext_iff]
  all_goals
    rw [State.f_setGov]
    exact hothers _ (by simp)

/-! ### Holds, GRID data and droops (R341, R348, R359) -/

theorem holdExpiry_gives (s : State) (gb : Bool) (hon : (s.gov gb).holdOn = true) (hfollow : (s.gov gb).follow = true) :
    Gives (exec (.holdExpiry gb) s) (fun t =>
      t.rr .GOV_HOLDEXP (govIx gb) = min (s.rr .GOV_HOLDEXP (govIx gb) + 1) 0xFFFFFFFF ∧
        t.gov gb = { s.gov gb with follow := false, holdAge := 0 } ∧ t.mode gb = (if s.mode gb = 1 then 0 else s.mode gb) ∧
        t.gov (!gb) = s.gov (!gb) ∧ { t with regs := s.regs, gova := s.gova, govb := s.govb } = s ∧
        RegsKept [(.GOV_HOLDEXP, govIx gb), (.GOV_STATE, govIx gb)] s t) := by
  let u := (s.bump .GOV_HOLDEXP (govIx gb)).setGov gb { s.gov gb with follow := false, holdAge := 0 }
  have hexec : execHoldExpiry gb s = .next (if u.mode gb = 1 then u.setMode gb 0 else u) := if_neg (by simp [hon, hfollow])
  have hu : GovStep gb [(.GOV_HOLDEXP, govIx gb), (.GOV_STATE, govIx gb)] s u :=
    ((GovStep.refl gb _ s).bump _ _ _ (by simp)).setGov _
  have hcount : u.rr .GOV_HOLDEXP (govIx gb) = min (s.rr .GOV_HOLDEXP (govIx gb) + 1) 0xFFFFFFFF :=
    (State.rr_setGov _ _ _ _ _).trans (State.rr_bump_same _ _ _ _)
  have hmode : u.mode gb = s.mode gb :=
    (State.f_setGov _ _ _ F.GOV_STATE_MODE _).trans (s.f_wr_ne .GOV_HOLDEXP F.GOV_STATE_MODE _ _ _ (by cases gb <;> decide))
  have hgov : u.gov gb = { s.gov gb with follow := false, holdAge := 0 } := State.gov_setGov_same _ _ _
  refine ⟨_, hexec, ?_⟩
  rw [hmode]
  split
  · have hset := hu.sf F.GOV_STATE_MODE (govIx gb) 0 (by simp)
    exact ⟨(u.rr_wr_ne _ _ _ _ _ (by cases gb <;> decide)).trans hcount, hgov, u.mode_setMode gb 0 (by decide), hset.other, hset.only,
      hset.kept⟩
  · exact ⟨hcount, hgov, hmode, hu.other, hu.only, hu.kept⟩

theorem holdExpiry_waits (s : State) (gb : Bool) (h : (s.gov gb).holdOn = false ∨ (s.gov gb).follow = false) :
    Gives (exec (.holdExpiry gb) s) (fun t => t = s) := by
  have hexec : execHoldExpiry gb s = .next s := if_pos (by simpa using h)
  exact ⟨s, hexec, rfl⟩

/-- A counter of governor `gb` raised, and its record replaced. -/
theorem bump_setGov_spec (s : State) (gb : Bool) (r : Reg) (x : Gov) :
    let t := (s.bump r (govIx gb)).setGov gb x
    t.rr r (govIx gb) = min (s.rr r (govIx gb) + 1) 0xFFFFFFFF ∧ t.gov gb = x ∧ t.gov (!gb) = s.gov (!gb) ∧
      { t with regs := s.regs, gova := s.gova, govb := s.govb } = s ∧ RegsKept [(r, govIx gb)] s t := by
  intro t
  have hstep : GovStep gb [(r, govIx gb)] s t := ((GovStep.refl gb _ s).bump r _ 1 (by simp)).setGov x
  exact ⟨(State.rr_setGov _ _ _ _ _).trans (State.rr_bump_same _ _ _ _), State.gov_setGov_same _ _ _, hstep.other, hstep.only,
    hstep.kept⟩

theorem frStale_gives (s : State) (gb : Bool) (hgrid : (s.gov gb).grid ≠ none) (hcounted : (s.gov gb).frStaleCounted = false) :
    Gives (exec (.frStale gb) s) (fun t =>
      t.rr .GOV_FRSTALE (govIx gb) = min (s.rr .GOV_FRSTALE (govIx gb) + 1) 0xFFFFFFFF ∧
        t.gov gb = { s.gov gb with frOffset := 0, frStaleCounted := true } ∧ t.gov (!gb) = s.gov (!gb) ∧
        { t with regs := s.regs, gova := s.gova, govb := s.govb } = s ∧ RegsKept [(.GOV_FRSTALE, govIx gb)] s t) := by
  have hexec : execFrStale gb s =
      .next ((s.bump .GOV_FRSTALE (govIx gb)).setGov gb { s.gov gb with frOffset := 0, frStaleCounted := true }) :=
    if_neg (by simp [hgrid, hcounted])
  exact ⟨_, hexec, bump_setGov_spec s gb .GOV_FRSTALE _⟩

theorem vcoreDroop_gives (s : State) (gb : Bool) :
    Gives (exec (.vcoreDroop gb) s) (fun t =>
      t.rr .GOV_DROOP (govIx gb) = min (s.rr .GOV_DROOP (govIx gb) + 1) 0xFFFFFFFF ∧ t.gov gb = { s.gov gb with droop := true } ∧
        t.gov (!gb) = s.gov (!gb) ∧ { t with regs := s.regs, gova := s.gova, govb := s.govb } = s ∧
        RegsKept [(.GOV_DROOP, govIx gb)] s t) := ⟨_, rfl, bump_setGov_spec s gb .GOV_DROOP _⟩

/-! ### Dips (R325, R364) -/

/-- The same event after registers alone have changed. -/
theorem RegsOnly.raise {s t : State} (h : RegsOnly s t) (line index : Nat) (st : Status) :
    RegsOnly (s.raise line index st) (t.raise line index st) := by
  unfold RegsOnly at h
  rw [← h]
  rfl

theorem supplyDip_gives (s : State) (gb : Bool) (hdip : s.mode gb ≠ 2) (hshut : s.mode gb ≠ 4) (hacc : s.metering.acc = none) :
    Gives (exec (.supplyDip gb) s) (fun t =>
      t.rr .GOV_DIPS (govIx gb) = min (s.rr .GOV_DIPS (govIx gb) + 1) 0xFFFFFFFF ∧ t.mode gb = 2 ∧
        { t with regs := s.regs } = { s with events := s.events ++ [⟨s.now, 16, 0, .degraded⟩] } ∧
        RegsKept [(.GOV_DIPS, govIx gb), (.GOV_STATE, govIx gb)] s t) := by
  let u := (s.bump .GOV_DIPS (govIx gb)).raise 16 0 .degraded
  let t := u.setMode gb 2
  have hexec : execSupplyDip gb s = .next (if t.activeB = gb then t.endAcc .timeout else t) := if_neg (by omega)
  rw [t.endAcc_none .timeout hacc, ite_self] at hexec
  have hraised : RegsKept [(.GOV_DIPS, govIx gb), (.GOV_STATE, govIx gb)] s u :=
    ((RegsKept.refl _ s).bump .GOV_DIPS _ 1 (by simp)).of_regs rfl
  have honly : RegsOnly (s.raise 16 0 .degraded) t :=
    (RegsOnly.raise (.bump s .GOV_DIPS (govIx gb) 1) 16 0 .degraded).trans (.sf u F.GOV_STATE_MODE (govIx gb) 2)
  refine ⟨t, hexec, ?_, u.mode_setMode gb 2 (by decide), honly, hraised.sf F.GOV_STATE_MODE _ _ (by simp)⟩
  exact (u.rr_wr_ne _ _ _ _ _ (by cases gb <;> decide)).trans (s.rr_bump_same _ _ _)

theorem State.safe?_iff (s : State) : s.safe? = true ↔ s.f F.FCL_STAT_SAFE = 1 := s.fb_iff _ _

theorem State.baseMode_eq (s : State) (gb : Bool) :
    s.baseMode gb = if (s.gov gb).follow = true ∧ s.f F.FCL_STAT_SAFE ≠ 1 then 1 else 0 := by
  simp [State.baseMode, ← s.safe?_iff]

theorem dipRecover_gives (s : State) (gb : Bool) (h : s.mode gb = 2) :
    Gives (exec (.dipRecover gb) s) (fun t =>
      t.mode gb = (if (s.gov gb).follow = true ∧ s.f F.FCL_STAT_SAFE ≠ 1 then 1 else 0) ∧ { t with regs := s.regs } = s ∧
        RegsKept [(.GOV_STATE, govIx gb)] s t) := by
  have hexec : execDipRecover gb s = .next (s.setMode gb (s.baseMode gb)) := congrArg _ (if_pos h)
  refine ⟨_, hexec, ?_, rfl, (RegsKept.refl _ s).sf F.GOV_STATE_MODE _ _ (by simp)⟩
  rw [← s.baseMode_eq, s.mode_setMode gb]
  rw [s.baseMode_eq]
  split <;> decide

theorem dipRecover_waits (s : State) (gb : Bool) (h : s.mode gb ≠ 2) : Gives (exec (.dipRecover gb) s) (fun t => t = s) :=
  have hexec : execDipRecover gb s = .next s := congrArg _ (if_neg h)
  ⟨s, hexec, rfl⟩

/-! ### Shutdowns by the supply (R364, R365) -/

/-- The registers that the end of an acceptance run writes. -/
def accRunRegs : List (Reg × Nat) :=
  [(.MTR_ACC_EA_LO, 0), (.MTR_ACC_EA_HI, 0), (.MTR_ACC_EB_LO, 0), (.MTR_ACC_EB_HI, 0), (.MTR_ACC_CTL, 0)] ++ journalRegs

/-- Nothing but registers, the meters and the journal differs. -/
def RunOnly (s t : State) : Prop := { t with regs := s.regs, metering := s.metering, journal := s.journal } = s

theorem RunOnly.trans {s t u : State} (h1 : RunOnly s t) (h2 : RunOnly t u) : RunOnly s u := by
  unfold RunOnly at *
  rw [← h1, ← h2]

theorem JournalOnly.runOnly {s t : State} (h : JournalOnly s t) : RunOnly s t := by
  unfold JournalOnly at h
  unfold RunOnly
  rw [← h]

theorem JournalOnly.metering_eq {s t : State} (h : JournalOnly s t) : t.metering = s.metering := (congrArg State.metering h :)

/-- An acceptance run that ends: nothing but its registers, the meters' record of it and the journal differs. -/
structure RunEnded (s t : State) : Prop where
  kept : RegsKept accRunRegs s t
  only : RunOnly s t
  ended : t.metering.acc = none

/-- The state in which no run goes on. -/
def State.noRun (s : State) : State := { s with metering := { s.metering with acc := none } }

/-- The result of a run in its registers. -/
def State.runResult (s : State) (ea eb : Nat) (st : Status) : State :=
  (((s.setPair .MTR_ACC_EA_LO .MTR_ACC_EA_HI 0 ea).setPair .MTR_ACC_EB_LO .MTR_ACC_EB_HI 0 eb).sf F.MTR_ACC_CTL_START 0 0).sf
    F.MTR_ACC_CTL_STATUS 0 st.code

theorem State.runResult_kept (s : State) (ea eb : Nat) (st : Status) : RegsKept accRunRegs s (s.runResult ea eb st) :=
  ((((RegsKept.refl _ s).setPair _ _ _ _ (by decide) (by decide)).setPair _ _ _ _ (by decide) (by decide)).sf F.MTR_ACC_CTL_START _ _
    (by decide)).sf F.MTR_ACC_CTL_STATUS _ _ (by decide)

theorem State.runResult_only (s : State) (ea eb : Nat) (st : Status) : RegsOnly s (s.runResult ea eb st) :=
  (((RegsOnly.setPair _ _ _ _ _).trans (.setPair _ _ _ _ _)).trans (.sf _ _ _ _)).trans (.sf _ _ _ _)

/-- A run that goes on ends with its result in the registers and in the journal (R325). -/
theorem State.endAcc_run (s : State) (st : Status) {r : AccRun} (h : s.metering.acc = some r) :
    ∃ ea eb e, s.endAcc st = (s.noRun.runResult ea eb st).log e := by
  unfold State.endAcc
  rw [h]
  dsimp only
  exact ⟨_, _, _, rfl⟩

theorem State.endAcc_ended (s : State) (st : Status) : RunEnded s (s.endAcc st) := by
  cases hacc : s.metering.acc with
  | none =>
    rw [s.endAcc_none st hacc]
    exact ⟨.refl _ s, rfl, hacc⟩
  | some r =>
    obtain ⟨ea, eb, e, he⟩ := s.endAcc_run st hacc
    have hkept := s.noRun.runResult_kept ea eb st
    have honly := (s.noRun.runResult_only ea eb st).journalOnly.trans (State.log_only _ e)
    rw [he]
    refine ⟨?_, RunOnly.trans (t := s.noRun) rfl honly.runOnly, ?_⟩
    · exact ((RegsKept.of_regs (.refl _ s) rfl).trans hkept).trans ((State.log_kept _ e).mono (List.subset_append_right _ _))
    · rw [honly.metering_eq]
      rfl

/-- The pulse, the save and the entry of a shutdown leave the meters' record of a run. -/
theorem State.pulseEntered_acc (s : State) (cause : Nat) : (s.pulse.saveEntered cause).metering.acc = s.metering.acc := by
  have hentered (u : State) : (u.saveEntered cause).metering.acc = u.saveElife.metering.acc :=
    congrArg Metering.acc (State.logCause_only u.saveElife 0x0060 cause .ok).metering_eq
  have hsaved (u : State) : u.saveElife.metering.acc = u.metering.acc := rfl
  rw [hentered, hsaved, s.pulse_only.metering_eq]

theorem State.pulseEntered_kept (s : State) (cause : Nat) :
    RegsKept ([(.FCL_FAULTN, 0), (.FCL_PULSES, 0)] ++ journalRegs) s (s.pulse.saveEntered cause) :=
  (s.pulse_kept.mono (List.subset_append_left _ _)).trans ((s.pulse.saveEntered_kept cause).mono (List.subset_append_right _ _))

/-- The modes of the governors and SHUTDOWN stand through what a shutdown writes, which ends a run. -/
theorem State.shutWritten_shows (s : State) (cause : Nat) :
    (s.shutWritten cause).f F.OST_STAT_SHUTDOWN = 1 ∧ (s.shutWritten cause).mode false = 4 ∧ (s.shutWritten cause).mode true = 4 ∧
      (s.shutWritten cause).metering.acc = none := by
  obtain ⟨hshut, hmodeA, hmodeB⟩ := s.shutLatched_shows
  unfold State.shutWritten
  generalize s.shutLatched = u at *
  have hended := u.endAcc_ended .timeout
  generalize u.endAcc .timeout = v at *
  have hentered := v.pulseEntered_kept cause
  refine ⟨?_, ?_, ?_, (v.pulseEntered_acc cause).trans hended.ended⟩
  · rw [hentered.f_eq (by decide), hended.kept.f_eq (by decide), hshut]
  · exact (hentered.f_eq (by decide)).trans ((hended.kept.f_eq (by decide)).trans hmodeA)
  · exact (hentered.f_eq (by decide)).trans ((hended.kept.f_eq (by decide)).trans hmodeB)

/-- What the shutdown of a package leaves, whatever it was doing (R365). -/
theorem State.orderedShutdown_shows (s : State) (cause : Nat) (h : MayShut s) :
    let t := s.orderedShutdown cause
    t.f F.OST_STAT_SHUTDOWN = 1 ∧ t.mode false = 4 ∧ t.mode true = 4 ∧ t.boot.vaux = false ∧ t.boot.rails = false ∧
      t.boot.running = false ∧ t.tiles = [] ∧ t.cores = [] ∧ t.mem = {} ∧ t.metering.acc = none := by
  intro t
  have hoff : PoweredOff (s.shutWritten cause) t := s.orderedShutdown_off cause h
  obtain ⟨hshut, hmodeA, hmodeB, hacc⟩ := s.shutWritten_shows cause
  obtain ⟨hmem, htiles, hcores, -⟩ := hoff.lost
  have hfield (g : Fld) (i : Nat) (hg : 0x800000 ≤ g.reg.key i) : t.f g i = (s.shutWritten cause).f g i :=
    State.f_of_rr (hoff.kept g.reg i hg)
  exact ⟨(hfield _ _ (by decide)).trans hshut, (hfield F.GOV_STATE_MODE _ (by decide)).trans hmodeA,
    (hfield F.GOV_STATE_MODE _ (by decide)).trans hmodeB, (congrArg Boot.vaux hoff.boot :), (congrArg Boot.rails hoff.boot :),
    (congrArg Boot.running hoff.boot :), htiles, hcores, hmem, hoff.flash.2.1 ▸ hacc⟩

/-- A supply outside its limits at the active governor shuts the package down (R364). -/
theorem supplyShutdown_shuts (s : State) (gb : Bool) (cause : Nat) (ha : s.activeB = gb) (h : MayShut s) :
    Gives (.next (s.supplyShutdown gb cause)) (fun t =>
      t.f F.OST_STAT_SHUTDOWN = 1 ∧ t.mode false = 4 ∧ t.mode true = 4 ∧ t.boot.vaux = false ∧ t.boot.rails = false ∧
        t.boot.running = false ∧ t.tiles = [] ∧ t.cores = [] ∧ t.mem = {} ∧ t.metering.acc = none) :=
  ⟨_, congrArg _ (if_pos (.inl ha)), s.orderedShutdown_shows cause h⟩

/-- At the standby it sets that one's mode alone (R364). -/
theorem supplyShutdown_standby (s : State) (gb : Bool) (cause : Nat) (ha : s.activeB ≠ gb) (hr : s.f F.IDT_BOOT_READY = 1) :
    Gives (.next (s.supplyShutdown gb cause)) (fun t =>
      t.mode gb = 4 ∧ { t with regs := s.regs } = s ∧ RegsKept [(.GOV_STATE, govIx gb)] s t) :=
  ⟨s.setMode gb 4, congrArg _ (if_neg (by simp [ha, (s.fb_iff _ _).mpr hr])), s.mode_setMode gb 4 (by decide),
    RegsOnly.sf s F.GOV_STATE_MODE (govIx gb) 4, (RegsKept.refl _ s).sf F.GOV_STATE_MODE _ _ (by simp)⟩

theorem governorEvents : GovernorEvents := by
  intro s gb
  refine ⟨floorRecompute_gives s, partitionGateDone_gives s, holdExpiry_gives s gb, holdExpiry_waits s gb, frStale_gives s gb,
    vcoreDroop_gives s gb, ⟨_, rfl, rfl⟩, supplyDip_gives s gb, dipRecover_gives s gb, dipRecover_waits s gb, fun c hc => ?_⟩
  have hcause : ∃ cause, exec c s = .next (s.supplyShutdown gb cause) := by
    rcases List.mem_pair.mp hc with rfl | rfl
    · exact ⟨0, rfl⟩
    · exact ⟨1, rfl⟩
  obtain ⟨cause, hexec⟩ := hcause
  rw [hexec]
  exact ⟨fun ha hs ht hv => supplyShutdown_shuts s gb cause ha ⟨hs, ht, hv⟩, supplyShutdown_standby s gb cause⟩

end Sys2Proof.Machine
end

section
/-! SUPPORT. The messages of the management link at one governor (O25): what a refused and an accepted message leave. -/

namespace Sys2Proof.Machine

/-! ### Big-endian fields (R8) -/

theorem beNat_lt (bs : List Byte) : beNat bs < 256 ^ bs.length := by
  have hfold (a : Nat) : bs.foldl (fun a b => a * 256 + b.toNat) a < (a + 1) * 256 ^ bs.length := by
    induction bs generalizing a with
    | nil => simp
    | cons b bs ih =>
      have hb : b.toNat < 256 := b.isLt
      calc (b :: bs).foldl (fun a b => a * 256 + b.toNat) a < (a * 256 + b.toNat + 1) * 256 ^ bs.length := ih _
        _ ≤ (a + 1) * 256 * 256 ^ bs.length := Nat.mul_le_mul_right _ (by omega)
        _ = (a + 1) * 256 ^ (b :: bs).length := by rw [List.length_cons, Nat.pow_succ', Nat.mul_assoc]
  simpa [beNat] using hfold 0

/-- A field has no more bits than its bytes. -/
theorem beAt_lt (m : List Byte) (o n : Nat) : beAt m o n < 256 ^ n :=
  have hlen : (slice m o n).length ≤ n := by simp [slice]
  lt_of_lt_of_le (beNat_lt _) (Nat.pow_le_pow_right (by decide) hlen)

/-! ### What an accepted message does to a governor -/

/-- The registers that a message writes of the governor that takes it. -/
def govMessageRegs (i : Nat) : List (Reg × Nat) :=
  [(.GOV_SEQ, i), (.GOV_ALIVE, i), (.GOV_STATE, i), (.GOV_FRSTALE, i), (.GOV_STALE, i), (.GOV_REFUSED, i)]

/-- The registers that a COOLANT message writes. -/
def coolantRegs : List (Reg × Nat) := [(.THM_INLET, 0), (.THM_FLOW, 0), (.THM_DP, 0), (.THM_CSTALE, 0), (.THM_EVENT, 0)]

section
variable (s : State) (gb : Bool) (m : List Byte)

theorem State.acceptSeq_step : GovStep gb [(.GOV_SEQ, govIx gb), (.GOV_ALIVE, govIx gb)] s (s.acceptSeq gb m) := by
  have hrecord (x : Gov) : GovStep gb [(.GOV_SEQ, govIx gb), (.GOV_ALIVE, govIx gb)] s ((s.wr .GOV_SEQ (govIx gb) (msgSeq m)).setGov gb x) :=
    ((GovStep.refl gb _ s).wr .GOV_SEQ _ _ (by simp)).setGov x
  unfold State.acceptSeq
  dsimp only
  split
  · exact (hrecord _).sf F.GOV_ALIVE_ALIVE _ _ (by simp)
  · exact hrecord _

theorem State.acceptSeq_seq : (s.acceptSeq gb m).rr .GOV_SEQ (govIx gb) = msgSeq m := by
  have hrecord (x : Gov) : ((s.wr .GOV_SEQ (govIx gb) (msgSeq m)).setGov gb x).rr .GOV_SEQ (govIx gb) = msgSeq m := by
    rw [State.rr_setGov, State.rr_wr_same]
    exact Nat.mod_eq_of_lt (beAt_lt m 4 4)
  unfold State.acceptSeq
  dsimp only
  split
  · rw [State.sf, State.rr_wr_ne _ _ _ _ _ _ (by cases gb <;> decide)]
    exact hrecord _
  · exact hrecord _

theorem State.acceptSeq_gov :
    ∃ on age, (s.acceptSeq gb m).gov gb = { s.gov gb with accepted := true, holdOn := on, holdAge := age } := by
  unfold State.acceptSeq
  dsimp only
  split
  · exact ⟨_, _, State.gov_setGov_same _ _ _⟩
  · exact ⟨_, _, State.gov_setGov_same _ _ _⟩

/-- A governor that follows the trajectory of a BUDGET (R339, R344, R355). -/
def Gov.budgeted (g : Gov) (now : Nat) (m : List Byte) : Gov :=
  { g with
    points := budgetPoints m, effT := nextPeriod now, effP := g.tPrev, bflags := BitVec.ofNat 8 (beAt m 25 1)
    fixv := beAt m 26 1, slewUp := beAt m 28 2, slewDn := beAt m 30 2
    fixSeek := bit (beAt m 25 1) 0, follow := true, holdAge := if g.follow then g.holdAge else 0 }

/-- The state in which governor `gb` follows a BUDGET, its mode still as it was. -/
def State.budgeted (s : State) (gb : Bool) (m : List Byte) : State :=
  (s.setGov gb ((s.gov gb).budgeted s.now m)).sf F.GOV_STATE_FIXED (govIx gb) 0

theorem State.acceptBudget_eq :
    s.acceptBudget gb m =
      if beAt m 24 1 = 0 then s
      else if (s.budgeted gb m).mode gb = 0 then (s.budgeted gb m).setMode gb ((s.budgeted gb m).baseMode gb) else s.budgeted gb m := rfl

theorem State.budgeted_step : GovStep gb [(.GOV_STATE, govIx gb)] s (s.budgeted gb m) :=
  ((GovStep.refl gb _ s).setGov _).sf F.GOV_STATE_FIXED _ _ (by simp)

theorem State.acceptBudget_step : GovStep gb [(.GOV_STATE, govIx gb)] s (s.acceptBudget gb m) := by
  rw [State.acceptBudget_eq]
  split
  · exact .refl _ _ _
  · split
    · exact (s.budgeted_step gb m).sf F.GOV_STATE_MODE _ _ (by simp)
    · exact s.budgeted_step gb m

theorem State.acceptBudget_gov :
    (s.acceptBudget gb m).gov gb = if beAt m 24 1 = 0 then s.gov gb else (s.gov gb).budgeted s.now m := by
  have hgov : (s.budgeted gb m).gov gb = (s.gov gb).budgeted s.now m := State.gov_setGov_same _ _ _
  rw [State.acceptBudget_eq]
  split
  · rfl
  · split
    · exact hgov
    · exact hgov

theorem State.acceptGrid_step : GovStep gb [(.GOV_FRSTALE, govIx gb)] s (s.acceptGrid gb m) := by
  have hrecord (x : Gov) : GovStep gb [(.GOV_FRSTALE, govIx gb)] s (s.setGov gb x) := (GovStep.refl gb _ s).setGov x
  unfold State.acceptGrid
  dsimp only
  split
  · exact hrecord _
  · exact ((hrecord _).bump _ _ _ (by simp)).setGov _

/-- A GRID message's frequency and the time of its measurement, with an offset or counted as stale (R358, R359). -/
theorem State.acceptGrid_gov :
    ∃ off stale, (s.acceptGrid gb m).gov gb =
      { s.gov gb with grid := some (beAt m 24 4, beAt m 28 8), frOffset := off, frStaleCounted := stale } := by
  unfold State.acceptGrid
  dsimp only
  split
  · exact ⟨_, _, State.gov_setGov_same _ _ _⟩
  · refine ⟨0, true, ?_⟩
    rw [State.gov_setGov_same, State.gov_setGov_same]

end

/-! ### COOLANT in force (R550 to R552) -/

/-- Nothing but the registers of COOLANT and what THM holds differs. -/
structure CoolantStep (s t : State) : Prop where
  kept : RegsKept coolantRegs s t
  only : { t with regs := s.regs, thm := s.thm } = s

namespace CoolantStep
variable {s t : State}

theorem refl (s : State) : CoolantStep s s := ⟨.refl _ s, rfl⟩
theorem wr (h : CoolantStep s t) (r : Reg) (i v : Nat) (hm : (r, i) ∈ coolantRegs) : CoolantStep s (t.wr r i v) :=
  ⟨h.kept.wr r i v hm, h.only⟩
theorem setThm (h : CoolantStep s t) (x : Thm) : CoolantStep s { t with thm := x } := ⟨h.kept.of_regs rfl, h.only⟩

theorem expired (h : CoolantStep s t) : CoolantStep s t.coolantExpired :=
  ((((h.wr .THM_INLET 0 0 (by decide)).wr .THM_FLOW 0 0 (by decide)).wr .THM_DP 0 0 (by decide)).wr .THM_CSTALE 0 _ (by decide)).setThm _

end CoolantStep

/-- The values of a COOLANT message stand in THM. -/
def CoolantShown (m : List Byte) (t : State) : Prop :=
  t.rr .THM_INLET = beAt m 24 4 ∧ t.rr .THM_FLOW = beAt m 28 4 ∧ t.rr .THM_DP = beAt m 32 4 ∧
    t.thm.coolant = some ⟨BitVec.ofNat 8 (beAt m 36 1), beAt m 40 8⟩

theorem CoolantShown.kept {m : List Byte} {t u : State} (h : CoolantShown m t)
    (hregs : ∀ r ∈ [Reg.THM_INLET, .THM_FLOW, .THM_DP], u.rr r = t.rr r) (hthm : u.thm.coolant = t.thm.coolant) : CoolantShown m u := by
  unfold CoolantShown
  rw [hregs _ (by simp), hregs _ (by simp), hregs _ (by simp), hthm]
  exact h

section
variable (s : State) (m : List Byte)

/-- The state with the values of a COOLANT message in force, but for the no-flow timer. -/
def State.coolantValues (s : State) (m : List Byte) : State :=
  let s1 := ((s.wr .THM_INLET 0 (beAt m 24 4)).wr .THM_FLOW 0 (beAt m 28 4)).wr .THM_DP 0 (beAt m 32 4)
  { s1 with thm := { s1.thm with coolant := some ⟨BitVec.ofNat 8 (beAt m 36 1), beAt m 40 8⟩ } }

/-- The no-flow timer starts, with its event (R552). -/
def State.noflowStarted (s : State) : State :=
  let s1 := s.wr .THM_EVENT 0 (Nat.lor (s.rr .THM_EVENT) 2)
  { s1 with thm := { s1.thm with noflow := true } }

/-- The no-flow timer stops (R552). -/
def State.noflowStopped (s : State) : State := { s with thm := { s.thm with noflow := false } }

theorem State.acceptCoolant_eq :
    s.acceptCoolant m =
      if beAt m 40 8 + s.f F.THM_CFG_CAGE * 100000000 < s.now then (s.coolantValues m).coolantExpired
      else if beAt m 36 1 % 4 ≠ 0 then (s.coolantValues m).noflowStarted
      else if 3000 ≤ beAt m 28 4 then (s.coolantValues m).noflowStopped else s.coolantValues m := rfl

theorem State.coolantValues_step : CoolantStep s (s.coolantValues m) :=
  ((((CoolantStep.refl s).wr .THM_INLET 0 _ (by decide)).wr .THM_FLOW 0 _ (by decide)).wr .THM_DP 0 _ (by decide)).setThm _

theorem State.coolantValues_shown : CoolantShown m (s.coolantValues m) := by
  have hbound (o : Nat) : beAt m o 4 % 2 ^ 32 = beAt m o 4 := Nat.mod_eq_of_lt (beAt_lt m o 4)
  let u := s.wr .THM_INLET 0 (beAt m 24 4)
  let v := u.wr .THM_FLOW 0 (beAt m 28 4)
  have hinlet : v.rr .THM_INLET = beAt m 24 4 := by
    rw [State.rr_wr_ne _ _ _ _ _ _ (by decide), State.rr_wr_same, hbound]
  have hflow : v.rr .THM_FLOW = beAt m 28 4 := (State.rr_wr_same _ _ _ _).trans (hbound 28)
  exact ⟨(v.rr_wr_ne .THM_DP _ 0 0 _ (by decide)).trans hinlet, (v.rr_wr_ne .THM_DP _ 0 0 _ (by decide)).trans hflow,
    (v.rr_wr_same .THM_DP 0 _).trans (hbound 32), rfl⟩

theorem State.acceptCoolant_step : CoolantStep s (s.acceptCoolant m) := by
  have hvalues := s.coolantValues_step m
  rw [s.acceptCoolant_eq]
  generalize s.coolantValues m = u at *
  split
  · exact hvalues.expired
  · split
    · exact (hvalues.wr .THM_EVENT 0 _ (by decide)).setThm _
    · split
      · exact hvalues.setThm _
      · exact hvalues

/-- Values within their age limit are in force (R550). -/
theorem State.acceptCoolant_shown (h : s.now ≤ beAt m 40 8 + s.f F.THM_CFG_CAGE * 100000000) : CoolantShown m (s.acceptCoolant m) := by
  have hvalues := s.coolantValues_shown m
  rw [s.acceptCoolant_eq, if_neg (Nat.not_lt.mpr h)]
  generalize s.coolantValues m = u at *
  split
  · have hregs : ∀ r ∈ [Reg.THM_INLET, .THM_FLOW, .THM_DP], r.key 0 ≠ Reg.THM_EVENT.key 0 := by decide
    exact hvalues.kept (fun r hr => u.rr_wr_ne _ _ _ _ _ (hregs r hr)) rfl
  · split
    · exact hvalues.kept (fun _ _ => rfl) rfl
    · exact hvalues

end

/-! ### Answers (R333, R334, R339) -/

/-- Nothing but what has been sent, OST's records, the meters and the journal differs, and registers: one datagram more has been sent. -/
structure AnswerStep (s t : State) : Prop where
  kept : RegsKept accRunRegs s t
  only : { t with regs := s.regs, out := s.out, ost := s.ost, metering := s.metering, journal := s.journal } = s
  sent : t.out.length = s.out.length + 1

namespace AnswerStep
variable {s t u : State}

theorem send (s : State) (o : Out) : AnswerStep s (s.send o) := ⟨.of_regs (.refl _ s) rfl, rfl, rfl⟩
theorem setOst (h : AnswerStep s t) (x : Ost) : AnswerStep s { t with ost := x } := ⟨h.kept.of_regs rfl, h.only, h.sent⟩

theorem runEnded (h : AnswerStep s t) (hu : RunEnded t u) : AnswerStep s u where
  kept := h.kept.trans hu.kept
  only := by
    have honly := hu.only
    unfold RunOnly at honly
    rw [← h.only, ← honly]
  sent := by
    have hout : u.out = t.out := (congrArg State.out hu.only :)
    rw [hout, h.sent]

theorem gov (h : AnswerStep s t) (gb : Bool) : t.gov gb = s.gov gb := (congrArg (fun x : State => x.gov gb) h.only :)
theorem thm (h : AnswerStep s t) : t.thm = s.thm := (congrArg State.thm h.only :)

end AnswerStep

/-- The answer to an accepted message, when the governor is the active one: its ACK, and of a BUDGET the peer and key of the REPORTs to
come; one with points ends an acceptance run (R325). -/
def State.answered (s : State) (act gb : Bool) (peer : Nat) (m : List Byte) (st : Status) (effT es : Nat) : State :=
  let s1 := if act then s.ack gb peer m st effT es else s
  let s2 := if act && msgType m == 1 then { s1 with ost := { s1.ost with rep := s1.budgetSession.map fun x => (peer, x.key) } } else s1
  if act && msgType m == 1 && beAt m 24 1 != 0 then s2.endAcc .timeout else s2

theorem State.answered_standby (s : State) (gb : Bool) (peer : Nat) (m : List Byte) (st : Status) (effT es : Nat) :
    s.answered false gb peer m st effT es = s := rfl

theorem State.answered_step (s : State) (gb : Bool) (peer : Nat) (m : List Byte) (st : Status) (effT es : Nat) :
    AnswerStep s (s.answered true gb peer m st effT es) := by
  have hack : AnswerStep s (if true then s.ack gb peer m st effT es else s) := .send s _
  unfold State.answered
  generalize (if true then s.ack gb peer m st effT es else s) = u at *
  dsimp only
  have hreport : AnswerStep s
      (if true && msgType m == 1 then { u with ost := { u.ost with rep := u.budgetSession.map fun x => (peer, x.key) } } else u) := by
    split
    · exact hack.setOst _
    · exact hack
  split
  · exact hreport.runEnded (State.endAcc_ended _ _)
  · exact hreport

/-! ### A message at one governor (R338 to R341) -/

/-- What an accepted message changes before it is answered: SEQ and the hold, and what its TYPE says (R339 to R341, R358, R550). -/
def State.taken (s : State) (gb : Bool) (m : List Byte) : State :=
  match msgType m with
  | 1 => (s.acceptSeq gb m).acceptBudget gb m
  | 2 => (s.acceptSeq gb m).acceptGrid gb m
  | _ => if s.activeB == gb then (s.acceptSeq gb m).acceptCoolant m else s.acceptSeq gb m

theorem State.taken_eq (s : State) (gb : Bool) (m : List Byte) :
    s.taken gb m =
      if msgType m = 1 then (s.acceptSeq gb m).acceptBudget gb m
      else if msgType m = 2 then (s.acceptSeq gb m).acceptGrid gb m
      else if s.activeB = gb then (s.acceptSeq gb m).acceptCoolant m else s.acceptSeq gb m := by
  unfold State.taken
  split
  · next h => rw [if_pos h]
  · next h => rw [if_neg (by omega), if_pos h]
  · next h1 h2 => rw [if_neg h1, if_neg h2]; simp only [beq_iff_eq]

/-- A refused message counted, as stale or as refused, with its status. -/
def State.refusalCounted (s : State) (gb : Bool) (st : Status) : State :=
  (if st = .stale then s.bump .GOV_STALE (govIx gb) else s.bump .GOV_REFUSED (govIx gb)).sf F.GOV_STATE_LAST (govIx gb) st.code

section
variable (s : State) (gb : Bool) (peer : Nat) (m : List Byte) (hr : s.receives gb = true)
include hr

theorem State.govMessage_badCrc (hc : msgCrcOk m = false) : s.govMessage gb peer m = s.bump .GOV_CRC (govIx gb) := by
  unfold State.govMessage
  simp only [hr, hc, Bool.not_true, Bool.not_false, Bool.false_eq_true, if_false, if_true]

theorem State.govMessage_refused (hc : msgCrcOk m = true) (hst : s.msgStatus gb peer m ≠ .ok) :
    s.govMessage gb peer m =
      if s.activeB = gb then (s.refusalCounted gb (s.msgStatus gb peer m)).ack gb peer m (s.msgStatus gb peer m) 0 0
      else s.refusalCounted gb (s.msgStatus gb peer m) := by
  unfold State.govMessage
  simp only [hr, hc, Bool.not_true, Bool.false_eq_true, if_false, beq_iff_eq]
  cases hs : s.msgStatus gb peer m with
  | ok => exact absurd hs hst
  | _ => rfl

theorem State.govMessage_accepted (hc : msgCrcOk m = true) (hst : s.msgStatus gb peer m = .ok) :
    ∃ (a : Status) (es : Nat), s.govMessage gb peer m =
      ((s.taken gb m).sf F.GOV_STATE_LAST (govIx gb) a.code).answered (s.activeB == gb) gb peer m a (nextPeriod s.now) es := by
  unfold State.govMessage
  rw [if_neg (by simp [hr]), if_neg (by simp [hc])]
  generalize s.msgStatus gb peer m = st at hst ⊢
  subst hst
  exact ⟨_, _, rfl⟩

end

/-! ### What a message changes (R338) -/

/-- Nothing but registers of the list, the record of governor `gb` and what THM holds differs. -/
structure TakenStep (gb : Bool) (l : List (Reg × Nat)) (s t : State) : Prop where
  kept : RegsKept l s t
  only : { t with regs := s.regs, gova := s.gova, govb := s.govb, thm := s.thm } = s
  other : t.gov (!gb) = s.gov (!gb)

theorem GovStep.taken {gb : Bool} {l : List (Reg × Nat)} {s t : State} (h : GovStep gb l s t) : TakenStep gb l s t :=
  ⟨h.kept, (congrArg (fun x : State => { x with thm := s.thm }) h.only :), h.other⟩

theorem CoolantStep.taken {s t : State} (h : CoolantStep s t) (gb : Bool) : TakenStep gb coolantRegs s t :=
  ⟨h.kept, (congrArg (fun x : State => { x with gova := s.gova, govb := s.govb }) h.only :),
    (congrArg (fun x : State => x.gov (!gb)) h.only :)⟩

theorem GovStep.now {gb : Bool} {l : List (Reg × Nat)} {s t : State} (h : GovStep gb l s t) : t.now = s.now :=
  (congrArg State.now h.only :)

theorem CoolantStep.gov {s t : State} (h : CoolantStep s t) (gb : Bool) : t.gov gb = s.gov gb :=
  (congrArg (fun x : State => x.gov gb) h.only :)

theorem TakenStep.trans {gb : Bool} {l : List (Reg × Nat)} {s t u : State} (h1 : TakenStep gb l s t) (h2 : TakenStep gb l t u) :
    TakenStep gb l s u where
  kept := h1.kept.trans h2.kept
  only := by rw [← h1.only, ← h2.only]
  other := h2.other.trans h1.other

theorem TakenStep.mono {gb : Bool} {l l' : List (Reg × Nat)} {s t : State} (h : TakenStep gb l s t) (hl : l ⊆ l') : TakenStep gb l' s t :=
  ⟨h.kept.mono hl, h.only, h.other⟩

/-- The registers that a message's own content writes, past its sequence number. -/
def contentRegs (i : Nat) : List (Reg × Nat) := [(.GOV_STATE, i), (.GOV_FRSTALE, i)] ++ coolantRegs

/-- All that a message at a governor writes. -/
def messageRegs (i : Nat) : List (Reg × Nat) := govMessageRegs i ++ coolantRegs ++ accRunRegs

theorem contentRegs_subset (i : Nat) : contentRegs i ⊆ messageRegs i := by
  intro p hp
  simp only [contentRegs, messageRegs, govMessageRegs, List.mem_append, List.mem_cons, List.not_mem_nil, or_false] at hp ⊢
  tauto

section
variable (s : State) (gb : Bool) (m : List Byte)

/-- What follows the sequence number, by the TYPE. -/
theorem State.taken_content : TakenStep gb (contentRegs (govIx gb)) (s.acceptSeq gb m) (s.taken gb m) := by
  rw [s.taken_eq]
  split
  · exact (State.acceptBudget_step _ gb m).taken.mono (by simp [contentRegs])
  · split
    · exact (State.acceptGrid_step _ gb m).taken.mono (by simp [contentRegs])
    · split
      · exact ((State.acceptCoolant_step _ m).taken gb).mono (List.subset_append_right _ _)
      · exact (GovStep.refl gb _ _).taken

/-- At the standby a COOLANT message changes nothing past its sequence number. -/
theorem State.taken_standby (ha : s.activeB ≠ gb) : GovStep gb (govMessageRegs (govIx gb)) s (s.taken gb m) := by
  have hseq : GovStep gb (govMessageRegs (govIx gb)) s (s.acceptSeq gb m) := (s.acceptSeq_step gb m).mono (by simp [govMessageRegs])
  rw [s.taken_eq]
  split
  · exact hseq.trans ((State.acceptBudget_step _ gb m).mono (by simp [govMessageRegs]))
  · split
    · exact hseq.trans ((State.acceptGrid_step _ gb m).mono (by simp [govMessageRegs]))
    · exact hseq

theorem State.taken_step : TakenStep gb (messageRegs (govIx gb)) s (s.taken gb m) :=
  ((s.acceptSeq_step gb m).taken.mono (by simp [messageRegs, govMessageRegs])).trans
    ((s.taken_content gb m).mono (contentRegs_subset _))

/-- What a governor keeps of an accepted message (R339, R340, R344, R358): `g` is its record before, `x` the one after. -/
structure Heeded (now : Nat) (m : List Byte) (g x : Gov) : Prop where
  accepted : x.accepted = true
  target : x.tPrev = g.tPrev
  budget : msgType m = 1 → beAt m 24 1 ≠ 0 →
    x.points = budgetPoints m ∧ x.effT = nextPeriod now ∧ x.effP = g.tPrev ∧ x.fixv = beAt m 26 1 ∧ x.slewUp = beAt m 28 2 ∧
      x.slewDn = beAt m 30 2 ∧ x.follow = true
  noPoints : msgType m = 1 → beAt m 24 1 = 0 → x.points = g.points
  grid : msgType m = 2 → x.grid = some (beAt m 24 4, beAt m 28 8)

theorem State.taken_heeded : Heeded s.now m (s.gov gb) ((s.taken gb m).gov gb) := by
  obtain ⟨on, age, hseq⟩ := s.acceptSeq_gov gb m
  have hnow := (s.acceptSeq_step gb m).now
  rw [s.taken_eq]
  split
  · next h1 =>
    rw [State.acceptBudget_gov, hseq, hnow]
    split
    · next h0 => exact ⟨rfl, rfl, fun _ h => absurd h0 h, fun _ _ => rfl, fun h => absurd (h1.symm.trans h) (by decide)⟩
    · next h0 =>
      exact ⟨rfl, rfl, fun _ _ => ⟨rfl, rfl, rfl, rfl, rfl, rfl, rfl⟩, fun _ h => absurd h h0,
        fun h => absurd (h1.symm.trans h) (by decide)⟩
  · next h1 =>
    split
    · obtain ⟨off, stale, hgrid⟩ := (s.acceptSeq gb m).acceptGrid_gov gb m
      rw [hgrid, hseq]
      exact ⟨rfl, rfl, fun h => absurd h h1, fun h => absurd h h1, fun _ => rfl⟩
    · next h2 =>
      have hother : Heeded s.now m (s.gov gb) ((s.acceptSeq gb m).gov gb) := by
        rw [hseq]
        exact ⟨rfl, rfl, fun h => absurd h h1, fun h => absurd h h1, fun h => absurd h h2⟩
      split
      · rw [(State.acceptCoolant_step _ m).gov gb]
        exact hother
      · exact hother

theorem State.taken_coolant (h3 : msgType m = 3) (ha : gb = s.activeB) (h : s.now ≤ beAt m 40 8 + s.f F.THM_CFG_CAGE * 100000000) :
    CoolantShown m (s.taken gb m) := by
  have hseq := s.acceptSeq_step gb m
  have hcage : (s.acceptSeq gb m).f F.THM_CFG_CAGE = s.f F.THM_CFG_CAGE := hseq.kept.f_eq (by cases gb <;> decide)
  rw [s.taken_eq, if_neg (by omega), if_neg (by omega), if_pos ha.symm]
  exact State.acceptCoolant_shown _ m (by rwa [hseq.now, hcage])

end

end Sys2Proof.Machine
end

section
/-! SUPPORT. A datagram at both governors (O25): what one governor's part leaves for the other, and the two together. -/

namespace Sys2Proof.Machine

/-! ### What a message changes of the package -/

theorem govMessageRegs_subset {i : Nat} : govMessageRegs i ⊆ messageRegs i :=
  fun _ hp => List.mem_append_left _ (List.mem_append_left _ hp)

/-- What a CRC-valid message at governor `gb` changes: the active one sends one answer; the standby changes itself alone. -/
structure MessageStep (gb : Bool) (s t : State) : Prop where
  kept : RegsKept (messageRegs (govIx gb)) s t
  only : { t with
    regs := s.regs, out := s.out, gova := s.gova, govb := s.govb, thm := s.thm, ost := s.ost, metering := s.metering
    journal := s.journal } = s
  other : t.gov (!gb) = s.gov (!gb)
  sent : t.out.length = s.out.length + if s.activeB = gb then 1 else 0
  standby : s.activeB ≠ gb → GovStep gb (govMessageRegs (govIx gb)) s t

/-- The standby's part. -/
theorem GovStep.messageStep {gb : Bool} {s t : State} (h : GovStep gb (govMessageRegs (govIx gb)) s t) (ha : s.activeB ≠ gb) :
    MessageStep gb s t where
  kept := h.kept.mono govMessageRegs_subset
  only := by
    have honly := h.only
    rw [← honly]
  other := h.other
  sent := by
    have hout : t.out = s.out := (congrArg State.out h.only :)
    rw [hout, if_neg ha, Nat.add_zero]
  standby := fun _ => h

/-- The active governor's part: what it takes, and its answer. -/
theorem TakenStep.messageStep {gb : Bool} {s t u : State} (h1 : TakenStep gb (messageRegs (govIx gb)) s t) (h2 : AnswerStep t u)
    (ha : s.activeB = gb) : MessageStep gb s u where
  kept := h1.kept.trans (h2.kept.mono fun _ hp => List.mem_append_right _ hp)
  only := by
    have honly1 := h1.only
    have honly2 := h2.only
    rw [← honly1, ← honly2]
  other := (h2.gov (!gb)).trans h1.other
  sent := by
    have hout : t.out = s.out := (congrArg State.out h1.only :)
    rw [h2.sent, hout, if_pos ha]
  standby := fun hn => absurd ha hn

/-! ### What a message at a governor shows (R336, R339, R340) -/

/-- A refused message: its status shows, it is counted, and the governor is as it was. -/
structure MessageRefused (gb : Bool) (st : Status) (s t : State) : Prop where
  gov : t.gov gb = s.gov gb
  seq : t.rr .GOV_SEQ (govIx gb) = s.rr .GOV_SEQ (govIx gb)
  last : t.f F.GOV_STATE_LAST (govIx gb) = st.code
  stale : t.rr .GOV_STALE (govIx gb) =
    if st = .stale then min (s.rr .GOV_STALE (govIx gb) + 1) 0xFFFFFFFF else s.rr .GOV_STALE (govIx gb)
  refused : t.rr .GOV_REFUSED (govIx gb) =
    if st = .stale then s.rr .GOV_REFUSED (govIx gb) else min (s.rr .GOV_REFUSED (govIx gb) + 1) 0xFFFFFFFF

/-- An accepted message: its sequence number shows, nothing is counted, the governor heeds it, and COOLANT values come into force. -/
structure MessageAccepted (gb : Bool) (m : List Byte) (s t : State) : Prop where
  seq : t.rr .GOV_SEQ (govIx gb) = msgSeq m
  heeded : Heeded s.now m (s.gov gb) (t.gov gb)
  stale : t.rr .GOV_STALE (govIx gb) = s.rr .GOV_STALE (govIx gb)
  refused : t.rr .GOV_REFUSED (govIx gb) = s.rr .GOV_REFUSED (govIx gb)
  coolant : msgType m = 3 → gb = s.activeB → s.now ≤ beAt m 40 8 + s.f F.THM_CFG_CAGE * 100000000 → CoolantShown m t

/-- A message at governor `gb`, by its status there. -/
structure MessageHandled (gb : Bool) (peer : Nat) (m : List Byte) (s t : State) : Prop where
  step : MessageStep gb s t
  refuses : s.msgStatus gb peer m ≠ .ok → MessageRefused gb (s.msgStatus gb peer m) s t
  accepts : s.msgStatus gb peer m = .ok → MessageAccepted gb m s t

theorem statusCode_lt (st : Status) : st.code < 2 ^ 8 := by cases st <;> decide

section
variable (s : State) (gb : Bool) (st : Status)

theorem State.refusalCounted_step : GovStep gb (govMessageRegs (govIx gb)) s (s.refusalCounted gb st) := by
  unfold State.refusalCounted
  split
  · exact ((GovStep.refl gb _ s).bump .GOV_STALE _ _ (by simp [govMessageRegs])).sf F.GOV_STATE_LAST _ _ (by simp [govMessageRegs])
  · exact ((GovStep.refl gb _ s).bump .GOV_REFUSED _ _ (by simp [govMessageRegs])).sf F.GOV_STATE_LAST _ _ (by simp [govMessageRegs])

theorem State.refusalCounted_refused : MessageRefused gb st s (s.refusalCounted gb st) := by
  have hseq : ∀ r ∈ [Reg.GOV_STALE, .GOV_REFUSED, .GOV_STATE], ∀ i : Bool, Reg.GOV_SEQ.key (govIx i) ≠ r.key (govIx i) := by decide
  have hlast (u : State) : (u.sf F.GOV_STATE_LAST (govIx gb) st.code).f F.GOV_STATE_LAST (govIx gb) = st.code :=
    (u.f_sf_same F.GOV_STATE_LAST (govIx gb) st.code (by decide) (by decide)).trans (Nat.mod_eq_of_lt (statusCode_lt st))
  have hcount (u : State) (r : Reg) (hr : r ∈ [Reg.GOV_SEQ, .GOV_STALE, .GOV_REFUSED]) :
      (u.sf F.GOV_STATE_LAST (govIx gb) st.code).rr r (govIx gb) = u.rr r (govIx gb) := by
    have hne : ∀ r ∈ [Reg.GOV_SEQ, .GOV_STALE, .GOV_REFUSED], ∀ i : Bool, r.key (govIx i) ≠ Reg.GOV_STATE.key (govIx i) := by decide
    exact u.rr_wr_ne _ _ _ _ _ (hne r hr gb)
  have hapart : ∀ i : Bool, Reg.GOV_STALE.key (govIx i) ≠ Reg.GOV_REFUSED.key (govIx i) := by decide
  unfold State.refusalCounted
  by_cases hst : st = .stale
  · rw [if_pos hst]
    refine ⟨rfl, ?_, hlast _, ?_, ?_⟩
    · rw [hcount _ _ (by simp), s.rr_bump_ne _ _ _ _ _ (hseq _ (by simp) gb)]
    · rw [hcount _ _ (by simp), s.rr_bump_same, if_pos hst]
    · rw [hcount _ _ (by simp), s.rr_bump_ne _ _ _ _ _ (hapart gb).symm, if_pos hst]
  · rw [if_neg hst]
    refine ⟨rfl, ?_, hlast _, ?_, ?_⟩
    · rw [hcount _ _ (by simp), s.rr_bump_ne _ _ _ _ _ (hseq _ (by simp) gb)]
    · rw [hcount _ _ (by simp), s.rr_bump_ne _ _ _ _ _ (hapart gb), if_neg hst]
    · rw [hcount _ _ (by simp), s.rr_bump_same, if_neg hst]

end

/-- What a later answer leaves of a governor: the record and every register but those of the answer. -/
theorem AnswerStep.refused {gb : Bool} {st : Status} {s t u : State} (h : AnswerStep t u) (hr : MessageRefused gb st s t) :
    MessageRefused gb st s u where
  gov := (h.gov gb).trans hr.gov
  seq := (h.kept _ _ (by cases gb <;> decide)).trans hr.seq
  last := (h.kept.f_eq (by cases gb <;> decide)).trans hr.last
  stale := (h.kept _ _ (by cases gb <;> decide)).trans hr.stale
  refused := (h.kept _ _ (by cases gb <;> decide)).trans hr.refused

theorem AnswerStep.accepted {gb : Bool} {m : List Byte} {s t u : State} (h : AnswerStep t u) (ha : MessageAccepted gb m s t) :
    MessageAccepted gb m s u where
  seq := (h.kept _ _ (by cases gb <;> decide)).trans ha.seq
  heeded := (h.gov gb).symm ▸ ha.heeded
  stale := (h.kept _ _ (by cases gb <;> decide)).trans ha.stale
  refused := (h.kept _ _ (by cases gb <;> decide)).trans ha.refused
  coolant := fun h3 hact hage =>
    (ha.coolant h3 hact hage).kept (fun r hr => h.kept r 0 (by revert r; decide)) (congrArg Thm.coolant h.thm)

section
variable (s : State) (gb : Bool) (m : List Byte)

/-- The state in which a message is accepted and not yet answered. -/
theorem State.taken_accepted (last : Nat) : MessageAccepted gb m s ((s.taken gb m).sf F.GOV_STATE_LAST (govIx gb) last) := by
  have hshown : RegsKept (contentRegs (govIx gb)) (s.acceptSeq gb m) ((s.taken gb m).sf F.GOV_STATE_LAST (govIx gb) last) :=
    (s.taken_content gb m).kept.sf F.GOV_STATE_LAST _ _ (by simp [contentRegs])
  have hseq := (s.acceptSeq_step gb m).kept
  exact
    { seq := (hshown _ _ (by cases gb <;> decide)).trans (s.acceptSeq_seq gb m)
      heeded := s.taken_heeded gb m
      stale := (hshown _ _ (by cases gb <;> decide)).trans (hseq _ _ (by cases gb <;> decide))
      refused := (hshown _ _ (by cases gb <;> decide)).trans (hseq _ _ (by cases gb <;> decide))
      coolant := fun h3 hact hage => by
        have hstate : ∀ r ∈ [Reg.THM_INLET, .THM_FLOW, .THM_DP], ∀ i : Bool, r.key 0 ≠ Reg.GOV_STATE.key (govIx i) := by decide
        exact (s.taken_coolant gb m h3 hact hage).kept (fun r hr => State.rr_wr_ne _ _ _ _ _ _ (hstate r hr gb)) rfl }

/-- A CRC-valid message at one governor. -/
theorem State.govMessage_handled (peer : Nat) (hr : s.receives gb = true) (hc : msgCrcOk m = true) :
    MessageHandled gb peer m s (s.govMessage gb peer m) := by
  by_cases hst : s.msgStatus gb peer m = .ok
  · obtain ⟨a, es, he⟩ := s.govMessage_accepted gb peer m hr hc hst
    have haccepted := s.taken_accepted gb m a.code
    have hstandby (ha : s.activeB ≠ gb) := (s.taken_standby gb m ha).sf F.GOV_STATE_LAST (govIx gb) a.code (by simp [govMessageRegs])
    have htaken : TakenStep gb (messageRegs (govIx gb)) s ((s.taken gb m).sf F.GOV_STATE_LAST (govIx gb) a.code) :=
      (s.taken_step gb m).trans ((GovStep.refl gb _ _).sf F.GOV_STATE_LAST _ _ (by simp [messageRegs, govMessageRegs])).taken
    rw [he]
    generalize (s.taken gb m).sf F.GOV_STATE_LAST (govIx gb) a.code = u at *
    by_cases ha : s.activeB = gb
    · rw [beq_iff_eq.mpr ha]
      have hanswer := u.answered_step gb peer m a (nextPeriod s.now) es
      exact ⟨htaken.messageStep hanswer ha, fun h => absurd hst h, fun _ => hanswer.accepted haccepted⟩
    · rw [beq_eq_false_iff_ne.mpr ha, u.answered_standby]
      exact ⟨(hstandby ha).messageStep ha, fun h => absurd hst h, fun _ => haccepted⟩
  · have hpart : MessageStep gb s (s.govMessage gb peer m) ∧ MessageRefused gb (s.msgStatus gb peer m) s (s.govMessage gb peer m) := by
      rw [s.govMessage_refused gb peer m hr hc hst]
      generalize s.msgStatus gb peer m = st
      have hrefused := s.refusalCounted_refused gb st
      have hstep := s.refusalCounted_step gb st
      generalize s.refusalCounted gb st = u at *
      by_cases ha : s.activeB = gb
      · rw [if_pos ha]
        have hanswer : AnswerStep u (u.ack gb peer m st 0 0) := .send u _
        exact ⟨(hstep.taken.mono govMessageRegs_subset).messageStep hanswer ha, hanswer.refused hrefused⟩
      · rw [if_neg ha]
        exact ⟨hstep.messageStep ha, hrefused⟩
    exact ⟨hpart.1, fun _ => hpart.2, fun h => absurd h hst⟩

end

/-! ### One governor's part, and the other's (R338) -/

/-- The status of a message depends on the governor's record and registers, on the sessions and on the package's coordinate (R336). -/
theorem State.msgStatus_congr {s t : State} {gb : Bool} (hgov : t.gov gb = s.gov gb) (hsec : t.sec = s.sec)
    (hregs : ∀ r ∈ [Reg.GOV_SEQ, .GOV_STATE, .GOV_BUDLIM], t.rr r (govIx gb) = s.rr r (govIx gb))
    (hcoord : t.rr .FPT_COORD = s.rr .FPT_COORD) (peer : Nat) (m : List Byte) : t.msgStatus gb peer m = s.msgStatus gb peer m := by
  have hmode : t.mode gb = s.mode gb := State.f_of_rr (g := F.GOV_STATE_MODE) (hregs .GOV_STATE (by simp))
  have hmin : t.f F.GOV_BUDLIM_MIN (govIx gb) = s.f F.GOV_BUDLIM_MIN (govIx gb) := State.f_of_rr (hregs .GOV_BUDLIM (by simp))
  have hmax : t.f F.GOV_BUDLIM_MAX (govIx gb) = s.f F.GOV_BUDLIM_MAX (govIx gb) := State.f_of_rr (hregs .GOV_BUDLIM (by simp))
  have hset : t.f F.FPT_COORD_SET = s.f F.FPT_COORD_SET := State.f_of_rr hcoord
  have hown : t.f F.FPT_COORD_COORD = s.f F.FPT_COORD_COORD := State.f_of_rr hcoord
  have hlegal : t.bodyLegal gb m = s.bodyLegal gb m := by
    unfold State.bodyLegal
    rw [hmin, hmax]
  have htarget : t.ownTarget = s.ownTarget := by
    unfold State.ownTarget State.fb
    rw [hset, hown]
  have hsession : t.budgetSession = s.budgetSession := by
    unfold State.budgetSession
    rw [hsec]
  unfold State.msgStatus
  rw [hgov, hregs .GOV_SEQ (by simp), hmode, hlegal, htarget, hsession]

namespace MessageStep
variable {gb : Bool} {s t u : State} (h : MessageStep gb s t)
include h

theorem now : t.now = s.now := (congrArg State.now h.only :)

theorem activeB : t.activeB = s.activeB := by
  have hfield : t.f F.OST_STAT_ACTIVE = s.f F.OST_STAT_ACTIVE := h.kept.f_eq (by cases gb <;> decide)
  unfold State.activeB State.fb
  rw [hfield]

theorem receives (b : Bool) : t.receives b = s.receives b := by
  have hfield (g : Fld) (hg : g.reg = .OST_STAT ∨ g.reg = .IDT_BOOT) : t.f g = s.f g := by
    refine h.kept.f_eq ?_
    rcases hg with hg | hg <;> rw [hg] <;> cases gb <;> decide
  unfold State.receives State.govSt State.fb
  rw [hfield _ (.inl rfl), hfield _ (.inl rfl), hfield _ (.inr rfl)]

/-- The other governor's registers, and those of neither. -/
theorem rr_other (r : Reg) (hr : r ∈ [Reg.GOV_SEQ, .GOV_STATE, .GOV_BUDLIM, .GOV_STALE, .GOV_REFUSED]) :
    t.rr r (govIx (!gb)) = s.rr r (govIx (!gb)) := by
  have hapart : ∀ r ∈ [Reg.GOV_SEQ, .GOV_STATE, .GOV_BUDLIM, .GOV_STALE, .GOV_REFUSED], ∀ b : Bool, ∀ p ∈ messageRegs (govIx b),
      p.1.key p.2 ≠ r.key (govIx (!b)) := by decide
  exact h.kept r _ (hapart r hr gb)

/-- One governor's part leaves the status at the other. -/
theorem msgStatus_other (peer : Nat) (m : List Byte) : t.msgStatus (!gb) peer m = s.msgStatus (!gb) peer m := by
  have hsec : t.sec = s.sec := (congrArg State.sec h.only :)
  have hsubset : [Reg.GOV_SEQ, .GOV_STATE, .GOV_BUDLIM] ⊆ [Reg.GOV_SEQ, .GOV_STATE, .GOV_BUDLIM, .GOV_STALE, .GOV_REFUSED] := by simp
  exact State.msgStatus_congr h.other hsec (fun r hr => h.rr_other r (hsubset hr)) (h.kept _ _ (by cases gb <;> decide)) peer m

/-- What the other governor shows after its part, it shows of the state before both. -/
theorem refused_before {st : Status} (hr : MessageRefused (!gb) st t u) : MessageRefused (!gb) st s u where
  gov := hr.gov.trans h.other
  seq := hr.seq.trans (h.rr_other _ (by simp))
  last := hr.last
  stale := by rw [hr.stale, h.rr_other _ (by simp)]
  refused := by rw [hr.refused, h.rr_other _ (by simp)]

theorem accepted_before {m : List Byte} (ha : MessageAccepted (!gb) m t u) : MessageAccepted (!gb) m s u where
  seq := ha.seq
  heeded := by
    have hheeded := ha.heeded
    rwa [h.now, h.other] at hheeded
  stale := ha.stale.trans (h.rr_other _ (by simp))
  refused := ha.refused.trans (h.rr_other _ (by simp))
  coolant := by
    have hcage : t.f F.THM_CFG_CAGE = s.f F.THM_CFG_CAGE := h.kept.f_eq (by cases gb <;> decide)
    have hcoolant := ha.coolant
    rwa [h.activeB, h.now, hcage] at hcoolant

/-- What the other governor shows stands through this one's part. -/
theorem refused_after {w : State} {st : Status} (hr : MessageRefused (!gb) st w s) : MessageRefused (!gb) st w t where
  gov := h.other.trans hr.gov
  seq := (h.rr_other _ (by simp)).trans hr.seq
  last := (State.f_of_rr (g := F.GOV_STATE_LAST) (h.rr_other .GOV_STATE (by simp))).trans hr.last
  stale := (h.rr_other _ (by simp)).trans hr.stale
  refused := (h.rr_other _ (by simp)).trans hr.refused

theorem accepted_after {w : State} {m : List Byte} (hw : s.activeB = w.activeB) (ha : MessageAccepted (!gb) m w s) :
    MessageAccepted (!gb) m w t where
  seq := (h.rr_other _ (by simp)).trans ha.seq
  heeded := h.other.symm ▸ ha.heeded
  stale := (h.rr_other _ (by simp)).trans ha.stale
  refused := (h.rr_other _ (by simp)).trans ha.refused
  coolant := fun h3 hact hage => by
    have hstandby := h.standby (by rw [hw, ← hact]; exact Bool.not_ne_self gb)
    have hapart : ∀ r ∈ [Reg.THM_INLET, .THM_FLOW, .THM_DP], ∀ b : Bool, ∀ p ∈ govMessageRegs (govIx b),
        p.1.key p.2 ≠ r.key 0 := by decide
    exact (ha.coolant h3 hact hage).kept (fun r hr => hstandby.kept r 0 (hapart r hr gb))
      (congrArg (fun x : State => x.thm.coolant) hstandby.only :)

end MessageStep

/-! ### A datagram at both governors (R338) -/

/-- A message with a bad CRC is counted by both governors, and dropped (R335). -/
theorem message_badCrc (s : State) (peer : Nat) (m : List Byte) (hA : s.receives false = true) (hB : s.receives true = true)
    (hc : msgCrcOk m = false) : s.message peer m = (s.bump .GOV_CRC 0).bump .GOV_CRC 1 := by
  have hkept : RegsKept [(.GOV_CRC, 0)] s (s.bump .GOV_CRC 0) := (RegsKept.refl _ s).bump _ _ _ (by simp)
  have hB' : (s.bump .GOV_CRC 0).receives true = true := by
    unfold State.receives State.govSt State.fb at hB ⊢
    rwa [hkept.f_eq (by decide), hkept.f_eq (by decide), hkept.f_eq (by decide)]
  unfold State.message
  rw [s.govMessage_badCrc false peer m hA hc]
  exact State.govMessage_badCrc _ true peer m hB' hc

theorem message_badCrc_gives (s : State) (peer : Nat) (m : List Byte) (hA : s.receives false = true) (hB : s.receives true = true)
    (hc : msgCrcOk m = false) :
    Gives (.next (s.message peer m)) (fun t =>
      { t with regs := s.regs } = s ∧ RegsKept [(.GOV_CRC, 0), (.GOV_CRC, 1)] s t ∧
        ∀ gb, t.rr .GOV_CRC (govIx gb) = min (s.rr .GOV_CRC (govIx gb) + 1) 0xFFFFFFFF) := by
  rw [message_badCrc s peer m hA hB hc]
  refine ⟨_, rfl, (RegsOnly.bump s _ _ _).trans (.bump _ _ _ _),
    ((RegsKept.refl _ s).bump _ _ _ (by simp)).bump _ _ _ (by simp), fun gb => ?_⟩
  cases gb with
  | false => exact (State.rr_bump_ne _ .GOV_CRC .GOV_CRC 1 0 1 (by decide)).trans (s.rr_bump_same _ _ _)
  | true =>
    refine (State.rr_bump_same _ _ _ _).trans ?_
    rw [s.rr_bump_ne _ _ _ _ _ (by decide)]
    rfl

/-- A CRC-valid datagram at both governors, of which one is active and answers. -/
structure DatagramHandled (peer : Nat) (m : List Byte) (s t : State) : Prop where
  only : { t with
    regs := s.regs, out := s.out, gova := s.gova, govb := s.govb, thm := s.thm, ost := s.ost, metering := s.metering
    journal := s.journal } = s
  sent : t.out.length = s.out.length + 1
  refuses : ∀ gb, s.msgStatus gb peer m ≠ .ok → MessageRefused gb (s.msgStatus gb peer m) s t
  accepts : ∀ gb, s.msgStatus gb peer m = .ok → MessageAccepted gb m s t

theorem message_handled (s : State) (peer : Nat) (m : List Byte) (hA : s.receives false = true) (hB : s.receives true = true)
    (hc : msgCrcOk m = true) : DatagramHandled peer m s (s.message peer m) := by
  have hfirst := s.govMessage_handled false m peer hA hc
  unfold State.message
  generalize s.govMessage false peer m = u at *
  have hsecond := u.govMessage_handled true m peer ((hfirst.step.receives true).trans hB) hc
  generalize u.govMessage true peer m = t at *
  have hstatus : u.msgStatus true peer m = s.msgStatus true peer m := hfirst.step.msgStatus_other peer m
  have hactive := hfirst.step.activeB
  refine ⟨?_, ?_, fun gb hst => ?_, fun gb hst => ?_⟩
  · have honly1 := hfirst.step.only
    have honly2 := hsecond.step.only
    rw [← honly1, ← honly2]
  · rw [hsecond.step.sent, hfirst.step.sent, hactive]
    cases s.activeB <;> rfl
  · cases gb with
    | false => exact hsecond.step.refused_after (hfirst.refuses hst)
    | true =>
      rw [← hstatus] at hst ⊢
      exact hfirst.step.refused_before (hsecond.refuses hst)
  · cases gb with
    | false => exact hsecond.step.accepted_after hactive (hfirst.accepts hst)
    | true => exact hfirst.step.accepted_before (hsecond.accepts (hstatus.trans hst))

theorem governorMessages_hold : GovernorMessages := by
  intro s peer m c hc hA hB
  have hexec : exec c.1 s = .next (s.message peer m) := by
    simp only [governorMessages, List.mem_cons, List.not_mem_nil, or_false] at hc
    rcases hc with rfl | rfl | rfl
    · rfl
    · rfl
    · rfl
  rw [hexec]
  refine ⟨message_badCrc_gives s peer m hA hB, fun hcrc => ?_⟩
  have h := message_handled s peer m hA hB hcrc
  generalize s.message peer m = t at h ⊢
  refine ⟨t, rfl, h.sent, (congrArg State.mem h.only :), (congrArg State.cores h.only :), (congrArg State.tiles h.only :),
    (congrArg State.cvn h.only :), (congrArg State.free h.only :), fun gb => ⟨fun hst => ?_, fun hst => ?_⟩⟩
  · obtain ⟨hgov, hseq, hlast, hstale, hrefused⟩ := h.refuses gb hst
    exact ⟨hgov, hseq, hlast, hstale, hrefused⟩
  · obtain ⟨hseq, ⟨haccepted, htarget, hbudget, hnone, hgrid⟩, hstale, hrefused, hcoolant⟩ := h.accepts gb hst
    exact ⟨hseq, haccepted, hstale, hrefused, htarget, hbudget, hnone, hgrid, hcoolant⟩

/-- Settles O25: a datagram by what each governor's part shows and leaves for the other (EFFECT_T at the next control period, log 74); the
events between periods by the registers that each writes, and the shutdown as one command (log 47). -/
theorem governorInputs : Obligations.GovernorInputs := ⟨governorMessages_hold, governorEvents⟩

end Sys2Proof.Machine
end
